-- ==== Sys2Proof/Machine/Counter.lean ====
section
/-! DEFINITION. The time counter of an island (R37): a 64-bit count of 1/65536 ns that advances at a rate-adjusted pace. -/

namespace Sys2Proof.Machine

/-- A time counter: its reading `base` in 1/65536 ns at the instant `from_` (ns of the model's time), and the rate adjustment that runs since, in 0.001 ppm. -/
structure Counter where
  base : Int
  from_ : Nat
  rate : Int
deriving DecidableEq, Repr

def Counter.reset : Counter := ⟨0, 0, 0⟩

/-- The width of a counter (R37): 2^64 of 1/65536 ns. -/
def counterSpan : Int := 18446744073709551616

/-- The count at an instant, counted on past 2^64. The oscillator itself counts exactly (log entry 12). -/
def Counter.read (t : Nat) (c : Counter) : Int := c.base + ((t : Int) - c.from_) * 65536 * (1000000000 + c.rate) / 1000000000

/-- The 64-bit word that the counter holds (R37). -/
def Counter.word (t : Nat) (c : Counter) : Nat := (c.read t % counterSpan).toNat

/-- The word in whole ns, bits [63:16]. -/
def Counter.ns (t : Nat) (c : Counter) : Nat := c.word t / 65536

/-- A slew (R38): the pace changes from `t` on, the reading does not jump. -/
def Counter.slew (t : Nat) (r : Int) (c : Counter) : Counter := ⟨c.read t, t, r⟩

/-- A step correction (R38). -/
def Counter.step (d : Int) (c : Counter) : Counter := { c with base := c.base + d }

/-- The first instant at which the reading is `v` or more. -/
def Counter.reaches (v : Int) (c : Counter) : Nat :=
  ((c.from_ : Int) - (c.base - v) * 1000000000 / (65536 * (1000000000 + c.rate))).toNat

/-- A period of `n` ns in 1/65536 ns. -/
def periodQ (n : Nat) : Int := (n : Int) * 65536

/-- The last multiple of `q` at or before a count. The word is what is divided, so the multiples begin anew at 0 when it wraps (log entry 141). -/
def multipleBelow (q v : Int) : Int :=
  let pass := v / counterSpan * counterSpan
  pass + (v - pass) / q * q

/-- The first multiple of `q` after a count. -/
def multipleAfter (q v : Int) : Int := min (multipleBelow q v + q) ((v / counterSpan + 1) * counterSpan)

/-- The first multiple of a period that the counter reaches after the instant `last`, as an instant; one that has passed by `now` is the latest that has. -/
def Counter.nextMultiple (period last now : Nat) (c : Counter) : Nat :=
  let q := periodQ period
  let before := multipleBelow q (c.read last)
  let passed := multipleBelow q (c.read now)
  c.reaches (if before < passed then passed else multipleAfter q (c.read last))

/-- How many multiples of a period the counter passes from one instant to another, one at least. -/
def Counter.passes (period a b : Nat) (c : Counter) : Int :=
  let q := periodQ period
  max 1 ((multipleBelow q (c.read b) - multipleBelow q (c.read a)) / q)

/-- The multiple of a period nearest to the count at an instant, as a count. -/
def Counter.nearest (period t : Nat) (c : Counter) : Int :=
  let q := periodQ period
  let lo := multipleBelow q (c.read t)
  let hi := multipleAfter q (c.read t)
  if 2 * (c.read t - lo) < hi - lo then lo else hi

/-- A difference of two times of `b` bits, as the shorter way round tells it. -/
def signedN (b : Nat) (x : Int) : Int := let d := x % 2 ^ b; if d < 2 ^ (b - 1) then d else d - 2 ^ b

end Sys2Proof.Machine
end

