-- ==== Sys2Proof/Word.lean ====
section
/-! DEFINITION. The words the manual treats as bits, and the plainest arithmetic on counts. -/

namespace Sys2Proof

/-- A register of the internal fabric: 32 bits (00_scope, "Registers and tables"). -/
abbrev Word := BitVec 32

/-- A byte of an addressed memory. -/
abbrev Byte := BitVec 8

/-- One more, but never above `top`: the counters the manual calls saturating. -/
def satInc (top n : Nat) : Nat := if n < top then n + 1 else top

/-- A truth value as a bit. -/
def b2n (b : Bool) : Nat := if b then 1 else 0

/-- The field of `w` bits at bit `lo` of a number (R6). -/
def fieldOf (n lo w : Nat) : Nat := n / 2 ^ lo % 2 ^ w

/-- A signed number as its 32-bit two's complement pattern (R9). -/
def ofInt32 (i : Int) : Nat := (i % 4294967296).toNat

/-- A 32-bit pattern read as a signed number (R9). -/
def toInt32 (n : Nat) : Int := if n % 4294967296 < 2147483648 then (n % 4294967296 : Nat) else (n % 4294967296 : Nat) - 4294967296

/-- A signed number as its 16-bit two's complement pattern (R9). -/
def ofInt16 (i : Int) : Nat := (i % 65536).toNat

/-- A number limited to a range. -/
def clampInt (lo hi i : Int) : Int := if i < lo then lo else if i > hi then hi else i

end Sys2Proof
end

