-- ==== Sys2Proof/Machine/SliceState.lean ====
section
/-! DEFINITION. The state of one slice: its portal, three axes with their drives, inputs, switches, tether and car bus (files 02 to 07 and 10 of spec/). Plain data. -/

namespace Sys2Proof.Machine

/-- An addressed memory: cells in canonical form, addresses strictly rising, none equal to what an unlisted address reads as. -/
abbrev Mem := List Host.Cell

/-- One bin of a force envelope (R155 to R159): its last 32 learned samples, newest first, and its value, in 0.1 N. -/
structure EnvBin where
  hist : List Nat
  value : Option Nat
  atCeiling : Bool
deriving DecidableEq, Repr

def EnvBin.reset : EnvBin := ⟨[], none, false⟩

/-- Teach results of one axis (R151, R152). -/
structure Teach where
  rA : Nat
  rB : Nat
  lA : Nat
  lB : Nat
  c : Nat
  ke : Nat
  noise : Nat
deriving DecidableEq, Repr

def Teach.zero : Teach := ⟨0, 0, 0, 0, 0, 0, 0⟩

/-- An axis record (R154, R400, R489): teach results with their validity and result code, and both envelopes with their histories. -/
structure AxisRecord where
  axis : Nat
  teachValid : Bool
  result : Nat
  teach : Teach
  env : Vector EnvBin 128
deriving DecidableEq, Repr

/-- One entry of a Logline intake queue (R26, R476, R486). `kind` 1 an event with its payload bytes, 2 a cycle record, 3 the teach results and envelopes of axis `code` (R477), which stand in `axis`. -/
structure Intake where
  kind : Nat
  src : Nat
  code : Nat
  detail : Nat
  at_ : Nat
  masked : Bool
  lost : Nat
  payload : List Nat
  axis : Option AxisRecord
deriving DecidableEq, Repr

/-- A raised event that R527 has not delivered yet, with the common time of its raising. -/
structure Ev where
  src : Nat
  code : Nat
  detail : Nat
  at_ : Nat
deriving DecidableEq, Repr

/-- A Logline intake queue of 32 entries with its loss counter (R26), the raised events of its block that wait for delivery (R527), and the causes of R445 among them. -/
structure IntakeQ where
  entries : List Intake
  lost : Nat
  undelivered : List Ev
  /-- The causes of R445 that events of this block have given since the handover, a bit each. -/
  causes : Nat
deriving DecidableEq, Repr

def IntakeQ.reset : IntakeQ := ⟨[], 0, [], 0⟩

/-- Portal states, R54. -/
inductive PState where
  | homing | locked | unlocking | released | opening | open_ | closing | reopening
  | closedUnlocked | locking | isolated | emergency | fault | unused
deriving DecidableEq, Repr

/-- Phases of CLOSING, REOPENING and HOMING, R55. -/
inductive Phase where
  | none | warn | move | pause
deriving DecidableEq, Repr

/-- What the motion layer declared on the portal since its last evaluation (R164). -/
inductive ObsFlag where
  | none | closing | opening
deriving DecidableEq, Repr

/-- Accumulated figures of the present door cycle, for the Ledger cycle record (R477, R484). Durations in ms; `sig` is the signature of the last closing move (R485). -/
structure CycleAcc where
  running : Bool
  /-- The module took the Hitch during the cycle (R477). -/
  handover : Bool
  startAt : Nat
  unlockMs : Nat
  openMs : Nat
  dwellMs : Nat
  warnMs : Nat
  closeMs : Nat
  lockMs : Nat
  /-- Entry to OPEN, in cycle time, until the first entry to CLOSING; that entry has come. -/
  openAt : Option Int
  closed : Bool
  reopens : Nat
  openStops : Nat
  obstacles : Nat
  firstSource : Nat
  firstAxis : Nat
  firstOpening : Bool
  firstBin : Nat
  firstForce : Int
  peakForce : Vector (Option Int) 3
  peakLambda : Vector Int 3
  peakCurrent : Vector Nat 3
  minMotor : Option Nat
  minLoad : Option Nat
  sig : List Nat
  /-- The last move of the ungeared leaf axis in this cycle closes: its bin samples are the signature. -/
  closing : Bool
  /-- The closing move of the signature was learned; the field clamp engaged. -/
  learned : Bool
  clamped : Bool
deriving DecidableEq, Repr

def CycleAcc.reset : CycleAcc where
  running := false
  handover := false
  startAt := 0
  unlockMs := 0
  openMs := 0
  dwellMs := 0
  warnMs := 0
  closeMs := 0
  lockMs := 0
  openAt := none
  closed := false
  reopens := 0
  openStops := 0
  obstacles := 0
  firstSource := 0
  firstAxis := 0
  firstOpening := false
  firstBin := 0
  firstForce := 0
  peakForce := Vector.replicate 3 none
  peakLambda := Vector.replicate 3 0
  peakCurrent := Vector.replicate 3 0
  minMotor := none
  minLoad := none
  sig := []
  closing := false
  learned := false
  clamped := false

/-- The sequencer of one portal (R51 to R77) and its PRT registers. -/
structure Portal where
  st : PState
  phase : Phase
  /-- The slice's cycle time at the sync point whose evaluation began the present state or phase; every timer of R65 runs from it (R52). One taken from a mirror may lie before the slice's own first cycle. -/
  tState : Int
  reopenCount : Nat
  /-- Crew release standing (R62). -/
  crew : Bool
  /-- OPEN was entered beyond the reopen limit (R66). -/
  restricted : Bool
  /-- Close-cause sources at the last evaluation (R63): bit 0 release absent, 1 hardwired, 2 Hawser, 3 local, 4 auto-close. -/
  sources : Nat
  /-- Obstacle stop of OPENING: the sync point at which its pause began (R68). -/
  stopPause : Option Int
  openStops : Nat
  obs : ObsFlag
  /-- An obstacle declared in the last estimator period on this axis, whose action is latched at the end of the next (R166). -/
  obsLatch : Option (Fin 3)
  /-- The action of the leaves on an obstacle that has not completed yet (R164, R165): a reversal with its reopen move, or a stop while opening. -/
  acting : ObsFlag
  /-- Commanded position the reopen move runs to (R120). -/
  reopenTarget : Int
  /-- The reopen move ended short on an opening obstacle (R164). -/
  reopenShort : Bool
  /-- The leaf moves of OPENING, or the homing run of HOMING, have been issued. -/
  issued : Bool
  homeStage : Nat
  /-- S2 asserted without S1 since this sync point (R70). -/
  s2Alone : Option Int
  prevS1 : Bool
  /-- Fault cause 11 standing: an axis or drive fault since the last fault reset (R74, R168). -/
  cause11 : Bool
  faultCause : Nat
  stateAtFault : Nat
  /-- Emergency handle: leaves freed already; the handle that opened it was the access handle. -/
  emergFreed : Bool
  doorCycles : Nat
  /-- Condition bits of PRT_STATE [22:16] and cmd_stale, as of the last evaluation. -/
  status : Nat
  /-- Loop channel contacts after the 2 ms filter: ch1 s1, s2, isolation, ch2 s1, s2, isolation (R78). -/
  contacts : Vector Bool 6
  /-- The voltages those comparators were last seen at, 0.1 V (R173). -/
  contactVolts : Vector (Option Int) 6
  command : Nat
  eventMask : Nat
  cntReopens : Nat
  cntOpenStops : Nat
  cntDiscrep : Nat
  cntEmergency : Nat
  /-- K0 as decided last, for the held lock in FAULT (R69). -/
  lockDecided : Bool
  acc : CycleAcc
deriving DecidableEq, Repr

def Portal.reset : Portal where
  st := .unused
  phase := .none
  tState := 0
  reopenCount := 0
  crew := false
  restricted := false
  sources := 0
  stopPause := none
  openStops := 0
  obs := .none
  obsLatch := none
  acting := .none
  reopenTarget := 0
  reopenShort := false
  issued := false
  homeStage := 0
  s2Alone := none
  prevS1 := false
  cause11 := false
  faultCause := 0
  stateAtFault := 0
  emergFreed := false
  doorCycles := 0
  status := 0x200
  contacts := Vector.replicate 6 false
  contactVolts := Vector.replicate 6 none
  command := 0
  eventMask := 0
  cntReopens := 0
  cntOpenStops := 0
  cntDiscrep := 0
  cntEmergency := 0
  lockDecided := false
  acc := CycleAcc.reset

/-- A move of the queue (R109, R110). -/
structure Move where
  target : Int
  set : Nat
  blend : Bool
  replace : Bool
deriving DecidableEq, Repr

/-- A Belay request of a switch or an axis (R236, R237): idle, waiting with its deadline, or granted. Times in ns of common time. -/
inductive Req where
  | idle
  | waiting (since deadline : Nat) (missed : Bool)
  | granted (since : Nat)
deriving DecidableEq, Repr

/-- A homing run in progress (R128 to R131). -/
structure HomeRun where
  travel : Nat
  latch : Option Int
  /-- The chatter window is open since this time. -/
  chatterAt : Option Nat
  /-- The stall has happened at this time and the 20 ms wait for a confirmation runs. -/
  stallAt : Option Nat
  /-- The first sample of the run has been taken (R131). -/
  sampled : Bool
deriving DecidableEq, Repr

/-- A catch in flight that a takeover has asked for (R416): the mirrored position, speed and direction, the instant they describe, the moves to issue again, and whether homed may be kept. -/
structure Catch where
  pos : Int
  v : Nat
  dirPos : Bool
  at_ : Nat
  queue : List Move
  homed : Bool
deriving DecidableEq, Repr

/-- The motion layer of one axis (file 03) and its AX motion registers. -/
structure Motion where
  /-- Commanded position in microsteps (R92). -/
  pos : Int
  /-- Speed of the step just issued, in 1/65536 microstep/s (R100); 0 at standstill. -/
  v : Nat
  /-- That speed with the exact square that the ramp gives it, in the square of its unit: what keeps rounding from adding up (R101). It holds for this speed alone. -/
  exact : Option (Nat × Rat)
  dirPos : Bool
  /-- The part of a 2.5 ns tick that was not issued (R100). -/
  carry : Rat
  interval : Nat
  stage : Nat
  /-- Instant of the next step edge in half ns since power-on, so that a tick of 2.5 ns is 5 of them (R97, R98); none while the timer does not run and the next edge comes at once (R111). -/
  edgeAt : Option Nat
  /-- Instant of the last step edge in half ns, and the time between the last two: no edge follows another within 1 µs (R99, R124), and an axis geared to an encoder has its speed from them. -/
  lastEdge : Option Nat
  edgeGap : Nat
  /-- Instant of the first microstep of the present run from standstill, ns (R237). -/
  firstAt : Option Nat
  /-- The queue, the running move first (R110). -/
  queue : List Move
  /-- A move of the queue has issued its first microstep. -/
  running : Bool
  decel : Bool
  /-- A stop is in force (R120). -/
  stopping : Bool
  /-- The stop was latched since the last step edge: a replace before the next one gives way to it (R120, R132). -/
  freshStop : Bool
  /-- Instant of the last replace, ns: a move appended in the same tick is removed (R132). -/
  replacedAt : Option Nat
  /-- The reverse run of a replace that is still decelerating (R117). -/
  rev : Option Move
  /-- Target of the running move, as AX_TARGET shows it. -/
  target : Int
  profile : Nat
  homed : Bool
  home : Option HomeRun
  atSoftLimit : Bool
  /-- The follower holds on a gear fault until fault reset and re-homing (R125, R132). -/
  gearHold : Bool
  /-- No fault reset has come since that fault: homing alone does not end the hold (R132). -/
  gearLatched : Bool
  homeLatch : Int
  homeStall : Int
  homeCode : Nat
  relatches : Nat
  faultCause : Nat
  command : Nat
  testTarget : Int
  cntReversals : Nat
  cntRefusals : Nat
  cntRateCaps : Nat
  cntLagFaults : Nat
  /-- The interrupted move of an auxiliary axis and the time of the stop (R164). -/
  interrupted : Option (Move × Nat)
  /-- Position and conditions the running move started under, for R158 and R163. -/
  startPos : Int
  learnable : Bool
  /-- Moves decided at the last sync point, latched at the next (R51, R111). -/
  pending : List Move
  pendStop : Bool
  catching : Option Catch
  /-- Moves of an axis caught in flight, to be issued again from standstill (R416). -/
  caught : List Move
  req : Req
  /-- A move or an enable decided for the axis waits for a grant, whether its request stands or a bite has revoked it (R237, R245). -/
  needsGrant : Bool
deriving DecidableEq, Repr

def Motion.reset : Motion where
  pos := 0
  v := 0
  exact := none
  dirPos := false
  carry := 0
  interval := 0
  stage := 0
  edgeAt := none
  lastEdge := none
  edgeGap := 0
  firstAt := none
  queue := []
  running := false
  decel := false
  stopping := false
  freshStop := false
  replacedAt := none
  rev := none
  target := 0
  profile := 0
  homed := false
  home := none
  atSoftLimit := false
  gearHold := false
  gearLatched := false
  homeLatch := 0
  homeStall := 0
  homeCode := 0
  relatches := 0
  faultCause := 0
  command := 0
  testTarget := 0
  cntReversals := 0
  cntRefusals := 0
  cntRateCaps := 0
  cntLagFaults := 0
  interrupted := none
  startPos := 0
  learnable := false
  pending := []
  pendStop := false
  catching := none
  caught := []
  req := .idle
  needsGrant := false

/-- Drive modes, R136. -/
inductive DriveMode where
  | free | shortBrake | hold | quiet | strong
deriving DecidableEq, Repr

/-- The sample of one bin during the present move (R156): largest valid force in 0.1 N, and how many valid estimates fell in it. -/
structure PeakBin where
  best : Nat
  count : Nat
deriving DecidableEq, Repr

/-- The estimator of one axis (R143): previous period averages, rotor angle in microsteps, load angle, forces and currents. Exact numbers. -/
structure Estimator where
  uPrevA : Rat
  uPrevB : Rat
  imPrevA : Rat
  imPrevB : Rat
  mag : Rat
  thetaR : Rat
  /-- Applied electrical angle in microsteps. -/
  thetaA : Rat
  lambda : Rat
  iq : Rat
  forceF : Rat
  amp : Rat
  valid : Bool
  slip : Int
  clamp : Bool
deriving DecidableEq, Repr

def Estimator.reset : Estimator := ⟨0, 0, 0, 0, 0, 0, 0, 0, 0, 0, 0, false, 0, false⟩

/-- The drive of one axis (file 04) and its AX drive registers. -/
structure Drive where
  mode : DriveMode
  /-- The phase isolators are commanded closed; their readback as last seen (R137). -/
  isolators : Bool
  readback : Bool
  /-- The bridges went off into free mode at this instant, and the isolators have not opened yet (R137). -/
  freedAt : Option Nat
  /-- The first PWM edge comes no earlier than this, ns: 200 µs after the confirmation (R137). -/
  pwmFrom : Nat
  /-- A mode other than free is wanted and waits for the isolator readback (R137). -/
  wanted : Option DriveMode
  /-- A mode decided at the last sync point, latched at the next (R51). -/
  pendMode : Option DriveMode
  est : Estimator
  /-- Consecutive-period counters: envelope, ceiling, low-speed current, collapse, open winding, implausible, isolator mismatch. -/
  cntEnv : Nat
  cntCeil : Nat
  cntCur : Nat
  cntCollapse : Nat
  /-- Consecutive periods in which the edge input of the axis stands while it closes (R162 source 3). -/
  cntEdge : Nat
  /-- Current amplitude in mA that the chopper regulates to in strong mode, and that quiet mode was preloaded with (R140). -/
  chop : Rat
  /-- Quiet mode: the current the feed-forward amplitude is set for and the trim integrator, mA (R140). -/
  feed : Rat
  trim : Rat
  cntOpen : Nat
  cntImpl : Nat
  cntIso : Nat
  /-- Periods since the last change of regulation mode (R146, R163). -/
  sinceChange : Nat
  changeDeferred : Bool
  boostActive : Bool
  boostBlocked : Bool
  /-- Mean squares of the two phase currents (mA²) of the periods of the last 1 s, newest first, and their sum (R142). -/
  rms : List Nat
  rmsAcc : Nat
  teach : Teach
  rUseA : Nat
  rUseB : Nat
  /-- A hold has given a tracked value of R_tot (R153). -/
  rTracked : Bool
  teachValid : Bool
  teachResult : Nat
  teachDone : Nat
  teachRunning : Bool
  frozenCmd : Bool
  env : Vector EnvBin 128
  peaks : Vector PeakBin 64
  /-- Samples of the moves of a running teach cycle with their direction, oldest first: they are learned if it passes (R158). -/
  taught : List (Bool × Vector PeakBin 64)
  fault : Nat
  /-- Drive fault conditions that stand at present, bit per code of R168; bit 10 tells that code 4 is an over-voltage. -/
  standing : Nat
  obsSource : Nat
  obsBin : Nat
  obsOpening : Bool
  obsRecorded : Bool
  obsForce : Int
  command : Nat
  envSelect : Nat
  cntObstacles : Nat
  cntClamps : Nat
  cntBoost : Nat
  cntRefusals : Nat
  /-- The current setting in force, mA. -/
  current : Nat
deriving DecidableEq, Repr

def Drive.reset : Drive where
  mode := .free
  isolators := false
  readback := false
  freedAt := none
  pwmFrom := 0
  wanted := none
  pendMode := none
  est := Estimator.reset
  cntEnv := 0
  cntCeil := 0
  cntCur := 0
  cntCollapse := 0
  cntEdge := 0
  chop := 0
  feed := 0
  trim := 0
  cntOpen := 0
  cntImpl := 0
  cntIso := 0
  sinceChange := 0
  changeDeferred := false
  boostActive := false
  boostBlocked := false
  rms := []
  rmsAcc := 0
  teach := Teach.zero
  rUseA := 0
  rUseB := 0
  rTracked := false
  teachValid := false
  teachResult := 0
  teachDone := 0
  teachRunning := false
  frozenCmd := false
  env := Vector.replicate 128 EnvBin.reset
  peaks := Vector.replicate 64 ⟨0, 0⟩
  taught := []
  fault := 0
  standing := 0
  obsSource := 0
  obsBin := 0
  obsOpening := false
  obsRecorded := false
  obsForce := 0
  command := 0
  envSelect := 0
  cntObstacles := 0
  cntClamps := 0
  cntBoost := 0
  cntRefusals := 0
  current := 0

/-- A teach cycle in progress (R151). -/
structure TeachRun where
  /-- The step of R151 being run: 1 stands for steps 1 to 3, 4 homing, 5 the moves, 6 all done. -/
  step : Nat
  /-- The axis it is at. -/
  axis : Nat
  /-- When the measurements of steps 1 to 3 are over. -/
  measuredAt : Nat
  /-- The run of step 4 or the move of step 5 has been issued. -/
  issued : Bool
  /-- Moves of step 5 completed on this axis, and when the last one ended. -/
  moves : Nat
  endedAt : Option Nat
  /-- What befell the cycle: an interruption, and per axis a homing failure and a drive fault (R152). -/
  interrupted : Bool
  unhomed : Vector Bool 3
  faulted : Vector Bool 3
deriving DecidableEq, Repr

/-- One axis: its motion layer and its drive. -/
structure Axis where
  m : Motion
  d : Drive
deriving DecidableEq, Repr

def Axis.reset : Axis := ⟨Motion.reset, Drive.reset⟩

/-- One digital input (R173 to R183). -/
structure Dig where
  /-- The comparator output (before invert), and the voltage it was last seen at, 0.1 V (R173). -/
  level : Bool
  volts : Option Int
  /-- Common time of the last comparator change (R179). -/
  edgeAt : Nat
  raw : Bool
  deb : Bool
  cnt : Nat
  /-- Common time since which deb has been active. -/
  activeAt : Nat
  /-- Common time of the last change of deb. -/
  changeAt : Nat
  /-- Changes of deb in the present 100 ms bucket and the nine before it (R181). -/
  buckets : Vector Nat 10
  stuck : Bool
  chatter : Bool
  delivered : Bool
  /-- R183: differing from the twin since this time; the flag. -/
  diffAt : Option Nat
  diff : Bool
deriving DecidableEq, Repr

def Dig.reset : Dig := ⟨false, none, 0, false, false, 0, 0, 0, Vector.replicate 10 0, false, false, false, none, false⟩

/-- A train-line receiver (R184). -/
structure TrainLine where
  level : Bool
  volts : Option Int
  deb : Bool
  cnt : Nat
deriving DecidableEq, Repr

/-- An analogue input (R185 to R188). -/
structure Analogue where
  value : Nat
  cls : Nat
  band : Nat
  run : Nat
  held : Bool
  exciting : Bool
  /-- Within 1 ms of an excitation start (R187). -/
  settling : Bool
deriving DecidableEq, Repr

def Analogue.reset : Analogue := ⟨0, 0, 0, 0, false, false, false⟩

/-- An encoder input (R189 to R193). -/
structure Encoder where
  count : Int
  /-- What home_sync has moved the count by (R190, R398), and the count at the last sync point. -/
  offset : Int
  syncCount : Int
  a : Bool
  b : Bool
  fault : Nat
  /-- Line breaks that stand on A, B and Z (R193). -/
  lineBroken : Vector Bool 3
  index : Int
  prevIndex : Option Int
  seen : Bool
deriving DecidableEq, Repr

def Encoder.reset : Encoder := ⟨0, 0, 0, false, false, 0, Vector.replicate 3 false, 0, none, false⟩

/-- The inputs of a slice and the INP registers (file 05). -/
structure Inputs where
  dig : Vector Dig 16
  lines : Vector TrainLine 5
  an : Vector Analogue 4
  enc : Vector Encoder 3
  supplyLimit : Bool
  /-- Common time of the last sample (R176), and samples taken in the present 100 ms bucket. -/
  sampleAt : Nat
  bucketN : Nat
  /-- deb values mirrored from the active module, bit i for Ii, and whether they came with this sync point's mirror; own deb values at the last sync point, which is the one a mirror describes (R183, R399). -/
  twinDeb : Nat
  twinFresh : Bool
  prevDeb : Nat
  /-- Start of the excitation for which the classes hold 1 ms (R187). -/
  settleAt : Option Nat
  faultCode : Nat
  faultSource : Nat
  eventMask : Nat
  cntStuck : Nat
  cntChatter : Nat
  cntAnalogue : Nat
  cntEncoder : Nat
deriving DecidableEq, Repr

def Inputs.reset : Inputs where
  dig := Vector.replicate 16 Dig.reset
  lines := Vector.replicate 5 ⟨false, none, false, 0⟩
  an := Vector.replicate 4 Analogue.reset
  enc := Vector.replicate 3 Encoder.reset
  supplyLimit := false
  sampleAt := 0
  bucketN := 0
  twinDeb := 0
  twinFresh := false
  prevDeb := 0
  settleAt := none
  faultCode := 0
  faultSource := 0
  eventMask := 0
  cntStuck := 0
  cntChatter := 0
  cntAnalogue := 0
  cntEncoder := 0

/-- Channel states of LSW_CH_STATUS. A channel itself stands in one of the first five; a missing load supply and a closed gate are shown over it (R199, R208). -/
inductive ChState where
  | off | on | waiting | thermalOff | latchedOff | noSupply | disabled
deriving DecidableEq, Repr

/-- One load switch channel (R198 to R213). -/
structure Channel where
  st : ChState
  /-- The command decided at the last sync point (R201), the one latched at it (R202), and the one the power island has taken from its last valid frame, or from the stored fail-safe state (R214, R218). -/
  decided : Bool
  commanded : Bool
  cmd : Bool
  failsafe : Bool
  outputHigh : Bool
  limiting : Bool
  openLoad : Bool
  short : Bool
  under : Bool
  trips : Nat
  current : Nat
  deltaT : Nat
  clampEnergy : Nat
  clampAt : Option Nat
  overLimit : Nat
  /-- Time of the last trip, of the last switching on, of the last switching off, and of the command turning off. -/
  tripAt : Nat
  onAt : Nat
  offAt : Nat
  cmdOffAt : Nat
  /-- Start of the last off-state test (R211). -/
  testedAt : Option Nat
  /-- The side of min_current on which the last reading of an on channel lay, true below, and since when (R212). -/
  side : Option Bool
  sideAt : Nat
  /-- Consecutive diagnostic results: short present, short absent, open present, open absent (R211). -/
  nShort : Nat
  nNoShort : Nat
  nOpen : Nat
  nNoOpen : Nat
  /-- The mirrored state the channel is taken over in when the gate opens (R239, R415). -/
  carry : Option ChState
  req : Req
  cntTrips : Nat
  cntLatch : Nat
  cntLimit : Nat
  cntDiag : Nat
deriving DecidableEq, Repr

def Channel.reset : Channel where
  st := .off
  decided := false
  commanded := false
  cmd := false
  failsafe := false
  outputHigh := false
  limiting := false
  openLoad := false
  short := false
  under := false
  trips := 0
  current := 0
  deltaT := 0
  clampEnergy := 0
  clampAt := none
  overLimit := 0
  tripAt := 0
  onAt := 0
  offAt := 0
  cmdOffAt := 0
  testedAt := none
  side := none
  sideAt := 0
  nShort := 0
  nNoShort := 0
  nOpen := 0
  nNoOpen := 0
  carry := none
  req := .idle
  cntTrips := 0
  cntLatch := 0
  cntLimit := 0
  cntDiag := 0

/-- The parameters a power island holds after the handover of R220. -/
structure Stored where
  timeoutMs : Nat
  chSafe : Vector Nat 6
  axisSafe : Vector Nat 3
  holdMa : Vector Nat 3
  dtTrip : Vector Nat 6
  retryLimit : Vector Nat 6
  retryDelay : Vector Nat 6
  retryReset : Vector Nat 6
deriving DecidableEq, Repr

def Stored.zero : Stored :=
  ⟨0, Vector.replicate 6 0, Vector.replicate 3 0, Vector.replicate 3 0, Vector.replicate 6 0, Vector.replicate 6 0,
    Vector.replicate 6 0, Vector.replicate 6 0⟩

/-- LSW_TETHER_STATUS.state. -/
inductive TetherState where
  | refreshed | holding | failsafe | lost
deriving DecidableEq, Repr

/-- What the last valid frame from the engine carried (R214): the six commands and the Belay grant states, the alive count, and whether the apply strobe was set. What it carries of each axis stands in `PowerAxis`. -/
structure TetherOut where
  cmds : Vector Bool 6
  grants : Vector Bool 6
  alive : Nat
  strobe : Bool
deriving DecidableEq, Repr

/-- What the power island holds of an axis (R214, R217, R221): the drive mode, current setting (mA) and angle it applies, the amplitude of its own chopper where that has taken over from quiet mode, the power-island position and whether that is valid. -/
structure PowerAxis where
  mode : DriveMode
  current : Nat
  angle : Rat
  chopper : Option Rat
  pos : Int
  valid : Bool
deriving DecidableEq, Repr

def PowerAxis.reset : PowerAxis := ⟨.free, 0, 0, none, 0, false⟩

/-- A microstep on its way to the power island: axis, time, and change of position (R214). -/
structure OutStep where
  axis : Fin 3
  at_ : Nat
  by_ : Int
deriving DecidableEq, Repr

/-- What the last valid frame from the power island said of a channel (R214, log entry 150). -/
structure ChSeen where
  st : ChState
  failsafe : Bool
  outputHigh : Bool
  limiting : Bool
  openLoad : Bool
  short : Bool
  under : Bool
  trips : Nat
  current : Nat
  deltaT : Nat
  clampEnergy : Nat
  overLimit : Nat
deriving DecidableEq, Repr

def ChSeen.reset : ChSeen := ⟨.off, false, false, false, false, false, false, 0, 0, 0, 0, 0⟩

/-- The contents of the last valid frame from the power island, which the engine keeps (R214). -/
structure TetherIn where
  ch : Vector ChSeen 6
  st : TetherState
  storedValid : Bool
deriving DecidableEq, Repr

def TetherIn.reset : TetherIn := ⟨Vector.replicate 6 ChSeen.reset, .refreshed, false⟩

/-- The tether and its watchdog (R214 to R225). -/
structure Tether where
  st : TetherState
  /-- The power island has applied its fail-safe states, and they have not been ended by a resume, nor by its reset (R218, R219). -/
  safe : Bool
  resumed : Bool
  storedValid : Bool
  stored : Stored
  testRunning : Bool
  testPassed : Bool
  /-- The engine's alive count (R215), and that of the last refresh. -/
  alive : Nat
  lastAlive : Nat
  /-- Time of the last refresh and of the one before, and the alive count of the last frame the engine sent (R215, R224). -/
  lastRefresh : Nat
  prevRefresh : Nat
  sentAlive : Nat
  seqToPower : Nat
  seqToEngine : Nat
  /-- Periods without a valid frame from the power island (R222). -/
  missing : Nat
  toPower : TetherOut
  toEngine : TetherIn
  axes : Vector PowerAxis 3
  /-- Commands have been latched that no frame has carried yet (the apply strobe), the microsteps of the running period, and the positions that the next frame sets anew (R214, R221). -/
  strobe : Bool
  steps : List OutStep
  posSet : Vector (Option Int) 3
  cntErrors : Nat
  cntTimeouts : Nat
  cntRefused : Nat
  /-- Time the last test began (R225). -/
  testAt : Nat
  safeAt : Nat
deriving DecidableEq, Repr

def Tether.reset : Tether where
  st := .refreshed
  resumed := false
  safe := false
  storedValid := false
  stored := Stored.zero
  testRunning := false
  testPassed := false
  alive := 0
  lastAlive := 0
  lastRefresh := 0
  prevRefresh := 0
  sentAlive := 0
  seqToPower := 0
  seqToEngine := 0
  missing := 0
  toPower := ⟨Vector.replicate 6 false, Vector.replicate 6 false, 0, false⟩
  toEngine := TetherIn.reset
  axes := Vector.replicate 3 PowerAxis.reset
  strobe := false
  steps := []
  posSet := Vector.replicate 3 none
  cntErrors := 0
  cntTimeouts := 0
  cntRefused := 0
  testAt := 0
  safeAt := 0

/-- The load switches of a slice and the LSW registers (file 06). -/
structure Switches where
  ch : Vector Channel 6
  /-- Case temperature beside the slice, °C. -/
  caseT : Int
  tether : Tether
  /-- R246: no arbiter frame for 1 ms; frames again since this time. -/
  unarbitrated : Bool
  /-- The power gate of R395 as this island last saw it (R199). -/
  enabled : Bool
  /-- The power group has its load supply (R208). -/
  supply : Bool
  faultCode : Nat
  faultChannel : Nat
  eventMask : Nat
  command : Nat
  commandChannel : Nat
deriving DecidableEq, Repr

def Switches.reset : Switches where
  ch := Vector.replicate 6 Channel.reset
  caseT := 0
  tether := Tether.reset
  unarbitrated := false
  enabled := false
  supply := true
  faultCode := 0
  faultChannel := 0
  eventMask := 0
  command := 0
  commandChannel := 0

/-- Modes of a car bus controller, R332. -/
inductive CanMode where
  | off | normal | monitor | busOff | waiting
deriving DecidableEq, Repr

/-- A receive object: its latest frame (R336, R337). -/
structure RxObj where
  id : Nat
  ide : Bool
  fdf : Bool
  valid : Bool
  dlc : Nat
  brs : Bool
  esi : Bool
  overwritten : Bool
  age : Nat
  sof : Nat
  data : List Byte
  /-- A frame was taken since the last sync point. -/
  fresh : Bool
deriving DecidableEq, Repr

def RxObj.reset : RxObj := ⟨0, false, false, false, 0, false, false, false, 0, 0, [], false⟩

/-- A transmit object (R338 to R340): its result and its request. -/
structure TxObj where
  result : Nat
  aged : Bool
  ageMs : Nat
  /-- A request waits in the event queue since this time (R340). -/
  pending : Option Nat
  /-- The request waited across a bus-off (R353). -/
  waited : Bool
  /-- Cancelled after its frame had won arbitration (R355). -/
  tooLate : Bool
  /-- The payload last sent (R339). -/
  lastSent : Option (List Byte)
deriving DecidableEq, Repr

def TxObj.reset : TxObj := ⟨0, false, 0, none, false, false, none⟩

/-- What the controller has on the bus: nothing, the reference message, or a transmit object with its payload. -/
inductive OnBus where
  | idle
  | reference (payload : List Byte)
  | object (t : Fin 16) (payload : List Byte) (timeTriggered : Bool)
deriving DecidableEq, Repr

/-- A bank of the schedule matrix (R344, R348): cells by b × 32 + j, and column starts in µs; only non-zero values are listed. -/
structure Bank where
  cells : List (Nat × Nat)
  cols : List (Nat × Nat)
deriving DecidableEq, Repr

/-- A car bus controller (file 10) and its CBS registers. -/
structure CanBus where
  mode : CanMode
  tec : Nat
  rec_ : Nat
  errState : Nat
  lastError : Nat
  dataPhase : Bool
  ttRunning : Bool
  /-- Waiting for the first basic cycle start with the enable gained (R335) or after recovery (R352). -/
  gainPending : Bool
  /-- After a bus-off: time-triggered operation waits for the next basic cycle start in normal mode (R352). -/
  ttHeld : Bool
  basicCycle : Nat
  column : Nat
  /-- Hawser cycles (sync points) since the present basic cycle start (R341). -/
  cyclesIn : Nat
  /-- A basic cycle start is due ref_offset after the last sync point (R341). -/
  armed : Bool
  /-- Common time of the present basic cycle's start. -/
  bcAt : Nat
  activeBank : Bool
  bank0 : Bank
  bank1 : Bank
  switchAt : Option Nat
  bankResult : Nat
  failCycle : Nat
  failColumn : Nat
  refusedWrites : Nat
  transceiverFault : Bool
  refLate : Bool
  /-- SOF of the last reference message (R342). -/
  refSof : Nat
  refSent : Bool
  rx : Vector RxObj 32
  tx : Vector TxObj 16
  onBus : OnBus
  /-- Another station is known to send (R340, R343, log entry 166). -/
  busy : Bool
  busOffAt : List Nat
  busOffTotal : Nat
  remaining : Nat
  /-- When the counting of recessive sequences began (R352). -/
  recoverAt : Nat
  agedRaised : Bool
  faultCode : Nat
  faultObject : Nat
  selectColumn : Nat
  selectCycle : Nat
  selectBank : Bool
  eventMask : Nat
  cntOverwrites : Nat
  cntMisses : Nat
  cntUnmatched : Nat
  cntConflicts : Nat
  cntTransmitted : Nat
  cntReceived : Nat
deriving DecidableEq, Repr

def CanBus.reset : CanBus where
  mode := .off
  tec := 0
  rec_ := 0
  errState := 0
  lastError := 0
  dataPhase := false
  ttRunning := false
  gainPending := false
  ttHeld := false
  basicCycle := 0
  column := 0
  cyclesIn := 0
  armed := false
  bcAt := 0
  activeBank := false
  bank0 := ⟨[], []⟩
  bank1 := ⟨[], []⟩
  switchAt := none
  bankResult := 0
  failCycle := 0
  failColumn := 0
  refusedWrites := 0
  transceiverFault := false
  refLate := false
  refSof := 0
  refSent := false
  rx := Vector.replicate 32 RxObj.reset
  tx := Vector.replicate 16 TxObj.reset
  onBus := .idle
  busy := false
  busOffAt := []
  busOffTotal := 0
  remaining := 0
  recoverAt := 0
  agedRaised := false
  faultCode := 0
  faultObject := 0
  selectColumn := 0
  selectCycle := 0
  selectBank := false
  eventMask := 0
  cntOverwrites := 0
  cntMisses := 0
  cntUnmatched := 0
  cntConflicts := 0
  cntTransmitted := 0
  cntReceived := 0

/-- One slice (R29, R42). `axisMask` and `driveMask` are AX_EVENT_MASK and AX_DRIVE_EVENT_MASK of the AX0 block; `held` is what the process image region holds of the sequencer at the last completed sync point (R224). -/
structure Slice where
  portal : Portal
  axes : Vector Axis 3
  inp : Inputs
  sw : Switches
  can : CanBus
  iq : IntakeQ
  axisMask : Nat
  driveMask : Nat
  held : Portal
  heldHomed : Vector Bool 3
  /-- What the last evaluation leaves for the region, until its refresh has been sent (R224). -/
  heldNext : Option (Portal × Vector Bool 3)
  /-- That refresh has been sent; the region's completion at the end of the cycle then completes the sync point (R224). -/
  heldSent : Bool
  /-- Common time of the last estimator period (R143). -/
  estAt : Nat
  /-- The engine has restarted and has not resumed yet (R223). -/
  waitsResume : Bool
  /-- The cycles that its own sync points have counted since its engine started, in ns (R52). -/
  cycleT : Nat
  /-- The last own sync point for which the sequencer has evaluated, as a count of its time counter (R40, R51); none since its engine started. -/
  evalAt : Option Int
  /-- The teach cycle of the portal (R151). -/
  teach : Option TeachRun
deriving DecidableEq, Repr

def Slice.reset : Slice where
  portal := Portal.reset
  axes := Vector.replicate 3 Axis.reset
  inp := Inputs.reset
  sw := Switches.reset
  can := CanBus.reset
  iq := IntakeQ.reset
  axisMask := 0
  driveMask := 0
  held := Portal.reset
  heldHomed := Vector.replicate 3 false
  heldNext := none
  heldSent := false
  estAt := 0
  waitsResume := false
  cycleT := 0
  evalAt := none
  teach := none

end Sys2Proof.Machine
end

