-- ==== Sys2Proof/Syntax/Records.lean ====
section
/-! DEFINITION. Records that commands carry as operands: measurements the environment supplies, and the fields of frames that arrive on a wire. -/

namespace Sys2Proof

/-- Period averages of one axis (R143): phase voltages in mV and currents in mA at the bridge terminals; die at ≥ 150 °C; isolator readback. -/
structure PhaseAvg where
  ua : Int
  ub : Int
  ia : Int
  ib : Int
  dieHot : Bool
  isolatorsClosed : Bool
deriving DecidableEq, Repr

/-- A frame on a car bus (R328, R336): identifier, IDE, FDF, BRS, ESI, remote, DLC, data bytes and the common time of its SOF. -/
structure CanFrame where
  id : Nat
  ide : Bool
  fdf : Bool
  brs : Bool
  esi : Bool
  remote : Bool
  dlc : Nat
  data : List Byte
  sof : Nat
deriving DecidableEq, Repr

/-- The Hawser header (R259) without its type, and where the frame that carries it is addressed to (R258). -/
structure HwsHeader where
  flags : Nat
  sender : Nat
  mode : Nat
  cycle : Nat
  dataLen : Nat
  eventLen : Nat
  health : Nat
  /-- The position that the frame's destination address names, 0 for the group address (R258). -/
  dest : Nat
deriving DecidableEq, Repr

/-- The beacon payload (R261). Times are in 1/65536 ns (R37), `ringTime` in ns. -/
structure Beacon where
  master : Nat
  taiValid : Bool
  switchPending : Bool
  pendingMode : Nat
  n : Nat
  switchCycle : Nat
  txTime : Nat
  correction : Nat
  taiSeconds : Nat
  utcOffset : Int
  taiNs : Nat
  ringTime : Nat
  generation : Nat
  digest : List Byte
  /-- The nonce of the leader whose beacon it is: a beacon carries its segment's identity (R288, R321), though the layout of R261 has no place for it (log entry 158). -/
  nonce : Nat
deriving DecidableEq, Repr

/-- The authority record (R402). -/
structure AuthRec where
  driving : Bool
  healthy : Bool
  resign : Bool
  synchronised : Bool
  takeback : Bool
  linkUp : Bool
  present : Bool
  roleS : Bool
  verdict : Nat
  foreign : Bool
  startupHitch : Bool
  nomLow : Nat
  nomHigh : Nat
  failsLow : Nat
  failsHigh : Nat
  handovers : Nat
deriving DecidableEq, Repr

def AuthRec.zero : AuthRec := ⟨false, false, false, false, false, false, false, false, 0, false, false, 0, 0, 0, 0, 0⟩

/-- One entry of a poll frame (R266, R285): the position named, the poll table entry, and the request it carries. -/
structure PollSlot where
  position : Nat
  entry : Nat
  request : Nat
  selector : Nat
deriving DecidableEq, Repr

/-- A report (R290). -/
structure Report where
  hop : Nat
  aftFacing : Bool
  end_ : Bool
  cabActive : Bool
  roleS : Bool
  coldStart : Bool
  twinRunning : Bool
  /-- Bytes 0…9 of section 0x0002. -/
  car : List Byte
  digest : List Byte
  version : Nat
deriving DecidableEq, Repr

/-- One entry of a directory (R307). -/
structure DirEntry where
  car : Nat
  unit : Nat
  consist : Nat
  orientation : Bool
  unitReversed : Bool
  reserved : Bool
  roleS : Bool
  coldStart : Bool
  cabActive : Bool
  end_ : Bool
  hop : Nat
  side : Nat
  oldPosition : Nat
  joining : Bool
deriving DecidableEq, Repr

/-- A directory frame (R307). Entry e describes position e + 1; `bits` is the acceptance bitmap. -/
structure Directory where
  generation : Nat
  nonce : Nat
  switchCycle : Nat
  leader : Nat
  renumberingFree : Bool
  countBased : Bool
  mode : Nat
  timeOffset : Int
  bits : Nat
  entries : List DirEntry
deriving DecidableEq, Repr

/-- A hello (R290): state as in HWS_INAUG_STATUS, end and coupler flag, position, segment identity and Hawser time. -/
structure Hello where
  state : Nat
  aft : Bool
  coupler : Bool
  position : Nat
  nonce : Nat
  generation : Nat
  time : Nat
deriving DecidableEq, Repr

/-- A request of type 14 (R290). -/
structure InaRequest where
  code : Nat
  channel : Nat
  report : Report
deriving DecidableEq, Repr

/-- A splice frame (R370). -/
structure SpliceFrame where
  version : Nat
  op : Nat
  tag : Nat
  target : Nat
  initiator : Nat
  exclusive : Bool
  relayed : Bool
  status : Nat
  address : Nat
  length : Nat
  buffer : Nat
  data : List Byte
deriving DecidableEq, Repr

/-- Where a splice frame came from (R370, R379): a Hawser position, or the source address and port of a UDP datagram. -/
inductive Origin where
  | hawser (position : Nat)
  | udp (address port : Nat)
deriving DecidableEq, Repr

/-- An event message (R383). -/
structure EventMsg where
  number : Nat
  code : Nat
  detail : Nat
  at_ : Nat
deriving DecidableEq, Repr

/-- The heartbeat payload of the twin link (R397). `loopCell` bit 0 closed, bit 1 latched; `twinState` 0 starting, 1 running, 2 unconfigured. -/
structure Heartbeat where
  auth : AuthRec
  health : Nat
  version : Nat
  digest : List Byte
  inaugState : Nat
  twinState : Nat
  loopCell : Nat
deriving DecidableEq, Repr

/-- The service port packets of R372, with the address they go to, the sender's, what follows the checksum of an echo, and the ports, checksum field and content of a datagram; addresses as the little-endian number of their four octets in network order. -/
inductive Packet where
  | arp (address sender : Nat)
  | icmpEcho (address sender : Nat) (fragment : Bool) (data : List Byte)
  | udp (address sender sport dport : Nat) (fragment : Bool) (checksum : Nat) (content : List Byte)
  | other
deriving DecidableEq, Repr

/-- What the payload of a Hawser or twin-link frame holds, by header type (R259, R290, R396), or a packet of the service port. -/
inductive Body where
  | beacon (b : Beacon)
  | static (data : List Byte) (events : List EventMsg)
  | poll (slots : List PollSlot)
  | response (data : List Byte)
  | container
  | splice (f : SpliceFrame)
  | linkMeasure
  | coldStart (nonce : Nat) (digest : List Byte)
  | count (nonce generation hop : Nat)
  /-- Reports; with those of a coupling, the time of the own segment less the other's in ns (R314, log entry 160). -/
  | report (rs : List Report) (diff : Int)
  | directory (d : Directory)
  | cancel (generation : Nat)
  | reset (generation resetCycle : Nat)
  | hello (h : Hello)
  | request (r : InaRequest)
  | grant (position channel switchCycle : Nat)
  | heartbeat (h : Heartbeat)
  | mirror
  | slow
  | relayed (r : InaRequest)
  | journalMirror (records : List (List Byte))
  | packet (p : Packet)
deriving DecidableEq, Repr

/-- How a frame reached a receiver: intact, or with a bad FCS or an error symbol (R272, R279). -/
inductive Arrival where
  | valid | badFcs
deriving DecidableEq, Repr

/-- What happens to the test pulse of a loop switch, if one is made (R84): its current falls, the cell voltage exceeds 5 V, or neither. -/
inductive Pulse where
  | passed | aborted | failed
deriving DecidableEq, Repr

/-- Who writes the process image (R19). -/
inductive Agent where
  | slice (s : Fin 16) | hawser | splice | mss | remote
deriving DecidableEq, Repr

/-- Who uses a slice's host port (R31). -/
inductive HostAgent where
  | splice | mss
deriving DecidableEq, Repr

/-- Who waits on a handshake channel (R36). -/
inductive Waiter where
  | slice (s : Fin 16) | hawser | splice | logline | mss
deriving DecidableEq, Repr

/-- A tether frame in one direction or the other (R214), with its CRC verdict and sequence number; the power island reports currents in mA, temperature rises in K, output levels and the case temperature in °C. -/
inductive TetherFrame where
  | toPower (crcOk : Bool) (seq : Nat)
  | toEngine (crcOk : Bool) (seq : Nat) (ma dt : Vector Nat 6) (high : Vector Bool 6) (caseT : Int)
deriving DecidableEq, Repr

/-- The inputs of a power group (R230), in 0.1 V and 0.1 A. -/
structure GroupInputs where
  loadV : Nat
  motorV : Nat
  loadI : Nat
  motorI : Nat
deriving DecidableEq, Repr

/-- An arbitration round of a power group, and what its inputs show then (R230, R240). -/
structure GroupRound where
  group : Fin 2
  inputs : GroupInputs
deriving DecidableEq, Repr

/-- An encoder line of an input: channel A, B or Z, broken or whole (R192). -/
structure LineBreak where
  channel : Fin 3
  broken : Bool
deriving DecidableEq, Repr

/-- The readback of a bypass relay's contact: for more than 20 ms other than the drive, or as the drive again (R257). -/
structure RelayReadback where
  channel : Fin 2
  open_ : Bool
deriving DecidableEq, Repr

/-- A frame with a place in the schedule (R262). -/
inductive Slotted where
  | beacon | static | poll | response (j : Nat) | container (j : Nat)
deriving DecidableEq, Repr

/-- Plug errors after the handover (R448). -/
inductive PlugError where
  | removed | read | write
  /-- A slot cannot be read (R437). -/
  | slot (i : Fin 4)
deriving DecidableEq, Repr

/-- One set of sensor readings (R462), in the units of its table: temperatures in 0.1 °C, rails 0…4 in 0.1 V and 5…11 in 0.01 V, humidity in 0.1 %RH, acceleration in 0.01 g; the time above impact_threshold in ms. -/
structure Readings where
  temps : Vector Int 24
  rails : Vector Int 12
  humidity : Int
  acc : Vector Int 3
  impactMs : Nat
deriving DecidableEq, Repr

end Sys2Proof
end

