-- ==== Sys2Proof/Machine/BackboneState.lean ====
section
/-! DEFINITION. The state of the Hawser island: links and cycle (file 08), inauguration (file 09), Splice with its region (file 11) and the twin block with the AUTH logic (file 12). Plain data. -/

namespace Sys2Proof.Machine

/-- A Hawser port, i = 0 A-fore, 1 A-aft, 2 B-fore, 3 B-aft (HWS_PORT_STATUS). -/
structure HPort where
  linkUp : Bool
  phyMaster : Bool
  folded : Bool
  /-- port_lost (R260). -/
  lost : Bool
  /-- Folded by its guardian until unfolded by command or the next inauguration (R280). -/
  guardFold : Bool
  egress : Bool
  /-- Guardian history of the last 64 cycles, bit 0 the newest; whether the present cycle is bad (R280). -/
  hist : Nat
  bad : Bool
  /-- Common time of the last E194 (R280). -/
  e194At : Option Nat
  /-- Link delay in 1/65536 ns (R254). -/
  delay : Nat
  blocked : Nat
  truncated : Nat
  /-- Time the link came up, went down; of the last hello sent; and the partner's last hello (R313). -/
  upAt : Nat
  downAt : Nat
  helloAt : Nat
  partner : Option Hello
  /-- Delay of the beacon from its offset 0 to this receive port, ns, as last seen (R276). -/
  beaconAt : Option Nat
  /-- The link went down and has not come up since: a port folded by link loss (R315). -/
  linkLost : Bool
  /-- Own Hawser time less the partner's, in 1/65536 ns, from its last hello (R314). -/
  partnerDiff : Int
deriving DecidableEq, Repr

def HPort.reset : HPort :=
  ⟨false, false, true, false, false, false, 0, false, none, 0, 0, 0, 0, 0, 0, none, none, false, 0⟩

/-- What the present cycle has brought for a slot (R272, R273). -/
inductive SlotGot where
  | nothing | fresh | repeated | invalid
deriving DecidableEq, Repr

/-- Status of a static slot or poll entry (R272); `raised`: E200 given for this staleness (R273). -/
structure Slot where
  age : Nat
  missing : Bool
  invalid : Bool
  repeated : Bool
  seen : Bool
  raised : Bool
  got : SlotGot
deriving DecidableEq, Repr

def Slot.reset : Slot := ⟨0, false, false, false, false, false, .nothing⟩

/-- What a node last heard from a position: its authority record, health word and barrier word, and whether a valid frame of it came in the present cycle and in the last completed one (R402, R406, R322). -/
structure NodeRx where
  auth : AuthRec
  health : Nat
  barrier : Nat
  now : Bool
  last : Bool
deriving DecidableEq, Repr

def NodeRx.reset : NodeRx := ⟨AuthRec.zero, 0, 0, false, false⟩

/-- A bypass relay and its drive (R257). -/
structure Relay where
  /-- The drive toggles; it has not toggled since the given time otherwise. -/
  drive : Bool
  driveStopAt : Nat
  /-- Contact readback: open. -/
  open_ : Bool
  openedAt : Nat
  /-- The readback has been seen to differ from the drive since this time, and E203 was raised for it. -/
  mismatchAt : Option Nat
  mismatchRaised : Bool
deriving DecidableEq, Repr

/-- The drive stops toggling; with it a mismatch ends, since the contact is asked to be where it is (R257). -/
def Relay.stopDrive (t : Nat) (r : Relay) : Relay := { r with drive := false, driveStopAt := t, mismatchAt := none, mismatchRaised := false }

def Relay.reset : Relay := ⟨false, 0, false, 0, none, false⟩

/-- A frame waiting for a container (R267): its content, the position it is addressed to or 0 for all, the cycle it was queued in, whether E206 was raised, and the common time of its queueing, ns, bits [31:0]. -/
structure AsyncFrame where
  body : Body
  dest : Nat
  since : Nat
  raised : Bool
  at_ : Nat
deriving DecidableEq, Repr

/-- What a mirror says of one axis (R398). `segSlip` is the field slip, `thetaA` the applied angle. -/
structure MirrorAxis where
  pos : Int
  v : Nat
  dirPos : Bool
  queue : List Move
  profile : Nat
  mode : DriveMode
  thetaA : Rat
  current : Nat
  homed : Bool
  slip : Int
  target : Int
  segment : Nat
deriving DecidableEq, Repr

/-- What a mirror says of one switch channel (R398); `retryLeft` is the retry wait still to run, ns. -/
structure MirrorChannel where
  st : ChState
  commanded : Bool
  trips : Nat
  retryLeft : Nat
  failsafe : Bool
deriving DecidableEq, Repr

/-- A slice record of the mirror (R398). `elapsed` is the time the running timer has run, ns; `encoders` the counts and `homeOffsets` what home_sync has moved them by; `deb` the debounced inputs compared under R183; `pending` the event requests of the car bus. -/
structure MirrorSlice where
  slice : Nat
  regionAge : Nat
  st : PState
  phase : Phase
  elapsed : Nat
  /-- Time run in the pause of an obstacle stop of OPENING, which is then the running timer (R68). -/
  stopElapsed : Option Nat
  reopenCount : Nat
  doorCycles : Nat
  faultCause : Nat
  stateAtFault : Nat
  axes : Vector MirrorAxis 3
  channels : Vector MirrorChannel 6
  encoders : Vector Int 3
  homeOffsets : Vector Int 3
  pending : List Nat
  tether : TetherState
  deb : Nat
deriving DecidableEq, Repr

/-- A loop cell as the node record of the mirror gives it: the channels, the latch and the self-test results. -/
structure MirrorLoop where
  ch1 : Bool
  ch2 : Bool
  latched : Bool
  test1 : Nat
  test2 : Nat
deriving DecidableEq, Repr

/-- A mirror (R398): the cycle of the sync point it describes and its time, its parts and its size in KiB. -/
structure Mirror where
  cycle : Nat
  at_ : Nat
  loop : MirrorLoop
  lfsr : Vector Nat 2
  /-- Grants held and requests waiting, by group, each with the requester's index and its age in ns. -/
  granted : List (Nat × Nat × Nat)
  waiting : List (Nat × Nat × Nat)
  slices : List MirrorSlice
  slowAxis : Nat
  sizeKib : Nat
deriving DecidableEq, Repr

/-- How a frame leaves a node on a ring: the node's own frame at its insertion point, one passed on, or one passed on that its guardian has ended with an error symbol (R256, R279). -/
inductive Passing where
  | own | passed | cut
deriving DecidableEq, Repr

/-- Where a frame the node sent went: a Hawser channel's ring, by the lane that leaves by a port; link-local out of a port; the twin link; or the service port. -/
inductive Way where
  | ring (channel port : Nat) (passing : Passing)
  | port (i : Nat)
  | twin
  | service (address port : Nat)
deriving DecidableEq, Repr

/-- A frame the node has sent in the present cycle, as the wire shows it. -/
structure Sent where
  way : Way
  dest : Nat
  header : HwsHeader
  body : Body
deriving DecidableEq, Repr

/-- The clock servo of R275 as it stood before channel B's beacon of a cycle. -/
structure Servo where
  rate : Int
  offsetPrev : Int
  rxPrev : Nat
  alarmRun : Nat
  pendingStep : Option Int
deriving DecidableEq, Repr

/-- The Hawser engine (file 08) and the HWS registers below 0x100. -/
structure Hawser where
  /-- Cycle number, mode in force, announced mode. -/
  cycle : Nat
  mode : Nat
  pendingMode : Nat
  switchPending : Bool
  switchCycle : Nat
  position : Nat
  master : Nat
  n : Nat
  /-- ring_time in ns; d in 1/65536 ns (R264, R276). -/
  ringTime : Vector Nat 2
  d : Vector Nat 2
  ports : Vector HPort 4
  relays : Vector Relay 2
  inSchedule : Vector Bool 2
  holdover : Bool
  health : Nat
  /-- Master: channels declared degraded, cycles with and without a cause in a row, causes seen this cycle (R271). -/
  degraded : Vector Bool 2
  faultRun : Vector Nat 2
  clearRun : Nat
  faultNow : Vector Bool 2
  /-- The mode left by a fallback (R271), and a fallback that waits for a pending switch. -/
  leftMode : Option Nat
  fallbackDue : Vector Bool 2
  /-- Valid beacons of this cycle per channel; cycles in a row without one on either channel; valid ones in a row (R278, R321). -/
  beaconNow : Vector Bool 2
  beaconMissed : Nat
  beaconRun : Nat
  lostRaised : Bool
  /-- The island's time counter, with the rate adjustment of R275 (R37). -/
  clock : Counter
  /-- Clock servo (R275): last offset, previous offset and receive time in 1/65536 ns, alarms in a row. -/
  offset : Int
  offsetPrev : Int
  rxPrev : Nat
  alarmRun : Nat
  /-- Set while channel B's beacon has served this cycle: channel A's takes its place if it comes (R275). -/
  servo : Option Servo
  /-- Own frames (R281): inserted this cycle, returned this cycle, cycles in a row without return. -/
  sentNow : Vector Bool 2
  backNow : Vector Bool 2
  ownRun : Vector Nat 2
  /-- E196 given: E197 is due at re-entry. -/
  leftRaised : Vector Bool 2
  /-- Data sections of the last fresh static frames, per channel and position (R273, R310). -/
  data : Vector (Vector (List Byte) 128) 2
  slotsA : Vector Slot 128
  slotsB : Vector Slot 128
  polls : Vector Slot 256
  rx : Vector NodeRx 128
  /-- Response slots of this cycle, per channel, as the last cycle's poll frame listed them, and those of the next (R266). -/
  listedNow : Vector (List PollSlot) 2
  listedNext : Vector (List PollSlot) 2
  /-- Master: place in the poll table per channel. -/
  pollCursor : Vector Nat 2
  /-- Asynchronous frames waiting, per channel; containers filled in this cycle and the index of the last one filled (R267). -/
  async : Vector (List AsyncFrame) 2
  filled : Vector Nat 2
  lastFilled : Vector (Option Nat) 2
  /-- Cycles until the next link delay exchange (R254). -/
  measureIn : Nat
  /-- What the node has put on a wire since the last sync point, and the octets of each of these frames (R258). -/
  wire : List Sent
  octets : List (List Byte)
  /-- TAI as the last beacon gave it: valid, second, nanosecond, UTC offset. -/
  taiValid : Bool
  taiSeconds : Nat
  taiNs : Nat
  utcOffset : Int
  /-- A step correction scheduled for the tick after the next sync point, in 1/65536 ns, and whether that sync point has come (R38, R275). -/
  pendingStep : Option Int
  stepReady : Bool
  modeRequest : Nat
  requestGo : Bool
  command : Nat
  commandPort : Nat
  eventMask : Nat
  faultEvent : Nat
  faultPort : Nat
  faultChannel : Nat
  faultPosition : Nat
  cntBeacons : Nat
  cntOwnLost : Nat
  cntRefused : Nat
  cntBacklog : Nat
deriving DecidableEq, Repr

def Hawser.reset : Hawser where
  cycle := 0
  mode := 0
  pendingMode := 0
  switchPending := false
  switchCycle := 0
  position := 0
  master := 0
  n := 0
  ringTime := Vector.replicate 2 0
  d := Vector.replicate 2 0
  ports := Vector.replicate 4 HPort.reset
  relays := Vector.replicate 2 Relay.reset
  inSchedule := Vector.replicate 2 false
  holdover := false
  health := 0
  degraded := Vector.replicate 2 false
  faultRun := Vector.replicate 2 0
  clearRun := 0
  faultNow := Vector.replicate 2 false
  leftMode := none
  fallbackDue := Vector.replicate 2 false
  beaconNow := Vector.replicate 2 false
  beaconMissed := 0
  beaconRun := 0
  lostRaised := false
  clock := Counter.reset
  offset := 0
  offsetPrev := 0
  rxPrev := 0
  alarmRun := 0
  servo := none
  sentNow := Vector.replicate 2 false
  backNow := Vector.replicate 2 false
  ownRun := Vector.replicate 2 0
  leftRaised := Vector.replicate 2 false
  data := Vector.replicate 2 (Vector.replicate 128 [])
  slotsA := Vector.replicate 128 Slot.reset
  slotsB := Vector.replicate 128 Slot.reset
  polls := Vector.replicate 256 Slot.reset
  rx := Vector.replicate 128 NodeRx.reset
  listedNow := Vector.replicate 2 []
  listedNext := Vector.replicate 2 []
  pollCursor := Vector.replicate 2 0
  async := Vector.replicate 2 []
  filled := Vector.replicate 2 0
  lastFilled := Vector.replicate 2 none
  measureIn := 0
  wire := []
  octets := []
  taiValid := false
  taiSeconds := 0
  taiNs := 0
  utcOffset := 0
  pendingStep := none
  stepReady := false
  modeRequest := 0
  requestGo := false
  command := 0
  commandPort := 0
  eventMask := 0
  faultEvent := 0
  faultPort := 0
  faultChannel := 0
  faultPosition := 0
  cntBeacons := 0
  cntOwnLost := 0
  cntRefused := 0
  cntBacklog := 0

/-- HWS_INAUG_STATUS.state. -/
inductive InaState where
  | offline | listen | contest | inaugurating | running | inserting | reintegrating | passive
deriving DecidableEq, Repr

/-- HWS_INAUG_STATUS.phase. -/
inductive InaPhase where
  | none | collect | numbering | directory | awaiting | quiet
deriving DecidableEq, Repr

/-- Insertion steps, HWS_INSERT_STATUS. -/
inductive InsStep where
  | none | requested | granted | relayOpen | linksUp | inSchedule | failed
deriving DecidableEq, Repr

/-- An inauguration the leader runs: reports collected with their side (0 fore, 1 aft), when it began, and how often the directory was distributed (R296, R309). -/
structure Collect where
  reports : List (Nat × Report)
  at_ : Nat
  tries : Nat
deriving DecidableEq, Repr

/-- A merge in progress (R313, R314): the end of a coupler node, when its first channel linked, whether it has started, and the partner segment's identity. -/
structure Merge where
  aft : Bool
  firstAt : Nat
  started : Bool
  nonce : Nat
  generation : Nat
deriving DecidableEq, Repr

/-- A grant in force (R318, R319). -/
structure Grant where
  position : Nat
  channel : Nat
  switchCycle : Nat
  at_ : Option Nat
  /-- A directory has taken force since. -/
  followed : Bool
deriving DecidableEq, Repr

/-- An insertion the leader runs (R318, R320). -/
structure Insertion where
  position : Nat
  /-- The mode in force at step 2. -/
  mode : Nat
  request : InaRequest
  /-- The orientation the node is put in with; whether the position was reserved. -/
  turned : Bool
  reserved : Bool
  /-- When relay A opened; grant for B given; directories in force for it. -/
  openedAt : Option Nat
  bGranted : Bool
  dirs : Nat
deriving DecidableEq, Repr

/-- Inauguration (file 09) and its HWS registers. -/
structure Inaug where
  st : InaState
  phase : InaPhase
  leader : Bool
  tookOver : Bool
  admitted : Vector Bool 2
  trigger : Nat
  generation : Nat
  nonce : Nat
  /-- The directory in force, as entries by position; members' reports (R289). -/
  dir : List DirEntry
  reports : List (Nat × Report)
  /-- A directory that awaits its switch (R307 to R310). -/
  pendingDir : Option Directory
  pendingReports : List (Nat × Report)
  /-- Positions whose bit was missing in the first distribution (R309). -/
  missedOnce : List Nat
  collect : Option Collect
  /-- Handover time and the waits that run from it (R292). -/
  handoverAt : Option Nat
  admittedAt : Nat
  runningHello : Bool
  /-- Listening since, and the end of a capable node's window (R293). -/
  listenEnd : Option Nat
  heardAny : Bool
  /-- Contest: own nonce, time of the first and of the last cold-start frame, nonces heard with their times (R294, R295). -/
  ownNonce : Nat
  contestAt : Option Nat
  lastCold : Option Nat
  heard : List (Nat × Nat)
  /-- The end towards the leader (true aft), the hop this node answered the count with, and the leader's port the count left by (0 fore, 1 aft). -/
  toLeader : Bool
  hop : Nat
  side : Nat
  merge : Option Merge
  mergeRefused : Bool
  repairAt : Option Nat
  /-- When a cut was seen whose split_confirm runs (R317). -/
  splitAt : Option Nat
  grant : Option Grant
  insertion : Option Insertion
  heldRequests : List (Nat × InaRequest)
  resetCycle : Option Nat
  /-- Common time of the trigger of the inauguration in progress (R312). -/
  startAt : Nat
  stepA : InsStep
  stepB : InsStep
  announced : Bool
  orientation : Option Bool
  unitReversed : Bool
  car : Nat
  unit : Nat
  consist : Nat
  duration : Nat
  barrierId : Nat
  barrierArrive : Bool
  barrierDone : Nat
  command : Nat
  dirSelect : Nat
  eventMask : Nat
  faultEvent : Nat
  faultCode : Nat
  faultPosition : Nat
  cntInaug : Nat
  cntRetries : Nat
  cntCuts : Nat
  cntRefusals : Nat
deriving DecidableEq, Repr

def Inaug.reset : Inaug where
  st := .offline
  phase := .none
  leader := false
  tookOver := false
  admitted := Vector.replicate 2 false
  trigger := 0
  generation := 0
  nonce := 0
  dir := []
  reports := []
  pendingDir := none
  pendingReports := []
  missedOnce := []
  collect := none
  handoverAt := none
  admittedAt := 0
  runningHello := false
  listenEnd := none
  heardAny := false
  ownNonce := 0
  contestAt := none
  lastCold := none
  heard := []
  toLeader := false
  hop := 0
  side := 0
  merge := none
  mergeRefused := false
  repairAt := none
  splitAt := none
  grant := none
  insertion := none
  heldRequests := []
  resetCycle := none
  startAt := 0
  stepA := .none
  stepB := .none
  announced := false
  orientation := none
  unitReversed := false
  car := 0
  unit := 0
  consist := 0
  duration := 0
  barrierId := 0
  barrierArrive := false
  barrierDone := 0
  command := 0
  dirSelect := 0
  eventMask := 0
  faultEvent := 0
  faultCode := 0
  faultPosition := 0
  cntInaug := 0
  cntRetries := 0
  cntCuts := 0
  cntRefusals := 0

/-- States of a read buffer (R379). -/
inductive BufState where
  | free | fetching | ready | prefetched
deriving DecidableEq, Repr

/-- A read buffer (R379). `relayed` and `target` are of the request it serves. -/
structure ReadBuf where
  st : BufState
  origin : Origin
  tag : Nat
  address : Nat
  length : Nat
  data : List Byte
  status : Nat
  effect : Bool
  since : Nat
deriving DecidableEq, Repr

def ReadBuf.reset : ReadBuf := ⟨.free, .hawser 0, 0, 0, 0, [], 0, false, 0⟩

/-- A relay entry (R386): the tool's address, port and tag, the target, whether it is for a read, and when it opened. -/
structure RelayEntry where
  address : Nat
  port : Nat
  tag : Nat
  target : Nat
  isRead : Bool
  at_ : Nat
deriving DecidableEq, Repr

/-- An entry of the posted-error log (R384). -/
structure PostedErr where
  address : Nat
  tag : Nat
  status : Nat
  target : Nat
deriving DecidableEq, Repr

/-- A remote write to the host area held over a sync point (R376). -/
structure HeldWrite where
  origin : Origin
  frame : SpliceFrame
deriving DecidableEq, Repr

/-- Splice (file 11) and its SPL registers. -/
structure Splice where
  linkUp : Bool
  bufs : Vector ReadBuf 16
  relays : List RelayEntry
  /-- Posted-error log, newest first. -/
  perr : List PostedErr
  perrOverflow : Nat
  /-- The kind 3 pass of this cycle has ended (R366); it had not at the last sync point. -/
  passDone : Bool
  regionLate : Bool
  held : List HeldWrite
  /-- Entries whose source is stale, in rising order (R365); the number of the entry that last wrote each byte of the Hawser region (R364). -/
  stale : List Nat
  wrote : List (Nat × Nat)
  /-- Event messages waiting (R383), those that ride from the next cycle on, and messages lost. -/
  events : List EventMsg
  eventsNew : List EventMsg
  /-- How many of the messages waiting may ride in this cycle: those behind a posted write that waits do not (R382). -/
  eventsReady : Nat
  eventsLost : Nat
  /-- Time of the last E225 and E228 (once per second). -/
  e225At : Option Nat
  e228At : Option Nat
  mapLast : Nat
  mapMax : Nat
  bufSelect : Nat
  perrSelect : Nat
  command : Nat
  eventMask : Nat
  faultEvent : Nat
  faultPosition : Nat
  faultEntry : Nat
  faultAddr : Nat
  cntRetries : Nat
  cntNoBuffer : Nat
  cntRefused : Nat
  cntExpired : Nat
  cntWrites : Nat
  cntReads : Nat
  cntHits : Nat
  cntDiscarded : Nat
deriving DecidableEq, Repr

def Splice.reset : Splice where
  linkUp := false
  bufs := Vector.replicate 16 ReadBuf.reset
  relays := []
  perr := []
  perrOverflow := 0
  passDone := false
  regionLate := false
  held := []
  stale := []
  wrote := []
  events := []
  eventsNew := []
  eventsReady := 0
  eventsLost := 0
  e225At := none
  e228At := none
  mapLast := 0
  mapMax := 0
  bufSelect := 0
  perrSelect := 0
  command := 0
  eventMask := 0
  faultEvent := 0
  faultPosition := 0
  faultEntry := 0
  faultAddr := 0
  cntRetries := 0
  cntNoBuffer := 0
  cntRefused := 0
  cntExpired := 0
  cntWrites := 0
  cntReads := 0
  cntHits := 0
  cntDiscarded := 0

/-- A referee's view of one car it referees (R405, R406): the positions of P and S there (0 absent), its holder (0 none, 1 P, 2 S), the failure count and the time P was last found ok. -/
structure Refereed where
  car : Nat
  holder : Nat
  fails : Nat
  pNotOkSince : Option Nat
deriving DecidableEq, Repr

def Refereed.reset : Refereed := ⟨0, 0, 0, none⟩

/-- The AUTH logic (R394, R409 to R411). -/
structure Auth where
  /-- Its command: hold; time of the last command; whether commands have lapsed. -/
  hold : Bool
  commandAt : Nat
  lapsed : Bool
  lapsedAt : Nat
  lapseNs : Nat
  /-- AUTH_OUT as commanded by the AUTH logic, and its readback. -/
  out : Bool
  readback : Bool
  /-- AUTH_IN, and since when it has read released. -/
  inp : Bool
  releasedAt : Nat
  /-- A collision has happened; the longer waits of R410 apply. -/
  collided : Bool
  mismatchAt : Option Nat
deriving DecidableEq, Repr

def Auth.reset : Auth := ⟨false, 0, true, 0, 0, false, false, false, 0, false, none⟩

/-- The twin block (file 12) and its TWN registers. -/
structure Twin where
  auth : Auth
  /-- The gate of R395 as the slices last saw it. -/
  gate : Bool
  gateAt : Nat
  /-- This module holds the Hitch: hold commanded for this cycle. -/
  hitch : Bool
  layer : Nat
  /-- The code E216 is due with once AUTH_OUT asserts; a self-assertion the Hawser island has still to record (R411). -/
  takeCode : Nat
  selfDue : Bool
  link : Bool
  phyUp : Bool
  missing : Nat
  valid : Nat
  beatNow : Bool
  beat : Option Heartbeat
  /-- A heartbeat of the twin came in the last completed cycle (R84). -/
  beatLast : Bool
  /-- The mirror received complete in this cycle, waiting for the next sync point; the slice records applied last with age 0 and the instants they describe (R399, R401). -/
  mirror : Option Mirror
  kept : Vector (Option MirrorSlice) 16
  keptAt : Vector Nat 16
  mirrorAge : Nat
  completeRun : Nat
  synchronised : Bool
  foreign : Bool
  slowPasses : Nat
  slowAxis : Nat
  /-- The next axis of the slow pass, as an index into the axes it covers (R398). -/
  slowNext : Nat
  /-- What the mirror frames of this cycle carry (R398, R400). -/
  sentMirror : Option Mirror
  sentSlow : List AxisRecord
  sizeKib : Nat
  verdict : Nat
  silent : Bool
  healthy : Bool
  /-- Common time, in ns, of the last sync point at which each slice's region completed (R403). -/
  completedAt : Vector Nat 16
  resign : Bool
  /-- A swap commanded since this time waits for its condition; resign has been set by a swap whose end is still to be raised (R422). -/
  swapAt : Option Nat
  swapSent : Bool
  takeback : Bool
  testMode : Bool
  startupHitch : Bool
  /-- Common time of the configuration handover and of the last train-wide reset (R420). -/
  handoverAt : Option Nat
  resetAt : Option Nat
  /-- Neither this module nor its twin has driven since the own handover (R511). -/
  firstHold : Bool
  low : Refereed
  high : Refereed
  lowPosition : Nat
  highPosition : Nat
  nomLow : Nat
  nomHigh : Nat
  sinceRef : Nat
  /-- The last decision (R407): none, or whether it was this module. -/
  lastX : Option Bool
  disagree : Bool
  noReferee : Bool
  pNotReadySince : Option Nat
  releasedRun : Nat
  handovers : Nat
  /-- Who holds the Hitch of the car, as far as this module knows: 0 nobody, 1 itself, 2 its twin (R402, log entry 151). -/
  holder : Nat
  lastCode : Nat
  gapUs : Nat
  /-- AUTH faults standing: code 1, 3, 4 (R403, R413), and the counts of cycles behind 3 and 4. -/
  fault1 : Bool
  fault3 : Bool
  fault4 : Bool
  run3 : Nat
  run4 : Nat
  command : Nat
  eventMask : Nat
  faultEvent : Nat
  faultCode : Nat
  cntDiscarded : Nat
  cntLinkLosses : Nat
  cntCollisions : Nat
  cntDisagreements : Nat
deriving DecidableEq, Repr

def Twin.reset : Twin where
  auth := Auth.reset
  gate := false
  gateAt := 0
  hitch := false
  layer := 0
  takeCode := 0
  selfDue := false
  link := false
  phyUp := false
  missing := 0
  valid := 0
  beatNow := false
  beat := none
  beatLast := false
  mirror := none
  kept := Vector.replicate 16 none
  keptAt := Vector.replicate 16 0
  mirrorAge := 255
  completeRun := 0
  synchronised := false
  foreign := false
  slowPasses := 0
  slowAxis := 0
  slowNext := 0
  sentMirror := none
  sentSlow := []
  sizeKib := 0
  verdict := 0
  silent := false
  healthy := false
  completedAt := Vector.replicate 16 0
  resign := false
  swapAt := none
  swapSent := false
  takeback := false
  testMode := false
  startupHitch := false
  handoverAt := none
  resetAt := none
  firstHold := false
  low := Refereed.reset
  high := Refereed.reset
  lowPosition := 0
  highPosition := 0
  nomLow := 0
  nomHigh := 0
  sinceRef := 15
  lastX := none
  disagree := false
  noReferee := false
  pNotReadySince := none
  releasedRun := 0
  handovers := 0
  holder := 0
  lastCode := 0
  gapUs := 0
  fault1 := false
  fault3 := false
  fault4 := false
  run3 := 0
  run4 := 0
  command := 0
  eventMask := 0
  faultEvent := 0
  faultCode := 0
  cntDiscarded := 0
  cntLinkLosses := 0
  cntCollisions := 0
  cntDisagreements := 0

/-- A region of the process image (R20 to R23): its two copies, the writer's completion, its age and its holdover flag (R41). -/
structure Region where
  visible : Mem
  shadow : Mem
  completed : Bool
  age : Nat
  holdover : Bool
deriving DecidableEq, Repr

/-- R514: cleared to 0, age 255 until first written. -/
def Region.reset : Region := ⟨[], [], false, 255, false⟩

end Sys2Proof.Machine
end

