-- ==== Sys2Proof/Machine/NodeState.lean ====
section
/-! DEFINITION. The state of the rest of the node: loop cell (file 02), power groups and Belay (07), clocks and islands (01, 16), plug and configuration (13), MSS (14), Logline (15), supply (16) and the NODE block (17). Plain data. -/

namespace Sys2Proof.Machine

/-- The clock of an island other than Hawser's (R37): its counter, a step in 1/65536 ns scheduled for the tick after the next sync point and whether that has come (R38), the instant of its last sync point and the multiple of T_CYC, as a count, that it was (R40; none since the island started), cycles without a transfer, holdover (R41). -/
structure Clock where
  counter : Counter
  pendingStep : Option Int
  stepReady : Bool
  syncAt : Nat
  lastMultiple : Option Int
  missed : Nat
  transferred : Bool
  holdover : Bool
deriving DecidableEq, Repr

def Clock.reset : Clock := ⟨Counter.reset, none, false, 0, none, 0, false, false⟩

/-- An island as NODE_RESET_DATA reports it (R513, R515), index 0…15 slice engines, 16…31 power islands, 32 Hawser, 33 MSS. `down`: in reset since this time. -/
structure Island where
  running : Bool
  cause : Nat
  resets : Nat
  downAt : Option Nat
deriving DecidableEq, Repr

def Island.reset : Island := ⟨false, 0, 0, none⟩

/-- A handshake channel (R36): the one that waits on it, and the island at its other end, 0…33 as in NODE_RESET_DATA, 34 the calendar domain. -/
structure Handshake where
  waiter : Waiter
  island : Fin 35
deriving DecidableEq, Repr

/-- The door-loop cell (R78 to R86). -/
structure LoopCell where
  /-- The channels command their switches closed; readbacks; cell current ≥ 10 mA. -/
  ch1 : Bool
  ch2 : Bool
  sw1 : Bool
  sw2 : Bool
  conducting : Bool
  latched : Bool
  latchCause : Nat
  test1 : Nat
  test2 : Nat
  /-- Time of the last passed test of each switch, and its overdue flag (R86). -/
  passed1 : Option Nat
  passed2 : Option Nat
  overdue1 : Bool
  overdue2 : Bool
  /-- Start of the 24 h when no test has passed (R86). -/
  startAt : Nat
  /-- Start of the last pulse test (R84); switch 2 is due at the next sync point; a commanded test. -/
  lastTest : Option Nat
  secondDue : Bool
  commanded : Bool
  /-- Disagreement per slice since this time (R83). -/
  discrepant : Vector (Option Nat) 16
  discrepantSlice : Nat
  /-- Closures made under R85 since the start: an even number means switch 1 first. -/
  closures : Nat
  command : Nat
  cntAborted : Nat
  cntRefused : Nat
deriving DecidableEq, Repr

def LoopCell.reset : LoopCell where
  ch1 := false
  ch2 := false
  sw1 := false
  sw2 := false
  conducting := false
  latched := false
  latchCause := 0
  test1 := 0
  test2 := 0
  passed1 := none
  passed2 := none
  overdue1 := false
  overdue2 := false
  startAt := 0
  lastTest := none
  secondDue := false
  commanded := false
  discrepant := Vector.replicate 16 none
  discrepantSlice := 0
  closures := 0
  command := 0
  cntAborted := 0
  cntRefused := 0

/-- A power group and its Belay arbiter (file 07), BLY registers. Requests themselves stand at their requesters. -/
structure Group where
  loadV : Nat
  motorV : Nat
  loadI : Nat
  motorI : Nat
  loadOut : Bool
  motorOut : Bool
  warning : Bool
  overTemp : Bool
  /-- Time of the last measurement (R230). -/
  measuredAt : Option Nat
  /-- What the arbiter last saw of each requester of its slices (nine to a slice): none, or whether it holds a grant, and since when; and since when it sees none (R240). -/
  seen : Vector (Option (Bool × Nat)) 72
  idleAt : Vector Nat 72
  lfsr : Nat
  /-- Common time of the last round (R240). -/
  roundAt : Nat
  reqSelect : Nat
  faultEvent : Nat
  faultInput : Nat
  faultIndex : Nat
  cntGrants : Nat
  cntMisses : Nat
  cntBites : Nat
  cntWarnings : Nat
  maxWait : Nat
  maxHold : Nat
deriving DecidableEq, Repr

def Group.reset : Group := ⟨0, 0, 0, 0, false, false, false, false, none, Vector.replicate 72 none, Vector.replicate 72 0, 0, 0, 0, 0, 0, 0, 0, 0, 0, 0, 0, 0⟩

/-- An entry of the activation journal (R430); slots 0xFF for none. -/
structure JournalEntry where
  kind : Nat
  sequence : Nat
  active : Nat
  previous : Nat
  probation : Nat
  activeVersion : Nat
  previousVersion : Nat
  progress : Nat
  barred : Nat
deriving DecidableEq, Repr

/-- What the MSS knows of a plug slot (CFG_SLOT_DATA, CFG_SLOT_VERSION). -/
structure SlotInfo where
  checked : Bool
  lastCode : Nat
  version : Nat
deriving DecidableEq, Repr

/-- What a command of the CFG or MSS block is waiting for. -/
inductive Busy where
  | none
  | checkSlot (slot : Nat)
  | eraseSlot (slot : Nat)
  | checkBank
  | commit (bytes : Nat)
  | attest (challenge : List Byte)
  | enrol (keys : List Byte)
deriving DecidableEq, Repr

/-- The Becket plug (file 13): presence by pin 7 and the NOR memory. -/
structure Plug where
  present : Bool
  nor : Mem
  /-- Slots that cannot be read until they are erased (R437). -/
  unreadable : List (Fin 4)
deriving DecidableEq, Repr

/-- The configuration loader and its CFG registers (file 13). -/
structure Cfg where
  /-- 0 not loaded, 1 loading, 2 configured, 3 configured from fallback, 4 unconfigured. -/
  state : Nat
  slot : Nat
  entry : Option JournalEntry
  returnPending : Bool
  activationPending : Bool
  /-- A failed probation waits for the swap condition to resign (R423, R445). -/
  resignDue : Bool
  /-- The module's healthy flag has cleared since the handover (R445). -/
  healthLost : Bool
  version : Nat
  code : Nat
  attempt : Nat
  section_ : Nat
  offset : Nat
  startAt : Nat
  loadMs : Nat
  thermal : Nat
  digest : List Byte
  /-- How the load ended, to take effect at the handover (CFG_STATUS.state), and the events of the load that wait for it (R447). -/
  outcome : Nat
  loadEvents : List (Nat × Nat)
  /-- What the loader has read of the bundle that passed, to be handed over (R24): parameters, config_version, digest. -/
  loaded : Option (Mem × Nat × List Byte)
  /-- Sequence of the last journal entry whose start or return E254 has told (R444, R445); kept through every reset. -/
  told : Option Nat
  /-- Probation count (R444): when hours began to count, door cycles and entries already written for. -/
  progress : Nat
  probAt : Nat
  progressAt : Nat
  /-- When the limit of probation was reached (R444); a trigger of the same cycle still decides (R449). -/
  passedAt : Option Nat
  /-- Sum of the enabled portals' door_cycles at the last progress (R444). -/
  cyclesSeen : Nat
  slotSelect : Nat
  slots : Vector SlotInfo 4
  busy : Busy
  cmdState : Nat
  cmdCode : Nat
  cmdSection : Nat
  commandSlot : Nat
  eventMask : Nat
  faultEvent : Nat
  faultCode : Nat
  cntFailed : Nat
  cntRefusals : Nat
  cntPlug : Nat
  cntJournal : Nat
deriving DecidableEq, Repr

def Cfg.reset : Cfg where
  state := 0
  slot := 0
  entry := none
  returnPending := false
  activationPending := false
  resignDue := false
  healthLost := false
  version := 0
  code := 0
  attempt := 0
  section_ := 0
  offset := 0
  startAt := 0
  loadMs := 0
  thermal := 0
  digest := []
  outcome := 0
  loadEvents := []
  loaded := none
  told := none
  progress := 0
  probAt := 0
  progressAt := 0
  passedAt := none
  cyclesSeen := 0
  slotSelect := 0
  slots := Vector.replicate 4 ⟨false, 0, 0⟩
  busy := .none
  cmdState := 0
  cmdCode := 0
  cmdSection := 0
  commandSlot := 0
  eventMask := 0
  faultEvent := 0
  faultCode := 0
  cntFailed := 0
  cntRefusals := 0
  cntPlug := 0
  cntJournal := 0

/-- A pair of public keys, Ed25519 and ML-DSA-65 (R457). -/
structure Anchor where
  ed : List Byte
  ml : List Byte
deriving DecidableEq, Repr

/-- The boot record (R453, R508); banks as false A, true B. -/
structure BootRecord where
  running : Bool
  trialNamed : Bool
  trialBank : Bool
  trialStarted : Bool
deriving DecidableEq, Repr

/-- One firmware bank: its 8 MiB NOR and whether it passed R455 since it was last written. -/
structure Bank8 where
  nor : Mem
  checked : Bool
  version : Nat
deriving DecidableEq, Repr

/-- The calendar domain (R464): TAI seconds and nanoseconds, TAI − UTC, time invalid, supercapacitor mV; its time was lost since the last start. -/
structure Calendar where
  tai : Nat
  ns : Nat
  utc : Int
  invalid : Bool
  supercap : Nat
  lost : Bool
  /-- Instant at which tai and ns were true. -/
  at_ : Nat
deriving DecidableEq, Repr

/-- A staging session (R467): target, whether open, MSS_STAGE_STATUS.state, bytes committed, and the offset of a busy commit. -/
structure Staging where
  target : Nat
  open_ : Bool
  state : Nat
  bytes : Nat
  offset : Nat
deriving DecidableEq, Repr

/-- The last impact (MSS_IMPACT), in 0.1 g, its axis and duration in ms. -/
structure Impact where
  peak : Nat
  axis : Nat
  duration : Nat
deriving DecidableEq, Repr

/-- An impact that lasts (R463): the common time of its begin, the largest magnitude squared in (0.01 g)², the largest component of each axis, and the time above threshold, ms. -/
structure ImpactRun where
  at_ : Nat
  square : Nat
  axes : Vector Int 3
  ms : Nat
deriving DecidableEq, Repr

/-- The MSS (file 14): processor, banks, trust anchors, sensors, calendar, staging, and the MSS registers. -/
structure Mss where
  boot : BootRecord
  bankA : Bank8
  bankB : Bank8
  /-- The bank that runs and whether it is on trial; the version and epoch it carries; recovery (R509). -/
  runBank : Bool
  trial : Bool
  fwVersion : Nat
  epoch : Nat
  recovery : Bool
  /-- OTP (R457): vendor sets, retirement fuse of set 0, owner generations programmed, epoch fuses. -/
  vendor : Vector Anchor 2
  retired0 : Bool
  owners : List Anchor
  minEpoch : Nat
  /-- Attestation key pair: its number in the entropy source; the certificate (R461). -/
  attest : Option Nat
  certificate : Option (List Byte)
  /-- The nonce issued and when (R459). -/
  nonce : Option (List Byte × Nat)
  window : Mem
  staging : Staging
  busy : Busy
  cmdState : Nat
  reason : Nat
  lastCode : Nat
  argument : Nat
  /-- The trial has run uninterrupted since; an MSS island reset has ended it (R456). -/
  confirmFrom : Option Nat
  trialOver : Bool
  temps : Vector Int 24
  tempPeaks : Vector Int 24
  rails : Vector Int 12
  railPeaks : Vector Int 12
  humidity : Int
  humidityPeak : Int
  acc : Vector Int 3
  accPeaks : Vector Int 3
  /-- Sum and number of the accelerations sampled in this cycle (R462). -/
  accSum : Vector Int 3
  accCount : Nat
  /-- A measurement has been taken since the start; the peaks are of those (MSS_SENSOR_DATA). -/
  sampled : Bool
  /-- Limits crossed (R463): case, rails 5…10 (out since, raised), humidity; impact since the last sync point. -/
  caseHigh : Bool
  railOut : Vector (Option Nat) 12
  railRaised : Vector Bool 12
  humHigh : Bool
  impactNow : Bool
  impact : Impact
  impactRun : Option ImpactRun
  /-- Operating time counted in MRAM, ns, and since when the module has been on (R462). -/
  operated : Nat
  onFrom : Option Nat
  /-- A beacon has stepped the calendar in this cycle (R474). -/
  stepped : Bool
  relayA : Nat
  relayB : Nat
  cal : Calendar
  /-- Parameters of the MSS are lost (R452); the flag of MSS_STATUS. -/
  paramFallback : Bool
  e251At : Option Nat
  /-- A restart waits until the module no longer drives (R445). -/
  restartDue : Bool
  /-- MSS_STAGE_CONTROL.target as last written; a session keeps its own target. -/
  stageTarget : Nat
  sensorSelect : Nat
  timeSetLo : Nat
  timeSet : Nat
  stageOffset : Nat
  eventMask : Nat
  faultEvent : Nat
  faultCode : Nat
  faultDetail : Nat
  taiLatched : Nat
  cntEcc : Nat
  cntResets : Nat
  cntRefusals : Nat
  cntImpacts : Nat
deriving DecidableEq, Repr

/-- DESIGN CHOICE, log entry 5: a module as first started, with erased banks, no owner and a calendar without time. -/
def Mss.reset : Mss where
  boot := ⟨false, false, false, false⟩
  bankA := ⟨[], false, 0⟩
  bankB := ⟨[], false, 0⟩
  runBank := false
  trial := false
  fwVersion := 0
  epoch := 0
  recovery := false
  vendor := Vector.replicate 2 ⟨[], []⟩
  retired0 := false
  owners := []
  minEpoch := 0
  attest := none
  certificate := none
  nonce := none
  window := []
  staging := ⟨0, false, 0, 0, 0⟩
  busy := .none
  cmdState := 0
  reason := 0
  lastCode := 0
  argument := 0
  confirmFrom := none
  trialOver := false
  temps := Vector.replicate 24 0
  tempPeaks := Vector.replicate 24 0
  rails := Vector.replicate 12 0
  railPeaks := Vector.replicate 12 0
  humidity := 0
  humidityPeak := 0
  acc := Vector.replicate 3 0
  accPeaks := Vector.replicate 3 0
  accSum := Vector.replicate 3 0
  accCount := 0
  sampled := false
  caseHigh := false
  railOut := Vector.replicate 12 none
  railRaised := Vector.replicate 12 false
  humHigh := false
  impactNow := false
  impact := ⟨0, 0, 0⟩
  impactRun := none
  operated := 0
  onFrom := none
  stepped := false
  relayA := 0
  relayB := 0
  cal := ⟨0, 0, 0, true, 0, false, 0⟩
  paramFallback := false
  e251At := none
  restartDue := false
  stageTarget := 0
  sensorSelect := 0
  timeSetLo := 0
  timeSet := 0
  stageOffset := 0
  eventMask := 0
  faultEvent := 0
  faultCode := 0
  faultDetail := 0
  taiLatched := 0
  cntEcc := 0
  cntResets := 0
  cntRefusals := 0
  cntImpacts := 0

/-- A taken record (R476, R484, R486): sequence number, store it is meant for (Ledger or Journal), and its bytes, the CRC included. -/
structure LogRec where
  seq : Nat
  ledger : Bool
  queue : Nat
  bytes : List Byte
deriving DecidableEq, Repr

/-- A flush (R479, R480): what is being committed. -/
structure Flush where
  trigger : Nat
  at_ : Nat
  upTo : Nat
deriving DecidableEq, Repr

/-- Flush state in the control area (R481). -/
inductive FlushState where
  | running | started | complete
deriving DecidableEq, Repr

/-- One copy of the MRAM control area (R480): whether its CRC is right, its age among the two, S, the write pointers of Ledger (records in programmed pages) and Journal, which of the two tail images holds the present page, the flush state, and the door cycles. -/
structure ControlArea where
  valid : Bool
  gen : Nat
  s : Nat
  ledgerAt : Nat
  journalAt : Nat
  tailAt : Fin 2
  flushState : FlushState
  doorCycles : Vector Nat 16
deriving DecidableEq, Repr

/-- A snapshot handle with its read window (R491, R492). -/
structure Handle where
  open_ : Bool
  s : Nat
  ledger : Nat
  journal : Nat
  select : Nat
  /-- A selection waits for its record. -/
  waiting : Bool
  ready : Bool
  outside : Bool
  readError : Bool
  crcBad : Bool
  window : List Byte
deriving DecidableEq, Repr

def Handle.reset : Handle := ⟨false, 0, 0, 0, 0, false, false, false, false, false, []⟩

/-- Logline (file 15) and its LOG registers. -/
structure Logline where
  recording : Bool
  /-- Taking stopped by the power-fail order (R481); the buffer stop of R478 stands. -/
  stopped : Bool
  bufferFull : Bool
  /-- The queue whose turn it is (R476). -/
  turn : Nat
  next : Nat
  s : Nat
  buffer : List LogRec
  flush : Option Flush
  /-- The trigger of a flush that is due. -/
  flushNext : Option Nat
  lastFlush : Nat
  flushTook : Nat
  flushTrigger : Nat
  /-- Records of the stores in their order, oldest first. Those of the Ledger fill its pages, and the last of them the present page (R480). -/
  ledger : List LogRec
  journal : List LogRec
  /-- Blocks marked bad (R487). -/
  badBlocks : Nat
  /-- The two copies of the control area, and the two page images of the Ledger tail area, each used in turn (R480, R488). -/
  controls : Vector ControlArea 2
  tail : Vector (List LogRec) 2
  /-- Teach store (R489), axis 3s + a: its two copies, each with its generation; none where no copy has been written. -/
  teach : Vector (Vector (Option (Nat × AxisRecord)) 2) 48
  ledgerFailed : Bool
  journalFailed : Bool
  ledgerCause : Nat
  journalCause : Nat
  ledgerFull : Bool
  ledger90 : Bool
  journalFull : Bool
  lastWord : Option (List Byte)
  /-- The losses of the intake queues at the failure of both stores, less the records that flushes have lost since (R496). -/
  lostBase : Int
  unclean : Bool
  /-- Losses found in the buffer by R482, for the next record taken. -/
  discarded : Nat
  e243At : Vector (Option Nat) 18
  handles : Vector Handle 4
  command : Nat
  eventMask : Nat
  faultEvent : Nat
  faultCode : Nat
  faultDetail : Nat
  cntFlushes : Nat
  cntBad : Nat
  cntReadErrors : Nat
  cntMirrorLost : Nat
  cntLosses : Nat
  lastLossQueue : Nat
deriving DecidableEq, Repr

/-- DESIGN CHOICE, log entry 5: empty stores, as before the module's first record (R476). -/
def Logline.reset : Logline where
  recording := false
  stopped := false
  bufferFull := false
  turn := 0
  next := 1
  s := 0
  buffer := []
  flush := none
  flushNext := none
  lastFlush := 0
  flushTook := 0
  flushTrigger := 0
  ledger := []
  journal := []
  badBlocks := 0
  controls := ⟨#[⟨true, 0, 0, 0, 0, 0, .complete, Vector.replicate 16 0⟩, ⟨false, 0, 0, 0, 0, 0, .complete, Vector.replicate 16 0⟩], rfl⟩
  tail := Vector.replicate 2 []
  teach := Vector.replicate 48 (Vector.replicate 2 none)
  ledgerFailed := false
  journalFailed := false
  ledgerCause := 0
  journalCause := 0
  ledgerFull := false
  ledger90 := false
  journalFull := false
  lastWord := none
  lostBase := 0
  unclean := false
  discarded := 0
  e243At := Vector.replicate 18 none
  handles := Vector.replicate 4 Handle.reset
  command := 0
  eventMask := 0
  faultEvent := 0
  faultCode := 0
  faultDetail := 0
  cntFlushes := 0
  cntBad := 0
  cntReadErrors := 0
  cntMirrorLost := 0
  cntLosses := 0
  lastLossQueue := 0

/-- The stages of a start (R507, R512). -/
inductive Stage where
  | off | qualified | booted | recovery | loading | running | unconfigured
deriving DecidableEq, Repr

/-- The control supply and the start (file 16), with NODE_START and NODE_SUPPLY. -/
structure Start where
  stage : Stage
  /-- X1 in 0.1 V; within its operating range (R503); warning and when it was raised; the supply-lost instant; released at 52 ms. -/
  x1 : Nat
  qualified : Bool
  warning : Bool
  warningAt : Nat
  lost : Bool
  released : Bool
  releasedAt : Nat
  /-- A commanded restart runs the order of R505 from 52 ms. -/
  commanded : Bool
  kind : Nat
  starts : Nat
deriving DecidableEq, Repr

def Start.reset : Start := ⟨.off, 0, false, false, 0, false, false, 0, false, 1, 0⟩

/-- An entry of the remote event queue (R530, R531). -/
structure RemoteEv where
  msg : EventMsg
  position : Nat
  generation : Nat
deriving DecidableEq, Repr

/-- The event side of the NODE block (R526 to R531). -/
structure NodeEvents where
  pending : Vector Nat 8
  subscribe : Vector Nat 8
  local_ : List EventMsg
  remote : List RemoteEv
  localLostFlag : Bool
  remoteLostFlag : Bool
  /-- Messages received in this cycle, waiting for the sync point (R530). -/
  arriving : List RemoteEv
  /-- The Hawser island's common time of its last sync point in ns, and whether it was in holdover then (NODE_TIME). -/
  syncTime : Nat
  syncHeld : Bool
  /-- Keys of messages delivered already, newest first (R530). -/
  seen : List (Nat × Nat × Nat)
  mask : Nat
  resetSelect : Nat
  cntLocal : Nat
  cntRemote : Nat
deriving DecidableEq, Repr

def NodeEvents.reset : NodeEvents where
  pending := Vector.replicate 8 0
  subscribe := Vector.replicate 8 0xFFFFFFFF
  syncTime := 0
  syncHeld := false
  local_ := []
  remote := []
  localLostFlag := false
  remoteLostFlag := false
  arriving := []
  seen := []
  mask := 0
  resetSelect := 0
  cntLocal := 0
  cntRemote := 0

/-- The response a fabric access completes with (R521). -/
inductive Response where
  | done | noTarget | notOwner | bankActive | alignment | stalled
deriving DecidableEq, Repr

/-- The last access the fabric completed for a sender: its response, and the word a read returned. -/
structure Access where
  response : Response
  data : Nat
  /-- The read changed state (R380). -/
  effect : Bool
deriving DecidableEq, Repr

def Access.reset : Access := ⟨.done, 0, false⟩

/-- A 32-bit access that waits at a host port: an offset in the slice's window, and the word of a write. -/
structure HostAccess where
  offset : Nat
  write : Option Nat
deriving DecidableEq, Repr

/-- The host port of a slice (R31): whom it served last, and the last answer to each of its two users. -/
structure HostPort where
  last : Option HostAgent
  splice : Access
  mss : Access
deriving DecidableEq, Repr

def HostPort.reset : HostPort := ⟨none, Access.reset, Access.reset⟩

end Sys2Proof.Machine
end

