-- ==== Sys2Proof/Syntax.lean ====
section
/-! DEFINITION. The commands of the block: one constructor per row of the operation table. The table gives no operands; those of each command are what the environment decides about it (log entry 2). -/

namespace Sys2Proof

/-- The commands, in the order of the operation table. -/
inductive Instr where
  /-- R21 -/
  | syncPoint (pulse : Pulse) (authIn : Bool)
  /-- R19 -/
  | pimWrite (agent : Agent) (offset value : Nat)
  /-- R31 -/
  | hostPortAccess (agent : HostAgent) (s : Fin 16) (x : Machine.HostAccess) (other : Option Machine.HostAccess)
  /-- R37 -/
  | timeTransfer (island : Fin 17) (t1 t2 t3 t4 : Int)
  /-- R38 -/
  | clockStepApply (island : Fin 18)
  /-- R41 -/
  | holdoverEntry (island : Fin 17)
  /-- R36 -/
  | handshakeChannelStalled (waiter : Waiter) (island : Fin 35)
  /-- R26 -/
  | intakeOffer (queue : Fin 18) (x : Machine.Intake)
  /-- R24 -/
  | configurationHandover
  /-- R65 -/
  | warnTimeExpiry (s : Fin 16)
  /-- R69 -/
  | lockPullExpiry (s : Fin 16)
  /-- R65 -/
  | lockConfirmTimeout (s : Fin 16)
  /-- R70 -/
  | s2WithoutS1Timeout (s : Fin 16)
  /-- R65 -/
  | unlockConfirmTimeout (s : Fin 16)
  /-- R69 -/
  | unlockPulseExpiry (s : Fin 16)
  /-- R65 -/
  | openTimeoutExpiry (s : Fin 16)
  /-- R65 -/
  | closeTimeoutExpiry (s : Fin 16)
  /-- R65 -/
  | stepStowTimeoutExpiry (s : Fin 16)
  /-- R65 -/
  | reclosePauseExpiry (s : Fin 16)
  /-- R66 -/
  | autoCloseExpiry (s : Fin 16)
  /-- R71 -/
  | egressHoldExpiry (s : Fin 16)
  /-- R75 -/
  | prtFaultReset (s : Fin 16)
  /-- R72 -/
  | prtEmergencyStaffReset (s : Fin 16)
  /-- R67 -/
  | prtRehome (s : Fin 16)
  /-- R78 -/
  | loopContactChange (s : Fin 16) (channel : Fin 2) (contact : Fin 3) (decivolts : Int) (held : Bool) (milliamps : Nat)
  /-- R83 -/
  | loopDiscrepancyTimeout (s : Fin 16)
  /-- R84 -/
  | loopTestDue
  /-- R86 -/
  | loopTestOverdue (second : Bool)
  /-- R84 -/
  | nodeLoopTestCommand
  /-- R100 -/
  | stepEdge (s : Fin 16) (a : Fin 3)
  /-- R120 -/
  | axStop (s : Fin 16) (a : Fin 3)
  /-- R110 -/
  | axTestMove (s : Fin 16) (a : Fin 3)
  /-- R130 -/
  | homeConfirmEdge (s : Fin 16) (a : Fin 3) (active : Bool)
  /-- R130 -/
  | homeChatterWindowEnd (s : Fin 16) (a : Fin 3)
  /-- R130 -/
  | homeConfirmWaitExpiry (s : Fin 16) (a : Fin 3)
  /-- R143 -/
  | estimatorPeriod (s : Fin 16) (x0 x1 x2 : PhaseAvg)
  /-- R164 -/
  | auxiliaryMoveReissue (s : Fin 16) (a : Fin 3)
  /-- R135 -/
  | bridgeOvercurrentTrip (s : Fin 16) (a : Fin 3)
  /-- R137 -/
  | isolatorConfirmed (s : Fin 16) (a : Fin 3) (short : Bool)
  /-- R153 -/
  | resistanceTrackingWindow (s : Fin 16) (a : Fin 3) (ua ia ub ib : Nat)
  /-- R151 -/
  | teachCycle (s : Fin 16)
  /-- R152 -/
  | teachCycleEnd (s : Fin 16) (a : Fin 3) (r l : Nat × Nat) (c ke noise : Nat)
  /-- R161 -/
  | envelopeReset (s : Fin 16) (a : Fin 3)
  /-- R160 -/
  | envelopeFreeze (s : Fin 16) (a : Fin 3)
  /-- R160 -/
  | envelopeEndFreeze (s : Fin 16) (a : Fin 3)
  /-- R177 -/
  | inputSample (s : Fin 16) (pins : Vector Int 16) (lines : Vector Int 5)
  /-- R180 -/
  | stuckTimeoutExpiry (s : Fin 16) (i : Fin 16)
  /-- R181 -/
  | chatterQuietExpiry (s : Fin 16) (i : Fin 16)
  /-- R179 -/
  | inputEdge (s : Fin 16) (i : Fin 16) (level : Bool)
  /-- R183 -/
  | twinCompareTimeout (s : Fin 16) (i : Fin 16)
  /-- R186 -/
  | analogueSample (s : Fin 16) (k : Fin 4) (millivolts : Nat)
  /-- R187 -/
  | excitationHoldEnd (s : Fin 16)
  /-- R190 -/
  | encoderEdge (s : Fin 16) (k : Fin 3) (a b z : Bool) (gapNs : Nat)
  /-- R192 -/
  | encoderLineBreak (s : Fin 16) (k : Fin 3) (x : LineBreak)
  /-- R192 -/
  | encoderSupplyLimit (s : Fin 16) (limit : Bool)
  /-- R203 -/
  | currentLimitEntry (s : Fin 16) (k : Fin 6)
  /-- R204 -/
  | thermalTrip (s : Fin 16) (k : Fin 6) (dt : Nat)
  /-- R205 -/
  | retryWaitEnd (s : Fin 16) (k : Fin 6) (dt : Nat)
  /-- R205 -/
  | tripCountReset (s : Fin 16) (k : Fin 6)
  /-- R206 -/
  | lswClearLatchOff (s : Fin 16) (k : Fin 6)
  /-- R210 -/
  | clampPulseEnd (s : Fin 16) (k : Fin 6) (millijoules : Nat)
  /-- R211 -/
  | offStateDiagnosticTest (s : Fin 16) (k : Fin 6) (high1 high2 : Bool)
  /-- R212 -/
  | undercurrentTimeout (s : Fin 16) (k : Fin 6) (milliamps : Nat)
  /-- R214 -/
  | tetherFrame (s : Fin 16) (f : TetherFrame)
  /-- R216 -/
  | tetherTimeout (s : Fin 16)
  /-- R222 -/
  | powerIslandLost (s : Fin 16)
  /-- R222 -/
  | tetherHandoverRepeat (s : Fin 16)
  /-- R223 -/
  | engineResume (s : Fin 16)
  /-- R225 -/
  | lswTetherTest (s : Fin 16)
  /-- R231 -/
  | groupSupplyRangeChange (g : Fin 2) (motor out : Bool) (decivolts : Nat)
  /-- R232 -/
  | groupCurrentWarning (g : Fin 2) (set : Bool) (loadDa motorDa : Nat)
  /-- R233 -/
  | groupOverTemperature (g : Fin 2) (deciC : Int)
  /-- R240 -/
  | arbitrationRound (x : GroupRound)
  /-- R236 -/
  | belayGrantArrival (s : Fin 16) (item : Fin 9)
  /-- R236 -/
  | inrushTimeExpiry (s : Fin 16) (item : Fin 9)
  /-- R243 -/
  | deadlineMissed (s : Fin 16) (item : Fin 9)
  /-- R244 -/
  | belayWatchdogBite (g : Fin 2)
  /-- R246 -/
  | arbiterFrameLoss (s : Fin 16)
  /-- R246 -/
  | arbitrationResume (s : Fin 16)
  /-- R252 -/
  | linkUp (port : Fin 4) (phyMaster : Bool)
  /-- R255 -/
  | linkDown (port : Fin 4)
  /-- R254 -/
  | linkDelayMeasurement (port : Fin 4) (t1 t2 t3 t4 : Int)
  /-- R263 -/
  | frameInsertion (c : Fin 2) (what : Slotted)
  /-- R275 -/
  | beaconReceive (port : Fin 4) (h : HwsHeader) (b : Beacon) (rx : Nat)
  /-- R272 -/
  | hawserFrameReceive (port : Fin 4) (h : HwsHeader) (body : Body) (arrival : Arrival) (startAt endAt : Nat)
  /-- R256 -/
  | ownFrameRemoval (c : Fin 2) (what : Slotted) (ok : Bool) (ringNs : Nat)
  /-- R281 -/
  | leftSchedule (c : Fin 2)
  /-- R266 -/
  | pollFrameReceive (c : Fin 2) (slots : List PollSlot)
  /-- R267 -/
  | containerPass (c : Fin 2) (index : Nat) (empty : Bool)
  /-- R267 -/
  | asyncBacklog (c : Fin 2)
  /-- R270 -/
  | hwsModeRequest (mode : Nat)
  /-- R269 -/
  | modeSwitch
  /-- R271 -/
  | channelDegraded (c : Fin 2)
  /-- R271 -/
  | autoReturn
  /-- R273 -/
  | slotStale (position : Fin 128) (c : Fin 2)
  /-- R278 -/
  | beaconLost
  /-- R280 -/
  | hwsUnfoldPort (port : Fin 4)
  /-- R257 -/
  | relayDriveStop (c : Fin 2)
  /-- R257 -/
  | bypassRelayMismatch (x : RelayReadback)
  /-- R292 -/
  | twinStateWaitEnd
  /-- R292 -/
  | channelBAdmission
  /-- R294 -/
  | listenWindowEnd (nonce : Nat)
  /-- R294 -/
  | coldStartFrameSend
  /-- R295 -/
  | coldStartFrameReceive (aft : Bool) (nonce : Nat) (digest : List Byte) (r : Nat)
  /-- R295 -/
  | contestTimeout
  /-- R296 -/
  | countReceive (aft : Bool) (nonce generation hop side : Nat)
  /-- R296 -/
  | reportReceive (aft : Bool) (rs : List Report)
  /-- R297 -/
  | countTimeout
  /-- R308 -/
  | directoryReceive (aft : Bool) (container : Bool) (d : Directory)
  /-- R309 -/
  | acceptanceCheck
  /-- R310 -/
  | directorySwitch
  /-- R290 -/
  | cancelOrResetReceive (generation code resetCycle : Nat)
  /-- R313 -/
  | helloReceive (port : Fin 4) (cycle : Nat) (h : Hello)
  /-- R313 -/
  | helloRepeat (port : Fin 4)
  /-- R314 -/
  | mergeStart (far : Bool) (partner generation : Nat) (reports : List (Nat × Report)) (timeOffset : Int) (fresh : Nat)
  /-- R314 -/
  | joiningSegmentTimeStep
  /-- R313 -/
  | ringRepairCollectEnd
  /-- R316 -/
  | deputyTakeover (nonce : Nat)
  /-- R317 -/
  | splitConfirmExpiry
  /-- R318 -/
  | insertionRequest (position : Nat) (r : InaRequest)
  /-- R318 -/
  | grantReceive (position channel switchCycle : Nat)
  /-- R321 -/
  | reintegration
  /-- R322 -/
  | hwsBarrierArrive (id : Nat)
  /-- R323 -/
  | trainWideReset
  /-- R323 -/
  | resetCycle
  /-- R336 -/
  | canFrameReceive (s : Fin 16) (f : CanFrame)
  /-- R338 -/
  | canFrameEnd (s : Fin 16) (sent : Bool) (sof : Nat)
  /-- R341 -/
  | basicCycleStart (s : Fin 16) (idle : Bool)
  /-- R344 -/
  | columnStart (s : Fin 16) (j : Nat) (idle : Bool)
  /-- R343 -/
  | referenceLate (s : Fin 16)
  /-- R340 -/
  | cbsTxRequest (s : Fin 16) (bits : Nat)
  /-- R355 -/
  | cbsTxCancel (s : Fin 16) (bits : Nat) (won : Bool)
  /-- R348 -/
  | cbsMatrixWrite (s : Fin 16) (value : Nat)
  /-- R349 -/
  | cbsBankSwitch (s : Fin 16)
  /-- R349 -/
  | cbsBankCopy (s : Fin 16)
  /-- R351 -/
  | canError (s : Fin 16) (kind : Nat) (dataPhase transmitter heavy : Bool)
  /-- R352 -/
  | busOffRecoveryComplete (s : Fin 16)
  /-- R352 -/
  | cbsRecoveryStart (s : Fin 16)
  /-- R354 -/
  | transceiverFault (s : Fin 16) (present : Bool)
  /-- R375 -/
  | spliceWrite (o : Origin) (f : SpliceFrame)
  /-- R379 -/
  | spliceRead (o : Origin) (f : SpliceFrame)
  /-- R380 -/
  | fetchComplete (b : Fin 16)
  /-- R380 -/
  | bufferHoldExpiry (b : Fin 16)
  /-- R386 -/
  | readResponseReceive (f : SpliceFrame)
  /-- R384 -/
  | writeErrorReceive (f : SpliceFrame)
  /-- R386 -/
  | relayTimeout (i : Nat)
  /-- R372 -/
  | servicePortPacket (p : Packet)
  /-- R384 -/
  | splClearPostedErrors
  /-- R379 -/
  | splFreeReadBuffers
  /-- R397 -/
  | heartbeatReceive (cycle : Nat) (h : Heartbeat)
  /-- R396 -/
  | twinLinkChange (up : Bool)
  /-- R398 -/
  | mirrorReceive (complete : Bool) (m : Machine.Mirror)
  /-- R400 -/
  | slowRecordApply (r : Machine.AxisRecord)
  /-- R409 -/
  | authAssert
  /-- R409 -/
  | authCommandLapse
  /-- R410 -/
  | authCollision
  /-- R411 -/
  | authSelfAssert
  /-- R413 -/
  | authReadbackMismatch (readback : Bool)
  /-- R413 -/
  | authInDisagreement
  /-- R416 -/
  | catchInFlight (s : Fin 16) (a : Fin 3) (valid : Bool) (angle : Nat)
  /-- R422 -/
  | twnSwap
  /-- R423 -/
  | twnWithdrawSwap
  /-- R420 -/
  | twnEnterTestMode
  /-- R420 -/
  | twnLeaveTestMode
  /-- R423 -/
  | swapTimeout
  /-- R447 -/
  | loaderRun
  /-- R437 -/
  | cfgCheckSlot (slot : Fin 4)
  /-- R440 -/
  | cfgActivateSlot (slot : Fin 4)
  /-- R441 -/
  | cfgReturnToPrevious
  /-- R446 -/
  | cfgEndProbation
  /-- R427 -/
  | cfgEraseSlot (slot : Fin 4)
  /-- R444 -/
  | probationProgress
  /-- R445 -/
  | probationFailure (cause : Fin 6)
  /-- R448 -/
  | plugFault (f : PlugError)
  /-- R451 -/
  | lockstepMismatch
  /-- R451 -/
  | eccError (double : Bool)
  /-- R451 -/
  | mssWatchdogExpiry
  /-- R467 -/
  | mssStageOpen (target : Nat)
  /-- R467 -/
  | mssCommit (bytes : Nat)
  /-- R467 -/
  | mssCloseSession
  /-- R455 -/
  | mssCheckInactiveBank
  /-- R456 -/
  | mssActivateBank
  /-- R468 -/
  | mssRestart
  /-- R460 -/
  | mssOwnerCommand (seed : Nat)
  /-- R461 -/
  | mssAttest
  /-- R458 -/
  | mssEnrol (o : Origin)
  /-- R459 -/
  | mssIssueNonce (fresh : List Byte)
  /-- R461 -/
  | mssExportAttestationKeys
  /-- R459 -/
  | nonceExpiry
  /-- R456 -/
  | firmwareConfirm
  /-- R462 -/
  | sensorSample (x : Readings)
  /-- R466 -/
  | mssTimeSet (o : Origin) (value : Nat)
  /-- R476 -/
  | recordTake
  /-- R479 -/
  | flushStart
  /-- R479 -/
  | flushIntervalExpiry
  /-- R480 -/
  | flushComplete (bad : Nat)
  /-- R481 -/
  | recorderTakingStop
  /-- R479 -/
  | logFlushNow
  /-- R496 -/
  | logClearLastWord
  /-- R491 -/
  | logSnapshotOpen (h : Fin 4)
  /-- R491 -/
  | logSnapshotClose (h : Fin 4)
  /-- R492 -/
  | logReadSelect (h : Fin 4) (value : Nat)
  /-- R492 -/
  | readWindowReady (h : Fin 4) (uncorrectable : Bool)
  /-- R493 -/
  | storeFailure (journal : Bool) (cause : Nat)
  /-- R495 -/
  | journalMirrorReceive (records : List (List Byte))
  /-- R482 -/
  | mssIslandRestartRecovery (failed : List Nat)
  /-- R498 -/
  | recorderStart
  /-- R503 -/
  | x1Qualified (decivolts : Nat)
  /-- R504 -/
  | powerFailWarning (decivolts : Nat)
  /-- R504 -/
  | powerFailWarningWithdrawn (decivolts : Nat)
  /-- R505 -/
  | supplyLost
  /-- R505 -/
  | shutdownRelease
  /-- R505 -/
  | powerFailReset
  /-- R506 -/
  | islandBrownOut (island : Fin 34)
  /-- R508 -/
  | bootBankSelect
  /-- R515 -/
  | islandRestart (island : Fin 34) (crcOk : Bool)
  /-- R547 -/
  | plugPresenceChange (present : Bool) (image : List (Nat × Byte))
  /-- R527 -/
  | eventDelivery (queue : Fin 18)
  /-- R528 -/
  | nodeEventPop
  /-- R528 -/
  | nodeRemotePop
  /-- R12 -/
  | counterReadClear (address : Nat)
  /-- R11 -/
  | registerWrite (address value : Nat)
  /-- R513 -/
  | islandSupervisorReset (island : Fin 34)
  /-- R293 -/
  | listenStart (r : Nat)
  /-- R318 -/
  | relayedRequestReceive (r : InaRequest)
  /-- R372 -/
  | servicePortLinkChange (up : Bool)
  /-- R464 -/
  | supercapacitorExhausted
  /-- R467 -/
  | mssCommitComplete
  /-- R437 -/
  | slotCheckComplete
  /-- R455 -/
  | bankCheckComplete
  /-- R458 -/
  | enrolmentComplete (seed : Nat)
  /-- R461 -/
  | attestationComplete
  /-- R429 -/
  | slotEraseComplete
deriving DecidableEq, Repr

end Sys2Proof
end

