-- ==== Sys2Proof/Decode.lean ====
section
/-! DEFINITION. Decoding: the operation table gives none of its rows any bits, so no word spells a command (log entry 6). -/

namespace Sys2Proof

/-- The command that a word of the table's bits spells: none, since no row gives bits. -/
def decodeTableWord (_nbits _w : Nat) : Option Instr := none

end Sys2Proof
end

