-- ==== Sys2Proof/Config.lean ====
section
/-! DEFINITION. What the spec leaves open: each constant is opaque, so no proof can see a value (log entry 1). A constant whose first argument is a draw number is applied to State.freeCount or to a time, so that each use is a fresh value. -/

namespace Sys2Proof.Config

/-- R100 holds speeds to 16 fraction bits and does not say how the square root is rounded: true rounds up. -/
opaque sqrtRoundsUp : Nat → Bool

/-- R143: square root, arc tangent (in microsteps of electrical angle), sine and cosine of an angle in microsteps, and 2π; the spec gives no precision for them. -/
opaque sqrtR : Rat → Rat
opaque atan2Micro : Rat → Rat → Rat
opaque sinMicro : Rat → Rat
opaque cosMicro : Rat → Rat
opaque twoPi : Rat

/-- A reported measurement is a whole number of its unit; the spec does not say which way an inexact one is rounded. -/
opaque reportsUp : Rat → Bool

/-- R143, R147: the spec gives no k_e, R_tot, L_tot and C for an axis without teach results; in µV·s/rad, mΩ, µH and pF, by axis s × 3 + a. -/
opaque untaughtKe : Nat → Nat
opaque untaughtR : Nat → Nat
opaque untaughtL : Nat → Nat
opaque untaughtC : Nat → Nat

/-- R69 gives flash periods and no phase: offset of slice `s`'s flashing in ns. -/
opaque flashPhase : Nat → Nat

/-- R173: places of the thresholds inside the band, for slice and input (log entry 115). -/
opaque riseThreshold : Nat → Nat → Nat
opaque fallThreshold : Nat → Nat → Nat

/-- R78: the same for the loop channel comparators: channel, slice, contact. -/
opaque loopRise : Nat → Nat → Nat → Nat
opaque loopFall : Nat → Nat → Nat → Nat

/-- A value the spec does not state, for a use number and a draw number. -/
opaque freeNat : Nat → Nat → Nat

/-- The MAC address of a tool on the service port, by its IPv4 address (R372). -/
opaque macOf : Nat → List Byte

/-- Random bytes, as those of a nonce: draw, index. -/
opaque freeByte : Nat → Nat → Byte

/-- Codes and details of events whose block's chapter gives none (R287, R389): event number and what its fault register shows (port, channel, position or entry). -/
opaque eventCode : Nat → Nat
opaque eventDetail : Nat → Nat → Nat → Nat → Nat

/-- Digests and signatures, over byte lists (R433, R435, R437, R461). -/
opaque sha512 : List Byte → List Byte
opaque sha256 : List Byte → List Byte
opaque ed25519Valid : List Byte → List Byte → List Byte → Bool
opaque mldsaValid : List Byte → List Byte → List Byte → Bool
/-- The attestation key pairs the entropy source gives, by the seed drawn (R458). -/
opaque edPublic : Nat → List Byte
opaque mldsaPublic : Nat → List Byte
opaque ed25519Sign : Nat → List Byte → List Byte
opaque mldsaSign : Nat → List Byte → List Byte

end Sys2Proof.Config
end

