-- ==== Sys2Proof/Machine/Memory.lean ====
section
/-! DEFINITION. Addressed memories in canonical form: reading and writing bytes and little-endian words (R8), and sparse tables of numbers. -/

namespace Sys2Proof.Machine

/-- One byte of a memory whose unlisted addresses read `d`. -/
def memGet (d : Byte) : Mem → Nat → Byte
  | [], _ => d
  | (k, v) :: t, a => if k = a then v else memGet d t a

/-- Write one byte; writing what an unlisted address reads as removes the entry. -/
def memSet (d : Byte) : Mem → Nat → Byte → Mem
  | [], a, v => if v = d then [] else [(a, v)]
  | (k, w) :: t, a, v =>
    if a < k then (if v = d then (k, w) :: t else (a, v) :: (k, w) :: t)
    else if a = k then (if v = d then t else (a, v) :: t)
    else (k, w) :: memSet d t a v

/-- The canonical form: addresses strictly rising, no entry equal to `d`. -/
def Memory.wf (d : Byte) : Mem → Bool
  | [] => true
  | (k, v) :: t => decide (v ≠ d) && t.all (fun c => decide (k < c.1)) && Memory.wf d t

/-- Write a run of bytes from address `a` upwards. -/
def memSetBytes (d : Byte) (m : Mem) (a : Nat) : List Byte → Mem
  | [] => m
  | b :: t => memSetBytes d (memSet d m a b) (a + 1) t

/-- Read `n` bytes from address `a` upwards. -/
def memGetBytes (d : Byte) (m : Mem) (a : Nat) : Nat → List Byte
  | 0 => []
  | n + 1 => memGet d m a :: memGetBytes d m (a + 1) n

/-- The `n` little-endian bytes of a number (R8). -/
def leBytes : Nat → Nat → List Byte
  | 0, _ => []
  | n + 1, v => BitVec.ofNat 8 v :: leBytes n (v / 256)

/-- The number that little-endian bytes spell (R8). -/
def leNat : List Byte → Nat
  | [] => 0
  | b :: t => b.toNat + 256 * leNat t

def memGetLe (d : Byte) (m : Mem) (a n : Nat) : Nat := leNat (memGetBytes d m a n)
def memSetLe (d : Byte) (m : Mem) (a n v : Nat) : Mem := memSetBytes d m a (leBytes n v)

/-- RAM that nothing has written reads 0 (R360, R514). -/
def ramDefault : Byte := 0

/-- Erased NOR flash. DESIGN CHOICE, log entry 4. -/
def norDefault : Byte := 0xFF

/-- A sparse table of numbers, unlisted keys 0. -/
def tabGet (t : List (Nat × Nat)) (k : Nat) : Nat :=
  match t with
  | [] => 0
  | (j, v) :: r => if j = k then v else tabGet r k

/-- Write one key of a table; keys stay in rising order and a value 0 is not listed. -/
def tabSet (t : List (Nat × Nat)) (k v : Nat) : List (Nat × Nat) :=
  t.filter (fun x => decide (x.1 < k)) ++ ((if v = 0 then [] else [(k, v)]) ++ t.filter (fun x => decide (k < x.1)))

/-- Fields of the handed-over configuration (R24): section `ty`, byte offset `off`. The parameters are one memory keyed by section and offset. -/
def cfgKey (ty off : Nat) : Nat := ty * 0x100000 + off
def u8 (p : Mem) (ty off : Nat) : Nat := (memGet ramDefault p (cfgKey ty off)).toNat
def u16 (p : Mem) (ty off : Nat) : Nat := memGetLe ramDefault p (cfgKey ty off) 2
def u32 (p : Mem) (ty off : Nat) : Nat := memGetLe ramDefault p (cfgKey ty off) 4
def i32 (p : Mem) (ty off : Nat) : Int := toInt32 (u32 p ty off)

end Sys2Proof.Machine
end

