-- ==== Sys2Proof/Machine/Operands.lean ====
section
/-! DEFINITION. The fields of the configuration sections, one accessor per field (the operands of the engines), and what the spec derives from them. `p` is the handed-over parameter memory. -/

namespace Sys2Proof.Machine

/-- 0x0010 portal_enable, R88: Bit s per slice; bits 8…15 = 0 on HV9608. -/
def cfgPrtPortalEnable (p : Mem) : Nat := u16 p 0x10 (0)

/-- 0x0010 release_mode, R88: 0…2. -/
def cfgPrtReleaseMode (p : Mem) : Nat := u8 p 0x10 (2)

/-- 0x0010 line_side_mode, R88: 0…1. -/
def cfgPrtLineSideMode (p : Mem) : Nat := u8 p 0x10 (3)

/-- 0x0010 loop_test_interval, R88: 10…3 600 s. -/
def cfgPrtLoopTestInterval (p : Mem) : Nat := u16 p 0x10 (4)

/-- 0x0010 loop_discrepancy_time, R88: 5…100 ms. -/
def cfgPrtLoopDiscrepancyTime (p : Mem) : Nat := u16 p 0x10 (6)

/-- 0x0010 close_sources, R88: Bits [2:0]: hardwired close, Hawser close, local close; [7:3] = 0. -/
def cfgPrtCloseSources (p : Mem) : Nat := u8 p 0x10 (8)

/-- 0x0010 train_line_debounce, R88: 0…50 ms. -/
def cfgPrtTrainLineDebounce (p : Mem) : Nat := u8 p 0x10 (9)

/-- 0x0010 side, R89: 0 left, 1 right. -/
def cfgPrtSide (p : Mem) (s : Nat) : Nat := u8 p 0x10 (16 + s * 64 + 0)

/-- 0x0010 flags, R89: [0] crew, [1] auto_open, [2] iso_allowed, [3] step_present, [4] held_lock, [5] emerg_staff_reset, [6] egress_assist, [7] = 0. -/
def cfgPrtFlags (p : Mem) (s : Nat) : Nat := u8 p 0x10 (16 + s * 64 + 1)

/-- 0x0010 in_s1, R89: 0…15. -/
def cfgPrtInS1 (p : Mem) (s : Nat) : Nat := u8 p 0x10 (16 + s * 64 + 2)

/-- 0x0010 in_s2, R89: 0…15. -/
def cfgPrtInS2 (p : Mem) (s : Nat) : Nat := u8 p 0x10 (16 + s * 64 + 3)

/-- 0x0010 in_step_stowed, R89: 0…15, 0xFF. -/
def cfgPrtInStepStowed (p : Mem) (s : Nat) : Nat := u8 p 0x10 (16 + s * 64 + 4)

/-- 0x0010 in_isolation, R89: 0…15, 0xFF. -/
def cfgPrtInIsolation (p : Mem) (s : Nat) : Nat := u8 p 0x10 (16 + s * 64 + 5)

/-- 0x0010 in_egress, R89: 0…15, 0xFF. -/
def cfgPrtInEgress (p : Mem) (s : Nat) : Nat := u8 p 0x10 (16 + s * 64 + 6)

/-- 0x0010 in_access, R89: 0…15, 0xFF. -/
def cfgPrtInAccess (p : Mem) (s : Nat) : Nat := u8 p 0x10 (16 + s * 64 + 7)

/-- 0x0010 in_open_inside, R89: 0…15, 0xFF. -/
def cfgPrtInOpenInside (p : Mem) (s : Nat) : Nat := u8 p 0x10 (16 + s * 64 + 8)

/-- 0x0010 in_open_outside, R89: 0…15, 0xFF. -/
def cfgPrtInOpenOutside (p : Mem) (s : Nat) : Nat := u8 p 0x10 (16 + s * 64 + 9)

/-- 0x0010 in_close, R89: 0…15, 0xFF. -/
def cfgPrtInClose (p : Mem) (s : Nat) : Nat := u8 p 0x10 (16 + s * 64 + 10)

/-- 0x0010 unlock_channel, R89: 1…5, 0xFF. -/
def cfgPrtUnlockChannel (p : Mem) (s : Nat) : Nat := u8 p 0x10 (16 + s * 64 + 11)

/-- 0x0010 lamp_channel, R89: 2…5. -/
def cfgPrtLampChannel (p : Mem) (s : Nat) : Nat := u8 p 0x10 (16 + s * 64 + 12)

/-- 0x0010 buzzer_channel, R89: 2…5. -/
def cfgPrtBuzzerChannel (p : Mem) (s : Nat) : Nat := u8 p 0x10 (16 + s * 64 + 13)

/-- 0x0010 step_order, R89: 0…1. -/
def cfgPrtStepOrder (p : Mem) (s : Nat) : Nat := u8 p 0x10 (16 + s * 64 + 14)

/-- 0x0010 fault_axis_mode, R89: 0…1. -/
def cfgPrtFaultAxisMode (p : Mem) (s : Nat) : Nat := u8 p 0x10 (16 + s * 64 + 15)

/-- 0x0010 warn_time, R89: 0…10 000 ms. -/
def cfgPrtWarnTime (p : Mem) (s : Nat) : Nat := u16 p 0x10 (16 + s * 64 + 16)

/-- 0x0010 lock_pull_ms, R89: 50…2 000 ms. -/
def cfgPrtLockPullMs (p : Mem) (s : Nat) : Nat := u16 p 0x10 (16 + s * 64 + 18)

/-- 0x0010 unlock_pulse_ms, R89: 50…2 000 ms. -/
def cfgPrtUnlockPulseMs (p : Mem) (s : Nat) : Nat := u16 p 0x10 (16 + s * 64 + 20)

/-- 0x0010 lock_confirm_ms, R89: 100…5 000 ms. -/
def cfgPrtLockConfirmMs (p : Mem) (s : Nat) : Nat := u16 p 0x10 (16 + s * 64 + 22)

/-- 0x0010 unlock_confirm_ms, R89: 100…5 000 ms. -/
def cfgPrtUnlockConfirmMs (p : Mem) (s : Nat) : Nat := u16 p 0x10 (16 + s * 64 + 24)

/-- 0x0010 open_timeout, R89: 1 000…20 000 ms. -/
def cfgPrtOpenTimeout (p : Mem) (s : Nat) : Nat := u16 p 0x10 (16 + s * 64 + 26)

/-- 0x0010 close_timeout, R89: 1 000…20 000 ms. -/
def cfgPrtCloseTimeout (p : Mem) (s : Nat) : Nat := u16 p 0x10 (16 + s * 64 + 28)

/-- 0x0010 s1_window, R89: 0…500, unit 0.1 mm. -/
def cfgPrtS1Window (p : Mem) (s : Nat) : Nat := u16 p 0x10 (16 + s * 64 + 30)

/-- 0x0010 auto_close, R89: 0 off, 1…6 000, unit 0.1 s. -/
def cfgPrtAutoClose (p : Mem) (s : Nat) : Nat := u16 p 0x10 (16 + s * 64 + 32)

/-- 0x0010 reopen_limit, R89: 0…10. -/
def cfgPrtReopenLimit (p : Mem) (s : Nat) : Nat := u8 p 0x10 (16 + s * 64 + 34)

/-- 0x0010 reopen_mode, R89: 0 full open, 1 partial. -/
def cfgPrtReopenMode (p : Mem) (s : Nat) : Nat := u8 p 0x10 (16 + s * 64 + 35)

/-- 0x0010 reopen_distance, R89: 100…12 000, unit 0.1 mm. -/
def cfgPrtReopenDistance (p : Mem) (s : Nat) : Nat := u16 p 0x10 (16 + s * 64 + 36)

/-- 0x0010 reclose_pause_ms, R89: 0…10 000 ms. -/
def cfgPrtReclosePauseMs (p : Mem) (s : Nat) : Nat := u16 p 0x10 (16 + s * 64 + 38)

/-- 0x0010 egress_hold_ms, R89: 0…10 000 ms. -/
def cfgPrtEgressHoldMs (p : Mem) (s : Nat) : Nat := u16 p 0x10 (16 + s * 64 + 40)

/-- 0x0010 step_stow_timeout, R89: 500…10 000 ms. -/
def cfgPrtStepStowTimeout (p : Mem) (s : Nat) : Nat := u16 p 0x10 (16 + s * 64 + 42)

/-- 0x0011 role, R133: 0 unused, 1 leaf, 2 step, 3 gap filler, 4 plug swing. -/
def cfgAxRole (p : Mem) (s : Nat) (a : Nat) : Nat := u8 p 0x11 ((s * 3 + a) * 224 + 0)

/-- 0x0011 flags, R133: [0] dir_invert, [1] soft_limits, [2] geared, [7:3] = 0. -/
def cfgAxFlags (p : Mem) (s : Nat) (a : Nat) : Nat := u8 p 0x11 ((s * 3 + a) * 224 + 1)

/-- 0x0011 home_stage, R133: 0…2. -/
def cfgAxHomeStage (p : Mem) (s : Nat) (a : Nat) : Nat := u8 p 0x11 ((s * 3 + a) * 224 + 2)

/-- 0x0011 gear_source, R133: 0 ENC0, 1 ENC1, 2 ENC2, 4 A0, 5 A1, 6 A2. -/
def cfgAxGearSource (p : Mem) (s : Nat) (a : Nat) : Nat := u8 p 0x11 ((s * 3 + a) * 224 + 3)

/-- 0x0011 steps_per_mm, R133: 0x0001_0000…0x0400_0000, Q16.16. -/
def cfgAxStepsPerMm (p : Mem) (s : Nat) (a : Nat) : Nat := u32 p 0x11 ((s * 3 + a) * 224 + 4)

/-- 0x0011 soft_min, R133: Signed, −2^31…2^31 − 1. -/
def cfgAxSoftMin (p : Mem) (s : Nat) (a : Nat) : Int := i32 p 0x11 ((s * 3 + a) * 224 + 8)

/-- 0x0011 soft_max, R133: Signed, > soft_min. -/
def cfgAxSoftMax (p : Mem) (s : Nat) (a : Nat) : Int := i32 p 0x11 ((s * 3 + a) * 224 + 12)

/-- 0x0011 v_start, R133: 1…1 000 000 microsteps/s. -/
def cfgAxVStart (p : Mem) (s : Nat) (a : Nat) (j : Nat) : Nat := u32 p 0x11 ((s * 3 + a) * 224 + 16 + 32 * j)

/-- 0x0011 a1, R133: 100…20 000 000 microsteps/s². -/
def cfgAxA1 (p : Mem) (s : Nat) (a : Nat) (j : Nat) : Nat := u32 p 0x11 ((s * 3 + a) * 224 + 20 + 32 * j)

/-- 0x0011 v1, R133: 1…1 000 000 microsteps/s. -/
def cfgAxV1 (p : Mem) (s : Nat) (a : Nat) (j : Nat) : Nat := u32 p 0x11 ((s * 3 + a) * 224 + 24 + 32 * j)

/-- 0x0011 a2, R133: 100…20 000 000 microsteps/s². -/
def cfgAxA2 (p : Mem) (s : Nat) (a : Nat) (j : Nat) : Nat := u32 p 0x11 ((s * 3 + a) * 224 + 28 + 32 * j)

/-- 0x0011 v_max, R133: 1…1 000 000 microsteps/s. -/
def cfgAxVMax (p : Mem) (s : Nat) (a : Nat) (j : Nat) : Nat := u32 p 0x11 ((s * 3 + a) * 224 + 32 + 32 * j)

/-- 0x0011 d2, R133: 100…20 000 000 microsteps/s². -/
def cfgAxD2 (p : Mem) (s : Nat) (a : Nat) (j : Nat) : Nat := u32 p 0x11 ((s * 3 + a) * 224 + 36 + 32 * j)

/-- 0x0011 d1, R133: 100…20 000 000 microsteps/s². -/
def cfgAxD1 (p : Mem) (s : Nat) (a : Nat) (j : Nat) : Nat := u32 p 0x11 ((s * 3 + a) * 224 + 40 + 32 * j)

/-- 0x0011 v_stop, R133: 1…1 000 000 microsteps/s. -/
def cfgAxVStop (p : Mem) (s : Nat) (a : Nat) (j : Nat) : Nat := u32 p 0x11 ((s * 3 + a) * 224 + 44 + 32 * j)

/-- 0x0011 home_dir, R133: 0 negative, 1 positive. -/
def cfgAxHomeDir (p : Mem) (s : Nat) (a : Nat) : Nat := u8 p 0x11 ((s * 3 + a) * 224 + 144)

/-- 0x0011 home_confirm_input, R133: 0…15, 0xFF. -/
def cfgAxHomeConfirmInput (p : Mem) (s : Nat) (a : Nat) : Nat := u8 p 0x11 ((s * 3 + a) * 224 + 145)

/-- 0x0011 home_chatter_ms, R133: 0…50 ms. -/
def cfgAxHomeChatterMs (p : Mem) (s : Nat) (a : Nat) : Nat := u16 p 0x11 ((s * 3 + a) * 224 + 146)

/-- 0x0011 home_speed, R133: 1 000…1 000 000 microsteps/s. -/
def cfgAxHomeSpeed (p : Mem) (s : Nat) (a : Nat) : Nat := u32 p 0x11 ((s * 3 + a) * 224 + 148)

/-- 0x0011 home_max_travel, R133: 1 000…2^31 − 1 microsteps. -/
def cfgAxHomeMaxTravel (p : Mem) (s : Nat) (a : Nat) : Nat := u32 p 0x11 ((s * 3 + a) * 224 + 152)

/-- 0x0011 home_latch_window, R133: 0…1 000 000 microsteps. -/
def cfgAxHomeLatchWindow (p : Mem) (s : Nat) (a : Nat) : Nat := u32 p 0x11 ((s * 3 + a) * 224 + 156)

/-- 0x0011 home_position, R133: Signed. -/
def cfgAxHomePosition (p : Mem) (s : Nat) (a : Nat) : Int := i32 p 0x11 ((s * 3 + a) * 224 + 160)

/-- 0x0011 home_relatch_limit, R133: 1…7. -/
def cfgAxHomeRelatchLimit (p : Mem) (s : Nat) (a : Nat) : Nat := u8 p 0x11 ((s * 3 + a) * 224 + 164)

/-- 0x0011 gear_lag_limit, R133: 16…65 535 microsteps. -/
def cfgAxGearLagLimit (p : Mem) (s : Nat) (a : Nat) : Nat := u16 p 0x11 ((s * 3 + a) * 224 + 166)

/-- 0x0011 gear_ratio0, R133: Signed Q16.16. -/
def cfgAxGearRatio0 (p : Mem) (s : Nat) (a : Nat) : Int := i32 p 0x11 ((s * 3 + a) * 224 + 168)

/-- 0x0011 gear_master_ref, R133: Signed. -/
def cfgAxGearMasterRef (p : Mem) (s : Nat) (a : Nat) : Int := i32 p 0x11 ((s * 3 + a) * 224 + 172)

/-- 0x0011 gear_follower_ref, R133: Signed. -/
def cfgAxGearFollowerRef (p : Mem) (s : Nat) (a : Nat) : Int := i32 p 0x11 ((s * 3 + a) * 224 + 176)

/-- 0x0011 gear_break_count, R133: 0…4. -/
def cfgAxGearBreakCount (p : Mem) (s : Nat) (a : Nat) : Nat := u8 p 0x11 ((s * 3 + a) * 224 + 180)

/-- 0x0011 break_pos, R133: Signed, increasing in i. -/
def cfgAxBreakPos (p : Mem) (s : Nat) (a : Nat) (i : Nat) : Int := i32 p 0x11 ((s * 3 + a) * 224 + 184 + 8 * i)

/-- 0x0011 break_ratio, R133: Signed Q16.16. -/
def cfgAxBreakRatio (p : Mem) (s : Nat) (a : Nat) (i : Nat) : Int := i32 p 0x11 ((s * 3 + a) * 224 + 188 + 8 * i)

/-- 0x0012 drive_flags, R170: [0] field_clamp, [1] obstacle_enable, [2] env_freeze, [3] boost_enable, [4] edge_fault_mode, [7:5] = 0. -/
def cfgDrvDriveFlags (p : Mem) (s : Nat) (a : Nat) : Nat := u8 p 0x12 ((s * 3 + a) * 64 + 0)

/-- 0x0012 edge_input, R170: 0…3 for AN0…AN3, 0xFF. -/
def cfgDrvEdgeInput (p : Mem) (s : Nat) (a : Nat) : Nat := u8 p 0x12 ((s * 3 + a) * 64 + 1)

/-- 0x0012 run_current, R170: 100…2 500 mA rms. -/
def cfgDrvRunCurrent (p : Mem) (s : Nat) (a : Nat) : Nat := u16 p 0x12 ((s * 3 + a) * 64 + 2)

/-- 0x0012 hold_current, R170: 0…2 500 mA rms. -/
def cfgDrvHoldCurrent (p : Mem) (s : Nat) (a : Nat) : Nat := u16 p 0x12 ((s * 3 + a) * 64 + 4)

/-- 0x0012 boost_current, R170: 0…4 240 mA rms. -/
def cfgDrvBoostCurrent (p : Mem) (s : Nat) (a : Nat) : Nat := u16 p 0x12 ((s * 3 + a) * 64 + 6)

/-- 0x0012 mode_threshold, R170: 1 000…1 000 000 microsteps/s. -/
def cfgDrvModeThreshold (p : Mem) (s : Nat) (a : Nat) : Nat := u32 p 0x12 ((s * 3 + a) * 64 + 8)

/-- 0x0012 lambda_valid_speed, R170: 1 000…1 000 000 microsteps/s. -/
def cfgDrvLambdaValidSpeed (p : Mem) (s : Nat) (a : Nat) : Nat := u32 p 0x12 ((s * 3 + a) * 64 + 12)

/-- 0x0012 motor_r, R170: 100…50 000 mΩ. -/
def cfgDrvMotorR (p : Mem) (s : Nat) (a : Nat) : Nat := u16 p 0x12 ((s * 3 + a) * 64 + 16)

/-- 0x0012 motor_l, R170: 100…60 000 µH. -/
def cfgDrvMotorL (p : Mem) (s : Nat) (a : Nat) : Nat := u16 p 0x12 ((s * 3 + a) * 64 + 18)

/-- 0x0012 motor_ke, R170: 100…60 000 µV·s/rad, per electrical radian. -/
def cfgDrvMotorKe (p : Mem) (s : Nat) (a : Nat) : Nat := u16 p 0x12 ((s * 3 + a) * 64 + 20)

/-- 0x0012 current_slew, R170: 10…500 mA per PWM period. -/
def cfgDrvCurrentSlew (p : Mem) (s : Nat) (a : Nat) : Nat := u16 p 0x12 ((s * 3 + a) * 64 + 22)

/-- 0x0012 f_per_a, R170: 0x0000_8000…0x0100_0000, Q16.16 N/A. -/
def cfgDrvFPerA (p : Mem) (s : Nat) (a : Nat) : Nat := u32 p 0x12 ((s * 3 + a) * 64 + 24)

/-- 0x0012 force_ceiling, R170: 50…400 N. -/
def cfgDrvForceCeiling (p : Mem) (s : Nat) (a : Nat) : Nat := u16 p 0x12 ((s * 3 + a) * 64 + 28)

/-- 0x0012 env_margin, R170: 10…200 N. -/
def cfgDrvEnvMargin (p : Mem) (s : Nat) (a : Nat) : Nat := u16 p 0x12 ((s * 3 + a) * 64 + 30)

/-- 0x0012 transient_allowance, R170: 0…100 N. -/
def cfgDrvTransientAllowance (p : Mem) (s : Nat) (a : Nat) : Nat := u16 p 0x12 ((s * 3 + a) * 64 + 32)

/-- 0x0012 obstacle_confirm, R170: 1…64 periods. -/
def cfgDrvObstacleConfirm (p : Mem) (s : Nat) (a : Nat) : Nat := u8 p 0x12 ((s * 3 + a) * 64 + 34)

/-- 0x0012 est_tau, R170: 1…40, unit 0.1 ms. -/
def cfgDrvEstTau (p : Mem) (s : Nat) (a : Nat) : Nat := u8 p 0x12 ((s * 3 + a) * 64 + 35)

/-- 0x0012 clamp_angle, R170: 16…60 units of 1/256 el. rev. -/
def cfgDrvClampAngle (p : Mem) (s : Nat) (a : Nat) : Nat := u8 p 0x12 ((s * 3 + a) * 64 + 36)

/-- 0x0012 stall_ratio, R170: 10…80 %. -/
def cfgDrvStallRatio (p : Mem) (s : Nat) (a : Nat) : Nat := u8 p 0x12 ((s * 3 + a) * 64 + 37)

/-- 0x0012 stall_confirm, R170: 8…400 periods. -/
def cfgDrvStallConfirm (p : Mem) (s : Nat) (a : Nat) : Nat := u16 p 0x12 ((s * 3 + a) * 64 + 38)

/-- 0x0012 env_span, R170: Signed, 1 000 ≤ \env_span\ ≤ 2^31 − 1 microsteps. -/
def cfgDrvEnvSpan (p : Mem) (s : Nat) (a : Nat) : Int := i32 p 0x12 ((s * 3 + a) * 64 + 40)

/-- 0x0012 env_origin, R170: Signed. -/
def cfgDrvEnvOrigin (p : Mem) (s : Nat) (a : Nat) : Int := i32 p 0x12 ((s * 3 + a) * 64 + 44)

/-- 0x0012 low_current_ceiling, R170: 100…6 000 mA, amplitude. -/
def cfgDrvLowCurrentCeiling (p : Mem) (s : Nat) (a : Nat) : Nat := u16 p 0x12 ((s * 3 + a) * 64 + 48)

/-- 0x0012 current_confirm, R170: 1…400 periods. -/
def cfgDrvCurrentConfirm (p : Mem) (s : Nat) (a : Nat) : Nat := u16 p 0x12 ((s * 3 + a) * 64 + 50)

/-- 0x0012 slip_limit, R170: 256…1 000 000 microsteps. -/
def cfgDrvSlipLimit (p : Mem) (s : Nat) (a : Nat) : Nat := u32 p 0x12 ((s * 3 + a) * 64 + 52)

/-- 0x0012 teach_cycles, R170: 1…8. -/
def cfgDrvTeachCycles (p : Mem) (s : Nat) (a : Nat) : Nat := u8 p 0x12 ((s * 3 + a) * 64 + 56)

/-- 0x0013 train_line_class, R195: 0…5. -/
def cfgInpTrainLineClass (p : Mem) : Nat := u8 p 0x13 (0)

/-- 0x0013 in_flags, R196: [2:0] class 0…5, [3] invert, [4] safe_value, [7:5] = 0. -/
def cfgInpInFlags (p : Mem) (s : Nat) (i : Nat) : Nat := u8 p 0x13 (16 + s * 192 + 8 * i)

/-- 0x0013 debounce_ms, R196: 0…50 ms. -/
def cfgInpDebounceMs (p : Mem) (s : Nat) (i : Nat) : Nat := u8 p 0x13 (16 + s * 192 + 8 * i + 1)

/-- 0x0013 chatter_limit, R196: 0 off, 2…255 changes. -/
def cfgInpChatterLimit (p : Mem) (s : Nat) (i : Nat) : Nat := u8 p 0x13 (16 + s * 192 + 8 * i + 2)

/-- 0x0013 stuck_timeout, R196: 0 off, 1…600 s. -/
def cfgInpStuckTimeout (p : Mem) (s : Nat) (i : Nat) : Nat := u16 p 0x13 (16 + s * 192 + 8 * i + 4)

/-- 0x0013 chatter_quiet, R196: 100…10 000 ms. -/
def cfgInpChatterQuiet (p : Mem) (s : Nat) (i : Nat) : Nat := u16 p 0x13 (16 + s * 192 + 8 * i + 6)

/-- 0x0013 an_mode, R196: 0…2. -/
def cfgInpAnMode (p : Mem) (s : Nat) (k : Nat) : Nat := u8 p 0x13 (16 + s * 192 + 128 + 8 * k)

/-- 0x0013 an_confirm, R196: 1…50 samples. -/
def cfgInpAnConfirm (p : Mem) (s : Nat) (k : Nat) : Nat := u8 p 0x13 (16 + s * 192 + 129 + 8 * k)

/-- 0x0013 short_max, R196: 10…10 999 Ω. -/
def cfgInpShortMax (p : Mem) (s : Nat) (k : Nat) : Nat := u16 p 0x13 (16 + s * 192 + 130 + 8 * k)

/-- 0x0013 press_max, R196: 11…10 999 Ω. -/
def cfgInpPressMax (p : Mem) (s : Nat) (k : Nat) : Nat := u16 p 0x13 (16 + s * 192 + 132 + 8 * k)

/-- 0x0013 norm_max, R196: 12…11 000 Ω. -/
def cfgInpNormMax (p : Mem) (s : Nat) (k : Nat) : Nat := u16 p 0x13 (16 + s * 192 + 134 + 8 * k)

/-- 0x0013 enc_mode, R196: 0…2. -/
def cfgInpEncMode (p : Mem) (s : Nat) (k : Nat) : Nat := u8 p 0x13 (16 + s * 192 + 160 + 8 * k)

/-- 0x0013 enc_flags, R196: [0] termination, [1] count_invert, [2] home_sync, [3] index_check, [7:4] = 0. -/
def cfgInpEncFlags (p : Mem) (s : Nat) (k : Nat) : Nat := u8 p 0x13 (16 + s * 192 + 161 + 8 * k)

/-- 0x0013 counts_per_index, R196: 4…2^31 − 1 counts. -/
def cfgInpCountsPerIndex (p : Mem) (s : Nat) (k : Nat) : Nat := u32 p 0x13 (16 + s * 192 + 162 + 8 * k)

/-- 0x0013 index_tolerance, R196: 0…1 000 counts. -/
def cfgInpIndexTolerance (p : Mem) (s : Nat) (k : Nat) : Nat := u16 p 0x13 (16 + s * 192 + 166 + 8 * k)

/-- 0x0013 enc_supply, R196: 0…2, or 0x80. -/
def cfgInpEncSupply (p : Mem) (s : Nat) : Nat := u8 p 0x13 (16 + s * 192 + 184)

/-- 0x0013 twin_compare_ms, R196: 0 off, 50…10 000 ms. -/
def cfgInpTwinCompareMs (p : Mem) (s : Nat) : Nat := u16 p 0x13 (16 + s * 192 + 186)

/-- 0x0014 tether_timeout, R227: 2…100 ms. -/
def cfgLswTetherTimeout (p : Mem) (s : Nat) : Nat := u16 p 0x14 (s * 128 + 0)

/-- 0x0014 axis_failsafe, R227: [1:0] A0, [3:2] A1, [5:4] A2: 0 short-brake, 1 hold; [7:6] = 0. -/
def cfgLswAxisFailsafe (p : Mem) (s : Nat) : Nat := u8 p 0x14 (s * 128 + 2)

/-- 0x0014 ch_source, R227: 0…4. -/
def cfgLswChSource (p : Mem) (s : Nat) (k : Nat) : Nat := u8 p 0x14 (s * 128 + 8 + 16 * k)

/-- 0x0014 ch_flags, R227: [1:0] failsafe: 0 OFF, 1 ON, 2 HOLD-LAST; code 3 lies outside the Range; [2] diag_off_enable; [7:3] = 0. -/
def cfgLswChFlags (p : Mem) (s : Nat) (k : Nat) : Nat := u8 p 0x14 (s * 128 + 9 + 16 * k)

/-- 0x0014 dt_trip, R227: 40…80 K; 60 recommended. -/
def cfgLswDtTrip (p : Mem) (s : Nat) (k : Nat) : Nat := u8 p 0x14 (s * 128 + 10 + 16 * k)

/-- 0x0014 retry_limit, R227: 0…15. -/
def cfgLswRetryLimit (p : Mem) (s : Nat) (k : Nat) : Nat := u8 p 0x14 (s * 128 + 11 + 16 * k)

/-- 0x0014 retry_delay, R227: 10…10 000 ms. -/
def cfgLswRetryDelay (p : Mem) (s : Nat) (k : Nat) : Nat := u16 p 0x14 (s * 128 + 12 + 16 * k)

/-- 0x0014 retry_reset, R227: 1…3 600 s. -/
def cfgLswRetryReset (p : Mem) (s : Nat) (k : Nat) : Nat := u16 p 0x14 (s * 128 + 14 + 16 * k)

/-- 0x0014 param_a, R227: Per ch_source: 0…3 analogue input; 0…31 bit; state mask bits [12:0]; else 0. -/
def cfgLswParamA (p : Mem) (s : Nat) (k : Nat) : Nat := u16 p 0x14 (s * 128 + 16 + 16 * k)

/-- 0x0014 param_b, R227: 0…10 000 mV for source 2; else 0. -/
def cfgLswParamB (p : Mem) (s : Nat) (k : Nat) : Nat := u16 p 0x14 (s * 128 + 18 + 16 * k)

/-- 0x0014 param_c, R227: 0…10 000 mV for source 2; else 0. -/
def cfgLswParamC (p : Mem) (s : Nat) (k : Nat) : Nat := u16 p 0x14 (s * 128 + 20 + 16 * k)

/-- 0x0014 min_current, R227: 0 off, 5…2 000 mA. -/
def cfgLswMinCurrent (p : Mem) (s : Nat) (k : Nat) : Nat := u16 p 0x14 (s * 128 + 22 + 16 * k)

/-- 0x0015 budget, R248: 40…1 200, unit 0.1 A; 300 recommended. -/
def cfgBlyBudget (p : Mem) (g : Nat) : Nat := u16 p 0x15 (g * 64 + 0)

/-- 0x0015 current_warn, R248: 40…2 000, unit 0.1 A. -/
def cfgBlyCurrentWarn (p : Mem) (g : Nat) : Nat := u16 p 0x15 (g * 64 + 2)

/-- 0x0015 warn_confirm, R248: 1…100 ms. -/
def cfgBlyWarnConfirm (p : Mem) (g : Nat) : Nat := u8 p 0x15 (g * 64 + 4)

/-- 0x0015 group_flags, R248: [0] group_enable, [7:1] = 0. -/
def cfgBlyGroupFlags (p : Mem) (g : Nat) : Nat := u8 p 0x15 (g * 64 + 5)

/-- 0x0015 watchdog, R248: 1…100, unit 0.1 s; 20 recommended. -/
def cfgBlyWatchdog (p : Mem) (g : Nat) : Nat := u16 p 0x15 (g * 64 + 6)

/-- 0x0015 lfsr_seed, R248: 1…2^32 − 1. -/
def cfgBlyLfsrSeed (p : Mem) (g : Nat) : Nat := u32 p 0x15 (g * 64 + 8)

/-- 0x0015 inrush_current, R248: 1…800, unit 0.1 A. -/
def cfgBlyInrushCurrent (p : Mem) (g : Nat) (c : Nat) : Nat := u16 p 0x15 (g * 64 + 16 + 4 * c)

/-- 0x0015 inrush_time, R248: 1…10 000 ms. -/
def cfgBlyInrushTime (p : Mem) (g : Nat) (c : Nat) : Nat := u16 p 0x15 (g * 64 + 18 + 4 * c)

/-- 0x0015 class, R249: 0…7, 0xFF not enrolled. -/
def cfgBlyClass (p : Mem) (s : Nat) (j : Nat) : Nat := u8 p 0x15 (128 + s * 48 + 4 * j)

/-- 0x0015 tickets, R249: 1…255. -/
def cfgBlyTickets (p : Mem) (s : Nat) (j : Nat) : Nat := u8 p 0x15 (128 + s * 48 + 4 * j + 1)

/-- 0x0015 deadline_t, R249: 1…10 000, unit 0.1 ms. -/
def cfgBlyDeadlineT (p : Mem) (s : Nat) (j : Nat) : Nat := u16 p 0x15 (128 + s * 48 + 4 * j + 2)

/-- 0x0020 ethertype, R283: 0x0600…0xFFFF; 0x88B6 recommended. -/
def cfgHwsEthertype (p : Mem) : Nat := u16 p 0x20 (0)

/-- 0x0020 mode_count, R283: 1…8. -/
def cfgHwsModeCount (p : Mem) : Nat := u8 p 0x20 (2)

/-- 0x0020 initial_mode, R283: 0…mode_count − 1. -/
def cfgHwsInitialMode (p : Mem) : Nat := u8 p 0x20 (3)

/-- 0x0020 hws_flags, R283: [0] auto_return, [7:1] = 0. -/
def cfgHwsHwsFlags (p : Mem) : Nat := u8 p 0x20 (4)

/-- 0x0020 stale_limit, R283: 1…255 cycles. -/
def cfgHwsStaleLimit (p : Mem) : Nat := u8 p 0x20 (5)

/-- 0x0020 auto_return_cycles, R283: 100…60 000. -/
def cfgHwsAutoReturnCycles (p : Mem) : Nat := u16 p 0x20 (6)

/-- 0x0020 t_cyc, R284: 0 0.5 ms, 1 1 ms, 2 2 ms, 3 4 ms. -/
def cfgHwsTCyc (p : Mem) (m : Nat) : Nat := u8 p 0x20 (32 + m * 64 + 0)

/-- 0x0020 fallback_a, R284: 0…7, 0xFF none. -/
def cfgHwsFallbackA (p : Mem) (m : Nat) : Nat := u8 p 0x20 (32 + m * 64 + 1)

/-- 0x0020 fallback_b, R284: 0…7, 0xFF none. -/
def cfgHwsFallbackB (p : Mem) (m : Nat) : Nat := u8 p 0x20 (32 + m * 64 + 2)

/-- 0x0020 async_quota, R284: 0…255 containers. -/
def cfgHwsAsyncQuota (p : Mem) (m : Nat) : Nat := u8 p 0x20 (32 + m * 64 + 3)

/-- 0x0020 static_len_a, R284: 0, 30…1 484 bytes. -/
def cfgHwsStaticLenA (p : Mem) (m : Nat) : Nat := u16 p 0x20 (32 + m * 64 + 4)

/-- 0x0020 static_len_b, R284: 0, 30…1 484 bytes. -/
def cfgHwsStaticLenB (p : Mem) (m : Nat) : Nat := u16 p 0x20 (32 + m * 64 + 6)

/-- 0x0020 poll_slots_a, R284: 0…32. -/
def cfgHwsPollSlotsA (p : Mem) (m : Nat) : Nat := u8 p 0x20 (32 + m * 64 + 8)

/-- 0x0020 poll_slots_b, R284: 0…32. -/
def cfgHwsPollSlotsB (p : Mem) (m : Nat) : Nat := u8 p 0x20 (32 + m * 64 + 9)

/-- 0x0020 poll_resp_len_a, R284: 0, 30…1 484 bytes. -/
def cfgHwsPollRespLenA (p : Mem) (m : Nat) : Nat := u16 p 0x20 (32 + m * 64 + 10)

/-- 0x0020 poll_resp_len_b, R284: 0, 30…1 484 bytes. -/
def cfgHwsPollRespLenB (p : Mem) (m : Nat) : Nat := u16 p 0x20 (32 + m * 64 + 12)

/-- 0x0020 containers_a, R284: 0…255. -/
def cfgHwsContainersA (p : Mem) (m : Nat) : Nat := u8 p 0x20 (32 + m * 64 + 14)

/-- 0x0020 containers_b, R284: 0…255. -/
def cfgHwsContainersB (p : Mem) (m : Nat) : Nat := u8 p 0x20 (32 + m * 64 + 15)

/-- 0x0020 container_len_a, R284: 0, 30…1 484 bytes. -/
def cfgHwsContainerLenA (p : Mem) (m : Nat) : Nat := u16 p 0x20 (32 + m * 64 + 16)

/-- 0x0020 container_len_b, R284: 0, 30…1 484 bytes. -/
def cfgHwsContainerLenB (p : Mem) (m : Nat) : Nat := u16 p 0x20 (32 + m * 64 + 18)

/-- 0x0020 poll_first, R284: 0…255. -/
def cfgHwsPollFirst (p : Mem) (m : Nat) : Nat := u16 p 0x20 (32 + m * 64 + 20)

/-- 0x0020 poll_count, R284: 0…256. -/
def cfgHwsPollCount (p : Mem) (m : Nat) : Nat := u16 p 0x20 (32 + m * 64 + 22)

/-- 0x0020 position, R285: 1…128. -/
def cfgHwsPosition (p : Mem) (e : Nat) : Nat := u8 p 0x20 (544 + 8 * e)

/-- 0x0020 channel, R285: 0 A, 1 B. -/
def cfgHwsChannel (p : Mem) (e : Nat) : Nat := u8 p 0x20 (545 + 8 * e)

/-- 0x0020 request, R285: 0…65 535. -/
def cfgHwsRequest (p : Mem) (e : Nat) : Nat := u16 p 0x20 (546 + 8 * e)

/-- 0x0020 selector, R285: 0…2^32 − 1. -/
def cfgHwsSelector (p : Mem) (e : Nat) : Nat := u32 p 0x20 (548 + 8 * e)

/-- 0x0002 unit_serial, R326: 1…2^32 − 1. -/
def cfgHierUnitSerial (p : Mem) : Nat := u32 p 0x2 (0)

/-- 0x0002 unit_cars, R326: 1…8. -/
def cfgHierUnitCars (p : Mem) : Nat := u8 p 0x2 (4)

/-- 0x0002 car_index, R326: 1…unit_cars. -/
def cfgHierCarIndex (p : Mem) : Nat := u8 p 0x2 (5)

/-- 0x0002 car_flags, R326: [0] reversed_in_unit, [1] cold_start, [2] cab, [3] twin_expected, [7:4] = 0. -/
def cfgHierCarFlags (p : Mem) : Nat := u8 p 0x2 (6)

/-- 0x0002 consist_group, R326: 0…255. -/
def cfgHierConsistGroup (p : Mem) : Nat := u8 p 0x2 (7)

/-- 0x0002 coupler_ends, R326: [0] fore, [1] aft automatic coupler, [7:2] = 0. -/
def cfgHierCouplerEnds (p : Mem) : Nat := u8 p 0x2 (8)

/-- 0x0002 split_confirm, R326: 50…2 000 ms; 400 recommended. -/
def cfgHierSplitConfirm (p : Mem) : Nat := u16 p 0x2 (10)

/-- 0x0002 merge_wait, R326: 50…1 000 ms; 250 recommended. -/
def cfgHierMergeWait (p : Mem) : Nat := u16 p 0x2 (12)

/-- 0x0030 bus_flags, R358: [0] bus_enable, [1] fd_enable, [2] tt_enable, [3] tdc_enable, [4] ref_ide, [5] bus_off_mode, [7:6] = 0. -/
def cfgBusBusFlags (p : Mem) (s : Nat) : Nat := u8 p 0x30 (s * 4800 + 0)

/-- 0x0030 n_prescaler, R358: 1…32. -/
def cfgBusNPrescaler (p : Mem) (s : Nat) : Nat := u8 p 0x30 (s * 4800 + 1)

/-- 0x0030 n_tseg1, R358: 2…256 tq. -/
def cfgBusNTseg1 (p : Mem) (s : Nat) : Nat := u16 p 0x30 (s * 4800 + 2)

/-- 0x0030 n_tseg2, R358: 2…128 tq. -/
def cfgBusNTseg2 (p : Mem) (s : Nat) : Nat := u8 p 0x30 (s * 4800 + 4)

/-- 0x0030 n_sjw, R358: 1…n_tseg2. -/
def cfgBusNSjw (p : Mem) (s : Nat) : Nat := u8 p 0x30 (s * 4800 + 5)

/-- 0x0030 d_prescaler, R358: 0, 1…32. -/
def cfgBusDPrescaler (p : Mem) (s : Nat) : Nat := u8 p 0x30 (s * 4800 + 6)

/-- 0x0030 d_tseg1, R358: 0, 2…32 tq. -/
def cfgBusDTseg1 (p : Mem) (s : Nat) : Nat := u8 p 0x30 (s * 4800 + 7)

/-- 0x0030 d_tseg2, R358: 0, 1…16 tq. -/
def cfgBusDTseg2 (p : Mem) (s : Nat) : Nat := u8 p 0x30 (s * 4800 + 8)

/-- 0x0030 d_sjw, R358: 0, 1…d_tseg2. -/
def cfgBusDSjw (p : Mem) (s : Nat) : Nat := u8 p 0x30 (s * 4800 + 9)

/-- 0x0030 tdc_offset, R358: 0…127 CAN clocks. -/
def cfgBusTdcOffset (p : Mem) (s : Nat) : Nat := u8 p 0x30 (s * 4800 + 10)

/-- 0x0030 bc_len, R358: 1…64 Hawser cycles. -/
def cfgBusBcLen (p : Mem) (s : Nat) : Nat := u8 p 0x30 (s * 4800 + 11)

/-- 0x0030 ref_id, R358: 0…0x7FF, or 0…0x1FFF_FFFF with ref_ide. -/
def cfgBusRefId (p : Mem) (s : Nat) : Nat := u32 p 0x30 (s * 4800 + 12)

/-- 0x0030 ref_offset, R358: 0…500 µs. -/
def cfgBusRefOffset (p : Mem) (s : Nat) : Nat := u16 p 0x30 (s * 4800 + 16)

/-- 0x0030 matrix_cycles, R358: 1, 2, 4, 8, 16, 32, 64. -/
def cfgBusMatrixCycles (p : Mem) (s : Nat) : Nat := u8 p 0x30 (s * 4800 + 18)

/-- 0x0030 col_count, R358: 1…32. -/
def cfgBusColCount (p : Mem) (s : Nat) : Nat := u8 p 0x30 (s * 4800 + 19)

/-- 0x0030 tx_enable, R358: 1…16 nominal bits. -/
def cfgBusTxEnable (p : Mem) (s : Nat) : Nat := u8 p 0x30 (s * 4800 + 20)

/-- 0x0030 bus_off_limit, R358: 1…255. -/
def cfgBusBusOffLimit (p : Mem) (s : Nat) : Nat := u8 p 0x30 (s * 4800 + 21)

/-- 0x0030 col_start, R358: 0…65 535 µs; col_start[0] = 0. -/
def cfgBusColStart (p : Mem) (s : Nat) (j : Nat) : Nat := u16 p 0x30 (s * 4800 + 80 + 2 * j)

/-- 0x0030 tx_id, R358: [28:0] identifier, [29] ide, [30] fdf, [31] brs. -/
def cfgBusTxId (p : Mem) (s : Nat) (t : Nat) : Nat := u32 p 0x30 (s * 4800 + 192 + 8 * t)

/-- 0x0030 tx_mode, R358: 0…3. -/
def cfgBusTxMode (p : Mem) (s : Nat) (t : Nat) : Nat := u8 p 0x30 (s * 4800 + 196 + 8 * t)

/-- 0x0030 tx_len, R358: 0…8, or 0…64 with fdf. -/
def cfgBusTxLen (p : Mem) (s : Nat) (t : Nat) : Nat := u8 p 0x30 (s * 4800 + 197 + 8 * t)

/-- 0x0030 rx_id, R358: [28:0] identifier, [29] rx_ide, [31:30] = 0. -/
def cfgBusRxId (p : Mem) (s : Nat) (r : Nat) : Nat := u32 p 0x30 (s * 4800 + 320 + 12 * r)

/-- 0x0030 rx_mask, R358: [28:0] mask, [31:29] = 0; 0 in all bits: object unused. -/
def cfgBusRxMask (p : Mem) (s : Nat) (r : Nat) : Nat := u32 p 0x30 (s * 4800 + 324 + 12 * r)

/-- 0x0030 rx_len, R358: 0…64 bytes. -/
def cfgBusRxLen (p : Mem) (s : Nat) (r : Nat) : Nat := u8 p 0x30 (s * 4800 + 328 + 12 * r)

/-- 0x0030 cell, R358: [3:0] object, [4] object named, [6:5] type 0…2, [15:7] = 0. -/
def cfgBusCell (p : Mem) (s : Nat) (j : Nat) (b : Nat) : Nat := u16 p 0x30 (s * 4800 + 704 + 2 * (32 * b + j))

/-- 0x0021 entry_count, R390: 0…2 048. -/
def cfgSplEntryCount (p : Mem) : Nat := u16 p 0x21 (0)

/-- 0x0021 event_slots_a, R390: 0…32. -/
def cfgSplEventSlotsA (p : Mem) : Nat := u8 p 0x21 (2)

/-- 0x0021 event_slots_b, R390: 0…32. -/
def cfgSplEventSlotsB (p : Mem) : Nat := u8 p 0x21 (3)

/-- 0x0021 ip_address, R390: Four octets in network order; 169.254.96.16 recommended. -/
def cfgSplIpAddress (p : Mem) : Nat := u32 p 0x21 (4)

/-- 0x0021 udp_port, R390: 1 024…65 535; 51 417 recommended. -/
def cfgSplUdpPort (p : Mem) : Nat := u16 p 0x21 (8)

/-- 0x0021 prefix_len, R390: 8…30. -/
def cfgSplPrefixLen (p : Mem) : Nat := u8 p 0x21 (10)

/-- 0x0021 spl_flags, R390: [0] relay_enable, [7:1] = 0. -/
def cfgSplSplFlags (p : Mem) : Nat := u8 p 0x21 (11)

/-- 0x0021 buffer_hold, R390: 10…1 000 ms. -/
def cfgSplBufferHold (p : Mem) : Nat := u16 p 0x21 (12)

/-- 0x0021 relay_timeout, R390: 10…1 000 ms. -/
def cfgSplRelayTimeout (p : Mem) : Nat := u16 p 0x21 (14)

/-- 0x0021 pf_base, R390: Fabric address, a multiple of 4 KiB; 0 unused. -/
def cfgSplPfBase (p : Mem) (w : Nat) : Nat := u32 p 0x21 (16 + 8 * w)

/-- 0x0021 pf_size, R390: 0, 4 KiB…16 MiB, a multiple of 4 KiB. -/
def cfgSplPfSize (p : Mem) (w : Nat) : Nat := u32 p 0x21 (20 + 8 * w)

/-- 0x0031 entry_count, R391: 0…512. -/
def cfgSmapEntryCount (p : Mem) (s : Nat) : Nat := u16 p 0x31 (s * 8208 + 0)

/-- 0x0040 twin_flags, R424: [0] twin_present, [1] mss_required, [7:2] = 0. -/
def cfgTwnTwinFlags (p : Mem) : Nat := u8 p 0x40 (0)

/-- 0x0040 swap_point, R424: 0…2. -/
def cfgTwnSwapPoint (p : Mem) : Nat := u8 p 0x40 (1)

/-- 0x0040 sync_age_limit, R424: 2…32 cycles; 8 recommended. -/
def cfgTwnSyncAgeLimit (p : Mem) : Nat := u8 p 0x40 (2)

/-- 0x0040 slice_fail_ms, R424: 0 off, 10…10 000 ms; 1 000 recommended. -/
def cfgTwnSliceFailMs (p : Mem) : Nat := u16 p 0x40 (4)

/-- 0x0040 p_wait, R424: 100…10 000 ms; 2 000 recommended. -/
def cfgTwnPWait (p : Mem) : Nat := u16 p 0x40 (6)

/-- 0x0040 takeback_window, R424: 0 off, 1…3 600 s; 60 recommended. -/
def cfgTwnTakebackWindow (p : Mem) : Nat := u16 p 0x40 (8)

/-- 0x0040 swap_timeout, R424: 1…3 600 s. -/
def cfgTwnSwapTimeout (p : Mem) : Nat := u16 p 0x40 (10)

/-- 0x0001 twin_role, R436: 0 P, 1 S. -/
def cfgRoleTwinRole (p : Mem) : Nat := u8 p 0x1 (0)

/-- 0x0001 car_type, R436: 0…65 535. -/
def cfgRoleCarType (p : Mem) : Nat := u16 p 0x1 (2)

/-- 0x0001 probation_mode, R436: 0 none, 1 door cycles, 2 hours. -/
def cfgRoleProbationMode (p : Mem) : Nat := u8 p 0x1 (4)

/-- 0x0001 probation_triggers, R436: 0 with probation_mode 0; bits [5:0] with mode 1 or 2; [15:6] = 0. -/
def cfgRoleProbationTriggers (p : Mem) : Nat := u16 p 0x1 (6)

/-- 0x0001 probation_limit, R436: 0 with probation_mode 0; 1…100 000 door cycles with mode 1; 1…8 760 h with mode 2. -/
def cfgRoleProbationLimit (p : Mem) : Nat := u32 p 0x1 (8)

/-- 0x0001 sink_temp_max, R436: 25…85 °C. -/
def cfgRoleSinkTempMax (p : Mem) : Nat := u16 p 0x1 (12)

/-- 0x0001 r_th_cs, R436: 0…2 000, unit 0.001 K/W. -/
def cfgRoleRThCs (p : Mem) : Nat := u16 p 0x1 (14)

/-- 0x0060 policy_flags, R471: [0] svc_zero_speed, [1] time_from_service, [2] time_from_hawser, [3] attest_enable, [7:4] = 0. -/
def cfgSecPolicyFlags (p : Mem) : Nat := u8 p 0x60 (0)

/-- 0x0060 rule_count, R471: 1…32. -/
def cfgSecRuleCount (p : Mem) : Nat := u8 p 0x60 (1)

/-- 0x0060 fw_confirm_s, R471: 10…3 600 s. -/
def cfgSecFwConfirmS (p : Mem) : Nat := u16 p 0x60 (2)

/-- 0x0060 impact_threshold, R471: 10…160, unit 0.1 g. -/
def cfgSecImpactThreshold (p : Mem) : Nat := u16 p 0x60 (4)

/-- 0x0060 humidity_warn, R471: 20…100 %RH. -/
def cfgSecHumidityWarn (p : Mem) : Nat := u8 p 0x60 (6)

/-- 0x0060 class, R471: 1 service port, 2 any Hawser position, 3 one Hawser position. -/
def cfgSecClass (p : Mem) (j : Nat) : Nat := u8 p 0x60 (32 + 16 * j)

/-- 0x0060 rights, R471: [0] read, [1] write, [7:2] = 0. -/
def cfgSecRights (p : Mem) (j : Nat) : Nat := u8 p 0x60 (33 + 16 * j)

/-- 0x0060 position, R471: 1…128 for class 3; else 0. -/
def cfgSecPosition (p : Mem) (j : Nat) : Nat := u8 p 0x60 (34 + 16 * j)

/-- 0x0060 base, R471: A multiple of 4 KiB. -/
def cfgSecBase (p : Mem) (j : Nat) : Nat := u32 p 0x60 (36 + 16 * j)

/-- 0x0060 size, R471: 4 KiB…2^32 − 4 KiB, a multiple of 4 KiB. -/
def cfgSecSize (p : Mem) (j : Nat) : Nat := u32 p 0x60 (40 + 16 * j)

/-- 0x0050 log_flags, R501: [0] mirror_always, [1] neighbour_watch, [7:2] = 0. -/
def cfgLogLogFlags (p : Mem) : Nat := u8 p 0x50 (0)

/-- 0x0050 flush_interval, R501: 1…10 s; 10 recommended. -/
def cfgLogFlushInterval (p : Mem) : Nat := u8 p 0x50 (1)

end Sys2Proof.Machine
end

