-- ==== Sys2Proof/Machine/SliceOps.lean ====
section
/-! DEFINITION. Operations shared by the engines of a slice: its surroundings, raising an event, updating an axis, and figures derived from the configuration. -/

namespace Sys2Proof.Machine

/-- What a slice sees of the rest of the node at one instant. -/
structure Env where
  /-- Time run since power-on, ns. -/
  now : Nat
  /-- Common time, ns (R37); what stamps carry. -/
  common : Nat
  /-- The cycles that the slice's own sync points have counted, in ns (R52); what the sequencer's timers go by. -/
  cyc : Nat
  /-- T_CYC in force, ns. -/
  tcyc : Nat
  /-- Handed-over parameters (R24). -/
  p : Mem
  /-- Number of the slice. -/
  i : Nat
  /-- The module drives: its AUTH logic asserts and its power gate is open. With the gate closed it behaves as a standby (R395). -/
  active : Bool
  /-- The power gate of R395 is open. -/
  gate : Bool
  /-- The slice tracks the twin's mirror (R77): standby, and not foreign. -/
  tracks : Bool
  /-- The car door command word as visible, 0 while the Splice region age is ≥ 1 (R58). -/
  cmd : Nat
  /-- The auxiliary output word, 0 while the Splice region age is ≥ 1 (R201). -/
  aux : Nat
  stale : Bool
  /-- Car orientation known since power-on: none, or whether the car is reversed (R58). -/
  orient : Option Bool
  holdover : Bool
  /-- AUTH_IN shows that the twin drives (R187). -/
  twinDrives : Bool
  /-- Draw number for free values. -/
  draw : Nat
deriving DecidableEq, Repr

/-- ms as ns. -/
def ms (n : Nat) : Nat := n * 1000000

/-- A record is taken by a queue that is not full and carries its loss count; else it is lost and counted (R26). Teach results, which are no numbered record, leave the count to the next record (DEDUCED, log entry 172). -/
def IntakeQ.offer (x : Intake) (q : IntakeQ) : IntakeQ :=
  if q.entries.length < 32 ∧ x.kind = 3 then { q with entries := q.entries ++ [{ x with lost := 0 }] }
  else if q.entries.length < 32 then { q with entries := q.entries ++ [{ x with lost := q.lost }], lost := 0 }
  else { q with lost := q.lost + 1 }

/-- The cause of R445 that an event is: a portal FAULT but for code 12, a drive fault, E213, E238 or E239, a tether timeout. A node the numbering refuses is named by its leader's E213 (log entry 170). -/
def probationCause (src code : Nat) : Option Nat :=
  if src < 192 then
    (if src % 12 = 0 ∧ code ≠ 12 then some 0 else if src % 12 = 4 then some 1 else if src % 12 = 10 ∧ code = 7 then some 5 else none)
  else if src = 213 then some 3 else if src = 238 ∨ src = 239 then some 4 else none

/-- An event waits for delivery unless masked (R526, R527), and may fail a probation. -/
def IntakeQ.announce (now src code detail : Nat) (masked : Bool) (q : IntakeQ) : IntakeQ :=
  let q := match probationCause src code with | some k => { q with causes := q.causes ||| 2 ^ k } | none => q
  if masked then q else { q with undelivered := q.undelivered ++ [⟨src, code, detail, now⟩] }

/-- Raise an event with payload bytes at a queue: it is offered for recording whether masked or not, and announced (R26, R526, R527). -/
def IntakeQ.raiseWith (payload : List Nat) (now src code detail : Nat) (masked : Bool) (q : IntakeQ) : IntakeQ :=
  (q.offer ⟨1, src, code, detail, now, masked, 0, payload, none⟩).announce now src code detail masked

/-- Raise an event without a payload. -/
def IntakeQ.raise (now src code detail : Nat) (masked : Bool) (q : IntakeQ) : IntakeQ := q.raiseWith [] now src code detail masked

/-- Payload bytes: a number in `n` little-endian bytes (R486). -/
def payBytes (n v : Nat) : List Nat := (leBytes n v).map fun b => b.toNat

/-- The mask bit of slice event `k` (PRT, AX, AX drive, INP, LSW and CBS event masks). -/
def Slice.masked (k : Nat) (sl : Slice) : Bool :=
  if k < 3 then sl.portal.eventMask.testBit k
  else if k = 3 then sl.axisMask.testBit 0
  else if k < 7 then sl.driveMask.testBit (k - 4)
  else if k = 7 then sl.inp.eventMask.testBit 0
  else if k < 11 then sl.sw.eventMask.testBit (k - 8)
  else sl.can.eventMask.testBit 0

/-- Raise E(s×12+k); the slice stands in detail bits [3:0] (R91) and `hi` holds the higher bits. -/
def Slice.raiseWith (payload : List Nat) (e : Env) (k code hi : Nat) (sl : Slice) : Slice :=
  { sl with iq := sl.iq.raiseWith payload e.common (e.i * 12 + k) code (e.i + hi) (sl.masked k) }

def Slice.raise (e : Env) (k code hi : Nat) (sl : Slice) : Slice := sl.raiseWith [] e k code hi

def Slice.modPortal (f : Portal → Portal) (sl : Slice) : Slice := { sl with portal := f sl.portal }
def Slice.modAxis (a : Fin 3) (f : Axis → Axis) (sl : Slice) : Slice := { sl with axes := sl.axes.set a (f sl.axes[a]) }
def Slice.modM (a : Fin 3) (f : Motion → Motion) (sl : Slice) : Slice := sl.modAxis a fun x => { x with m := f x.m }
def Slice.modD (a : Fin 3) (f : Drive → Drive) (sl : Slice) : Slice := sl.modAxis a fun x => { x with d := f x.d }
def Slice.modInp (f : Inputs → Inputs) (sl : Slice) : Slice := { sl with inp := f sl.inp }
def Slice.modDig (i : Fin 16) (f : Dig → Dig) (sl : Slice) : Slice :=
  sl.modInp fun x => { x with dig := x.dig.set i (f x.dig[i]) }
def Slice.modSw (f : Switches → Switches) (sl : Slice) : Slice := { sl with sw := f sl.sw }
def Slice.modCh (k : Fin 6) (f : Channel → Channel) (sl : Slice) : Slice :=
  sl.modSw fun x => { x with ch := x.ch.set k (f x.ch[k]) }
def Slice.modTether (f : Tether → Tether) (sl : Slice) : Slice := sl.modSw fun x => { x with tether := f x.tether }
def Slice.modCan (f : CanBus → CanBus) (sl : Slice) : Slice := { sl with can := f sl.can }

/-- Do something for each axis, A0 first. -/
def forAxes (f : Fin 3 → Slice → Slice) (sl : Slice) : Slice := f 2 (f 1 (f 0 sl))

/-- Do something for each channel, K0 first. -/
def forChannels (f : Fin 6 → Slice → Slice) (sl : Slice) : Slice := f 5 (f 4 (f 3 (f 2 (f 1 (f 0 sl)))))

/-! ### Figures of the portal record -/

def Env.portalEnabled (e : Env) : Bool := (cfgPrtPortalEnable e.p).testBit e.i
def Env.flag (e : Env) (b : Nat) : Bool := (cfgPrtFlags e.p e.i).testBit b
def Env.isCrew (e : Env) : Bool := e.flag 0
def Env.autoOpen (e : Env) : Bool := e.flag 1
def Env.isoAllowed (e : Env) : Bool := e.flag 2
def Env.heldLock (e : Env) : Bool := e.flag 4
def Env.staffReset (e : Env) : Bool := e.flag 5
def Env.egressAssist (e : Env) : Bool := e.flag 6

/-- The delivered value of an input a record field names; 0xFF names none (R89, R178). -/
def Slice.input (n : Nat) (sl : Slice) : Bool := if h : n < 16 then sl.inp.dig[n].delivered else false

/-- An input is flagged stuck or chattering (R180, R181). -/
def Slice.flagged (n : Nat) (sl : Slice) : Bool := if h : n < 16 then sl.inp.dig[n].stuck || sl.inp.dig[n].chatter else false

/-! ### Figures of an axis (R93, R94, R557, R558) -/

def Env.role (e : Env) (a : Nat) : Nat := cfgAxRole e.p e.i a
def Env.dirInvert (e : Env) (a : Nat) : Bool := (cfgAxFlags e.p e.i a).testBit 0
def Env.softLimits (e : Env) (a : Nat) : Bool := (cfgAxFlags e.p e.i a).testBit 1
def Env.geared (e : Env) (a : Nat) : Bool := (cfgAxFlags e.p e.i a).testBit 2
def Env.enabledAxis (e : Env) (a : Nat) : Bool := e.portalEnabled && decide (e.role a ≠ 0)

/-- round(units × steps_per_mm ÷ 10), halves away from zero; units are never negative here (R94). -/
def Env.microsteps (e : Env) (a units : Nat) : Nat := (units * cfgAxStepsPerMm e.p e.i a * 2 + 655360) / (655360 * 2)

def Env.closedPos (e : Env) (a : Nat) : Int := cfgAxHomePosition e.p e.i a
def Env.openPos (e : Env) (a : Nat) : Int := if e.dirInvert a then cfgAxSoftMin e.p e.i a else cfgAxSoftMax e.p e.i a

/-- The axis the sequencer moves and tests for the leaves: the first ungeared leaf axis (R164, R557). -/
def Env.leafAxis (e : Env) : Option (Fin 3) :=
  if e.role 0 = 1 && !e.geared 0 then some 0
  else if e.role 1 = 1 && !e.geared 1 then some 1
  else if e.role 2 = 1 && !e.geared 2 then some 2 else none

/-- An ungeared axis of role 2, 3 or 4 (R558). -/
def Env.isAux (e : Env) (a : Nat) : Bool := decide (2 ≤ e.role a) && !e.geared a

/-- The axis moves in its opening direction while its count direction is `pos` (R93). -/
def Env.opens (e : Env) (a : Nat) (pos : Bool) : Bool := pos != e.dirInvert a

/-- Enrolment entry of an item (0…5 K0…K5, 6…8 A0…A2) names a class (R234). -/
def Env.enrolled (e : Env) (item : Nat) : Bool := e.portalEnabled && decide (cfgBlyClass e.p e.i item < 8)

/-- A Belay request raised now, with its deadline (R241). -/
def Env.newReq (e : Env) (item : Nat) : Req := .waiting e.now (e.now + cfgBlyDeadlineT e.p e.i item * 100000) false

/-- An enrolled axis at standstill raises its Belay request with what is decided for it, unless one stands (R237). -/
def Slice.askGrant (e : Env) (a : Fin 3) (sl : Slice) : Slice :=
  if e.enrolled (6 + a.val) && !sl.sw.unarbitrated && decide (sl.axes[a].m.v = 0) then
    sl.modM a fun m => { m with needsGrant := true, req := if m.req = .idle then e.newReq (6 + a.val) else m.req }
  else sl

/-- The homing run of an axis in the present stage has been decided and not yet begun (R127). -/
def Slice.homingDue (e : Env) (a : Fin 3) (sl : Slice) : Bool :=
  decide (sl.portal.st = .homing) && decide (sl.portal.phase = .move) && !sl.portal.issued && decide (cfgAxHomeStage e.p e.i a = sl.portal.homeStage)

/-- A move or a homing run of the axis is decided, waits or runs: the inrush time of its grant counts from its first microstep (R237). -/
def Motion.startsLater (m : Motion) : Bool := m.needsGrant || !m.pending.isEmpty || !m.queue.isEmpty || m.home.isSome

/-- |x| as a natural number. -/
def absN (x : Int) : Nat := x.natAbs

/-- Raise an axis fault with its cause; every cause but a homing code gives the sequencer cause 11 (R74, R110, R125, R131). -/
def Slice.axisFault (e : Env) (a : Fin 3) (cause : Nat) (sl : Slice) : Slice :=
  let sl := sl.modM a fun m => { m with faultCause := cause }
  let sl := if cause ≤ 4 then sl else sl.modPortal fun q => { q with cause11 := true }
  sl.raise e 3 cause (a.val * 16)

/-- Stop the generator of an axis at once and empty its queue; its request drops with it (R237). -/
def Motion.halt (m : Motion) : Motion :=
  { m with v := 0, edgeAt := none, queue := [], running := false, decel := false, stopping := false, freshStop := false, rev := none, home := none,
           interrupted := none, caught := [], pending := [], pendStop := false, learnable := false, req := .idle, needsGrant := false }

end Sys2Proof.Machine
end

