-- ==== Sys2Proof/Machine/DriveOps.lean ====
section
/-! DEFINITION. Drive modes and drive faults of an axis (R136 to R142, R168). -/

namespace Sys2Proof.Machine

def DriveMode.code : DriveMode → Nat
  | .free => 0 | .shortBrake => 1 | .hold => 2 | .quiet => 3 | .strong => 4

/-- Hold, quiet or strong: the rotor is held by the field. -/
def DriveMode.driven : DriveMode → Bool
  | .hold | .quiet | .strong => true
  | _ => false

/-- The upper mode threshold, 1.1 × mode_threshold rounded to the nearest microstep/s (R139). -/
def Env.upperThreshold (e : Env) (a : Nat) : Nat := (cfgDrvModeThreshold e.p e.i a * 22 + 10) / 20

/-! ### Gearing (R121 to R126) -/

/-- A target breaks R96. -/
def Env.outside (e : Env) (a : Nat) (t : Int) : Bool :=
  e.softLimits a && (decide (t < cfgAxSoftMin e.p e.i a) || decide (cfgAxSoftMax e.p e.i a < t))

/-- The ratio of segment `k`: 0 below P0, i + 1 from break point i on. -/
def Env.gearRatio (e : Env) (a k : Nat) : Int :=
  if k = 0 then cfgAxGearRatio0 e.p e.i a else cfgAxBreakRatio e.p e.i a (k - 1)

/-- The segment of a master position (R122). -/
def Env.gearSegment (e : Env) (a : Nat) (x : Int) : Nat :=
  ((List.range (min 4 (cfgAxGearBreakCount e.p e.i a))).filter fun i => decide (cfgAxBreakPos e.p e.i a i ≤ x)).length

/-- The piecewise-linear function through 0 at P0 (or at 0 without break points), in Q16.16. -/
def Env.gearRaw (e : Env) (a : Nat) (x : Int) : Int :=
  let k := e.gearSegment a x
  if cfgAxGearBreakCount e.p e.i a = 0 then cfgAxGearRatio0 e.p e.i a * x
  else if k = 0 then e.gearRatio a 0 * (x - cfgAxBreakPos e.p e.i a 0)
  else
    ((List.range (k - 1)).foldl (fun acc i =>
      acc + e.gearRatio a (i + 1) * (cfgAxBreakPos e.p e.i a (i + 1) - cfgAxBreakPos e.p e.i a i)) 0)
      + e.gearRatio a k * (x - cfgAxBreakPos e.p e.i a (k - 1))

/-- The follower's demanded position for a master position (R122, R123). -/
def Env.gearDemand (e : Env) (a : Nat) (x : Int) : Int :=
  (cfgAxGearFollowerRef e.p e.i a * 65536 + (e.gearRaw a x - e.gearRaw a (cfgAxGearMasterRef e.p e.i a))) / 65536

/-- The master position of a geared axis (R121). -/
def Slice.gearMaster (e : Env) (a : Nat) (sl : Slice) : Int :=
  match cfgAxGearSource e.p e.i a with
  | 0 => sl.inp.enc[0].count
  | 1 => sl.inp.enc[1].count
  | 2 => sl.inp.enc[2].count
  | 4 => sl.axes[0].m.pos
  | 5 => sl.axes[1].m.pos
  | _ => sl.axes[2].m.pos

/-- The demand limited to the soft range (R96). -/
def Env.limitDemand (e : Env) (a : Nat) (x : Int) : Int :=
  if e.softLimits a then clampInt (cfgAxSoftMin e.p e.i a) (cfgAxSoftMax e.p e.i a) x else x

/-- The position a follower steps towards: its demand, held at the soft limits (R96, R124). -/
def Slice.gearGoal (e : Env) (a : Fin 3) (sl : Slice) : Int := e.limitDemand a (e.gearDemand a (sl.gearMaster e a))

/-- A geared axis follows its master: it has homed and no gear fault holds it (R125, R126). One that has homed before its master, in the same stage, follows the master's count as it then stands (log entry 149). -/
def Slice.engaged (e : Env) (a : Fin 3) (sl : Slice) : Bool :=
  let m := sl.axes[a].m
  e.geared a && m.homed && !m.gearHold && m.home.isNone

/-- The axis that leads an axis: the master it is geared to, else itself. -/
def Env.leads (e : Env) (a : Fin 3) : Fin 3 :=
  if e.geared a then (match cfgAxGearSource e.p e.i a with | 4 => 0 | 5 => 1 | 6 => 2 | _ => a) else a

/-- The commanded speed of an axis, in 1/65536 microstep/s. A follower's is its master's times the ratio in force (R124), or, behind an encoder, that of its own last two step edges, until twice their gap has passed (log entry 106). -/
def Slice.speedOf (e : Env) (a : Fin 3) (sl : Slice) : Nat :=
  let m := sl.axes[a].m
  if !e.geared a || m.home.isSome then m.v
  else if !sl.engaged e a then 0
  else if e.leads a = a then
    if m.edgeGap = 0 ∨ m.lastEdge.getD 0 + 2 * m.edgeGap < 2 * e.now then 0 else 2000000000 * 65536 / m.edgeGap
  else if e.outside a (e.gearDemand a (sl.gearMaster e a)) ∧ m.pos = sl.gearGoal e a then 0
  else (e.gearRatio a (e.gearSegment a (sl.gearMaster e a))).natAbs * sl.axes[e.leads a].m.v / 65536

/-- The axis stands with no move of its own or its master's to run. -/
def Slice.atRest (e : Env) (a : Fin 3) (sl : Slice) : Bool :=
  let l := sl.axes[e.leads a].m
  decide (sl.speedOf e a = 0) && l.queue.isEmpty && l.rev.isNone

/-! ### Modes -/

/-- The power island applies a drive mode to an axis; from a driven mode into free or short-brake its position becomes invalid (R221). -/
def PowerAxis.apply (md : DriveMode) (p : PowerAxis) : PowerAxis := { p with mode := md, valid := p.valid && !(p.mode.driven && !md.driven) }

/-- The engine sets the power-island position anew to the commanded one with its next frame (R221). -/
def Slice.setPowerPos (a : Fin 3) (sl : Slice) : Slice :=
  let p := sl.axes[a].m.pos
  sl.modTether fun t => { t with posSet := t.posSet.set a (some p) }

/-- The bridges of an axis go off at once, whatever the frames carry (R138, R199). -/
def Slice.powerFree (a : Fin 3) (sl : Slice) : Slice := sl.modTether fun t => { t with axes := t.axes.set a (t.axes[a].apply .free) }

/-- The current setting of a mode, mA (R142, R168). -/
def Env.currentOf (e : Env) (a : Nat) (d : Drive) (homing : Bool) : DriveMode → Nat
  | .free | .shortBrake => 0
  | .hold => if d.fault = 5 then cfgDrvHoldCurrent e.p e.i a / 2 else cfgDrvHoldCurrent e.p e.i a
  | .quiet => cfgDrvRunCurrent e.p e.i a
  | .strong =>
    if homing then cfgDrvRunCurrent e.p e.i a * 40 / 100
    else if d.boostActive then cfgDrvBoostCurrent e.p e.i a else cfgDrvRunCurrent e.p e.i a

/-- The amplitude of a current setting in mA rms (R142). -/
def amplitudeOf (rms : Nat) : Rat := Config.sqrtR (2 * (rms : Rat) * rms)

/-- One PWM period of the chopper: its amplitude slews to the setting by current_slew (R140). -/
def Env.slewChopper (e : Env) (a : Nat) (d : Drive) : Rat :=
  let goal := amplitudeOf d.current
  let step : Rat := cfgDrvCurrentSlew e.p e.i a
  if d.chop < goal then min goal (d.chop + step) else max goal (d.chop - step)

/-- Put an axis into a drive mode at once. Into free, the bridges go first and the isolators follow later (R137). A change of regulation mode is matched in current: the chopper starts at the amplitude measured in quiet mode, and the feed-forward and the trim of quiet mode at the chopper's (R140). -/
def Slice.setMode (e : Env) (a : Fin 3) (md : DriveMode) (sl : Slice) : Slice :=
  let d := sl.axes[a].d
  let homing := sl.axes[a].m.home.isSome
  let full := amplitudeOf (e.currentOf a d homing md)
  let from_ := if d.mode = .strong then d.chop else full
  sl.modD a fun d =>
    { d with mode := md, isolators := d.isolators || decide (md ≠ .free), wanted := none, boostActive := d.boostActive && decide (md = .strong),
             freedAt := if md = .free then (if d.isolators then some (d.freedAt.getD e.now) else none) else none,
             changeDeferred := false, current := e.currentOf a d homing md,
             chop := if md = .strong ∧ d.mode ≠ .strong then (if d.mode = .quiet then d.est.amp else full) else d.chop,
             feed := if md = .quiet ∧ d.mode ≠ .quiet then from_ else d.feed,
             trim := if md = .quiet ∧ d.mode ≠ .quiet then from_ else d.trim,
             sinceChange := if d.mode = md then d.sinceChange else 0 }

/-- Ask for a drive mode (R137, R138): from free, a driven mode closes the isolators and waits for them to be confirmed, and only where the power gate is open. -/
def Slice.wantMode (e : Env) (a : Fin 3) (md : DriveMode) (sl : Slice) : Slice :=
  if md = .free then sl.setMode e a .free
  else if !e.gate then sl
  else if sl.axes[a].d.mode = .free then sl.modD a fun d => { d with wanted := some md, isolators := true, freedAt := none }
  else sl.setMode e a md

/-- Free an axis: generator halted, bridges off, isolators to open. -/
def Slice.freeAxis (e : Env) (a : Fin 3) (clearHomed : Bool) (sl : Slice) : Slice :=
  (sl.modM a fun m => { m.halt with homed := m.homed && !clearHomed }).setMode e a .free

/-- Short-brake an axis. -/
def Slice.brakeAxis (e : Env) (a : Fin 3) (sl : Slice) : Slice := (sl.modM a Motion.halt).wantMode e a .shortBrake

/-- The axis mode a drive fault leaves (last column of R168); `high` tells an over-voltage for code 4. -/
def driveFaultMode (code : Nat) (high : Bool) : DriveMode :=
  if code = 4 then (if high then .hold else .free)
  else if code = 5 ∨ code = 6 ∨ code = 8 ∨ code = 9 then .hold else .free

/-- Whether an axis rests in a fault of its drive. -/
def Slice.faulted (a : Fin 3) (sl : Slice) : Bool := decide (sl.axes[a].d.fault ≠ 0)

/-- A drive fault (R168): recorded, raised, given to the sequencer as cause 11 and to a teach cycle (R152), and the axis put into the mode of its code. An axis that an emergency handle has freed stays free (R71), as does one that an earlier fault which stands has left free (R168), and one without the gate (R138) (log entry 127). -/
def Slice.driveFault (e : Env) (a : Fin 3) (code : Nat) (high : Bool) (sl : Slice) : Slice :=
  let stays := decide (sl.axes[a].d.mode = .free) && (decide (sl.portal.st = .emergency) || sl.faulted a)
  let sl := sl.modD a fun d => { d with fault := code, wanted := none, pendMode := none }
  let sl := sl.modM a fun m => { m.halt with homed := m.homed && decide (code ≠ 6) }
  let md := driveFaultMode code high
  let sl := if md = .free then sl.setMode e a .free else if stays then sl else sl.wantMode e a md
  let sl := sl.modPortal fun q => { q with cause11 := true }
  let sl : Slice := { sl with teach := sl.teach.map fun t => { t with faulted := t.faulted.set a true } }
  sl.raise e 4 code (a.val * 16)

/-- The regulation mode a speed asks for when a move starts (R139, R141): homing is always strong. -/
def Env.regulation (e : Env) (a : Nat) (v : Nat) (homing : Bool) (old : DriveMode) : DriveMode :=
  if homing then .strong
  else if v ≤ cfgDrvModeThreshold e.p e.i a * 65536 then .quiet
  else if e.upperThreshold a * 65536 ≤ v then .strong
  else match old with
    | .strong => .strong
    | _ => .quiet

/-- The drive follows the generator after a step edge: from hold into a regulation mode at the first microstep, a change of regulation mode at a full-step boundary, and hold once the axis rests. While the field clamp is active a change waits for its release, and an axis that starts from hold goes on in the strong regulation that hold is (R136, R139, R141). -/
def Slice.followGenerator (e : Env) (a : Fin 3) (sl : Slice) : Slice :=
  let m := sl.axes[a].m
  let d := sl.axes[a].d
  let v := sl.speedOf e a
  if !d.mode.driven then sl
  else if v = 0 then (if d.mode = .hold ∨ sl.atRest e a = false then sl else sl.setMode e a .hold)
  else
    let want := e.regulation a v m.home.isSome d.mode
    if d.mode = .hold then
      (if d.est.clamp && decide (want = .quiet) then (sl.setMode e a .strong).modD a fun d => { d with changeDeferred := true } else sl.setMode e a want)
    else if want = d.mode then sl.modD a fun d => { d with changeDeferred := false }
    else if d.est.clamp then sl.modD a fun d => { d with changeDeferred := true }
    else if m.pos % 256 = 0 then sl.setMode e a want
    else sl

end Sys2Proof.Machine
end

