-- ==== Sys2Proof/Machine/Motion.lean ====
section
/-! DEFINITION. The motion layer: step timing, ramp, queue, blending, reversal, gearing and homing (file 03). -/

namespace Sys2Proof.Machine

/-- A profile set (R103, R104). -/
structure Prof where
  vStart : Nat
  a1 : Nat
  v1 : Nat
  a2 : Nat
  vMax : Nat
  d2 : Nat
  d1 : Nat
  vStop : Nat
deriving DecidableEq, Repr

def Env.prof (e : Env) (a j : Nat) : Prof :=
  ⟨cfgAxVStart e.p e.i a j, cfgAxA1 e.p e.i a j, cfgAxV1 e.p e.i a j, cfgAxA2 e.p e.i a j, cfgAxVMax e.p e.i a j,
   cfgAxD2 e.p e.i a j, cfgAxD1 e.p e.i a j, cfgAxVStop e.p e.i a j⟩

/-- Largest number whose square does not exceed `n`, for `n` below 2^160. -/
def isqrt (n : Nat) : Nat :=
  go 80 0
where
  go : Nat → Nat → Nat
    | 0, r => r
    | b + 1, r => if (r + 2 ^ b) * (r + 2 ^ b) ≤ n then go b (r + 2 ^ b) else go b r

/-- A speed from its exact square, held to 16 fraction bits (R100); the rounding of an inexact root is left open. At accelerations below some 3000 microsteps/s² one unit of a speed so held is worth more than the 2 ticks of R101: the instants then keep to the exact ramp, as R101 asks, and only the speed shown has 16 fraction bits (log entry 145). -/
def sqrtQ (n : Nat) : Nat :=
  let r := isqrt n
  if r * r = n then r else if Config.sqrtRoundsUp n then r + 1 else r

/-- The braking distance of R105 in microsteps, for a speed in 1/65536 microstep/s. -/
def dBrake (f : Prof) (v : Nat) : Rat :=
  let vv : Rat := (v : Rat) / 65536
  if vv ≤ f.vStop then 0
  else if (f.v1 : Rat) < vv then (vv * vv - f.v1 * f.v1) / (2 * f.d2) + ((f.v1 : Rat) * f.v1 - f.vStop * f.vStop) / (2 * f.d1)
  else (vv * vv - f.vStop * f.vStop) / (2 * f.d1)

/-- The distance needed to slow from a speed to a joint speed, on the decelerations of the running set (R114). -/
def dJoint (f : Prof) (v vj : Nat) : Rat :=
  let sq (x : Nat) : Rat := (x : Rat) / 65536 * ((x : Rat) / 65536)
  let v1 := f.v1 * 65536
  if v ≤ vj then 0
  else if v1 < v then
    if v1 < vj then (sq v - sq vj) / (2 * f.d2) else (sq v - sq v1) / (2 * f.d2) + (sq v1 - sq vj) / (2 * f.d1)
  else (sq v - sq vj) / (2 * f.d1)

/-- A speed in 1/65536 microstep/s from its square, to 2^-32 of that unit: fine enough that what it gives for an instant is far below a tick of 2.5 ns. -/
def fineRoot (q : Rat) : Rat := (isqrt (q * 18446744073709551616).floor.toNat : Rat) / 4294967296

/-- The square of the speed one microstep further and the time that microstep takes, under the segments of a ramp in turn (R100): each a signed acceleration in microsteps/s² and the speed it ends at. Within one segment this is the calculation of R100; a microstep in which a segment ends takes what is left of it under the next segment, and at its last speed after them all, so that the edges keep to the exact ramp of R101 (log entry 104). `rem` is the part of the microstep still to go; `q` is the square of the present speed, in 1/65536 microstep/s. -/
def rampStep : List (Int × Nat) → Rat → Rat → Rat × Rat
  | [], q, rem => (q, rem * 65536 / fineRoot q)
  | (acc, lim) :: rest, q, rem =>
    let sq : Rat := (lim : Rat) * lim
    if acc = 0 ∨ (0 < acc ∧ sq ≤ q) ∨ (acc < 0 ∧ q ≤ sq) then rampStep rest q rem
    else
      let qn := q + 2 * acc * rem * 4294967296
      if (0 < acc ∧ sq < qn) ∨ (acc < 0 ∧ qn < sq) then
        let r := rampStep rest sq (rem - (sq - q) / (2 * acc * 4294967296))
        (r.1, ((lim : Rat) - fineRoot q) / 65536 / acc + r.2)
      else (qn, (fineRoot qn - fineRoot q) / 65536 / acc)

/-- The exact square of the speed of an axis. -/
def Motion.square (m : Motion) : Rat :=
  match m.exact with
  | some (v, q) => if v = m.v then q else (m.v : Rat) * m.v
  | none => (m.v : Rat) * m.v

/-- The lowest prescaler stage whose timer holds a time in ticks of 2.5 ns (R97, R98). -/
def stageOf (ticks : Rat) : Nat :=
  if ticks.floor ≤ 16777215 then 0 else if (ticks / 16).floor ≤ 16777215 then 1
  else if (ticks / 256).floor ≤ 16777215 then 2 else 3

def stageDiv (st : Nat) : Nat := if st = 0 then 1 else if st = 1 then 16 else if st = 2 then 256 else 4096

/-- Load the interval timer with a time of `dt` seconds (R98 to R100): stage, interval, carry, and whether the rate cap lengthened it. The carry is held in ticks of 2.5 ns, so that it stands through a change of stage. -/
def loadInterval (dt carry : Rat) : Nat × Nat × Rat × Bool :=
  let t := dt * 400000000 + carry
  let st := stageOf t
  let p := stageDiv st
  let iv := (t / p).floor.toNat
  if iv < 400 ∧ st = 0 then (st, 400, 0, true) else (st, iv, t - iv * p, false)

def Motion.reload (dt : Rat) (m : Motion) : Motion :=
  let r := loadInterval dt m.carry
  { m with stage := r.1, interval := r.2.1, carry := r.2.2.1,
           cntRateCaps := if r.2.2.2 then satInc 255 m.cntRateCaps else m.cntRateCaps }

/-- Take the next speed of a ramp and load the interval to the next edge. -/
def Motion.ramp (segs : List (Int × Nat)) (m : Motion) : Motion :=
  let r := rampStep segs m.square 1
  let v := sqrtQ r.1.floor.toNat
  { m.reload r.2 with v := v, exact := some (v, r.1) }

/-- Decelerate on D2 above V1 and on D1 at or below it, not below `floor` (R104, R105). -/
def Motion.brake (f : Prof) (floor : Nat) (m : Motion) : Motion :=
  m.ramp [(-(f.d2 : Int), max floor (f.v1 * 65536)), (-(f.d1 : Int), floor)]

/-- Accelerate or cruise on a set (R104); above V_MAX, brake to it (R113). -/
def Motion.drive (f : Prof) (m : Motion) : Motion :=
  if f.vMax * 65536 < m.v then m.brake f (f.vMax * 65536) else m.ramp [(f.a1, f.v1 * 65536), (f.a2, f.vMax * 65536)]

/-- The length of the blend chain behind a position, running in one direction (R114). -/
def chainLength (dirPos : Bool) (pos : Int) : List Move → Nat
  | [] => 0
  | mv :: t =>
    if mv.blend && (if dirPos then decide (pos < mv.target) else decide (mv.target < pos))
    then absN (mv.target - pos) + chainLength dirPos mv.target t else 0

/-- The next move blends with the running one: it carries the flag and runs on in the same direction (R113). -/
def blendsOn (m : Motion) (pos : Int) : List Move → Bool
  | [] => false
  | mv :: _ => mv.blend && (if m.dirPos then decide (pos < mv.target) else decide (mv.target < pos))

/-- The joints ahead of a blend chain, with the distance to each and its speed (R113, R114); `vm` is V_MAX of the move before. -/
def Env.joints (e : Env) (a : Nat) (dirPos : Bool) : Int → Nat → Nat → List Move → List (Nat × Nat)
  | _, _, _, [] => []
  | pos, d, vm, nx :: t =>
    let vx := (e.prof a nx.set).vMax * 65536
    if nx.blend && (if dirPos then decide (pos < nx.target) else decide (nx.target < pos)) then
      (d, min vm vx) :: e.joints a dirPos nx.target (d + absN (nx.target - pos)) vx t
    else []

/-- Moves at their target at standstill are complete at once (R112). -/
def dropDone (pos : Int) : List Move → List Move
  | [] => []
  | mv :: t => if mv.target = pos then dropDone pos t else mv :: t

/-- Move one microstep in the direction of motion (R92). The count goes on past the signed 32-bit range, and AX_POSITION shows its low 32 bits (log entry 146). -/
def Motion.oneStep (m : Motion) : Motion := { m with pos := if m.dirPos then m.pos + 1 else m.pos - 1 }

/-- Standstill after a stop or a replace deceleration; a pending reverse run starts at V_START at the next step edge (R117, R120). It stands in the queue from here on: a move offered before its first microstep is queued behind it (R110, R132, log entry 147). -/
def Motion.standstill (e : Env) (a : Nat) (m : Motion) : Motion :=
  let m := { m with v := 0, exact := none, running := false, decel := false, stopping := false }
  match m.rev with
  | some mv =>
    let m := { m with rev := none, queue := dropDone m.pos [mv], profile := mv.set }
    m.reload (1 / ((e.prof a mv.set).vStart : Rat))
  | none => m

/-- The step edge of a stop or of a replace deceleration (R117 to R120). It ends at the edge from which no whole microstep of braking remains, so that the last microstep is issued between V_STOP and √(V_STOP² + 2·D1) as R105 says, and a stop latched during the final deceleration of a move never passes its target (DEDUCED, log entry 45). At a speed not above V_STOP this is the next step edge (R108). -/
def Motion.stopEdge (e : Env) (a : Nat) (m : Motion) : Motion :=
  let f := e.prof a m.profile
  let m := m.oneStep
  if dBrake f m.v < 1 then m.standstill e a else m.brake f (f.vStop * 65536)

/-- After a microstep that does not end the move: braking test, test of every joint of the chain, then the segment in force (R104, R105, R114). -/
def Motion.advance (e : Env) (a : Nat) (mv : Move) (rest : List Move) (m : Motion) : Motion :=
  let f := e.prof a m.profile
  let rem := absN (mv.target - m.pos)
  let chain := rem + chainLength m.dirPos mv.target rest
  let m := { m with decel := m.decel || decide ((chain : Rat) ≤ dBrake f m.v) }
  let goal := (e.joints a m.dirPos mv.target rem (f.vMax * 65536) rest).foldl (fun g j => if j.2 < g ∧ (j.1 : Rat) ≤ dJoint f m.v j.2 then j.2 else g) m.v
  if m.decel then m.brake f (f.vStop * 65536) else if goal < m.v then m.brake f goal else m.drive f

/-- The end of a move at its target (R112, R113): the next one runs on where it blends; else the axis stands, and the next starts at the following step edge. -/
def Motion.endMove (e : Env) (a : Nat) (rest : List Move) (m : Motion) : Motion :=
  if blendsOn m m.pos rest then
    match rest with
    | nx :: more => { m with queue := rest, profile := nx.set, startPos := m.pos, learnable := false }.advance e a nx more
    | [] => m
  else
    let m := { m with queue := dropDone m.pos rest, v := 0, exact := none, running := false, decel := false }
    match m.queue with
    | nx :: _ => m.reload (1 / ((e.prof a nx.set).vStart : Rat))
    | [] => m

/-- The step edge of a queued move (R104 to R108, R112 to R116). -/
def Motion.queueEdge (e : Env) (a : Nat) (m : Motion) : Motion :=
  if m.running then
    match m.queue with
    | [] => m
    | mv :: rest => let m := m.oneStep; if m.pos = mv.target then m.endMove e a rest else m.advance e a mv rest
  else
    match dropDone m.pos m.queue with
    | [] => { m with queue := [] }
    | mv :: rest =>
      let m := { m with dirPos := decide (m.pos < mv.target), startPos := m.pos, running := true, decel := false, queue := mv :: rest,
                        profile := mv.set, v := (e.prof a mv.set).vStart * 65536, exact := none }.oneStep
      if m.pos = mv.target then m.endMove e a rest else m.advance e a mv rest

/-! ### Offering moves (R110, R113 to R120) -/

/-- The conditions under which R110 refuses a move. A replace is not refused for a full queue, which it empties (R117), and a move offered between the standstill of a replace and the first microstep of its reverse run is taken (log entry 147). -/
def Env.refuses (e : Env) (a : Nat) (mv : Move) (m : Motion) : Bool :=
  (!mv.replace && decide (8 ≤ m.queue.length)) || e.outside a mv.target || e.geared a || m.home.isSome
    || (!mv.replace && m.rev.isSome)

/-- A full move in the sense of R158: opening on set 1 from closed to open, or closing on set 2 from open to closed. -/
def Env.fullMove (e : Env) (a : Nat) (start : Int) (mv : Move) : Bool :=
  (decide (mv.set = 1) && decide (start = e.closedPos a) && decide (mv.target = e.openPos a)) ||
  (decide (mv.set = 2) && decide (start = e.openPos a) && decide (mv.target = e.closedPos a))

/-- An accepted replace (R117, R119); before the step edge that a stop was latched for, the stop stands (R120, R132). A target ahead that lies nearer than the braking distance is reached while still braking, and the axis stops there at the speed it has (log entry 148). -/
def Motion.replaceWith (now : Nat) (mv : Move) (m : Motion) : Motion :=
  if m.freshStop then m
  else
    let m := { m with learnable := false, stopping := false, caught := [], replacedAt := some now }
    if m.v = 0 then { m with queue := dropDone m.pos [mv], rev := none, running := false, decel := false }
    else if m.rev.isSome || !(if m.dirPos then decide (m.pos < mv.target) else decide (mv.target < m.pos)) then
      { m with queue := [], rev := some mv, decel := true, profile := mv.set,
               cntReversals := if m.rev.isSome then m.cntReversals else satInc 255 m.cntReversals }
    else { m with queue := [mv], decel := false, profile := mv.set }

/-- An accepted move without replace (R110, R112, R115): one appended with blend set once V_STOP has been reached starts from standstill. -/
def Motion.append (e : Env) (a : Nat) (mv : Move) (m : Motion) : Motion :=
  if m.v = 0 ∧ m.queue = [] then { m with queue := dropDone m.pos [mv] }
  else
    let along := match m.queue.getLast? with
      | some l => if m.dirPos then decide (l.target < mv.target) else decide (mv.target < l.target)
      | none => false
    let late := m.decel && m.running && decide (m.v ≤ (e.prof a m.profile).vStop * 65536)
    let m' := { m with queue := m.queue ++ [{ mv with blend := mv.blend && !late }] }
    if mv.blend && m.decel && m.running && !late && along then { m' with decel := false, profile := mv.set } else m'

/-- An axis and those geared to it. -/
def Env.geared1 (e : Env) (a b : Fin 3) : Bool := decide (b = a) || (e.geared b && decide (cfgAxGearSource e.p e.i b = 4 + a.val))

/-- Do something for an axis and every axis geared to it. -/
def Slice.withFollowers (e : Env) (a : Fin 3) (f : Fin 3 → Slice → Slice) (sl : Slice) : Slice :=
  forAxes (fun b sl => if e.geared1 a b then f b sl else sl) sl

/-- Offer a move to an axis: refused and counted under axis fault cause 8, leaving the axis unchanged, or taken (R110). One appended in the tick of a replace is removed (R132). A full move that starts from standstill is to be learned, while the portal is in OPENING or CLOSING or runs its teach cycle (R158). -/
def Slice.offerMove (e : Env) (a : Fin 3) (mv : Move) (sl : Slice) : Slice :=
  let m := sl.axes[a].m
  if !mv.replace && decide (m.replacedAt = some e.now) then sl
  else if e.refuses a mv m then
    (sl.modM a fun m => { m with cntRefusals := satInc 255 m.cntRefusals }).axisFault e a 8
  else
    let sl := if sl.axes[a].d.mode.driven then sl else sl.wantMode e a .hold
    if mv.replace then sl.modM a (Motion.replaceWith e.now mv)
    else
      let sl := sl.modM a fun m => m.append e a mv
      if m.queue.isEmpty && decide (m.v = 0) then
        let full := e.fullMove a m.pos mv && (decide (sl.portal.st = .opening) || decide (sl.portal.st = .closing) || sl.teach.isSome)
        (sl.modM a fun m => { m with profile := mv.set, carry := 0, startPos := m.pos }).withFollowers e a fun b sl => sl.modM b fun m => { m with learnable := full }
      else sl

/-- A stop (R120): the queue and a pending reverse run are removed, and a moving axis decelerates on the set in force; its request drops (R237). -/
def Motion.stop (m : Motion) : Motion :=
  let m := { m with queue := [], rev := none, caught := [], pending := [], learnable := false, req := .idle, needsGrant := false }
  if m.v = 0 ∧ m.home.isNone then { m with edgeAt := none, stopping := false } else { m with stopping := true, decel := true, freshStop := true }

/-! ### Gearing (R124, R125) -/

/-- A gear fault (R125): the follower holds until a fault reset and re-homing. -/
def Slice.gearFault (e : Env) (a : Fin 3) (cause : Nat) (sl : Slice) : Slice :=
  (sl.modM a fun m => { m with gearHold := true, gearLatched := true, edgeAt := none, cntLagFaults := satInc 255 m.cntLagFaults }).axisFault e a cause

/-- The master of a geared axis is an encoder that is flagged faulty (R125, R193). -/
def Slice.sourceFaulty (e : Env) (a : Fin 3) (sl : Slice) : Bool :=
  let k := cfgAxGearSource e.p e.i a
  if h : k < 3 then decide (sl.inp.enc[k].fault ≠ 0) else false

/-- The follower recomputes its demand (R96, R123 to R125): cause 7 while its encoder is faulty, 6 on reaching a soft limit, 5 on too great a lag. -/
def Slice.gearUpdate (e : Env) (a : Fin 3) (sl : Slice) : Slice :=
  let m := sl.axes[a].m
  if sl.engaged e a && decide (e.role a ≠ 0) then
    let dem := e.gearDemand a (sl.gearMaster e a)
    if sl.sourceFaulty e a then sl.gearFault e a 7
    else
      let out := e.outside a dem
      let sl := sl.modM a fun m => { m with atSoftLimit := out }
      let sl := if out && !m.atSoftLimit then sl.axisFault e a 6 else sl
      if cfgAxGearLagLimit e.p e.i a < absN (dem - m.pos) then sl.gearFault e a 5 else sl
  else sl

/-- Every geared axis whose master is source `src` recomputes its demand, and its drive follows. -/
def Slice.gearFollow (e : Env) (src : Nat) (sl : Slice) : Slice :=
  forAxes (fun a sl => if e.geared a && decide (cfgAxGearSource e.p e.i a = src) then (sl.gearUpdate e a).followGenerator e a else sl) sl

/-- A follower's step edge: one microstep towards the demand. It has no ramp of its own, so the next may follow at the limit of 1 000 000 microsteps/s, which lets it keep its master's pace times the ratio (R124, log entry 106). -/
def Slice.followerEdge (e : Env) (a : Fin 3) (sl : Slice) : Slice :=
  if sl.engaged e a && decide (sl.axes[a].m.pos ≠ sl.gearGoal e a) then
    sl.modM a fun m => { ({ m with dirPos := decide (m.pos < sl.gearGoal e a) }.oneStep) with interval := 400, stage := 0 }
  else sl

/-! ### Homing (R127 to R131) -/

/-- A homing run begins (R128): strong regulation, from standstill, with nothing latched. The hold of a gear fault ends with it where a fault reset has come before (R132). -/
def Slice.startHoming (e : Env) (a : Fin 3) (sl : Slice) : Slice :=
  (sl.modM a fun m =>
    { m.halt with req := m.req, homed := false, home := some ⟨0, none, none, none, false⟩, dirPos := decide (cfgAxHomeDir e.p e.i a = 1),
                  homeCode := 0, relatches := 0, profile := 0, carry := 0, exact := none, gearHold := m.gearHold && m.gearLatched, atSoftLimit := false }).wantMode e a .hold

/-- A homing run fails with a code (R130, R131): the axis holds, homed clear. -/
def Slice.homeFail (e : Env) (a : Fin 3) (code : Nat) (sl : Slice) : Slice :=
  ((sl.modM a fun m => { m.halt with homed := false, homeCode := code }).axisFault e a code).followGenerator e a

/-- A count is set: the jump is no travel between index edges (R190, R192). -/
def Encoder.jump (p : Int) (c : Encoder) : Encoder := { c with count := p, offset := c.offset + (p - c.count), syncCount := c.syncCount + (p - c.count), prevIndex := c.prevIndex.map fun i => i + (p - c.count) }

/-- A homing run succeeds: homed set, the power-island position and a home_sync encoder set, gearing engaged (R126, R190, R221). -/
def Slice.homeDone (e : Env) (a : Fin 3) (sl : Slice) : Slice :=
  let sl := sl.modM a fun m => { m.halt with homed := true, homeCode := 0 }
  let sl := sl.setPowerPos a
  let sl := if (cfgInpEncFlags e.p e.i a.val).testBit 2 then
      (sl.modInp fun x => { x with enc := x.enc.set a (x.enc[a].jump (cfgAxHomePosition e.p e.i a)) }).gearFollow e a.val
    else sl
  ((sl.gearUpdate e a).gearFollow e (4 + a.val)).followGenerator e a

/-- The stall of a homing run (R129): the generator stops, the position is recorded and set; the latch decides (R130). -/
def Slice.homeStallNow (e : Env) (a : Fin 3) (sl : Slice) : Slice :=
  let m := sl.axes[a].m
  match m.home with
  | none => sl
  | some h =>
    if h.stallAt.isSome then sl
    else
      let stall := m.pos
      let sl := sl.modM a fun m => { m with v := 0, edgeAt := none, homeStall := stall, pos := cfgAxHomePosition e.p e.i a }
      let sl := sl.modD a fun d => { d with est := { d.est with thetaR := d.est.thetaR + ((cfgAxHomePosition e.p e.i a - stall : Int) : Rat),
                                                                thetaA := ((cfgAxHomePosition e.p e.i a : Int) : Rat) } }
      let sl := sl.gearFollow e (4 + a.val)
      if cfgAxHomeConfirmInput e.p e.i a = 0xFF then sl.homeDone e a
      else match h.latch with
        | some l => if absN (stall - l) ≤ cfgAxHomeLatchWindow e.p e.i a then sl.homeDone e a else sl.homeFail e a 2
        | none => (sl.modM a fun m => { m with home := some { h with stallAt := some e.now } }).followGenerator e a

/-- A latch is taken at the present position; after a stall it takes the position of the stall and homing succeeds (R130). -/
def Slice.homeLatchNow (e : Env) (a : Fin 3) (h : HomeRun) (sl : Slice) : Slice :=
  if h.stallAt.isSome then (sl.modM a fun m => { m with homeLatch := m.homeStall }).homeDone e a
  else sl.modM a fun m => { m with homeLatch := m.pos, home := some { h with latch := some m.pos, chatterAt := some e.now } }

/-- The latch is discarded and the relatch count increments; past its limit homing fails with code 4 (R130). -/
def Slice.homeRelatch (e : Env) (a : Fin 3) (h : HomeRun) (sl : Slice) : Slice :=
  let n := sl.axes[a].m.relatches + 1
  let sl := sl.modM a fun m => { m with relatches := n, home := some { h with latch := none, chatterAt := none } }
  if cfgAxHomeRelatchLimit e.p e.i a < n then sl.homeFail e a 4 else sl

/-- The step edge of a homing run (R128, R130). A stop decelerates it to V_STOP on the set in force, and it ends without a stall, as a run does that reaches home_max_travel (log entry 105). -/
def Slice.homingEdge (e : Env) (a : Fin 3) (h : HomeRun) (sl : Slice) : Slice :=
  let f := e.prof a 0
  let hs := cfgAxHomeSpeed e.p e.i a * 65536
  let m := sl.axes[a].m
  if h.stallAt.isSome then sl
  else if m.v = 0 ∧ m.stopping then sl.homeFail e a 1
  else
    let sl := sl.modM a fun m =>
      let m := if m.v = 0 then { m with v := min (f.vStart * 65536) hs } else m
      { m.oneStep with home := some { h with travel := h.travel + 1 } }
    let rem := cfgAxHomeMaxTravel e.p e.i a - (h.travel + 1)
    if rem = 0 ∨ (m.stopping ∧ dBrake f sl.axes[a].m.v < 1) then sl.homeFail e a 1
    else sl.modM a fun m =>
      let v : Rat := (m.v : Rat) / 65536
      let stopDist : Rat := if m.v ≤ f.vStop * 65536 then 0 else (v * v - (f.vStop : Rat) * f.vStop) / (2 * f.d1)
      let m := { m with decel := m.decel || decide ((rem : Rat) ≤ stopDist) }
      if m.stopping then m.brake f (f.vStop * 65536)
      else if m.decel then m.ramp [(-(f.d1 : Int), f.vStop * 65536)]
      else m.ramp [(f.a1, hs)]

/-! ### Learning (R156 to R159) -/

/-- The bin a position lies in (R155). -/
def Env.bin (e : Env) (a : Nat) (pos : Int) : Nat :=
  let span := cfgDrvEnvSpan e.p e.i a
  if span = 0 then 0 else (clampInt 0 63 (Int.fdiv ((pos - cfgDrvEnvOrigin e.p e.i a) * 64) span)).toNat

/-- Insert into an ascending list. -/
def insertAsc (x : Nat) : List Nat → List Nat
  | [] => [x]
  | y :: t => if x ≤ y then x :: y :: t else y :: insertAsc x t

def sortAsc (l : List Nat) : List Nat := l.foldr insertAsc []

/-- A sample enters a bin's history of 32 and its value is computed anew (R157); the flag tells that the bin has newly reached the ceiling. -/
def EnvBin.learn (marginN ceilingN sample : Nat) (b : EnvBin) : EnvBin × Bool :=
  let hist := (sample :: b.hist).take 32
  let sorted := sortAsc hist
  let n := hist.length
  let base := if n < 8 then sorted.getD (n - 1) 0 else sorted.getD (n / 2) 0
  let v := base + marginN * 10
  if ceilingN * 10 ≤ v then ({ hist := hist, value := some (ceilingN * 10), atCeiling := true }, !b.atCeiling)
  else ({ hist := hist, value := some v, atCeiling := b.atCeiling }, false)

/-- Index of a bin and direction in the envelope vector: 0…63 closing, 64…127 opening. -/
def envIndex (opening : Bool) (bin : Nat) : Fin 128 :=
  if opening then ⟨64 + bin % 64, by omega⟩ else ⟨bin % 64, by omega⟩

/-- An axis is frozen (R160). -/
def Slice.frozen (e : Env) (a : Fin 3) (sl : Slice) : Bool :=
  (cfgDrvDriveFlags e.p e.i a).testBit 2 || sl.axes[a].d.frozenCmd

/-- One bin of a learned move: a bin with 16 valid estimates or more records its peak (R156, R157, R159). -/
def Slice.learnBin (e : Env) (a : Fin 3) (opening : Bool) (b : Fin 64) (sl : Slice) : Slice :=
  let pk := sl.axes[a].d.peaks[b]
  if 16 ≤ pk.count then
    let ix := envIndex opening b.val
    let r := (sl.axes[a].d.env[ix]).learn (cfgDrvEnvMargin e.p e.i a) (cfgDrvForceCeiling e.p e.i a) pk.best
    let sl := sl.modD a fun d => { d with env := d.env.set ix r.1 }
    if r.2 then sl.raise e 6 1 (a.val * 16 + b.val * 64 + b2n opening * 4096) else sl
  else sl

/-- The axis's teach results and envelopes go to Logline (R154). -/
def Slice.sendTeach (e : Env) (a : Fin 3) (sl : Slice) : Slice :=
  let d := sl.axes[a].d
  { sl with iq := sl.iq.offer ⟨3, e.i, a.val, 0, e.common, false, 0, [], some ⟨3 * e.i + a.val, d.teachValid, d.teachResult, d.teach, d.env⟩⟩ }

/-- Envelopes of the axis take samples (R155, R160). -/
def Slice.learns (e : Env) (a : Fin 3) (sl : Slice) : Bool := (cfgDrvDriveFlags e.p e.i a).testBit 1 && !sl.frozen e a

/-- What the samples of a learned move in one direction leave in the envelope of an axis (R157). -/
def Slice.learnPeaks (e : Env) (a : Fin 3) (opening : Bool) (sl : Slice) : Slice :=
  (List.finRange 64).foldl (fun sl b => sl.learnBin e a opening b) sl

/-- A learned move ends on an axis (R157, R158): its envelope learns, and the record goes to Logline (R154); within a teach cycle the samples wait for its result. -/
def Slice.learnAxis (e : Env) (a : Fin 3) (opening : Bool) (sl : Slice) : Slice :=
  if !sl.learns e a then sl
  else if sl.teach.isSome then sl.modD a fun d => { d with taught := d.taught ++ [(opening, d.peaks)] }
  else if sl.axes[a].d.teachValid then (sl.learnPeaks e a opening).sendTeach e a
  else sl

/-- The direction of an axis geared to `a`, for a direction of `a` (R93, R122). -/
def Env.followsOpening (e : Env) (a b : Fin 3) (opening : Bool) : Bool :=
  if b = a then opening else opening != (e.dirInvert a != e.dirInvert b) != decide (e.gearRatio b 0 < 0)

/-- A full move has ended at its target: its axis and every axis geared to it learn, each where nothing bars it (R158). -/
def Slice.learnMove (e : Env) (a : Fin 3) (opening : Bool) (sl : Slice) : Slice :=
  let ok := sl.axes[a].m.learnable
  sl.withFollowers e a fun b sl =>
    (if ok && sl.axes[b].m.learnable then sl.learnAxis e b (e.followsOpening a b opening) else sl).modM b fun m => { m with learnable := false }

/-- A microstep goes out with the frame of its period of 25 µs (R214). -/
def Slice.powerStep (e : Env) (a : Fin 3) (old : Int) (sl : Slice) : Slice :=
  let m := sl.axes[a].m
  if m.pos = old then sl
  else sl.modTether fun t => { t with steps := (t.steps.filter fun x => decide (e.now < x.at_ + 25000)) ++ [⟨a, e.now, m.pos - old⟩] }

/-- The action of the leaves on an obstacle has completed once their ungeared axis stands with nothing more to run (R164, R165). -/
def Slice.actionDone (e : Env) (a : Fin 3) (sl : Slice) : Slice :=
  let m := sl.axes[a].m
  if decide (e.leafAxis = some a) && decide (m.v = 0) && m.queue.isEmpty && m.rev.isNone then sl.modPortal fun q => { q with acting := .none } else sl

/-- The bin samples of the move an axis has run (R156), as the signature shows them (R485). -/
def Slice.binSamples (a : Fin 3) (sl : Slice) : List Nat := sl.axes[a].d.peaks.toList.map fun b => if 16 ≤ b.count then b.best else 0xFFFF

/-- A move begins: the samples of the axis and of those geared to it start anew (R156), and so does the place a geared axis starts from (R163). The samples of a closing move of the leaves stay as the signature, however it ended (R485). -/
def Slice.moveBegins (e : Env) (a : Fin 3) (sl : Slice) : Slice :=
  let m := sl.axes[a].m
  let closes := match dropDone m.pos m.queue with
    | mv :: _ => !e.opens a (decide (m.pos < mv.target))
    | [] => false
  let sl := if e.leafAxis = some a then
      sl.modPortal fun q => { q with acc := { q.acc with sig := if q.acc.closing then sl.binSamples a else q.acc.sig, closing := closes, learned := q.acc.learned && !closes } }
    else sl
  sl.withFollowers e a fun b sl => (sl.modD b fun d => { d with peaks := Vector.replicate 64 ⟨0, 0⟩ }).modM b fun m => { m with startPos := m.pos }

/-- A move has ended at its target: it is learned if it may be, which the cycle record tells of a closing one (R484), and the axis's request drops (R237). -/
def Slice.moveEnds (e : Env) (a : Fin 3) (opening : Bool) (sl : Slice) : Slice :=
  let learned := sl.axes[a].m.learnable && sl.learns e a && sl.axes[a].d.teachValid
  let sl := if !opening && decide (e.leafAxis = some a) then sl.modPortal fun q => { q with acc := { q.acc with learned := learned } } else sl
  (sl.learnMove e a opening).modM a fun m => { m with req := .idle }

/-- A step edge of an axis that runs on its queue: the microstep, the next interval, and what follows from the beginning and the end of a move. -/
def Slice.moveEdge (e : Env) (a : Fin 3) (sl : Slice) : Slice :=
  let m := sl.axes[a].m
  let braking := m.stopping || m.rev.isSome
  let sl := if !braking && !m.running && decide (dropDone m.pos m.queue ≠ []) then sl.moveBegins e a else sl
  let sl := if braking then sl.modM a (Motion.stopEdge e a) else sl.modM a (Motion.queueEdge e a)
  let after := sl.axes[a].m
  let sl := if !braking && decide (after.queue.length < m.queue.length) then sl.moveEnds e a (e.opens a after.dirPos) else sl
  sl.actionDone e a

/-- One step edge of an axis (R100): a homing run, a follower or a move; nothing where no edge can fall. -/
def Slice.stepEdge (e : Env) (a : Fin 3) (sl : Slice) : Slice :=
  let m := sl.axes[a].m
  let old := m.pos
  if !sl.axes[a].d.mode.driven then sl
  else
    let sl := match m.queue with
      | mv :: _ => sl.modM a fun m => { m with target := mv.target }
      | [] => sl
    let sl' := match m.home with
      | some h => sl.homingEdge e a h
      | none => if e.geared a then sl.followerEdge e a else sl.moveEdge e a
    let sl' := sl'.modM a fun m' => { m' with freshStop := false, firstAt := if m.v = 0 ∧ m'.pos ≠ old then some e.now else m'.firstAt }
    let sl' := sl'.powerStep e a old
    let sl' := sl'.followGenerator e a
    if sl'.axes[a].m.pos = old then sl' else sl'.gearFollow e (4 + a.val)

/-- Another step edge is due on an axis without anything new. -/
def Slice.edgeDue (e : Env) (a : Fin 3) (sl : Slice) : Bool :=
  let m := sl.axes[a].m
  if e.geared a && m.home.isNone then sl.engaged e a && decide (m.pos ≠ sl.gearGoal e a) else decide (m.v ≠ 0) || !m.queue.isEmpty

/-- The interval timer after an edge at `base` half ns that has moved the axis from `old`: it runs to the next edge, or stands (R97, R98). -/
def Motion.arm (base : Nat) (old : Int) (more : Bool) (m : Motion) : Motion :=
  if m.pos = old then { m with edgeAt := none }
  else
    { m with edgeAt := if more then some (base + m.interval * stageDiv m.stage * 5) else none,
             edgeGap := base - m.lastEdge.getD base, lastEdge := some base }

/-- A step edge at its instant, which the interval timer gives. -/
def Slice.timedEdge (e : Env) (a : Fin 3) (base : Nat) (sl : Slice) : Slice :=
  if sl.axes[a].d.mode.driven then
    let old := sl.axes[a].m.pos
    let sl := sl.stepEdge e a
    sl.modM a (Motion.arm base old (sl.edgeDue e a))
  else sl

end Sys2Proof.Machine
end

