-- ==== Sys2Proof/Machine/Drive.lean ====
section
/-! DEFINITION. The load-angle estimator, the field clamp, step loss, drive faults and the obstacle decision (file 04). -/

namespace Sys2Proof.Machine

/-- A measured quantity as the whole number reported for it; which way an inexact one is rounded is open. -/
def reportR (x : Rat) : Int := if (x.floor : Rat) = x then x.floor else if Config.reportsUp x then x.floor + 1 else x.floor

/-- An angle in microsteps brought into −512 … 512 of a neighbour. -/
def wrapMicro (x : Rat) : Rat := x - 1024 * (((x + 512) / 1024).floor : Rat)

def clampR (lo hi x : Rat) : Rat := if x < lo then lo else if hi < x then hi else x

/-- k_e in V·s/rad, resistances in Ω, inductances in H, capacitance in F: from the teach results, or left open without them. -/
def Slice.keOf (e : Env) (a : Fin 3) (sl : Slice) : Rat :=
  (if sl.axes[a].d.teachValid then (sl.axes[a].d.teach.ke : Rat) else (Config.untaughtKe (e.i * 3 + a.val) : Rat)) / 1000000

/-- The induced voltage k_e gives at a speed in microsteps/s (R143, R147). -/
def Slice.emfAt (e : Env) (a : Fin 3) (v : Rat) (sl : Slice) : Rat := sl.keOf e a * Config.twoPi * v / 1024

/-- One period of the estimator (R143) without the field clamp and the load angle. -/
def Slice.estimate (e : Env) (a : Fin 3) (x : PhaseAvg) (sl : Slice) : Estimator :=
  let d := sl.axes[a].d
  let m := sl.axes[a].m
  let s := d.est
  let ax := e.i * 3 + a.val
  let t := d.teachValid
  let rA : Rat := ((if t || d.rTracked then d.rUseA else Config.untaughtR ax : Nat) : Rat) / 1000
  let rB : Rat := ((if t || d.rTracked then d.rUseB else Config.untaughtR ax : Nat) : Rat) / 1000
  let lA : Rat := ((if t then d.teach.lA else Config.untaughtL ax : Nat) : Rat) / 1000000
  let lB : Rat := ((if t then d.teach.lB else Config.untaughtL ax : Nat) : Rat) / 1000000
  let c : Rat := ((if t then d.teach.c else Config.untaughtC ax : Nat) : Rat) / 1000000000000
  let dt : Rat := 25 / 1000000
  let ua : Rat := (x.ua : Rat) / 1000
  let ub : Rat := (x.ub : Rat) / 1000
  let imA := (x.ia : Rat) / 1000 - c * (ua - s.uPrevA) / dt
  let imB := (x.ib : Rat) / 1000 - c * (ub - s.uPrevB) / dt
  let eA := ua - rA * imA - lA * (imA - s.imPrevA) / dt
  let eB := ub - rB * imB - lB * (imB - s.imPrevB) / dt
  let mag := Config.sqrtR (eA * eA + eB * eB)
  let v : Rat := (sl.speedOf e a : Rat) / 65536
  let vv : Rat := cfgDrvLambdaValidSpeed e.p e.i a
  let valid := decide (vv ≤ v) && decide (sl.emfAt e a vv ≤ mag) && decide (v ≠ 0)
  let meas := Config.atan2Micro (-eA) eB + (if m.dirPos then 0 else 512)
  let thetaR := if valid then s.thetaA - wrapMicro (s.thetaA - meas) else s.thetaR
  let iq := -imA * Config.sinMicro thetaR + imB * Config.cosMicro thetaR
  let dir : Rat := if v = 0 then 0 else if m.dirPos then 1 else -1
  let force := (cfgDrvFPerA e.p e.i a : Rat) / 65536 * iq * dir
  let tau : Rat := (cfgDrvEstTau e.p e.i a : Rat) / 10000
  { s with uPrevA := ua, uPrevB := ub, imPrevA := imA, imPrevB := imB, mag := mag, thetaR := thetaR, iq := iq * 1000,
           amp := Config.sqrtR (imA * imA + imB * imB) * 1000, valid := valid,
           forceF := s.forceF + (force - s.forceF) * dt / tau }

/-- The load angle in 1/256 electrical revolution (R143), positive while the field leads in the direction of motion (R144, log entry 126). -/
def Estimator.angle (dirPos : Bool) (s : Estimator) : Estimator := { s with lambda := wrapMicro (s.thetaA - s.thetaR) / 4 * (if dirPos then 1 else -1) }

/-- The field clamp (R149): the applied angle is held within clamp_angle of the rotor angle, estimated or held, at any speed, until the commanded position is back inside the limit (log entry 22). -/
def Slice.clampField (e : Env) (a : Fin 3) (s : Estimator) (sl : Slice) : Estimator :=
  let m := sl.axes[a].m
  let pos : Rat := m.pos
  let lim : Rat := 4 * (cfgDrvClampAngle e.p e.i a : Rat)
  let can := (cfgDrvDriveFlags e.p e.i a).testBit 0 && sl.axes[a].d.mode.driven
  if can then
    let rot := if s.clamp then s.thetaR else pos - wrapMicro (pos - s.thetaR)
    let ta := clampR (rot - lim) (rot + lim) pos
    { s with thetaR := rot, thetaA := ta, slip := reportR (pos - ta), clamp := decide (ta ≠ pos) }
  else { s with thetaA := pos, slip := 0, clamp := false }

/-- The axis, or the one it is geared to, gathers speed towards V_MAX (R104, R163). -/
def Slice.accelerating (e : Env) (a : Fin 3) (sl : Slice) : Bool :=
  let l := e.leads a
  let m := sl.axes[l].m
  decide (m.v ≠ 0) && !m.decel && m.rev.isNone && !m.stopping && decide (m.v < (e.prof l m.profile).vMax * 65536)

/-- The axis, or the one it is geared to, is accelerating or decelerating, or in a replace deceleration (R142); from above V_MAX it brakes to it (R113). -/
def Slice.ramping (e : Env) (a : Fin 3) (sl : Slice) : Bool :=
  let l := e.leads a
  let m := sl.axes[l].m
  decide (m.v ≠ 0) && (m.decel || m.rev.isSome || m.stopping || decide (m.v ≠ (e.prof l m.profile).vMax * 65536))

/-- The boost setting and its limit of 2.5 A rms over 1 s (R142); in strong mode the chopper slews to the setting (R140), and in quiet mode the trim brings the current amplitude to it with a time constant of 50 ms. -/
def Slice.boost (e : Env) (a : Fin 3) (x : PhaseAvg) (sl : Slice) : Slice :=
  let sq := (x.ia.natAbs * x.ia.natAbs + x.ib.natAbs * x.ib.natAbs) / 2
  let d := sl.axes[a].d
  let rms := (sq :: d.rms).take 40000
  let acc := d.rmsAcc + sq - (if d.rms.length < 40000 then 0 else d.rms.getLast?.getD 0)
  let next := acc - (if rms.length < 40000 then 0 else rms.getLast?.getD 0)
  let bc := cfgDrvBoostCurrent e.p e.i a
  let wants := (cfgDrvDriveFlags e.p e.i a).testBit 3 && decide (d.mode = .strong) && sl.axes[a].m.home.isNone && sl.ramping e a
  let fits := decide (next + bc * bc ≤ 40000 * (2500 * 2500))
  sl.modD a fun d =>
    let d : Drive :=
      { d with rms := rms, rmsAcc := acc, boostActive := wants && fits, boostBlocked := wants && !fits,
               cntBoost := if d.boostActive && wants && !fits then satInc 255 d.cntBoost else d.cntBoost }
    if d.mode = .strong then
      let d : Drive := { d with current := e.currentOf a d sl.axes[a].m.home.isSome .strong }
      { d with chop := e.slewChopper a d }
    else if d.mode = .quiet then { d with trim := d.trim + (amplitudeOf d.current - d.est.amp) / 2000 }
    else d

/-- Count consecutive periods in which a condition holds. -/
def consec (c : Bool) (n : Nat) : Nat := if c then n + 1 else 0

/-- An obstacle action of the portal has not completed: a second declaration is only recorded (R164). -/
def Slice.obsBusy (sl : Slice) : Bool :=
  decide (sl.portal.acting ≠ .none) || sl.portal.obsLatch.isSome || [sl.axes[0].m, sl.axes[1].m, sl.axes[2].m].any fun m => m.interrupted.isSome

/-- A closing leaf's obstacle is being acted on, until its reopen move completes or is replaced: sources 1 and 5 are suspended on the portal (R165). -/
def Slice.obsReopening (sl : Slice) : Bool := decide (sl.portal.acting = .closing)

/-- The envelope value of the present bin and direction (R155). -/
def Slice.envNow (e : Env) (a : Fin 3) (sl : Slice) : Option Nat :=
  let m := sl.axes[a].m
  (sl.axes[a].d.env[envIndex (e.opens a m.dirPos) (e.bin a m.pos)]).value

/-- The class of an axis's edge input; 0 where it has none (R162, R186). -/
def Slice.edgeClass (e : Env) (a : Fin 3) (sl : Slice) : Nat :=
  let ei := cfgDrvEdgeInput e.p e.i a
  if h : ei < 4 then sl.inp.an[ei].cls else 0

/-- The edge input of an axis that closes is pressed, or open or short with edge_fault_mode 0 (R162 source 3). -/
def Slice.edgeStands (e : Env) (a : Fin 3) (sl : Slice) : Bool :=
  let m := sl.axes[a].m
  let cls := sl.edgeClass e a
  decide (cfgDrvEdgeInput e.p e.i a < 4) && (decide (cls = 2) || ((decide (cls = 1) || decide (cls = 4)) && !(cfgDrvDriveFlags e.p e.i a).testBit 4))
    && decide (sl.speedOf e a ≠ 0) && m.home.isNone && !e.opens a m.dirPos

/-- The lowest source of R162 that completes on an axis in this period; 0 none. A source completes in the period in which its count of consecutive periods is reached, and again only after its condition has ended. -/
def Slice.obsSourceOf (e : Env) (a : Fin 3) (sl : Slice) : Nat :=
  let d := sl.axes[a].d
  let m := sl.axes[a].m
  let on := (cfgDrvDriveFlags e.p e.i a).testBit 1
  if sl.speedOf e a = 0 ∨ m.home.isSome then 0
  else if on && d.teachValid && decide (d.cntEnv = cfgDrvObstacleConfirm e.p e.i a) then 1
  else if on && decide (d.cntCeil = cfgDrvObstacleConfirm e.p e.i a) then 2
  else if decide (d.cntEdge = 1) then 3
  else if on && decide (d.cntCur = cfgDrvCurrentConfirm e.p e.i a) then 4
  else if on && !sl.obsBusy && decide (d.cntCollapse = cfgDrvStallConfirm e.p e.i a) then 5
  else 0

/-- The cycle record counts declarations and keeps the first (R484). -/
def CycleAcc.noteObstacle (src : Nat) (a : Fin 3) (opening : Bool) (bin : Nat) (force : Int) (c : CycleAcc) : CycleAcc :=
  let c := { c with obstacles := satInc 255 c.obstacles }
  if c.firstSource = 0 then { c with firstSource := src, firstAxis := a.val, firstOpening := opening, firstBin := bin, firstForce := force }
  else c

/-- The cycle record keeps the peaks of force, load angle and current of each axis (R484). -/
def CycleAcc.notePeaks (a : Fin 3) (s : Estimator) (c : CycleAcc) : CycleAcc :=
  let f := reportR (s.forceF * 10)
  let l := reportR s.lambda
  { c with
    peakForce := if s.valid then c.peakForce.set a (some (match c.peakForce[a] with | some g => max f g | none => f)) else c.peakForce
    peakLambda := if s.valid && decide (c.peakLambda[a].natAbs < l.natAbs) then c.peakLambda.set a l else c.peakLambda
    peakCurrent := c.peakCurrent.set a (max c.peakCurrent[a] (reportR s.amp).toNat), clamped := c.clamped || s.clamp }

/-- An obstacle is declared on an axis (R162, R164). While an action is under way it is recorded in AX_OBSTACLE and has no further effect; else it is raised and counted, and its own action is latched at the end of the next period. -/
def Slice.declare (e : Env) (a : Fin 3) (src : Nat) (sl : Slice) : Slice :=
  let m := sl.axes[a].m
  let opening := e.opens a m.dirPos
  let bin := e.bin a m.pos
  let busy := sl.obsBusy
  let sl := sl.modD a fun d =>
    { d with obsSource := src, obsBin := bin, obsOpening := opening, obsRecorded := busy, obsForce := reportR (d.est.forceF * 10) }
  if busy then sl
  else
    let sl := sl.modD a fun d => { d with cntObstacles := satInc 255 d.cntObstacles }
    let sl := sl.modM a fun m => { m with learnable := false }
    let sl := sl.raise e 5 src (a.val * 16 + bin * 64)
    let sl := sl.modPortal fun q => { q with obsLatch := some a, acc := q.acc.noteObstacle src a opening bin (reportR (sl.axes[a].d.est.forceF * 10)) }
    if e.isAux a then sl
    else sl.modPortal fun q => { q with obs := if opening then .opening else .closing, acting := if opening then .opening else .closing }

/-- The reopen target for a replace latched now (R120). -/
def Slice.reopenTo (e : Env) (l : Fin 3) (sl : Slice) : Int :=
  let o := e.openPos l
  if cfgPrtReopenMode e.p e.i = 0 then o
  else
    let d : Int := e.microsteps l (cfgPrtReopenDistance e.p e.i)
    let t := if e.dirInvert l then sl.axes[l].m.pos - d else sl.axes[l].m.pos + d
    if e.dirInvert l then max t o else min t o

/-- Reverse the leaves on set 3 towards the reopen target (R117, R164), but not where a drive fault has left one of them, or an axis geared to one, in a mode other than hold (R169). -/
def Slice.reverseLeaf (e : Env) (l : Fin 3) (sl : Slice) : Slice :=
  let t := sl.reopenTo e l
  let sl := sl.modPortal fun q => { q with reopenTarget := t, reopenShort := false }
  let bars (a : Fin 3) : Bool := (decide (e.role a = 1) || (decide (e.role a ≠ 0) && e.geared a)) && sl.faulted a && !sl.axes[a].d.mode.driven
  if sl.axes[l].d.mode.driven && !bars 0 && !bars 1 && !bars 2 then sl.offerMove e l ⟨t, 3, false, true⟩ else sl

/-- The action of a declaration, latched one period after it (R164, R166): a leaf reverses or stops, an auxiliary axis stops. -/
def Slice.latchObstacle (e : Env) (sl : Slice) : Slice :=
  match sl.portal.obsLatch with
  | none => sl
  | some a =>
    let sl := sl.modPortal fun q => { q with obsLatch := none }
    if e.isAux a then
      let mv := sl.axes[a].m.queue.head?
      sl.modM a fun m => { m.stop with interrupted := mv.map fun q => (q, e.now) }
    else match e.leafAxis with
      | none => sl.modPortal fun q => { q with acting := .none }
      | some l =>
        let sl := match sl.portal.acting with
          | .closing => sl.reverseLeaf e l
          | .opening => sl.modM l Motion.stop
          | .none => sl
        sl.actionDone e l

/-- The peak of the present bin takes a valid force (R156). -/
def Slice.samplePeak (e : Env) (a : Fin 3) (sl : Slice) : Slice :=
  let d := sl.axes[a].d
  let m := sl.axes[a].m
  if d.est.valid && decide (sl.speedOf e a ≠ 0) && m.home.isNone then
    let b : Fin 64 := ⟨e.bin a m.pos % 64, by omega⟩
    let f := (reportR (d.est.forceF * 10)).toNat
    sl.modD a fun d => { d with peaks := d.peaks.set b ⟨max (d.peaks[b]).best f, (d.peaks[b]).count + 1⟩ }
  else sl

/-- Step loss (R148, R169): by the valid load angle while unclamped, or by slip. -/
def Slice.stepLoss (e : Env) (a : Fin 3) (sl : Slice) : Bool :=
  let s := sl.axes[a].d.est
  (!s.clamp && s.valid && (decide (64 ≤ s.lambda) || decide (s.lambda ≤ -64))) || decide (cfgDrvSlipLimit e.p e.i a < absN s.slip)

/-- The lowest drive fault of R168 that this period detects; 0 none. -/
def Slice.driveFaultOf (e : Env) (a : Fin 3) (x : PhaseAvg) (sl : Slice) : Nat :=
  let d := sl.axes[a].d
  if 80 ≤ d.cntOpen then 2
  else if x.dieHot then 5
  else if sl.stepLoss e a && d.mode.driven then 6
  else if 40 < d.cntIso then 7
  else if 320 ≤ d.cntImpl then 9 else 0

/-- The period's counters and conditions of one axis (R147, R162, R163, R168). -/
def Slice.countPeriod (e : Env) (a : Fin 3) (x : PhaseAvg) (sl : Slice) : Slice :=
  let d := sl.axes[a].d
  let m := sl.axes[a].m
  let s := d.est
  let vc := sl.speedOf e a
  let v : Rat := (vc : Rat) / 65536
  let fast := decide (cfgDrvLambdaValidSpeed e.p e.i a * 65536 ≤ vc) && decide (vc ≠ 0)
  let opening := e.opens a m.dirPos
  let normalStart := decide (m.startPos = (if opening then e.closedPos a else e.openPos a))
  let allowance := if d.sinceChange < 80 || (!normalStart && sl.accelerating e a)
    then cfgDrvTransientAllowance e.p e.i a else 0
  let overEnv := s.valid && (match sl.envNow e a with
    | some w => decide (((w + allowance * 10 : Nat) : Rat) < s.forceF * 10)
    | none => false)
  let emf := sl.emfAt e a v
  sl.modD a fun d =>
    { d with cntEnv := consec (overEnv && !sl.obsReopening) d.cntEnv,
             cntCeil := consec ((s.valid || s.clamp) && decide ((cfgDrvForceCeiling e.p e.i a : Rat) < s.forceF)) d.cntCeil,
             cntCur := consec (decide (d.mode = .quiet) && !s.valid && decide ((cfgDrvLowCurrentCeiling e.p e.i a : Rat) < s.amp)) d.cntCur,
             cntCollapse := consec (fast && decide (s.mag < (cfgDrvStallRatio e.p e.i a : Rat) / 100 * emf) && (m.home.isSome || !sl.obsReopening)) d.cntCollapse,
             cntEdge := consec (sl.edgeStands e a) d.cntEdge,
             cntOpen := consec (decide (d.mode = .strong) && decide (2 * s.amp * s.amp < (d.current : Rat) * d.current)) d.cntOpen,
             cntImpl := consec (decide (vc ≠ 0) && decide (2 * emf < s.mag)) d.cntImpl,
             cntIso := consec (d.isolators != x.isolatorsClosed) d.cntIso,
             readback := x.isolatorsClosed,
             sinceChange := satInc 1000 d.sinceChange,
             standing := (if x.dieHot then 32 else 0) + (if 40 ≤ d.cntIso then 128 else 0) + (d.standing / 16 % 2) * 16 + (d.standing / 256 % 2) * 256 + (d.standing / 1024 % 2) * 1024 }

/-- The isolators of an axis that went free open 100 µs to 1 ms after its bridges went off (R137); when within that is open. -/
def Slice.openIsolators (e : Env) (a : Fin 3) (sl : Slice) : Slice :=
  match sl.axes[a].d.freedAt with
  | some t =>
    if t + 950000 ≤ e.now ∨ (t + 100000 ≤ e.now ∧ Config.freeNat (64 + a.val) e.draw % 2 = 1) then
      sl.modD a fun d => { d with isolators := false, freedAt := none }
    else sl
  | none => sl

/-- What bars an axis from learning the move it runs (R158): the field clamp, and a press of its edge. -/
def Slice.barLearning (e : Env) (a : Fin 3) (sl : Slice) : Slice :=
  if sl.axes[a].d.est.clamp || (decide (cfgDrvEdgeInput e.p e.i a < 4) && decide (sl.edgeClass e a = 2)) then sl.modM a fun m => { m with learnable := false } else sl

/-- One axis in one estimator period. -/
def Slice.axisPeriod (e : Env) (a : Fin 3) (x : PhaseAvg) (sl : Slice) : Slice :=
  let was := sl.axes[a].d.est.clamp
  let sl := sl.openIsolators e a
  let sl := if e.geared a then sl.followGenerator e a else sl
  let s := (sl.clampField e a (sl.estimate e a x)).angle sl.axes[a].m.dirPos
  let sl := sl.modD a fun d => { d with est := s, cntClamps := if s.clamp && !was then satInc 255 d.cntClamps else d.cntClamps }
  let sl := ((sl.barLearning e a).boost e a x).countPeriod e a x
  let sl := sl.samplePeak e a
  let sl := if sl.portal.acc.running then sl.modPortal fun q => { q with acc := q.acc.notePeaks a s } else sl
  let f := sl.driveFaultOf e a x
  let stalled := sl.axes[a].m.home.isSome && decide (cfgDrvStallConfirm e.p e.i a ≤ sl.axes[a].d.cntCollapse)
  let src := sl.obsSourceOf e a
  let sl := if stalled then (sl.modD a fun d => { d with cntCollapse := 0 }).homeStallNow e a
    else if src ≠ 0 then sl.declare e a src else sl
  if f ≠ 0 ∧ sl.axes[a].d.fault = 0 then sl.driveFault e a f false else sl

/-- One estimator period of a slice (R143): last period's obstacle action is latched, then each axis with a role runs its period. -/
def Slice.estimatorPeriod (e : Env) (x0 x1 x2 : PhaseAvg) (sl : Slice) : Slice :=
  let sl := sl.latchObstacle e
  let sl := if e.enabledAxis 0 then sl.axisPeriod e 0 x0 else sl
  let sl := if e.enabledAxis 1 then sl.axisPeriod e 1 x1 else sl
  if e.enabledAxis 2 then sl.axisPeriod e 2 x2 else sl

/-- AUXILIARY_MOVE_REISSUE (R164): the interrupted move of an auxiliary axis is issued again; the clock is at least at its due time. -/
def Slice.reissueAux (e : Env) (a : Fin 3) (sl : Slice) : Slice :=
  match sl.axes[a].m.interrupted with
  | none => sl
  | some (mv, at_) =>
    if sl.axes[a].m.v = 0 ∧ at_ + ms (cfgPrtReclosePauseMs e.p e.i) ≤ e.now then
      let sl := sl.modM a fun m => { m with interrupted := none }
      if e.enrolled (6 + a.val) && !sl.sw.unarbitrated then (sl.modM a fun m => { m with pending := m.pending ++ [mv] }).askGrant e a
      else sl.offerMove e a mv
    else sl

/-- ISOLATOR_CONFIRMED (R137): the wanted mode takes force, with the first PWM edge no earlier than 200 µs from now, or a phase short found by the check at the enable abandons it (R168 code 3). Of an axis that is caught in flight the bridges stay off until it has been measured (R416). A grant held for an enable without a move counts its t_c from here (R237, log entry 107). -/
def Slice.isolatorConfirmed (e : Env) (a : Fin 3) (short : Bool) (sl : Slice) : Slice :=
  match sl.axes[a].d.wanted with
  | none => sl
  | some md =>
    if !e.gate then sl
    else
      let sl := sl.modD a fun d => { d with readback := true, cntIso := 0 }
      if short then sl.driveFault e a 3 false
      else if sl.axes[a].m.catching.isSome then sl.modD a fun d => { d with pwmFrom := e.now + 200000 }
      else
        let sl := (sl.setMode e a md).modM a fun m => if m.startsLater then m else { m with firstAt := some e.now }
        sl.modD a fun d => { d with pwmFrom := e.now + 200000, est := { d.est with thetaR := sl.axes[a].m.pos, thetaA := sl.axes[a].m.pos, slip := 0, clamp := false } }

/-- A tracked resistance lies outside ±40 % of its teach value (R153). -/
def driftsFrom (x t : Nat) : Bool := decide (x * 100 < t * 60) || decide (t * 140 < x * 100)

/-- RESISTANCE_TRACKING_WINDOW (R153): means over 200 ms of hold, in mV and mA. The condition of fault 8 stands until a later window clears it (R168). -/
def Slice.trackResistance (e : Env) (a : Fin 3) (ua ia ub ib : Nat) (sl : Slice) : Slice :=
  let d := sl.axes[a].d
  if d.mode = .hold ∧ sl.speedOf e a = 0 ∧ 300 ≤ cfgDrvHoldCurrent e.p e.i a then
    let r (u i : Nat) (use : Nat) : Nat := if i = 0 then Config.freeNat use e.draw else (reportR ((u : Rat) / i * 1000)).toNat
    let rA := r ua ia 20
    let rB := r ub ib 21
    let drifts := d.teachValid && (driftsFrom rA d.teach.rA || driftsFrom rB d.teach.rB)
    let sl := sl.modD a fun d => { d with rUseA := rA, rUseB := rB, rTracked := true, standing := d.standing - d.standing / 256 % 2 * 256 + (if drifts then 256 else 0) }
    if drifts && decide (d.fault = 0) then sl.driveFault e a 8 false else sl
  else sl

/-- ENVELOPE_RESET (R161): both envelopes emptied and the notice raised at standstill; elsewhere refused and counted. -/
def Slice.envelopeReset (e : Env) (a : Fin 3) (sl : Slice) : Slice :=
  if sl.speedOf e a = 0 then
    (sl.modD a fun d => { d with env := Vector.replicate 128 EnvBin.reset, peaks := Vector.replicate 64 ⟨0, 0⟩ }).raise e 6 2 (a.val * 16)
  else sl.modD a fun d => { d with cntRefusals := satInc 255 d.cntRefusals }

/-- The conditions under which a teach cycle is accepted (R151); one that a move just latched precedes is ignored (R169). -/
def Slice.teachAllowed (e : Env) (sl : Slice) : Bool :=
  e.active && decide (sl.portal.st = .fault) && sl.inp.lines[3].deb && !sl.input (cfgPrtInS2 e.p e.i) && sl.teach.isNone
    && [0, 1, 2].all (fun a => decide (sl.speedOf e (a : Fin 3) = 0) && sl.axes[(a : Fin 3)].m.queue.isEmpty)

/-- The first axis from `k` on that a condition names; 3 where there is none. -/
def axisFrom (f : Fin 3 → Bool) (k : Nat) : Nat := if k = 0 ∧ f 0 then 0 else if k ≤ 1 ∧ f 1 then 1 else if k ≤ 2 ∧ f 2 then 2 else 3

/-- A teach command that is refused is counted (R151). -/
def Slice.teachRefused (sl : Slice) : Slice := sl.modD 0 fun d => { d with cntRefusals := satInc 255 d.cntRefusals }

/-- When the measurements of steps 1 to 3, begun now, are over: at most 140 ms an axis (R151); when within that is open. -/
def Env.teachMeasured (e : Env) : Nat := e.now + Config.freeNat 67 e.draw % (([0, 1, 2].filter fun a => e.enabledAxis a).length * 140000000 + 1)

/-- TEACH_CYCLE (R151): begun on all enabled axes of the portal, or refused and counted. An axis that rests in a drive fault has one in the cycle (R152). -/
def Slice.teachStart (e : Env) (sl : Slice) : Slice :=
  if sl.teachAllowed e then
    let sl := forAxes (fun a sl => if e.enabledAxis a then sl.modD a fun d => { d with teachRunning := true, teachDone := 0, taught := [] } else sl) sl
    { sl with teach := some ⟨1, axisFrom (fun a => e.enabledAxis a) 0, e.teachMeasured, false, 0, none, false, Vector.replicate 3 false, Vector.ofFn fun a => sl.faulted a⟩ }
  else sl.teachRefused

/-- A teach cycle is interrupted (R152): by a command, a handle, the loss of zero speed or of the Hitch. Its moves stop. -/
def Slice.teachBreak (sl : Slice) : Slice :=
  match sl.teach with
  | some t => if t.step = 6 then sl else forAxes (fun a sl => sl.modM a Motion.stop) { sl with teach := some { t with step := 6, interrupted := true } }
  | none => sl

/-- The result of a teach cycle on one axis: the values measured, and what befell the cycle (R151, R152). -/
def teachCode (e : Env) (a : Nat) (t : Teach) (homed interrupted faulted : Bool) : Nat :=
  let l := cfgDrvMotorL e.p e.i a
  let ke := cfgDrvMotorKe e.p e.i a
  if t.rA < 500 ∨ 50000 < t.rA ∨ t.rB < 500 ∨ 50000 < t.rB ∨ t.rB * 10 < t.rA * 9 ∨ t.rA * 10 < t.rB * 9 then 1
  else if t.lA * 10 < 6 * l ∨ 15 * l < t.lA * 10 ∨ t.lB * 10 < 6 * l ∨ 15 * l < t.lB * 10 then 2
  else if 6000 < t.c then 3
  else if t.ke * 100 < 75 * ke ∨ 125 * ke < t.ke * 100 then 4
  else if !homed then 5
  else if interrupted then 6
  else if 100 < t.noise then 7
  else if faulted then 8 else 0

/-- TEACH_CYCLE_END on one axis, once the cycle has run its steps (R152, R154): on a pass the results are taken, teach_valid is set, the samples of its moves are learned (R158) and the record goes to Logline; on a failure only the code is kept. -/
def Slice.teachEnd (e : Env) (a : Fin 3) (t : Teach) (sl : Slice) : Slice :=
  match sl.teach with
  | some r =>
    if r.step = 6 ∧ sl.axes[a].d.teachRunning then
      let c := teachCode e a t (!r.unhomed[a]) r.interrupted r.faulted[a]
      let taught := sl.axes[a].d.taught
      let sl := sl.modD a fun d => { d with teachRunning := false, teachResult := c, taught := [] }
      let sl := if c ≠ 0 then sl else
        let sl := sl.modD a fun d => { d with teach := t, rUseA := t.rA, rUseB := t.rB, teachValid := true }
        (taught.foldl (fun sl x => (sl.modD a fun d => { d with peaks := x.2 }).learnPeaks e a x.1) sl).sendTeach e a
      if [0, 1, 2].any fun b => sl.axes[(b : Fin 3)].d.teachRunning then sl else { sl with teach := none }
    else sl
  | none => sl

end Sys2Proof.Machine
end

