-- ==== Sys2Proof/Machine/Inputs.lean ====
section
/-! DEFINITION. Digital inputs, train lines, analogue inputs and encoders (file 05). -/

namespace Sys2Proof.Machine

/-- Guaranteed thresholds of a voltage class in 0.1 V (R173). -/
def classInactive (c : Nat) : Int := if c = 0 then 84 else if c = 1 then 126 else if c = 2 then 168 else if c = 3 then 252 else if c = 4 then 336 else 385
def classActive (c : Nat) : Int := if c = 0 then 144 else if c = 1 then 216 else if c = 2 then 288 else if c = 3 then 432 else if c = 4 then 576 else 660

/-- The least hysteresis of a class, 5 % of its nominal voltage, in 0.1 V (R173). -/
def classHysteresis (c : Nat) : Nat := if c = 0 then 12 else if c = 1 then 18 else if c = 2 then 24 else if c = 3 then 36 else if c = 4 then 48 else 55

/-- A comparator (R173): active at or above the guaranteed active value, inactive at or below the guaranteed inactive value. Inside the band it keeps its state, unless the voltage has crossed the threshold that applies since it was last seen. The thresholds lie in the band, at least the hysteresis apart; their places are open. -/
def comparator (cls : Nat) (rise fall : Nat) (level : Bool) (was : Option Int) (v : Int) : Bool :=
  let low := classInactive cls
  let h := classHysteresis cls
  let up : Int := low + h + (rise % (((classActive cls - low).toNat - h) + 1) : Nat)
  let down : Int := low + (fall % ((up - h - low).toNat + 1) : Nat)
  if classActive cls ≤ v then true
  else if v ≤ low then false
  else match was with
    | none => level
    | some w => if level then !decide (down < w ∧ v ≤ down) else decide (w < up ∧ up ≤ v)

/-- The integrating debounce of R177 with a length of `n` samples: new deb and cnt. -/
def debounce (n : Nat) (raw deb : Bool) (cnt : Nat) : Bool × Nat :=
  if n = 0 then (raw, cnt)
  else
    let c := if raw then (if cnt < n then cnt + 1 else cnt) else cnt - 1
    (if c = n then true else if c = 0 then false else deb, c)

/-- Set INP_FAULT and raise E(s×12+7) (R182). -/
def Slice.inputFault (e : Env) (code source : Nat) (sl : Slice) : Slice :=
  (sl.modInp fun x => { x with faultCode := code, faultSource := source }).raise e 7 code (source * 16)

/-- R180: the stuck flag is set and raised. -/
def Slice.setStuck (e : Env) (i : Fin 16) (sl : Slice) : Slice :=
  ((sl.modDig i fun d => { d with stuck := true }).modInp fun x => { x with cntStuck := satInc 255 x.cntStuck }).inputFault e 1 i.val

/-- R181: the chatter flag is set and raised. -/
def Slice.setChatter (e : Env) (i : Fin 16) (sl : Slice) : Slice :=
  ((sl.modDig i fun d => { d with chatter := true }).modInp fun x => { x with cntChatter := satInc 255 x.cntChatter }).inputFault e 2 i.val

/-- Changes of deb in the window of 1 000 ms (R181). -/
def Dig.changes (d : Dig) : Nat := d.buckets.toList.foldl (· + ·) 0

/-- The stuck supervision of an input is due at a time (R180). -/
def Env.stuckDue (e : Env) (i : Nat) (t : Nat) (d : Dig) : Bool :=
  decide (cfgInpStuckTimeout e.p e.i i ≠ 0) && d.deb && !d.stuck && decide (d.activeAt + ms (cfgInpStuckTimeout e.p e.i i * 1000) ≤ t)

/-- The chatter flag clears at a time (R181). -/
def Env.quietDue (e : Env) (i : Nat) (t : Nat) (d : Dig) : Bool :=
  d.chatter && decide (d.changeAt + ms (cfgInpChatterQuiet e.p e.i i) ≤ t)

/-- One sample of one input at time `t` (R176, R177): comparator, inversion, debounce, and the flags that clear or set at it (R180, R181). -/
def Slice.sampleInput (e : Env) (t : Nat) (i : Fin 16) (v : Int) (sl : Slice) : Slice :=
  let d := sl.inp.dig[i]
  let fl := cfgInpInFlags e.p e.i i.val
  let lev := comparator (fl % 8) (Config.riseThreshold e.i i.val) (Config.fallThreshold e.i i.val) d.level d.volts v
  let raw := lev != fl.testBit 3
  let r := debounce (cfgInpDebounceMs e.p e.i i.val * 10) raw d.deb d.cnt
  let changed := r.1 != d.deb
  let sl := sl.modDig i fun d =>
    { d with level := lev, volts := some v, edgeAt := if lev = d.level then d.edgeAt else t, raw := raw, deb := r.1, cnt := r.2,
             activeAt := if changed && r.1 then t else d.activeAt, changeAt := if changed then t else d.changeAt,
             buckets := if changed then d.buckets.set 0 (d.buckets[0] + 1) else d.buckets,
             stuck := d.stuck && r.1 }
  let sl := if e.stuckDue i.val t sl.inp.dig[i] then sl.setStuck e i else sl
  let sl := if e.quietDue i.val t sl.inp.dig[i] then sl.modDig i fun d => { d with chatter := false } else sl
  let d := sl.inp.dig[i]
  if decide (cfgInpChatterLimit e.p e.i i.val ≠ 0) && decide (cfgInpChatterLimit e.p e.i i.val < d.changes) && !d.chatter && changed then sl.setChatter e i
  else sl

/-- One sample of a train line (R184). -/
def Slice.sampleLine (e : Env) (l : Fin 5) (v : Int) (sl : Slice) : Slice :=
  let x := sl.inp.lines[l]
  let lev := comparator (cfgInpTrainLineClass e.p) (Config.riseThreshold e.i (16 + l.val)) (Config.fallThreshold e.i (16 + l.val)) x.level x.volts v
  let r := debounce (cfgPrtTrainLineDebounce e.p * 10) lev x.deb x.cnt
  sl.modInp fun y => { y with lines := y.lines.set l ⟨lev, some v, r.1, r.2⟩ }

/-- After 1 000 samples the chatter buckets move on (R181). -/
def Slice.turnBuckets (sl : Slice) : Slice :=
  if sl.inp.bucketN + 1 < 1000 then sl.modInp fun x => { x with bucketN := x.bucketN + 1 }
  else
    (List.finRange 16).foldl (fun sl i => sl.modDig i fun d =>
      { d with buckets := Vector.ofFn fun j : Fin 10 => if j.val = 0 then 0 else d.buckets[j.val - 1]! })
      (sl.modInp fun x => { x with bucketN := 0 })

/-- At the first sample of a homing run an active confirmation input begins the latch (R131). -/
def Slice.firstHomeSample (e : Env) (a : Fin 3) (sl : Slice) : Slice :=
  match sl.axes[a].m.home with
  | some h =>
    if h.sampled then sl
    else
      let h := { h with sampled := true }
      let sl := sl.modM a fun m => { m with home := some h }
      let n := cfgAxHomeConfirmInput e.p e.i a.val
      if hn : n < 16 then (if sl.inp.dig[n].raw && h.latch.isNone then sl.homeLatchNow e a h else sl) else sl
  | none => sl

/-- INPUT_SAMPLE: every input and train line of a slice, at the instant `t`, the slice's next multiple of 100 µs (R176). -/
def Slice.inputSample (e : Env) (t : Nat) (pins : Vector Int 16) (lines : Vector Int 5) (sl : Slice) : Slice :=
  let sl := sl.modInp fun x => { x with sampleAt := t }
  let sl := (List.finRange 16).foldl (fun sl i => sl.sampleInput e t i pins[i]) sl
  let sl := (List.finRange 5).foldl (fun sl i => sl.sampleLine e i lines[i]) sl
  forAxes (fun a sl => sl.firstHomeSample e a) sl.turnBuckets

/-- The delivered value of an input (R178): the safe value while flagged, deb otherwise. -/
def Env.deliver (e : Env) (i : Nat) (d : Dig) : Bool :=
  if d.stuck || d.chatter then (cfgInpInFlags e.p e.i i).testBit 4 else d.deb

/-- At a sync point every input is delivered (R178). -/
def Slice.deliverInputs (e : Env) (sl : Slice) : Slice :=
  sl.modInp fun x => { x with dig := Vector.ofFn fun i : Fin 16 => { x.dig[i] with delivered := e.deliver i.val x.dig[i] } }

/-- The deb values of the inputs, bit i for Ii. -/
def Inputs.debWord (x : Inputs) : Nat := (List.finRange 16).foldl (fun n i => n + b2n x.dig[i].deb * 2 ^ i.val) 0

/-- R183 at a sync point: with the mirror that has come for it the standby compares the values of the sync point that mirror describes. A sync point without a mirror compares nothing and ends a run of differences (log entry 114). The active module's differences are clear. -/
def Slice.compareTwin (e : Env) (sl : Slice) : Slice :=
  sl.modInp fun x => { x with
    twinFresh := false
    prevDeb := x.debWord
    enc := x.enc.map fun c => { c with syncCount := c.count }
    dig := Vector.ofFn fun i : Fin 16 =>
        let d := x.dig[i]
        if !(e.tracks && decide (cfgInpTwinCompareMs e.p e.i ≠ 0)) then { d with diffAt := none, diff := false }
        else if !x.twinFresh then { d with diffAt := none }
        else if x.prevDeb.testBit i.val != x.twinDeb.testBit i.val then { d with diffAt := some (d.diffAt.getD e.now) }
        else { d with diffAt := none, diff := false } }

/-- TWIN_COMPARE_TIMEOUT (R183). -/
def Slice.twinCompare (e : Env) (i : Fin 16) (sl : Slice) : Slice :=
  let d := sl.inp.dig[i]
  match d.diffAt with
  | some t =>
    if !d.diff && decide (t + ms (cfgInpTwinCompareMs e.p e.i) ≤ e.now) && decide (cfgInpTwinCompareMs e.p e.i ≠ 0) then
      (sl.modDig i fun d => { d with diff := true }).inputFault e 4 i.val
    else sl
  | none => sl

/-- INPUT_EDGE (R179): the unsampled comparator output changes and is time-stamped. -/
def Slice.inputEdge (e : Env) (i : Fin 16) (level : Bool) (sl : Slice) : Slice :=
  sl.modDig i fun d => if d.level = level then d else { d with level := level, edgeAt := e.now }

/-! ### Analogue inputs -/

/-- The band of a resistance (R186). -/
def Env.anBand (e : Env) (k r : Nat) : Nat :=
  if r < cfgInpShortMax e.p e.i k then 1 else if r < cfgInpPressMax e.p e.i k then 2
  else if r < cfgInpNormMax e.p e.i k then 3 else 4

/-- Some axis uses an analogue input as its edge_input (R162, R188). -/
def Env.isEdge (e : Env) (k : Nat) : Bool := [0, 1, 2].any fun a => decide (cfgDrvEdgeInput e.p e.i a = k) && decide (e.role a ≠ 0)

/-- An edge or input enters class short or open: counted, and raised as input fault or as drive notice of each axis that uses it (R162, R188). -/
def Slice.anEntered (e : Env) (k : Nat) (sl : Slice) : Slice :=
  let sl := sl.modInp fun x => { x with cntAnalogue := satInc 255 x.cntAnalogue }
  if e.isEdge k then
    forAxes (fun a sl => if cfgDrvEdgeInput e.p e.i a.val = k ∧ e.role a.val ≠ 0 then sl.raise e 6 3 (a.val * 16 + k * 64) else sl) sl
  else sl.inputFault e 3 k

/-- The class of an analogue input holds its last value (R187). -/
def Env.anHolds (e : Env) (k : Fin 4) (x : Analogue) : Bool :=
  decide (cfgInpAnMode e.p e.i k.val = 1) && ((!x.exciting && !e.twinDrives) || x.settling)

/-- The flag held follows what holds the classes (R187). -/
def Slice.refreshHeld (e : Env) (sl : Slice) : Slice :=
  sl.modInp fun y => { y with an := Vector.ofFn fun k : Fin 4 => { y.an[k] with held := e.anHolds k y.an[k], run := if e.anHolds k y.an[k] then 0 else y.an[k].run } }

/-- ANALOGUE_SAMPLE (R185 to R188): a voltage in mV. -/
def Slice.analogueSample (e : Env) (k : Fin 4) (mv : Nat) (sl : Slice) : Slice :=
  let x := sl.inp.an[k]
  let mode := cfgInpAnMode e.p e.i k.val
  if mode = 0 then sl.modInp fun y => { y with an := y.an.set k { x with value := 0, cls := 0, band := 0, run := 0, held := false } }
  else if mode = 2 then sl.modInp fun y => { y with an := y.an.set k { x with value := mv, cls := 0, band := 0, run := 0, held := false } }
  else
    let r := min mv 11000
    if e.anHolds k x then sl.modInp fun y => { y with an := y.an.set k { x with value := r, held := true, run := 0 } }
    else
      let b := e.anBand k.val r
      let run := if b = x.band then x.run + 1 else 1
      let adopt := decide (cfgInpAnConfirm e.p e.i k.val ≤ run) && decide (b ≠ x.cls)
      let sl := sl.modInp fun y =>
        { y with an := y.an.set k { x with value := r, held := false, band := b, run := run, cls := if adopt then b else x.cls } }
      if adopt && (decide (b = 1) || decide (b = 4)) then sl.anEntered e k.val else sl

/-- The excitation follows the enable of the power island (R187); its start holds the classes for 1 ms. -/
def Slice.setExcitation (e : Env) (on : Bool) (sl : Slice) : Slice :=
  let starts (x : Analogue) (k : Fin 4) : Bool := on && decide (cfgInpAnMode e.p e.i k.val = 1) && !x.exciting
  (sl.modInp fun y => { y with
    settleAt := if (List.finRange 4).any fun k => starts y.an[k] k then some e.now else y.settleAt
    an := Vector.ofFn fun k : Fin 4 =>
        let x := y.an[k]
        { x with exciting := on && decide (cfgInpAnMode e.p e.i k.val = 1), settling := starts x k || x.settling } }).refreshHeld e

/-- The twin's excitation starts: the classes of mode-1 inputs hold for 1 ms (R187). -/
def Slice.twinExcites (e : Env) (sl : Slice) : Slice :=
  (sl.modInp fun y => { y with
    settleAt := some e.now
    an := Vector.ofFn fun k : Fin 4 => { y.an[k] with settling := y.an[k].settling || decide (cfgInpAnMode e.p e.i k.val = 1) } }).refreshHeld e

/-- EXCITATION_HOLD_END (R187), 1 ms after the last start. -/
def Slice.excitationHoldEnd (e : Env) (sl : Slice) : Slice :=
  (sl.modInp fun y => { y with
    settleAt := none
    an := Vector.ofFn fun k : Fin 4 => { y.an[k] with settling := false } }).refreshHeld e

/-! ### Encoders -/

/-- The place of a pair of levels in the quadrature cycle. -/
def quadrature (a b : Bool) : Int := if a then (if b then 2 else 1) else if b then 3 else 0

/-- A 32-bit counter that wraps (R190). -/
def wrap32 (x : Int) : Int := toInt32 (ofInt32 x)

/-- An encoder fault is declared (R192, R193): latched, raised, counted, and each follower of the encoder holds (R125). -/
def Slice.encoderFault (e : Env) (k : Fin 3) (code : Nat) (sl : Slice) : Slice :=
  if sl.inp.enc[k].fault ≠ 0 then sl
  else
    let sl := sl.modInp fun x => { x with enc := x.enc.set k { x.enc[k] with fault := code }, cntEncoder := satInc 255 x.cntEncoder }
    (sl.inputFault e 5 k.val).gearFollow e k.val

/-- A Z edge (R192): the count since the previous one is checked, and the index count taken. -/
def Slice.indexFault (e : Env) (k : Fin 3) (sl : Slice) : Bool :=
  let x := sl.inp.enc[k]
  let tol : Nat := cfgInpIndexTolerance e.p e.i k.val
  let per : Int := cfgInpCountsPerIndex e.p e.i k.val
  match x.prevIndex with
  | some p =>
    let d := wrap32 (x.count - p)
    (cfgInpEncFlags e.p e.i k.val).testBit 3 && decide (tol < absN d) && decide (tol < absN (d - per)) && decide (tol < absN (d + per))
  | none => false

/-- ENCODER_EDGE (R190, R192): the levels of A and B after the edge, the time since the last edge in ns, and whether Z has an edge with it. -/
def Slice.encoderEdge (e : Env) (k : Fin 3) (a b z : Bool) (gapNs : Nat) (sl : Slice) : Slice :=
  if cfgInpEncMode e.p e.i k.val = 0 then sl
  else
    let x := sl.inp.enc[k]
    let d := (quadrature a b - quadrature x.a x.b) % 4
    let inv := (cfgInpEncFlags e.p e.i k.val).testBit 1
    let delta : Int := if d = 1 then 1 else if d = 3 then -1 else 0
    let delta := if inv then -delta else delta
    let sl := sl.modInp fun y => { y with enc := y.enc.set k { x with a := a, b := b, count := wrap32 (x.count + delta) } }
    let bad := z && sl.indexFault e k
    let sl := if z then sl.modInp fun y =>
        { y with enc := y.enc.set k { y.enc[k] with index := y.enc[k].count, prevIndex := some y.enc[k].count, seen := true } } else sl
    let sl := if d = 2 then sl.encoderFault e k 2 else if d ≠ 0 ∧ gapNs < 350 then sl.encoderFault e k 3
      else if bad then sl.encoderFault e k 4 else sl
    if delta ≠ 0 then sl.gearFollow e k.val else sl

/-- A line break stands on A or B, or on Z while index checking is on (R192 code 1). -/
def Slice.lineBreaks (e : Env) (k : Fin 3) (sl : Slice) : Bool :=
  let b := sl.inp.enc[k].lineBroken
  b[0] || b[1] || (b[2] && (cfgInpEncFlags e.p e.i k.val).testBit 3)

/-- ENCODER_LINE_BREAK on a channel (R192 code 1): RS-422 only. -/
def Slice.encoderLineBreak (e : Env) (k channel : Fin 3) (broken : Bool) (sl : Slice) : Slice :=
  if cfgInpEncMode e.p e.i k.val = 1 then
    let sl := sl.modInp fun y => { y with enc := y.enc.set k { y.enc[k] with lineBroken := y.enc[k].lineBroken.set channel broken } }
    if broken && sl.lineBreaks e k then sl.encoderFault e k 1 else sl
  else sl

/-- ENCODER_SUPPLY_LIMIT (R192 code 5): all three encoders of the slice, unless the supply is off or external. -/
def Slice.encoderSupply (e : Env) (limit : Bool) (sl : Slice) : Slice :=
  let n := cfgInpEncSupply e.p e.i
  if n = 1 ∨ n = 2 then
    let sl := sl.modInp fun y => { y with supplyLimit := limit }
    if limit then ((sl.encoderFault e 0 5).encoderFault e 1 5).encoderFault e 2 5 else sl
  else sl

/-- The portal's fault reset clears the encoder faults; one whose condition persists is set again at once (R193). -/
def Slice.resetEncoders (e : Env) (sl : Slice) : Slice :=
  let sl := sl.modInp fun y => { y with enc := Vector.ofFn fun k : Fin 3 => { y.enc[k] with fault := 0 } }
  forAxes (fun k sl => if sl.lineBreaks e k then sl.encoderFault e k 1
    else if sl.inp.supplyLimit then sl.encoderFault e k 5 else sl) sl

/-! ### The homing confirmation input (R130) -/

/-- HOME_CONFIRM_EDGE: an edge of the confirmation input of a homing axis, active or inactive. -/
def Slice.homeConfirmEdge (e : Env) (a : Fin 3) (active : Bool) (sl : Slice) : Slice :=
  match sl.axes[a].m.home with
  | none => sl
  | some h =>
    if decide (cfgAxHomeConfirmInput e.p e.i a.val = 0xFF) || h.chatterAt.isSome then sl
    else if active then (if h.latch.isNone then sl.homeLatchNow e a h else sl)
    else if h.latch.isSome && h.stallAt.isNone then sl.homeRelatch e a h else sl

/-- HOME_CHATTER_WINDOW_END: an inactive input discards the latch. -/
def Slice.homeChatterEnd (e : Env) (a : Fin 3) (sl : Slice) : Slice :=
  match sl.axes[a].m.home with
  | none => sl
  | some h =>
    match h.chatterAt with
    | none => sl
    | some t =>
      if e.now < t + ms (cfgAxHomeChatterMs e.p e.i a.val) then sl
      else
        let n := cfgAxHomeConfirmInput e.p e.i a.val
        let lev := if hn : n < 16 then sl.inp.dig[n].level != (cfgInpInFlags e.p e.i n).testBit 3 else false
        if lev then sl.modM a fun m => { m with home := some { h with chatterAt := none } } else sl.homeRelatch e a h

/-- HOME_CONFIRM_WAIT_EXPIRY: 20 ms after a stall with no latch and no active edge, homing fails with code 3. -/
def Slice.homeWaitEnd (e : Env) (a : Fin 3) (sl : Slice) : Slice :=
  match sl.axes[a].m.home with
  | none => sl
  | some h =>
    match h.stallAt with
    | none => sl
    | some t => if e.now < t + ms 20 then sl else sl.homeFail e a 3

end Sys2Proof.Machine
end

