-- ==== Sys2Proof/Machine/Switches.lean ====
section
/-! DEFINITION. Load switches, their protection and diagnostics, and the tether (file 06). -/

namespace Sys2Proof.Machine

/-- Set LSW_FAULT and raise E(s×12+8), +9 or +10 (R559). -/
def Slice.switchEvent (e : Env) (k code ch : Nat) (sl : Slice) : Slice :=
  (sl.modSw fun x => { x with faultCode := code, faultChannel := ch }).raise e k code (ch * 16)

/-- A channel goes off: its request drops, and the time off begins (R207, R211). -/
def Channel.off (now : Nat) (c : Channel) : Channel :=
  { c with st := .off, req := .idle, limiting := false, side := none, offAt := if c.st = .on then now else c.offAt }

/-- A channel comes on. -/
def Channel.on (now : Nat) (c : Channel) : Channel := { c with st := .on, onAt := now, side := none }

/-- Switch a commanded channel on (R202, R208, R236): not without its load supply, waiting for its grant, or on at once where it is not enrolled or not arbitrated. -/
def Env.turnOn (e : Env) (k : Nat) (supply unarb : Bool) (c : Channel) : Channel :=
  if !supply then c.off e.now
  else if e.enrolled k && !unarb then { c.off e.now with st := .waiting, req := e.newReq k }
  else { c.on e.now with req := .idle }

/-- A command reaches the gate of a channel (R202); trips and latches stand (R205, R226). -/
def Env.applyCommand (e : Env) (k : Nat) (on supply unarb : Bool) (c : Channel) : Channel :=
  let c : Channel := { c with cmd := on, failsafe := false, cmdOffAt := if c.cmd && !on then e.now else c.cmdOffAt }
  match c.st with
  | .thermalOff | .latchedOff => { c with req := .idle }
  | .off => if on then e.turnOn k supply unarb c else c
  | _ => if on then c else c.off e.now

/-- What LSW_CH_STATUS shows of a channel's state: no supply over its own state, and disabled over all once the power island holds its parameters (R199, R208). -/
def Switches.shown (k : Fin 6) (x : Switches) : ChState :=
  if x.tether.storedValid && !x.enabled then .disabled else if !x.supply then .noSupply else x.ch[k].st

/-- What a frame says of a channel (R214); a power island that is not enabled reports the output voltage alone (R199). -/
def Switches.report (k : Fin 6) (x : Switches) : ChSeen :=
  let c := x.ch[k]
  if x.enabled then ⟨x.shown k, c.failsafe, c.outputHigh, c.limiting, c.openLoad, c.short, c.under, c.trips, c.current, c.deltaT, c.clampEnergy, c.overLimit⟩
  else { x.tether.toEngine.ch[k] with st := x.shown k, outputHigh := c.outputHigh, failsafe := false, limiting := false }

/-- The engine takes what the power island reports (R214). -/
def Slice.hearPower (sl : Slice) : Slice :=
  let x := sl.sw
  sl.modTether fun t => { t with toEngine := ⟨Vector.ofFn fun k => x.report k, t.st, t.storedValid⟩ }

/-- Bit of a channel's flags: diag_off_enable (R211). -/
def Env.diagOff (e : Env) (k : Nat) : Bool := (cfgLswChFlags e.p e.i k).testBit 2

/-- The rise over case temperature at which a channel trips, K (R204). -/
def Switches.tripLimit (k : Fin 6) (x : Switches) : Int := min (x.tether.stored.dtTrip[k] : Int) (175 - x.caseT)

/-- THERMAL_TRIP (R204, R205, R207): a channel whose temperature has reached its limit turns off. -/
def Slice.thermalTrip (e : Env) (k : Fin 6) (dt : Nat) (sl : Slice) : Slice :=
  let c := sl.sw.ch[k]
  if c.st = .on ∧ sl.sw.tripLimit k ≤ dt then
    let trips := c.trips + 1
    let latched := decide (sl.sw.tether.stored.retryLimit[k] < trips)
    let sl := sl.modCh k fun c =>
      { c.off e.now with
        trips := trips, deltaT := min 255 dt, tripAt := e.now,
        st := if latched then .latchedOff else .thermalOff, cntTrips := satInc 255 c.cntTrips,
        cntLatch := if latched then satInc 255 c.cntLatch else c.cntLatch }
    sl.switchEvent e 8 (if latched then 2 else 1) k.val
  else sl

/-- The end of a trip or a latch: a channel commanded on switches on, in an island that is enabled (R199, R202, R205, R206). -/
def Slice.reopenChannel (e : Env) (k : Fin 6) (sl : Slice) : Slice :=
  sl.modCh k fun c => if c.cmd && sl.sw.enabled then e.turnOn k.val sl.sw.supply sl.sw.unarbitrated c else { c with st := .off }

/-- RETRY_WAIT_END (R205): retry_delay has passed and the channel has cooled; a commanded channel requests its grant or switches on. -/
def Slice.retryEnd (e : Env) (k : Fin 6) (dt : Nat) (sl : Slice) : Slice :=
  let c := sl.sw.ch[k]
  let sl := sl.modCh k fun c => { c with deltaT := min 255 dt }
  if decide (c.st = .thermalOff) && decide (c.tripAt + ms sl.sw.tether.stored.retryDelay[k] ≤ e.now) && decide (dt + 20 ≤ sl.sw.tether.stored.dtTrip[k]) then
    sl.reopenChannel e k
  else sl

/-- TRIP_COUNT_RESET (R205): on for retry_reset without a trip, or commanded off for retry_reset. -/
def Slice.tripReset (e : Env) (k : Fin 6) (sl : Slice) : Slice :=
  let c := sl.sw.ch[k]
  let t := ms (sl.sw.tether.stored.retryReset[k] * 1000)
  if (decide (c.st = .on) && decide (c.onAt + t ≤ e.now)) || (!c.cmd && decide (c.cmdOffAt + t ≤ e.now)) then
    sl.modCh k fun c => { c with trips := 0 }
  else sl

/-- Clear a latch-off (R206): only when the channel has cooled, else refused and counted. -/
def Slice.clearLatch (e : Env) (k : Fin 6) (sl : Slice) : Slice :=
  let c := sl.sw.ch[k]
  if c.st = .latchedOff then
    if c.deltaT + 20 ≤ sl.sw.tether.stored.dtTrip[k] then (sl.modCh k fun c => { c with trips := 0 }).reopenChannel e k
    else sl.modTether fun t => { t with cntRefused := satInc 255 t.cntRefused }
  else sl

/-- CURRENT_LIMIT_ENTRY (R203). -/
def Slice.limitEntry (k : Fin 6) (sl : Slice) : Slice :=
  if sl.sw.ch[k].st = .on && !sl.sw.ch[k].limiting then
    sl.modCh k fun c => { c with limiting := true, cntLimit := satInc 255 c.cntLimit }
  else sl

/-- The limit of the row of R209 that an interval since the previous clamp pulse selects, mJ. -/
def clampLimit (heavy : Bool) (interval : Option Nat) : Nat :=
  match interval with
  | none => if heavy then 400 else 100
  | some t => if ms 10000 ≤ t then (if heavy then 400 else 100) else if ms 1000 ≤ t then (if heavy then 200 else 50)
              else if heavy then 40 else 10

/-- The pulse exceeds the row its interval selects; below 1 s the average clamp power counts too (R209, R210). -/
def clampOver (heavy : Bool) (interval : Option Nat) (mj : Nat) : Bool :=
  decide (clampLimit heavy interval < mj) ||
  match interval with
  | some t => decide (t < ms 1000) && decide ((if heavy then 500 else 150) * t < mj * 1000000000)
  | none => false

/-- CLAMP_PULSE_END (R210): estimated energy in mJ. -/
def Slice.clampEnd (e : Env) (k : Fin 6) (mj : Nat) (sl : Slice) : Slice :=
  let c := sl.sw.ch[k]
  let exceeds := clampOver (decide (k.val < 2)) (c.clampAt.map fun t => e.now - t) mj
  let since := match c.clampAt with | some t => (e.now - t) / 1000000 | none => Config.freeNat 22 e.draw
  let sl := sl.modCh k fun c =>
    { c with clampEnergy := min 65535 mj, clampAt := some e.now, overLimit := if exceeds then satInc 65535 c.overLimit else c.overLimit }
  if exceeds then
    (sl.modSw fun x => { x with faultCode := 6, faultChannel := k.val }).raiseWith (payBytes 2 k.val ++ payBytes 2 mj ++ payBytes 4 since) e 9 6 (k.val * 16)
  else sl

/-- A diagnostic flag is newly set: raised and counted (R213). -/
def Slice.diagSet (e : Env) (k : Fin 6) (code : Nat) (sl : Slice) : Slice :=
  (sl.modCh k fun c => { c with cntDiag := satInc 255 c.cntDiag }).switchEvent e 9 code k.val

/-- OFF_STATE_DIAGNOSTIC_TEST (R211): the readings of its two steps, once per second in an enabled island. -/
def Slice.offTest (e : Env) (k : Fin 6) (high1 high2 : Bool) (sl : Slice) : Slice :=
  let c := sl.sw.ch[k]
  if e.diagOff k.val && sl.sw.enabled && sl.sw.supply && decide (c.st = .off) && !c.cmd && !c.commanded && decide (c.offAt + ms 100 ≤ e.now) &&
      c.testedAt.all (fun t => decide (t + ms 1000 ≤ e.now)) then
    let short := high1
    let open_ := high2 && !high1
    let sl := sl.modCh k fun c =>
      { c with testedAt := some e.now, outputHigh := high1, nShort := consec short c.nShort, nNoShort := consec (!short) c.nNoShort,
               nOpen := consec open_ c.nOpen, nNoOpen := consec (!open_) c.nNoOpen }
    let c := sl.sw.ch[k]
    let sl := if decide (3 ≤ c.nShort) && !c.short then (sl.modCh k fun c => { c with short := true }).diagSet e k 4 else sl
    let sl := if decide (3 ≤ c.nOpen) && !c.openLoad then (sl.modCh k fun c => { c with openLoad := true }).diagSet e k 3 else sl
    sl.modCh k fun c => { c with short := c.short && decide (c.nNoShort < 3), openLoad := c.openLoad && decide (c.nNoOpen < 3) }
  else sl

/-- A reading of the current of a channel that is on, in mA: the side of min_current it lies on stands since the first reading there, and from the switching on where it is the first of all (R212). -/
def Env.noteCurrent (e : Env) (k ma : Nat) (c : Channel) : Channel :=
  let below := decide (ma < cfgLswMinCurrent e.p e.i k)
  let c : Channel := { c with current := min 65535 ma }
  if c.st ≠ .on then c
  else match c.side with
    | none => { c with side := some below, sideAt := c.onAt }
    | some b => if b = below then c else { c with side := some below, sideAt := e.now }

/-- UNDERCURRENT_TIMEOUT (R212): a reading; 100 ms on without limiting on one side of min_current set or clear the flag. -/
def Slice.underCurrent (e : Env) (k : Fin 6) (ma : Nat) (sl : Slice) : Slice :=
  let c := sl.sw.ch[k]
  if decide (cfgLswMinCurrent e.p e.i k.val ≠ 0) && decide (c.st = .on) && !c.limiting then
    let sl := sl.modCh k fun c => e.noteCurrent k.val ma c
    let c := sl.sw.ch[k]
    if e.now < c.sideAt + ms 100 then sl
    else if c.side = some true then (if c.under then sl else (sl.modCh k fun c => { c with under := true }).diagSet e k 5)
    else sl.modCh k fun c => { c with under := false }
  else sl

/-- The load supply of the group goes or returns (R208): without it nothing is on and no request is held; with it a channel commanded on switches on. -/
def Slice.loadSupply (e : Env) (present : Bool) (sl : Slice) : Slice :=
  let sl := sl.modSw fun x => { x with supply := present }
  forChannels (fun k sl =>
    sl.modCh k fun c =>
      if present then (if c.st = .off ∧ c.cmd ∧ sl.sw.enabled then e.turnOn k.val true sl.sw.unarbitrated c else c)
      else if c.st = .on ∨ c.st = .waiting then c.off e.now
      else c) sl

/-! ### The tether -/

/-- A sequence number is in order when it is newer than the last one taken (R214). -/
def seqInOrder (last seq : Nat) : Bool := let d := (seq + 16 - last % 16) % 16; decide (1 ≤ d) && decide (d ≤ 8)

/-- The engine's first command repeats the state it has read back (R223): a channel on or waiting for its grant stays commanded, one that is off does not, and one that waits for its retry or its supply keeps the command the island holds. -/
def Channel.readBack (supply : Bool) (c : Channel) : Channel :=
  let on := match c.st with
    | .on | .waiting => true
    | .thermalOff => c.cmd
    | .off => c.cmd && !supply
    | _ => false
  { c with failsafe := false, commanded := on, decided := on, cmd := on }

/-- The engine reads an axis back from the power island (R223): its mode, current setting and applied angle, its commanded position, and homed where the position is valid. -/
def Slice.axisBack (a : Fin 3) (homed : Bool) (sl : Slice) : Slice :=
  let p := sl.sw.tether.axes[a]
  (sl.modM a fun m => { m.halt with pos := p.pos, homed := homed && p.valid }).modD a fun d =>
    { d with mode := p.mode, current := p.current, isolators := decide (p.mode ≠ .free), wanted := none, pendMode := none,
             chop := p.chopper.getD d.chop, est := { d.est with thetaA := p.angle, amp := p.chopper.getD d.est.amp } }

/-- The engine resumes after a timeout or a restart: it repeats what it has read back, and the tether is refreshed (R223). -/
def Slice.tetherResume (e : Env) (homed : Vector Bool 3) (sl : Slice) : Slice :=
  let supply := sl.sw.supply
  let sl := forChannels (fun k sl => sl.modCh k (Channel.readBack supply)) sl
  let sl := forAxes (fun a sl => sl.axisBack a homed[a]) sl
  (sl.modTether fun t => { t with st := .refreshed, safe := false, prevRefresh := t.lastRefresh, lastRefresh := e.now, lastAlive := t.alive, strobe := false, steps := [] }).switchEvent e 10 7 0

/-- The homed flags of the axes as the engine holds them. -/
def Slice.homedNow (sl : Slice) : Vector Bool 3 := Vector.ofFn fun a : Fin 3 => sl.axes[a].m.homed

/-- The parameters the engine hands its power island (R220). -/
def Env.storedParams (e : Env) : Stored where
  timeoutMs := cfgLswTetherTimeout e.p e.i
  chSafe := Vector.ofFn fun k : Fin 6 => cfgLswChFlags e.p e.i k.val % 4
  axisSafe := Vector.ofFn fun a : Fin 3 => fieldOf (cfgLswAxisFailsafe e.p e.i) (2 * a.val) 2
  holdMa := Vector.ofFn fun a : Fin 3 => cfgDrvHoldCurrent e.p e.i a.val
  dtTrip := Vector.ofFn fun k : Fin 6 => cfgLswDtTrip e.p e.i k.val
  retryLimit := Vector.ofFn fun k : Fin 6 => cfgLswRetryLimit e.p e.i k.val
  retryDelay := Vector.ofFn fun k : Fin 6 => cfgLswRetryDelay e.p e.i k.val
  retryReset := Vector.ofFn fun k : Fin 6 => cfgLswRetryReset e.p e.i k.val

/-- The handover of R220: parameters stored, power-island positions set to the commanded ones and valid (R221). -/
def Slice.tetherHandover (e : Env) (sl : Slice) : Slice :=
  let at_ := Vector.ofFn fun a : Fin 3 => sl.axes[a].m.pos
  sl.modTether fun t =>
    { t with stored := e.storedParams, storedValid := true, st := .refreshed, lastRefresh := e.now, prevRefresh := e.now, lastAlive := t.alive, missing := 0,
             steps := [], posSet := Vector.replicate 3 none, axes := Vector.ofFn fun a : Fin 3 => { t.axes[a] with pos := at_[a], valid := true } }

/-- One axis as a valid frame sets it (R214, R221). -/
def Slice.frameAxis (a : Fin 3) (sl : Slice) : PowerAxis :=
  let t := sl.sw.tether
  let d := sl.axes[a].d
  let p := t.axes[a].apply d.mode
  let moved := t.steps.foldl (fun (n : Int) x => if x.axis = a then n + x.by_ else n) 0
  let p : PowerAxis := { p with current := d.current, angle := d.est.thetaA, chopper := none }
  match t.posSet[a] with
  | some x => { p with pos := x, valid := true }
  | none => { p with pos := p.pos + moved }

/-- The power island takes the contents of a valid frame (R202, R214): not before the handover (R220), nor while its fail-safe states stand (R219), and nothing is on without the gate (R199). -/
def Slice.takeFrame (e : Env) (sl : Slice) : Slice :=
  if !sl.sw.tether.storedValid || sl.sw.tether.safe then sl
  else
    let sl := forChannels (fun k sl => sl.modCh k fun c => if sl.sw.enabled then e.applyCommand k.val c.commanded sl.sw.supply sl.sw.unarbitrated c else c) sl
    let axes := Vector.ofFn fun a : Fin 3 => sl.frameAxis a
    sl.modTether fun t => { t with axes := axes, posSet := Vector.replicate 3 none, strobe := false }

/-- One channel takes its stored fail-safe state (R218); tripped and latched channels stay off, and nothing is on without the enable (R199, R226). The state becomes the island's command: a channel that can not come on now does so as R205 and R208 give. -/
def Slice.failsafeChannel (e : Env) (k : Fin 6) (sl : Slice) : Slice :=
  let f := sl.sw.tether.stored.chSafe[k]
  let supply := sl.sw.supply
  if !sl.sw.enabled then sl
  else sl.modCh k fun c =>
    let on := if f = 0 then false else if f = 1 then true else c.cmd
    let c : Channel := { c with cmd := on, cmdOffAt := if c.cmd && !on then e.now else c.cmdOffAt }
    match c.st with
    | .thermalOff | .latchedOff => c
    | .on => { (if f = 0 then c.off e.now else c) with failsafe := true }
    | .waiting => { (if f = 0 then c.off e.now else if f = 1 then { c.on e.now with req := .idle } else c) with failsafe := true }
    | _ => { (if f = 1 ∧ supply then c.on e.now else c) with failsafe := true }

/-- One axis takes its stored fail-safe state (R132, R218): short-brake, or hold at hold_current and the last applied angle. The engine empties its queue, and short-brake clears homed. -/
def Slice.failsafeAxis (a : Fin 3) (sl : Slice) : Slice :=
  let t := sl.sw.tether
  let p := t.axes[a]
  let brakes := p.mode.driven && decide (t.stored.axisSafe[a] = 0)
  let sl := sl.modM a fun m => { m.halt with homed := m.homed && !brakes }
  if p.mode.driven then
    sl.modTether fun t =>
      { t with axes := t.axes.set a (if brakes then { p.apply .shortBrake with current := 0, chopper := none }
                                     else { p.apply .hold with current := t.stored.holdMa[a], chopper := none }) }
  else sl

/-- The power island applies its fail-safe states at one instant (R216 to R218); a running tether test that sees them in bounds has passed (R225). -/
def Slice.applyFailsafe (e : Env) (sl : Slice) : Slice :=
  let sl := forAxes (fun a sl => sl.failsafeAxis a) (forChannels (fun k sl => sl.failsafeChannel e k) sl)
  sl.modTether fun t => { t with safe := true, st := if t.st = .lost then .lost else .failsafe, cntTimeouts := satInc 255 t.cntTimeouts, safeAt := e.now }

/-- Nothing refreshes the tether from a given instant on, and the time of R216 has passed. -/
def Tether.timedOut (now last : Nat) (t : Tether) : Bool := t.storedValid && !t.safe && decide (last + t.stored.timeoutMs * 950000 ≤ now)

/-- TETHER_TIMEOUT (R216): the stored fail-safe states. A refresh that arrived in the same tick starts the resume at once (R226); a tether test passes and resumes (R225). -/
def Slice.tetherTimeout (e : Env) (sl : Slice) : Slice :=
  let t := sl.sw.tether
  let together := decide (t.lastRefresh = e.now) && t.timedOut e.now t.prevRefresh
  if together || t.timedOut e.now t.lastRefresh then
    let sl := sl.applyFailsafe e
    if together then sl.tetherResume e sl.homedNow
    else if t.testRunning && decide (e.now ≤ t.lastRefresh + t.stored.timeoutMs * 1050000 + 50000) then
      (sl.modTether fun t => { t with testRunning := false, testPassed := true }).tetherResume e sl.homedNow
    else sl
  else sl

/-- TETHER_FRAME from the engine (R214, R215): a valid frame carries the commands, and refreshes when the alive count has changed. A refresh that is overdue by then leaves the outputs held: until one comes, no frame changes them (R217). Once fail-safe states stand, or the time for them has passed, a refresh starts the resume of R223. -/
def Slice.tetherToPower (e : Env) (crcOk : Bool) (seq : Nat) (sl : Slice) : Slice :=
  let t := sl.sw.tether
  if crcOk && seqInOrder t.seqToPower seq then
    let out : TetherOut := ⟨Vector.ofFn fun k : Fin 6 => sl.sw.ch[k].commanded, Vector.ofFn fun k : Fin 6 => match sl.sw.ch[k].req with | .granted _ => true | _ => false, t.alive, t.strobe⟩
    let holds := decide (t.alive = t.lastAlive) && decide (t.lastRefresh + e.tcyc < e.now)
    let late := t.timedOut e.now (t.lastRefresh + t.stored.timeoutMs * 100000 + 50000)
    let sl := if late then sl.applyFailsafe e else sl
    let sl := sl.modTether fun t => { t with seqToPower := seq % 16, toPower := out }
    let sl := if t.alive = t.lastAlive then sl
      else if sl.sw.tether.safe then (if t.st = .lost then sl else sl.tetherResume e sl.homedNow)
      else sl.modTether fun t => { t with lastAlive := t.alive, prevRefresh := t.lastRefresh, lastRefresh := e.now, st := if t.st = .lost then .lost else .refreshed }
    if holds then sl else sl.takeFrame e
  else sl.modTether fun t => { t with cntErrors := satInc 65535 t.cntErrors }

/-- The engine has sent its frame: the microsteps of the period are gone with it, and a first frame with a new alive count is the refresh of the last evaluation (R214, R224). -/
def Slice.frameSent (sl : Slice) : Slice :=
  let t := sl.sw.tether
  let sl := sl.modTether fun t => { t with steps := [], sentAlive := t.alive }
  if t.alive = t.sentAlive then sl else { sl with heldSent := sl.heldNext.isSome }

/-- The region write of a cycle is signalled complete (R21): the sync point whose refresh has been sent as well is completed, and the region holds its state (R224). -/
def Slice.regionDone (sl : Slice) : Slice :=
  match sl.heldSent, sl.heldNext with
  | true, some x => { sl with held := x.1, heldHomed := x.2, heldNext := none, heldSent := false }
  | _, _ => sl

/-- TETHER_FRAME from the power island (R214): channel currents in mA, temperatures over case in K, outputs high, case temperature, and with them the states that the island reports; of a disabled island the output voltages alone (R199). A period without a valid frame counts towards R222. -/
def Slice.tetherToEngine (e : Env) (crcOk : Bool) (seq : Nat) (ma dt : Vector Nat 6) (high : Vector Bool 6) (caseT : Int) (sl : Slice) : Slice :=
  let t := sl.sw.tether
  if crcOk && seqInOrder t.seqToEngine seq then
    let sl := sl.modTether fun t => { t with seqToEngine := seq % 16, missing := 0 }
    let sl := sl.modSw fun x => { x with caseT := caseT }
    let sl := forChannels (fun k sl => sl.modCh k fun c =>
      let c : Channel := { c with outputHigh := high[k] }
      if sl.sw.enabled then { e.noteCurrent k.val ma[k] c with deltaT := min 255 dt[k] } else c) sl
    sl.hearPower
  else sl.modTether fun t => { t with cntErrors := satInc 65535 t.cntErrors, missing := t.missing + 1 }

/-- The power island goes on alone (R217): an axis in quiet mode changes to the island's own chopper at its last measured amplitude. -/
def Slice.islandHolds (sl : Slice) : Slice :=
  forAxes (fun a sl =>
    let amp := sl.axes[a].d.est.amp
    sl.modTether fun t => if t.axes[a].mode = .quiet ∧ t.axes[a].chopper = none then { t with axes := t.axes.set a { t.axes[a] with chopper := some amp } } else t) sl

/-- At a sync point: no refresh within the last T_CYC, so that the power island holds its outputs (R215, R217), also where the engine has declared it lost (R222). -/
def Slice.tetherHolds (e : Env) (tcyc : Nat) (sl : Slice) : Slice :=
  let t := sl.sw.tether
  if t.storedValid && !t.safe && decide (t.lastRefresh + tcyc < e.now) then
    sl.islandHolds.modTether fun t => { t with st := if t.st = .refreshed then .holding else t.st }
  else sl

/-- The power island is lost (R222): raised, given to the sequencer as cause 11; the alive count stops. -/
def Slice.powerLost (e : Env) (sl : Slice) : Slice :=
  if sl.sw.tether.st = .lost then sl
  else
    ((sl.modTether fun t => { t with st := .lost, testRunning := false }).modPortal fun q => { q with cause11 := true }).switchEvent e 10 8 0

/-- A tether test that did not see the states applied, or not in bounds, fails (R225). -/
def Slice.tetherTestFail (e : Env) (sl : Slice) : Slice :=
  ((sl.modTether fun t => { t with testRunning := false, testPassed := false }).switchEvent e 10 9 0).powerLost e

/-- TETHER_HANDOVER_REPEAT (R222): after valid frames return or the power island has reset; the states are read back before any command, and the fail-safe states end in the resume. homed stands only where the power-island position was valid before it is set anew (R223). -/
def Slice.tetherRepeat (e : Env) (sl : Slice) : Slice :=
  let t := sl.sw.tether
  if t.st = .lost ∨ t.storedValid = false then
    let homed := Vector.ofFn fun a : Fin 3 => sl.axes[a].m.homed && t.axes[a].valid
    ((sl.tetherHandover e).tetherResume e homed).hearPower
  else sl

/-- A reset of the power island (R219 to R221): all channels off, all axes free, nothing stored. -/
def Slice.powerReset (e : Env) (sl : Slice) : Slice :=
  let sl := forChannels (fun k sl => sl.modCh k fun c =>
    { Channel.reset with
      decided := c.decided
      commanded := c.commanded
      offAt := e.now
      cmdOffAt := e.now
      cntTrips := c.cntTrips
      cntLatch := c.cntLatch
      cntLimit := c.cntLimit
      cntDiag := c.cntDiag }) sl
  let sl := forAxes (fun a sl => sl.freeAxis e a true) sl
  sl.modTether fun t => { t with storedValid := false, stored := Stored.zero, safe := false, axes := Vector.replicate 3 PowerAxis.reset,
                                 toPower := Tether.reset.toPower, st := if t.st = .lost then .lost else .refreshed }

/-! ### The power gate (R199, R395) -/

/-- Loss of the enable: all channels off whatever their commands, with trips and latches standing; fail-safe states end; axes free, excitation off (R138, R187, R199, R219). -/
def Slice.gateOff (e : Env) (sl : Slice) : Slice :=
  let sl := forChannels (fun k sl => sl.modCh k fun c =>
    let c : Channel := { c with decided := false, commanded := false, cmd := false, failsafe := false, carry := none, cmdOffAt := if c.cmd then e.now else c.cmdOffAt }
    match c.st with
    | .thermalOff | .latchedOff => { c with req := .idle }
    | _ => c.off e.now) sl
  let sl := forAxes (fun a sl => (sl.freeAxis e a false).powerFree a) sl
  (sl.modSw fun x => { x with enabled := false }).setExcitation e false

/-- A channel as the enable is gained: one taken over goes on in its mirrored state without a request (R239, R415); any other stands as it is until its command latches. -/
def Env.gainChannel (e : Env) (supply : Bool) (c : Channel) : Channel :=
  match c.carry with
  | some .on => { (if supply then c.on e.now else c.off e.now) with carry := none, commanded := true, decided := true, cmd := true }
  | some .thermalOff => { c with st := .thermalOff, carry := none, cmd := c.commanded }
  | some .latchedOff => { c with st := .latchedOff, carry := none, cmd := c.commanded }
  | some _ => { c.off e.now with carry := none }
  | none => c

/-- Gain of the enable: the channels stand off until their commands latch, the excitation starts. Before its handover the island has nothing on (R220). -/
def Slice.gateOn (e : Env) (sl : Slice) : Slice :=
  let sl := if sl.sw.tether.storedValid then forChannels (fun k sl => sl.modCh k fun c => e.gainChannel sl.sw.supply c) sl else sl
  (sl.modSw fun x => { x with enabled := true }).setExcitation e true

end Sys2Proof.Machine
end

