-- ==== Sys2Proof/Machine/Portal.lean ====
section
/-! DEFINITION. The portal sequencer: conditions, ranks, transitions and outputs (R51 to R77, R201, R202, R224, R417). -/

namespace Sys2Proof.Machine

def PState.code : PState → Nat
  | .homing => 0 | .locked => 1 | .unlocking => 2 | .released => 3 | .opening => 4 | .open_ => 5 | .closing => 6
  | .reopening => 7 | .closedUnlocked => 8 | .locking => 9 | .isolated => 10 | .emergency => 11 | .fault => 12 | .unused => 15

def Phase.code : Phase → Nat
  | .none => 0 | .warn => 1 | .move => 2 | .pause => 3

/-! ### Conditions at a sync point (R58 to R64) -/

def Slice.line (n : Fin 5) (sl : Slice) : Bool := sl.inp.lines[n].deb
def Slice.zeroSpeed (sl : Slice) : Bool := sl.line 3
def Slice.cabActive (sl : Slice) : Bool := sl.line 4
def Slice.hardClose (sl : Slice) : Bool := sl.line 2

/-- The train side of a car side (0 left, 1 right) for a known orientation (R58). -/
def trainSide (reversed : Bool) (side : Nat) : Nat := if reversed then 1 - side else side

/-- A side-naming Hawser bit (bit `b` + side) for the portal; 0 while no orientation is known (R58). -/
def Env.hawserSideBit (e : Env) (b : Nat) : Bool :=
  match e.orient with
  | some r => e.cmd.testBit (b + trainSide r (cfgPrtSide e.p e.i))
  | none => false

/-- The hardwired release for the portal's side under line_side_mode (R59). -/
def Slice.hardRelease (e : Env) (sl : Slice) : Bool :=
  let side := cfgPrtSide e.p e.i
  let l (n : Nat) : Bool := if n = 0 then sl.line 0 else sl.line 1
  if cfgPrtLineSideMode e.p = 0 then l side
  else match e.orient with
    | some r => l (trainSide r side)
    | none => false

/-- The release for the side is present under release_mode (R61). -/
def Slice.modeRelease (e : Env) (sl : Slice) : Bool :=
  let h := e.hawserSideBit 0
  let w := sl.hardRelease e
  let m := cfgPrtReleaseMode e.p
  if m = 0 then w else if m = 1 then h else w && h

def Slice.openButton (e : Env) (sl : Slice) : Bool := sl.input (cfgPrtInOpenInside e.p e.i) || sl.input (cfgPrtInOpenOutside e.p e.i)
def Slice.closeButton (e : Env) (sl : Slice) : Bool := sl.input (cfgPrtInClose e.p e.i)

/-- The crew release after this sync point (R62). -/
def Slice.crewNext (e : Env) (sl : Slice) : Bool :=
  e.isCrew && sl.cabActive && sl.zeroSpeed && !sl.closeButton e && (sl.portal.crew || sl.openButton e)

/-- Release is present at the portal (R61, R62). -/
def Slice.released (e : Env) (sl : Slice) : Bool := sl.zeroSpeed && !sl.hardClose && (sl.crewNext e || sl.modeRelease e)

/-- The auto-close timer of OPEN has expired (R63, R66). It counts as a close cause in OPEN alone, not in the CLOSING or REOPENING that follow (log entry 144). -/
def Slice.autoExpired (e : Env) (sl : Slice) : Bool :=
  decide (sl.portal.st = .open_) && decide (cfgPrtAutoClose e.p e.i ≠ 0) && decide (sl.portal.tState + ms (cfgPrtAutoClose e.p e.i * 100) ≤ e.cyc)

/-- Close-cause sources (R63): bit 0 release absent, 1 hardwired line, 2 Hawser bit, 3 local button, 4 auto-close. -/
def Slice.closeSources (e : Env) (sl : Slice) : Nat :=
  let en := cfgPrtCloseSources e.p
  b2n (!sl.released e) + 2 * b2n (sl.hardClose && en.testBit 0) + 4 * b2n (e.cmd.testBit 4 && en.testBit 1)
    + 8 * b2n (sl.closeButton e && en.testBit 2) + 16 * b2n (sl.autoExpired e)

/-- An open trigger at a released portal (R64). -/
def Slice.openTrigger (e : Env) (sl : Slice) : Bool := sl.released e && (sl.openButton e || e.hawserSideBit 2 || e.autoOpen)

/-! ### Positions and confirmations -/

def Slice.s1 (e : Env) (sl : Slice) : Bool := sl.input (cfgPrtInS1 e.p e.i)
def Slice.s2 (e : Env) (sl : Slice) : Bool := sl.input (cfgPrtInS2 e.p e.i)

/-- The commanded position lies within s1_window of the closed position (R69, R70, R94). -/
def Slice.inS1Window (e : Env) (a : Fin 3) (sl : Slice) : Bool :=
  decide (absN (sl.axes[a].m.pos - e.closedPos a) ≤ e.microsteps a (cfgPrtS1Window e.p e.i))

/-- S1 confirmed: the contact, and the leaf within its window once it is homed (R69, R70). -/
def Slice.s1Confirmed (e : Env) (sl : Slice) : Bool :=
  sl.s1 e && match e.leafAxis with
    | some l => !sl.axes[l].m.homed || sl.inS1Window e l
    | none => true

/-- The ungeared leaf axis stands at a position (R557). -/
def Slice.leafAt (e : Env) (pos : Fin 3 → Int) (sl : Slice) : Bool :=
  match e.leafAxis with
  | some l => decide (sl.axes[l].m.pos = pos l) && decide (sl.axes[l].m.v = 0)
  | none => true

def Slice.leavesOpen (e : Env) (sl : Slice) : Bool := sl.leafAt e fun a => e.openPos a
def Slice.leavesClosed (e : Env) (sl : Slice) : Bool := sl.leafAt e fun a => e.closedPos a

/-- An auxiliary axis is stowed (R557, R558). -/
def Slice.auxStowed (e : Env) (a : Fin 3) (sl : Slice) : Bool :=
  if e.role a = 2 ∧ cfgPrtInStepStowed e.p e.i ≠ 0xFF then sl.input (cfgPrtInStepStowed e.p e.i)
  else decide (absN (sl.axes[a].m.pos - e.closedPos a) ≤ cfgAxHomeLatchWindow e.p e.i a)

def allAxes (f : Fin 3 → Bool) : Bool := f 0 && f 1 && f 2

def Slice.stowed (e : Env) (sl : Slice) : Bool := allAxes fun a => !e.isAux a || sl.auxStowed e a
def Slice.deployed (e : Env) (sl : Slice) : Bool :=
  allAxes fun a => !e.isAux a || (decide (sl.axes[a].m.pos = e.openPos a) && decide (sl.axes[a].m.v = 0))

def Slice.handleEgress (e : Env) (sl : Slice) : Bool := sl.input (cfgPrtInEgress e.p e.i)
def Slice.handleAccess (e : Env) (sl : Slice) : Bool := sl.input (cfgPrtInAccess e.p e.i)
def Slice.isoInput (e : Env) (sl : Slice) : Bool := sl.input (cfgPrtInIsolation e.p e.i)

/-- Isolation is confirmed (R65, R73). -/
def Slice.isoConfirmed (e : Env) (sl : Slice) : Bool := sl.isoInput e && sl.s1Confirmed e && sl.s2 e && e.isoAllowed

/-- The cycles since the present state or phase began come to `t` ms or more (R52). -/
def Slice.elapsed (e : Env) (t : Nat) (sl : Slice) : Bool := decide (sl.portal.tState + ms t ≤ e.cyc)

/-! ### Deciding moves and modes, latched at the next sync point -/

/-- Decide a move, latched at the next sync point (R51), with its request (R237). -/
def Slice.decideMove (e : Env) (a : Fin 3) (mv : Move) (sl : Slice) : Slice :=
  (sl.modM a fun m => { m with pending := m.pending ++ [mv] }).askGrant e a

def Slice.decideLeaf (e : Env) (set : Nat) (pos : Fin 3 → Int) (sl : Slice) : Slice :=
  match e.leafAxis with
  | some l => if sl.axes[l].m.pos = pos l ∧ sl.axes[l].m.v = 0 then sl else sl.decideMove e l ⟨pos l, set, false, false⟩
  | none => sl

/-- Decide the moves of every auxiliary axis (R558). -/
def Slice.decideAux (e : Env) (pos : Fin 3 → Int) (sl : Slice) : Slice :=
  forAxes (fun a sl => if e.isAux a && !(decide (sl.axes[a].m.pos = pos a) && decide (sl.axes[a].m.v = 0)) then sl.decideMove e a ⟨pos a, 0, false, false⟩ else sl) sl

def Slice.decideStop (e : Env) (sl : Slice) : Slice :=
  forAxes (fun a sl => if e.enabledAxis a then sl.modM a fun m => { m with pendStop := true, pending := [] } else sl) sl

/-- Decide a drive mode for the axes a condition names; an enable from free mode raises its request (R237). -/
def Slice.decideMode (e : Env) (sel : Fin 3 → Bool) (md : DriveMode) (sl : Slice) : Slice :=
  forAxes (fun a sl =>
    if e.enabledAxis a && sel a then
      let sl := (sl.modD a fun d => { d with pendMode := some md }).modM a fun m => { m with pending := [] }
      if md.driven && decide (sl.axes[a].d.mode = .free) then sl.askGrant e a else sl
    else sl) sl

/-! ### Entering a state -/

/-- Figures of the state or phase that ends, for the cycle record (R484). -/
def CycleAcc.leave (c : CycleAcc) (st : PState) (ph : Phase) (dtMs : Nat) : CycleAcc :=
  match st, ph with
  | .unlocking, _ => { c with unlockMs := c.unlockMs + dtMs }
  | .opening, _ => { c with openMs := c.openMs + dtMs }
  | .closing, .warn => { c with warnMs := c.warnMs + dtMs }
  | .closing, .move => { c with closeMs := c.closeMs + dtMs }
  | .reopening, .move => { c with closeMs := c.closeMs + dtMs }
  | .locking, _ => { c with lockMs := c.lockMs + dtMs }
  | _, _ => c

/-- The figures a module that takes the Hitch begins a running door cycle with: 0xFFFF in each duration that is complete already (R477); `opened` is when OPEN was entered, in cycle time. -/
def CycleAcc.atTakeover (st : PState) (ph : Phase) (t : Nat) (opened : Int) : CycleAcc :=
  let running := match st with | .unlocking | .released | .opening | .open_ | .closing | .reopening | .closedUnlocked | .locking => true | _ => false
  let f (b : Bool) : Nat := if b then 65535 else 0
  let late := decide (st = .closedUnlocked) || decide (st = .locking)
  let closes := late || decide (st = .closing) || decide (st = .reopening)
  { CycleAcc.reset with
    running := running, handover := running, startAt := t, unlockMs := f (running && decide (st ≠ .unlocking)),
    openAt := if st = .open_ then some opened else none
    openMs := f (closes || decide (st = .open_)), dwellMs := f closes, closed := closes, warnMs := f (late || (decide (st = .closing) && decide (ph ≠ .warn))), closeMs := f late }

/-- A door cycle ends on entering one of these states (R477). -/
def PState.endsCycle : PState → Bool
  | .locked | .isolated | .fault | .emergency => true
  | _ => false

/-- The figures of a cycle record that the slice gives (R484); Logline adds the sequence number, times and CRC. -/
def Slice.cyclePayload (e : Env) (sl : Slice) (endState : PState) (cause doorCycles : Nat) : List Nat :=
  let c := sl.portal.acc
  let axis := match e.leafAxis with | some a => a.val | none => 0
  let atCeil := match e.leafAxis with | some a => ((sl.axes[a].d.env.toList.take 64).filter fun b => b.atCeiling).length | none => 0
  let d (x : Nat) : Nat := min 65535 x
  [(e.common + 2 ^ 48 - (e.now - c.startAt) % 2 ^ 48) % 2 ^ 48, doorCycles, d c.unlockMs, d c.openMs, c.dwellMs, d c.warnMs, d c.closeMs, d c.lockMs, endState.code, cause,
   c.reopens, c.openStops, c.obstacles, c.firstSource + c.firstAxis * 8 + b2n c.firstOpening * 32, c.firstBin, ofInt16 c.firstForce,
   (match c.peakForce[0] with | some f => ofInt16 f | none => 0x8000), (match c.peakForce[1] with | some f => ofInt16 f | none => 0x8000),
   (match c.peakForce[2] with | some f => ofInt16 f | none => 0x8000),
   (c.peakLambda[0] % 256).toNat, (c.peakLambda[1] % 256).toNat, (c.peakLambda[2] % 256).toNat,
   c.peakCurrent[0], c.peakCurrent[1], c.peakCurrent[2], c.minMotor.getD 0, c.minLoad.getD 0, ofInt16 (sl.sw.caseT * 10),
   4 * b2n c.handover + 8 * b2n c.learned + 16 * b2n c.clamped, atCeil, axis] ++ (match e.leafAxis with | some a => if c.closing then sl.binSamples a else c.sig | none => c.sig)

/-- The end of a door cycle (R477): door_cycles increments, and the module that holds the Hitch offers the cycle record. -/
def Slice.endCycle (e : Env) (st : PState) (cause : Nat) (sl : Slice) : Slice :=
  if sl.portal.acc.running then
    let n := (sl.portal.doorCycles + 1) % 4294967296
    let rec_ := sl.cyclePayload e st cause n
    let sl := sl.modPortal fun q => { q with doorCycles := n, acc := CycleAcc.reset }
    if e.active then { sl with iq := sl.iq.offer ⟨2, e.i, st.code, cause, e.common, false, 0, rec_, none⟩ } else sl
  else sl

/-- Enter a state and phase at this sync point: timers start (R52), the cycle record is kept, moves in progress are no longer learned (R158). -/
def Slice.enter (e : Env) (st : PState) (ph : Phase) (sl : Slice) : Slice :=
  let old := sl.portal
  let dt := ((e.cyc - old.tState) / 1000000).toNat
  let acc := if old.acc.running then old.acc.leave old.st old.phase dt else old.acc
  let acc := if acc.running && !acc.closed then
      (if st = .open_ then { acc with openAt := some (acc.openAt.getD e.cyc) }
       else if st = .closing then { acc with closed := true, dwellMs := (match acc.openAt with | some t => ((e.cyc - t) / 1000000).toNat | none => acc.dwellMs) }
       else acc) else acc
  let starts := decide (st = .unlocking) || (decide (st = .released) && decide (old.st = .homing) && !(acc.running && acc.handover))
  let acc := if starts then { CycleAcc.reset with running := true, startAt := e.now } else acc
  let sl := sl.modPortal fun q =>
    { q with st := st, phase := ph, tState := e.cyc, acc := acc, issued := false, stopPause := none,
             acting := if st = .reopening then q.acting else .none,
             openStops := if st = .opening then q.openStops else 0,
             reopenCount := if st = .locked ∨ st = .released then 0 else q.reopenCount }
  let sl := if st = old.st then sl else forAxes (fun a sl => sl.modM a fun m => { m with learnable := false }) sl
  if st.endsCycle then sl.endCycle e st (if st = .fault then sl.portal.faultCause else 0) else sl

/-- Enter FAULT with a cause (R74): axes to fault_axis_mode, but for an axis that holds a drive fault. -/
def Slice.enterFault (e : Env) (cause : Nat) (sl : Slice) : Slice :=
  let st := sl.portal.st
  let sl := sl.modPortal fun q => { q with faultCause := cause, stateAtFault := st.code }
  let sl := sl.enter e .fault .none
  let sl := sl.decideMode e (fun a => !sl.faulted a) (if cfgPrtFaultAxisMode e.p e.i = 0 then .free else .shortBrake)
  sl.raise e 0 cause (st.code * 256)

/-- The first homing stage from `k` on that some enabled axis has; 3 where there is none (R127). -/
def Env.stageFrom (e : Env) (k : Nat) : Nat :=
  match (List.range 3).find? fun n => decide (k ≤ n) && !allAxes fun a => !(e.enabledAxis a && decide (cfgAxHomeStage e.p e.i a = n)) with
  | some n => n
  | none => 3

/-- Enter HOMING (R67): with a warn phase unless the closed contact stands and the entry asks for none. The time for which S2 has stood without S1 starts anew here (R70, log entry 122). -/
def Slice.enterHoming (e : Env) (warn : Bool) (sl : Slice) : Slice :=
  let sl := sl.enter e .homing (if warn || !sl.s1 e then .warn else .move)
  sl.modPortal fun q => { q with homeStage := e.stageFrom 0, s2Alone := none, obs := .none, obsLatch := none }

/-- Enter CLOSING at its warn phase. -/
def Slice.enterWarn (e : Env) (sl : Slice) : Slice := sl.enter e .closing .warn

/-- Enter OPENING (R65, R558): with step_order 0 the auxiliary axes first, the leaves after; with 1 together. -/
def Slice.enterOpening (e : Env) (sl : Slice) : Slice :=
  let sl := (sl.enter e .opening .none).modPortal fun q => { q with openStops := 0 }
  let sl := sl.decideAux e fun a => e.openPos a
  if cfgPrtStepOrder e.p e.i = 1 || sl.deployed e then
    (sl.decideLeaf e 1 fun a => e.openPos a).modPortal fun q => { q with issued := true }
  else sl

/-- Enter OPEN; `restricted` when the reopen limit was exceeded (R66). A step that stands short of its deployed position is deployed (R69). -/
def Slice.enterOpen (e : Env) (restricted : Bool) (sl : Slice) : Slice :=
  ((sl.enter e .open_ .none).modPortal fun q => { q with restricted := restricted }).decideAux e fun a => e.openPos a

/-- Enter EMERGENCY_UNLOCKED (R71): raised once, counted; with both handles active the event names the egress handle (log entry 108). An auxiliary axis that moves stops and is held where it stands, and one that is free or short-braked is held (R69, log entry 109). -/
def Slice.enterEmergency (e : Env) (sl : Slice) : Slice :=
  let egress := sl.handleEgress e
  let sl := sl.enter e .emergency .none
  let sl := sl.modPortal fun q => { q with emergFreed := false, cntEmergency := satInc 255 q.cntEmergency, obs := .none, obsLatch := none }
  let sl := forAxes (fun a sl => if e.enabledAxis a && e.isAux a then sl.modM a fun m => { m with pendStop := true, pending := [] } else sl) sl
  let sl := sl.decideMode e (fun a => e.isAux a && !sl.axes[a].d.mode.driven && !sl.faulted a) .hold
  sl.raise e 1 (if egress then 1 else 2) 0

/-- The opening move that egress_assist runs on the leaves in place of whatever runs there (R71); one that is under way or waits already is left to run. -/
def Slice.assistOpen (e : Env) (l : Fin 3) (sl : Slice) : Slice :=
  let m := sl.axes[l].m
  let goal := e.openPos l
  let last := ((m.queue ++ m.rev.toList ++ m.pending).getLast?).map fun mv => mv.target
  if last = some goal ∨ (last = none ∧ m.pos = goal ∧ m.v = 0) then sl
  else (sl.modM l fun m => { m with pending := [], pendStop := false }).decideMove e l ⟨goal, 1, false, true⟩

/-- What EMERGENCY_UNLOCKED does with the leaves at a sync point (R71). With both handles active the egress handle's rules apply (log entry 108), and a leaf that egress_assist cannot move because it has no reference is freed (log entry 110). -/
def Slice.emergencyLeaves (e : Env) (sl : Slice) : Slice :=
  let leaf (a : Fin 3) : Bool := decide (e.role a = 1)
  let free (sl : Slice) : Slice := (sl.decideMode e leaf .free).modPortal fun q => { q with emergFreed := true }
  if sl.portal.emergFreed then sl
  else if sl.zeroSpeed then
    match e.leafAxis with
    | some l =>
      if e.egressAssist && sl.handleEgress e && sl.axes[l].m.homed then (sl.assistOpen e l).modPortal fun q => { q with issued := true }
      else if sl.portal.issued && sl.axes[l].m.homed then sl
      else free sl
    | none => free sl
  else if sl.handleEgress e || !sl.handleAccess e then
    if sl.elapsed e (cfgPrtEgressHoldMs e.p e.i) then free sl
    else (sl.decideStop e).decideMode e (fun a => leaf a && !sl.axes[a].d.mode.driven) .hold
  else free sl

/-- Enter ISOLATED (R73). -/
def Slice.enterIsolated (e : Env) (sl : Slice) : Slice :=
  let sl := sl.enter e .isolated .none
  let sl := sl.modPortal fun q => { q with obs := .none, obsLatch := none }
  (sl.decideMode e (fun _ => true) .shortBrake).raise e 2 1 0

/-- The clearing of a fault reset (R75, R168, R193, R206): drive faults, encoder faults, latch-offs; a gear hold stands until re-homing (R132). Drive faults whose condition persists are raised again at once, and the follower of an encoder that is still faulty holds on cause 7 anew (R125, R193). -/
def Slice.faultReset (e : Env) (sl : Slice) : Slice :=
  let sl := sl.modPortal fun q => { q with cause11 := false }
  let sl := forAxes (fun a sl => (sl.modD a fun d => { d with fault := 0, cntOpen := 0, cntImpl := 0 }).modM a fun m => { m with atSoftLimit := false, gearLatched := false }) sl
  let sl := forAxes (fun a sl =>
    let st := sl.axes[a].d.standing
    if st.testBit 4 then sl.driveFault e a 4 (st.testBit 10) else if st.testBit 5 then sl.driveFault e a 5 false
    else if st.testBit 7 then sl.driveFault e a 7 false else if st.testBit 8 then sl.driveFault e a 8 false else sl) sl
  let sl := sl.resetEncoders e
  let sl := forAxes (fun a sl => if e.geared a && decide (e.role a ≠ 0) && sl.axes[a].m.gearHold && sl.sourceFaulty e a && !sl.axes[a].m.gearLatched then sl.gearFault e a 7 else sl) sl
  let sl := forChannels (fun k sl => sl.clearLatch e k) sl
  if sl.sw.tether.st = .lost then sl.modPortal fun q => { q with cause11 := true } else sl

/-! ### Fault causes -/

/-- An input of the portal's own proof is flagged (R182). -/
def Slice.cause10 (e : Env) (sl : Slice) : Bool :=
  sl.flagged (cfgPrtInS1 e.p e.i) || sl.flagged (cfgPrtInS2 e.p e.i) || sl.flagged (cfgPrtInStepStowed e.p e.i) || sl.flagged (cfgPrtInIsolation e.p e.i)

/-- S1 asserts while a homed leaf lies outside its window (R70). -/
def Slice.cause6 (e : Env) (sl : Slice) : Bool :=
  let leaf (a : Fin 3) : Bool := decide (e.role a = 1)
  sl.s1 e && !sl.portal.prevS1 && decide (sl.portal.st ≠ .homing) && (allAxes fun a => !leaf a || sl.axes[a].m.homed)
    && !(allAxes fun a => !leaf a || sl.inS1Window e a)

/-- S2 has stood without S1 for longer than lock_confirm_ms (R70). -/
def Slice.cause7 (e : Env) (sl : Slice) : Bool :=
  match sl.portal.s2Alone with
  | some t => decide (t + ms (cfgPrtLockConfirmMs e.p e.i) < e.cyc)
  | none => false

/-- The homing run of some axis of the present stage has failed (R131). -/
def Slice.homingFailed (e : Env) (sl : Slice) : Bool :=
  sl.portal.issued && !allAxes fun a => !e.enabledAxis a || decide (cfgAxHomeStage e.p e.i a ≠ sl.portal.homeStage) || sl.axes[a].m.homeCode = 0

/-- A cause of R74 that stands in any running state; 0 none. R74 gives no order; the first of 10, 11, 6, 7 is recorded (log entry 113). -/
def Slice.standingCause (e : Env) (sl : Slice) : Nat :=
  if sl.cause10 e then 10 else if sl.portal.cause11 then 11 else if sl.cause6 e then 6 else if sl.cause7 e then 7 else 0

/-- A timer of the present state has expired and gives FAULT (R65); 0 none. -/
def Slice.timerCause (e : Env) (sl : Slice) : Nat :=
  match sl.portal.st, sl.portal.phase with
  | .homing, .move => if sl.homingFailed e then 1 else 0
  | .unlocking, _ => if sl.elapsed e (cfgPrtUnlockConfirmMs e.p e.i) && sl.s2 e then 2 else 0
  | .opening, _ => if sl.elapsed e (cfgPrtOpenTimeout e.p e.i) then 3 else 0
  | .closing, .move => if sl.elapsed e (cfgPrtCloseTimeout e.p e.i) then 4 else 0
  | .locking, _ => if sl.elapsed e (cfgPrtLockConfirmMs e.p e.i) && !sl.s2 e then 5 else 0
  | .closedUnlocked, _ => if sl.elapsed e (cfgPrtStepStowTimeout e.p e.i) then 8 else 0
  | _, _ => 0

/-! ### The table of R65, state by state, below the ranks 1 to 4 of R76 -/

/-- Homing (R67, R127): the warn phase, then stage after stage. -/
def Slice.evalHoming (e : Env) (sl : Slice) : Slice :=
  match sl.portal.phase with
  | .warn =>
    if sl.elapsed e (cfgPrtWarnTime e.p e.i) then
      (sl.enter e .homing .move).modPortal fun q => { q with homeStage := e.stageFrom 0 }
    else sl
  | _ =>
    let st := sl.portal.homeStage
    let stageDone := sl.portal.issued && allAxes fun a => !e.enabledAxis a || decide (cfgAxHomeStage e.p e.i a ≠ st) || sl.axes[a].m.homed
    let next := e.stageFrom (st + 1)
    if stageDone && decide (next < 3) then sl.modPortal fun q => { q with homeStage := next, issued := false }
    else if stageDone && sl.s1Confirmed e then
      if sl.released e then sl.enter e .released .none
      else (sl.enter e .closedUnlocked .none).decideAux e fun a => e.closedPos a
    else sl

/-- LOCKED (R65). PRT_COMMAND code 3 is taken before a release (log entry 111). -/
def Slice.evalLocked (e : Env) (cmd : Nat) (sl : Slice) : Slice :=
  if cmd = 3 then sl.enterHoming e true
  else if sl.released e then sl.enter e .unlocking .none else sl

def Slice.evalUnlocking (e : Env) (sl : Slice) : Slice :=
  if !sl.s2 e && sl.elapsed e 50 then sl.enter e .released .none else sl

def Slice.evalReleased (e : Env) (sl : Slice) : Slice :=
  if !sl.released e then sl.enter e .locking .none
  else if sl.closeSources e ≠ 0 then sl
  else if sl.openTrigger e then sl.enterOpening e else sl

/-- OPENING: completion, close cause, the leaves after the step, and the resume after an obstacle stop (R65, R68). The end of OPENING comes before a close cause of the same sync point (log entry 111). -/
def Slice.evalOpening (e : Env) (sl : Slice) : Slice :=
  if sl.leavesOpen e && sl.deployed e && sl.portal.issued then sl.enterOpen e false
  else if sl.closeSources e ≠ 0 then (sl.decideStop e).enterWarn e
  else match sl.portal.stopPause with
    | some t =>
      if t + ms (cfgPrtReclosePauseMs e.p e.i) ≤ e.cyc then
        (sl.decideLeaf e 1 fun a => e.openPos a).modPortal fun q => { q with stopPause := none }
      else sl
    | none =>
      if !sl.portal.issued && sl.deployed e then
        (sl.decideLeaf e 1 fun a => e.openPos a).modPortal fun q => { q with issued := true }
      else sl

/-- OPEN (R66): beyond the reopen limit only a source that newly appears closes. -/
def Slice.evalOpen (e : Env) (prev : Nat) (sl : Slice) : Slice :=
  let s := sl.closeSources e
  if sl.portal.restricted then (if s &&& (31 - prev % 32) ≠ 0 then sl.enterWarn e else sl)
  else if s ≠ 0 then sl.enterWarn e else sl

/-- The reopen move on set 3 that the sequencer asks for, as a replace latched at the next sync point (R109, R120); with its request where the leaf is at standstill (R237). -/
def Slice.decideReopen (e : Env) (sl : Slice) : Slice :=
  match e.leafAxis with
  | some l =>
    let t := sl.reopenTo e l
    ((sl.modPortal fun q => { q with reopenTarget := t, reopenShort := false }).modM l fun m => { m with pending := [⟨t, 3, false, true⟩] }).askGrant e l
  | none => sl

/-- CLOSING (R65). The open button counts only while no close cause stands (R76 ranks 6 and 7); the end of the warning and of the move come before both (log entry 111). -/
def Slice.evalClosing (e : Env) (sl : Slice) : Slice :=
  match sl.portal.phase with
  | .warn =>
    if sl.elapsed e (cfgPrtWarnTime e.p e.i) then (sl.enter e .closing .move).decideLeaf e 2 fun a => e.closedPos a
    else if sl.openButton e && decide (sl.closeSources e = 0) then sl.enterOpen e false
    else sl
  | _ =>
    if sl.leavesClosed e && sl.s1Confirmed e then (sl.enter e .closedUnlocked .none).decideAux e fun a => e.closedPos a
    else if sl.openButton e && decide (sl.closeSources e = 0) then (sl.enter e .reopening .move).decideReopen e
    else sl

/-- REOPENING: the move phase ends at its target or short of it; the pause decides by reopen_count and close cause (R65). Cause 12 shows in its event alone (R74). -/
def Slice.evalReopening (e : Env) (sl : Slice) : Slice :=
  match sl.portal.phase with
  | .pause =>
    if sl.elapsed e (cfgPrtReclosePauseMs e.p e.i) then
      if cfgPrtReopenLimit e.p e.i < sl.portal.reopenCount then
        (sl.enterOpen e true).raise e 0 12 (sl.portal.st.code * 256)
      else if sl.closeSources e ≠ 0 then sl.enterWarn e
      else if sl.leavesOpen e then sl.enterOpen e false
      else sl.enterOpening e
    else sl
  | _ =>
    match e.leafAxis with
    | some l =>
      let m := sl.axes[l].m
      let still := decide (m.v = 0) && m.queue.isEmpty && m.pending.isEmpty && m.rev.isNone && sl.portal.obsLatch.isNone
      if still && (decide (m.pos = sl.portal.reopenTarget) || sl.portal.reopenShort) then sl.enter e .reopening .pause else sl
    | none => sl.enter e .reopening .pause

/-- CLOSED_UNLOCKED (R65). PRT_COMMAND code 3 is taken before a release (log entry 111). -/
def Slice.evalClosedUnlocked (e : Env) (cmd : Nat) (sl : Slice) : Slice :=
  if cmd = 3 then sl.enterHoming e true
  else if sl.stowed e then (if sl.released e then sl.enter e .released .none else sl.enter e .locking .none)
  else sl

def Slice.evalLocking (e : Env) (sl : Slice) : Slice :=
  if sl.elapsed e (cfgPrtLockPullMs e.p e.i) && sl.s2 e then sl.enter e .locked .none else sl

/-- ISOLATED (R73): it ends when the isolation input goes inactive, and E(s*12+2) code 2 is raised then alone (R91, log entry 121). -/
def Slice.evalIsolated (e : Env) (sl : Slice) : Slice :=
  if sl.isoInput e then sl else (sl.raise e 2 2 0).enterHoming e true

/-- Leaving EMERGENCY_UNLOCKED (R72), else what it does with the leaves (R71). -/
def Slice.evalEmergency (e : Env) (cmd : Nat) (sl : Slice) : Slice :=
  if !sl.handleEgress e && !sl.handleAccess e && (!e.staffReset || e.cmd.testBit 6 || decide (cmd = 2)) then sl.enterHoming e true
  else sl.emergencyLeaves e

/-- In FAULT an axis that a test move has left driven goes back to fault_axis_mode once it rests; a drive fault keeps its own mode (R74). -/
def Slice.restFault (e : Env) (sl : Slice) : Slice :=
  if sl.teach.isSome then sl
  else sl.decideMode e (fun a =>
    let m := sl.axes[a].m
    sl.axes[a].d.mode.driven && !sl.faulted a && decide (m.v = 0) && m.queue.isEmpty && m.pending.isEmpty && m.rev.isNone)
    (if cfgPrtFaultAxisMode e.p e.i = 0 then .free else .shortBrake)

def Slice.evalFault (e : Env) (cmd : Nat) (sl : Slice) : Slice :=
  if cmd = 1 || e.cmd.testBit 5 then (sl.faultReset e).enterHoming e true else sl.restFault e

/-- An obstacle declared since the last evaluation is recorded (R65 rank 3, R68, R164). -/
def Slice.evalObstacle (e : Env) (sl : Slice) : Slice :=
  let q := sl.portal
  let sl := sl.modPortal fun q => { q with obs := .none }
  match q.st, q.phase, q.obs with
  | .closing, .move, .closing =>
    (sl.modPortal fun q =>
      { q with reopenCount := q.reopenCount + 1, cntReopens := satInc 255 q.cntReopens, acc := { q.acc with reopens := q.reopenCount + 1 } }).enter e .reopening .move
  | .opening, _, .opening =>
    let n := q.openStops + 1
    let sl := sl.modPortal fun q =>
      { q with openStops := n, cntOpenStops := satInc 255 q.cntOpenStops, stopPause := some e.cyc, acc := { q.acc with openStops := q.acc.openStops + 1 } }
    if n < 3 then sl else sl.enterFault e 9
  | .reopening, .move, .opening => sl.modPortal fun q => { q with reopenShort := true }
  | _, _, _ => sl

/-- Rank 3 decides only where the table has a row for it. -/
def Slice.obstacleDecides (sl : Slice) : Bool :=
  match sl.portal.st, sl.portal.phase, sl.portal.obs with
  | .closing, .move, .closing => true
  | .opening, _, .opening => true
  | _, _, _ => false

/-- States in which a fault cause of R74 gives FAULT: not in FAULT itself, nor in the two states that leave only by their own rules (R72, R73). -/
def PState.faultable : PState → Bool
  | .fault | .emergency | .isolated | .unused => false
  | _ => true

/-- The rows of the present state below ranks 1 to 4. -/
def Slice.evalState (e : Env) (cmd prev : Nat) (sl : Slice) : Slice :=
  match sl.portal.st with
  | .homing => sl.evalHoming e
  | .locked => sl.evalLocked e cmd
  | .unlocking => sl.evalUnlocking e
  | .released => sl.evalReleased e
  | .opening => sl.evalOpening e
  | .open_ => sl.evalOpen e prev
  | .closing => sl.evalClosing e
  | .reopening => sl.evalReopening e
  | .closedUnlocked => sl.evalClosedUnlocked e cmd
  | .locking => sl.evalLocking e
  | .isolated => sl.evalIsolated e
  | .emergency => sl.evalEmergency e cmd
  | .fault => sl.evalFault e cmd
  | .unused => sl

/-- The transition of this sync point, decided by the ranks of R76. A handle takes a portal out of ISOLATED without the event of R91 for its end (log entry 121). -/
def Slice.transition (e : Env) (cmd prev : Nat) (sl : Slice) : Slice :=
  let st := sl.portal.st
  if st = .unused then sl
  else if (sl.handleEgress e || sl.handleAccess e) && decide (st ≠ .emergency) then (sl.enterEmergency e).emergencyLeaves e
  else if sl.isoConfirmed e && decide (st ≠ .emergency) && decide (st ≠ .isolated) then sl.enterIsolated e
  else if sl.obstacleDecides then sl.evalObstacle e
  else
    let sl := if sl.portal.obs = .none then sl else sl.evalObstacle e
    if st.faultable && decide (sl.standingCause e ≠ 0) then sl.enterFault e (sl.standingCause e)
    else if sl.timerCause e ≠ 0 then sl.enterFault e (sl.timerCause e)
    else sl.evalState e cmd prev

/-- PRT_STATE's condition bits [22:16] of this evaluation, and cmd_stale at bit 9 of the stored word. -/
def Slice.statusBits (e : Env) (sl : Slice) : Nat :=
  b2n (sl.released e) + 2 * b2n sl.zeroSpeed + 4 * b2n sl.cabActive + 8 * b2n (decide (sl.closeSources e ≠ 0)) + 16 * b2n (sl.s1Confirmed e)
    + 32 * b2n (sl.s2 e) + 64 * b2n (sl.stowed e) + 512 * b2n e.stale

/-! ### Outputs (R69, R201) -/

def Env.flashOn (e : Env) (period on : Nat) : Bool := decide ((e.now + Config.flashPhase e.i) % period < on)

def Slice.lampOut (e : Env) (sl : Slice) : Bool :=
  match sl.portal.st with
  | .homing | .closing | .reopening => e.flashOn (ms 500) (ms 250)
  | .released | .opening | .open_ => true
  | .isolated => e.flashOn (ms 2000) (ms 200)
  | _ => false

def Slice.buzzerOut (e : Env) (sl : Slice) : Bool :=
  match sl.portal.st, sl.portal.phase with
  | .homing, .warn | .closing, .warn => true
  | .homing, .move | .closing, .move => !sl.elapsed e 1000
  | _, _ => false

/-- The lock output K0: latching or held (R69). -/
def Slice.lockOut (e : Env) (sl : Slice) : Bool :=
  if e.heldLock then
    match sl.portal.st with
    | .locking | .locked | .isolated => true
    | .fault => sl.portal.lockDecided
    | _ => false
  else match sl.portal.st with
    | .locking => !sl.elapsed e (cfgPrtLockPullMs e.p e.i)
    | _ => false

def Slice.unlockOut (e : Env) (sl : Slice) : Bool :=
  !e.heldLock && decide (sl.portal.st = .unlocking) && !sl.elapsed e (cfgPrtUnlockPulseMs e.p e.i)

/-- The command of a channel from its source (R201). -/
def Slice.channelOut (e : Env) (k : Fin 6) (sl : Slice) : Bool :=
  let a := cfgLswParamA e.p e.i k.val
  match cfgLswChSource e.p e.i k.val with
  | 1 =>
    if k.val = 0 then sl.lockOut e
    else if k.val = cfgPrtUnlockChannel e.p e.i then sl.unlockOut e
    else if k.val = cfgPrtLampChannel e.p e.i then sl.lampOut e
    else if k.val = cfgPrtBuzzerChannel e.p e.i then sl.buzzerOut e
    else false
  | 2 =>
    let v := sl.inp.an[(⟨a % 4, by omega⟩ : Fin 4)].value
    if v < cfgLswParamB e.p e.i k.val then true else if cfgLswParamC e.p e.i k.val < v then false else sl.sw.ch[k].decided
  | 3 => e.aux.testBit (a % 32)
  | 4 => a.testBit sl.portal.st.code
  | _ => false

def Slice.decideChannels (e : Env) (sl : Slice) : Slice :=
  let sl := forChannels (fun k sl => let o := sl.channelOut e k; sl.modCh k fun c => { c with decided := o }) sl
  let o := sl.lockOut e
  sl.modPortal fun q => { q with lockDecided := o }

/-! ### Latching what the last sync point decided (R51, R111, R202, R237) -/

/-- A move or an enable waits for its grant while its axis is enrolled, arbitrated and at standstill (R237). -/
def Slice.waitsGrant (e : Env) (a : Fin 3) (sl : Slice) : Bool :=
  let m := sl.axes[a].m
  e.enrolled (6 + a.val) && !sl.sw.unarbitrated && decide (m.v = 0) && m.needsGrant && (match m.req with | .granted _ => false | _ => true)

/-- The drive mode decided for an axis takes effect. An axis that rests in a drive fault keeps the mode R168 gives it, but a handle frees the leaves (R71, R169) and isolation short-brakes the axes (R73) whatever holds them (log entry 127). -/
def Slice.latchMode (e : Env) (a : Fin 3) (sl : Slice) : Slice :=
  match sl.axes[a].d.pendMode with
  | none => sl
  | some md =>
    if md.driven && (!e.gate || (decide (sl.axes[a].d.mode = .free) && sl.waitsGrant e a)) then sl
    else
    let sl := sl.modD a fun d => { d with pendMode := none }
    let beyond := (decide (sl.portal.st = .emergency) && decide (md = .free)) || (decide (sl.portal.st = .isolated) && decide (md = .shortBrake))
    if sl.faulted a && !beyond then sl
    else if md = .free then sl.freeAxis e a (decide (sl.portal.st = .emergency))
    else if md = .shortBrake then sl.brakeAxis e a
    else (sl.wantMode e a md).modM a fun m => { m with needsGrant := false }

/-- A stop decided at the last sync point, then the moves, which wait for their grant; the moves of an axis that rests in a drive fault lapse (R168), and the grant of one that was refused or complete at once drops. -/
def Slice.latchMoves (e : Env) (a : Fin 3) (sl : Slice) : Slice :=
  let sl := if sl.axes[a].m.pendStop then
      sl.modM a fun m => { m.stop with pendStop := false, pending := m.pending, needsGrant := m.needsGrant && !m.pending.isEmpty, req := if m.pending.isEmpty then .idle else m.req }
    else sl
  if sl.waitsGrant e a || sl.axes[a].m.pending.isEmpty then sl
  else
    let mvs := sl.axes[a].m.pending
    let sl := sl.modM a fun m => { m with pending := [], needsGrant := false }
    let sl := if sl.faulted a then sl
      else mvs.foldl (fun sl mv => if mv.replace && decide (mv.set = 3) then sl.reverseLeaf e a else sl.offerMove e a mv) sl
    let m := sl.axes[a].m
    if m.v = 0 ∧ m.queue = [] ∧ m.rev = none then (sl.modM a fun m => { m with req := .idle }).actionDone e a else sl

/-- The portal's axes rest as they are: it is stopped, isolated, in an emergency or unused. -/
def PState.resting : PState → Bool
  | .fault | .isolated | .emergency | .unused => true
  | _ => false

/-- The axes of a portal that is neither stopped nor unused hold; a homing stage that is due starts (R127, R136). -/
def Slice.latchDrive (e : Env) (a : Fin 3) (sl : Slice) : Slice :=
  let st := sl.portal.st
  if !e.enabledAxis a || st.resting || sl.faulted a then sl
  else
    if sl.homingDue e a then sl.startHoming e a
    else if sl.axes[a].d.mode.driven || sl.axes[a].d.wanted.isSome || sl.waitsGrant e a then sl
    else (sl.wantMode e a .hold).modM a fun m => { m with needsGrant := false }

/-- An enrolled axis whose homing stage is due, or that is to be enabled from free mode, raises its request and waits for the grant (R237, R511). One whose grant a bite has revoked does not ask again (R245). -/
def Slice.homeGrants (e : Env) (sl : Slice) : Slice :=
  let enables (a : Fin 3) : Bool := !sl.portal.st.resting && decide (sl.axes[a].d.mode = .free) && sl.axes[a].d.wanted.isNone && sl.axes[a].d.pendMode.isNone
  forAxes (fun a sl =>
    if e.enabledAxis a && (sl.homingDue e a || enables a) && !sl.faulted a && !sl.axes[a].m.needsGrant && decide (sl.axes[a].m.req = .idle) then sl.askGrant e a else sl) sl

/-- The moves of an axis that was caught in flight are decided anew once it stands (R416, R239). -/
def Slice.issueCaught (e : Env) (sl : Slice) : Slice :=
  forAxes (fun a sl =>
    let m := sl.axes[a].m
    if m.caught.isEmpty || decide (m.v ≠ 0) || m.catching.isSome then sl
    else m.caught.foldl (fun sl mv => sl.decideMove e a mv) (sl.modM a fun m => { m with caught := [] })) sl

/-- Some axis of the homing stage still waits for its grant, or an axis of the portal still moves (R417). -/
def Slice.homeWaits (e : Env) (sl : Slice) : Bool :=
  !allAxes fun a =>
    (decide (sl.portal.st ≠ .homing) || decide (sl.portal.phase ≠ .move) || sl.portal.issued || (decide (sl.axes[a].m.v = 0) && sl.axes[a].m.catching.isNone)) &&
    (!(e.enabledAxis a && decide (cfgAxHomeStage e.p e.i a = sl.portal.homeStage)) || !sl.waitsGrant e a)

/-- Everything the last sync point decided takes effect in the engine: the switch commands and drive modes go out with the tether's next frame, whose apply strobe is set (R51, R202, R214). -/
def Slice.latchAll (e : Env) (sl : Slice) : Slice :=
  let sl := forChannels (fun k sl => sl.modCh k fun c => { c with commanded := c.decided }) sl
  let sl := sl.modTether fun t => { t with strobe := true }
  let sl := forAxes (fun a sl => sl.latchMode e a) sl
  let sl := forAxes (fun a sl => sl.latchMoves e a) sl
  if sl.homeWaits e then sl
  else
    let was := decide (sl.portal.st = .homing) && decide (sl.portal.phase = .move)
    let sl := forAxes (fun a sl => sl.latchDrive e a) sl
    if was then sl.modPortal fun q => { q with issued := true } else sl

/-! ### Commands of the slice registers, taken at a sync point -/

/-- AX_COMMAND codes 1 and 2 (R110, R120); each interrupts a teach cycle (R152). The test move is decided here and latched at the next sync point (R51), and an axis that rests in a drive fault takes none (R168). -/
def Slice.takeAxisCommand (e : Env) (a : Fin 3) (sl : Slice) : Slice :=
  let c := sl.axes[a].m.command
  let sl := sl.modM a fun m => { m with command := 0 }
  let sl := if c = 1 ∨ c = 2 then sl.teachBreak else sl
  if c = 1 then sl.modM a Motion.stop
  else if decide (c = 2) && decide (sl.portal.st = .fault) && sl.zeroSpeed && e.active && !sl.faulted a then
    sl.decideMove e a ⟨sl.axes[a].m.testTarget, 0, false, false⟩
  else sl

/-- A teach cycle that is accepted holds every enabled axis that no drive fault keeps (R151, R168); an axis that is free raises its request (R237). -/
def Slice.teachBegins (e : Env) (sl : Slice) : Slice :=
  let was := sl.teach.isSome
  let sl := sl.teachStart e
  if sl.teach.isSome && !was then sl.decideMode e (fun a => !sl.faulted a) .hold else sl

/-- AX_DRIVE_COMMAND codes 1 to 4 (R151, R160, R161). -/
def Slice.takeDriveCommand (e : Env) (a : Fin 3) (sl : Slice) : Slice :=
  let c := sl.axes[a].d.command
  let sl := sl.modD a fun d => { d with command := 0 }
  let begins := decide (c = 1) && decide (a = 0)
  let sl := if begins || decide (c = 2) || decide (c = 3) || decide (c = 4) then sl.teachBreak else sl
  if begins then sl.teachBegins e
  else if c = 2 then sl.envelopeReset e a
  else if c = 3 then sl.modD a fun d => { d with frozenCmd := true }
  else if c = 4 then sl.modD a fun d => { d with frozenCmd := false }
  else sl

/-- LSW_COMMAND codes 1 and 2 (R206, R225). -/
def Slice.takeSwitchCommand (e : Env) (sl : Slice) : Slice :=
  let c := sl.sw.command
  let k := sl.sw.commandChannel
  let sl := sl.modSw fun x => { x with command := 0 }
  let sl := if c = 1 ∨ c = 2 then sl.teachBreak else sl
  if c = 1 then (if h : k < 6 then sl.clearLatch e ⟨k, h⟩ else sl)
  else if decide (c = 2) && decide (sl.portal.st = .fault) && sl.zeroSpeed && e.active then
    sl.modTether fun t => { t with testRunning := true, testPassed := false, testAt := e.now }
  else sl

/-! ### The teach cycle at a sync point (R151, R152) -/

/-- Step 4 of R151: the homing run of one axis after another, in the order A0, A1, A2; then the moves of the first axis that is not geared. -/
def Slice.teachHoming (e : Env) (t : TeachRun) (k : Fin 3) (sl : Slice) : Slice :=
  let m := sl.axes[k].m
  if !t.issued then
    let sl := if m.needsGrant || m.req ≠ .idle then sl else sl.askGrant e k
    if sl.waitsGrant e k then sl
    else if sl.faulted k then { sl with teach := some { t with issued := true } }
    else { sl.startHoming e k with teach := some { t with issued := true } }
  else if m.home.isSome then sl
  else
    let t := { t with unhomed := t.unhomed.set k (!m.homed), issued := false }
    let n := axisFrom (fun a => e.enabledAxis a) (k.val + 1)
    { sl with teach := some (if n < 3 then { t with axis := n } else
      let n := axisFrom (fun a => e.enabledAxis a && !e.geared a) 0
      { t with step := if n < 3 then 5 else 6, axis := n }) }

/-- Step 5 of R151: opening moves on set 1 and closing moves on set 2 in turn, 2 s apart, on one axis after another; geared axes move with their master. A move that does not run to its target interrupts the cycle. -/
def Slice.teachMoves (e : Env) (t : TeachRun) (k : Fin 3) (sl : Slice) : Slice :=
  let m := sl.axes[k].m
  let opening := decide (t.moves % 2 = 0)
  let goal := if opening then e.openPos k else e.closedPos k
  let n := axisFrom (fun a => e.enabledAxis a && !e.geared a) (k.val + 1)
  if t.unhomed[k] || t.faulted[k] || decide (2 * cfgDrvTeachCycles e.p e.i k ≤ t.moves) then
    { sl with teach := some { t with step := if n < 3 then 5 else 6, axis := n, moves := 0, issued := false, endedAt := none } }
  else if !t.issued then
    if t.endedAt.all fun x => decide (x + ms 2000 ≤ e.now) then
      let sl := sl.decideMove e k ⟨goal, if opening then 1 else 2, false, false⟩
      { sl with teach := some { t with issued := true } }
    else sl
  else if !m.pending.isEmpty || !m.queue.isEmpty || decide (m.v ≠ 0) || m.rev.isSome then sl
  else if m.pos ≠ goal then sl.teachBreak
  else
    let sl := sl.withFollowers e k fun b sl => sl.modD b fun d => { d with teachDone := t.moves + 1 }
    { sl with teach := some { t with moves := t.moves + 1, issued := false, endedAt := some e.now } }

/-- The teach cycle at a sync point: interrupted by a command, by leaving FAULT, or by the loss of zero speed or of the Hitch; else its next step (log entry 112). -/
def Slice.teachStep (e : Env) (cmd : Nat) (sl : Slice) : Slice :=
  match sl.teach with
  | none => sl
  | some t =>
    if t.step = 6 then sl
    else if decide (cmd ≠ 0) || decide (sl.portal.st ≠ .fault) || !sl.zeroSpeed || !e.active then sl.teachBreak
    else if h : t.axis < 3 then
      if t.step = 1 then
        if !allAxes fun a => !e.enabledAxis a || t.faulted[a] || sl.axes[a].d.mode.driven then { sl with teach := some { t with measuredAt := e.teachMeasured } }
        else if t.measuredAt ≤ e.now then { sl with teach := some { t with step := 4 } } else sl
      else if t.step = 4 then sl.teachHoming e t ⟨t.axis, h⟩
      else sl.teachMoves e t ⟨t.axis, h⟩
    else { sl with teach := some { t with step := 6 } }

/-- A tether test whose bound has passed without the fail-safe states fails (R225). -/
def Slice.checkTetherTest (e : Env) (sl : Slice) : Slice :=
  let t := sl.sw.tether
  if t.testRunning && decide (t.lastRefresh + t.stored.timeoutMs * 1050000 + 50000 < e.now) then sl.tetherTestFail e else sl

/-! ### One sync point of a slice -/

/-- The evaluation proper (R51): conditions, transition, outputs. -/
def Slice.evaluate (e : Env) (sl : Slice) : Slice :=
  let cmd := sl.portal.command
  let crew := sl.crewNext e
  let status := sl.statusBits e
  let src := sl.closeSources e
  let prev := sl.portal.sources
  let alone := sl.s2 e && !sl.s1 e
  let sl := sl.modPortal fun q =>
    { q with command := 0, crew := crew, status := status,
             s2Alone := if alone then some (q.s2Alone.getD e.cyc) else none }
  let sl := (sl.transition e cmd prev).teachStep e cmd
  let s1 := sl.s1 e
  let sl := sl.modPortal fun q => { q with prevS1 := s1, sources := src }
  ((sl.homeGrants e).issueCaught e).decideChannels e

/-- What the evaluation of a sync point finds: inputs delivered, the last sync point's decisions latched, the commands of the axes and switches taken (R51, R178, R202). -/
def Slice.prepared (e : Env) (sl : Slice) : Slice :=
  let sl := (sl.deliverInputs e).compareTwin e
  let sl := sl.latchAll e
  let sl := forAxes (fun a sl => (sl.takeAxisCommand e a).takeDriveCommand e a) sl
  (sl.takeSwitchCommand e).checkTetherTest e

/-- A slice of the module that drives, at a sync point: deliver, latch, take commands, evaluate, advance the alive count (R51, R178, R202, R215). -/
def Slice.syncActive (e : Env) (sl : Slice) : Slice :=
  let sl := (sl.prepared e).evaluate e
  sl.modTether fun t => { t with alive := if t.st = .lost || t.testRunning then t.alive else (t.alive + 1) % 256 }

/-- A slice that does not drive: inputs are delivered and compared, register commands are ignored (R77); a teach command is a refused one (R151). -/
def Slice.syncStandby (e : Env) (sl : Slice) : Slice :=
  let sl := (sl.deliverInputs e).compareTwin e
  let status := sl.statusBits e
  let sl := if sl.axes[0].d.command = 1 then sl.teachRefused else sl
  let sl := sl.teachBreak.modPortal fun q => { q with command := 0, status := status }
  let sl := forAxes (fun a sl => (sl.modM a fun m => { m with command := 0 }).modD a fun d => { d with command := 0 }) sl
  let sl := sl.modSw fun x => { x with command := 0 }
  sl.modTether fun t => { t with alive := if t.st = .lost then t.alive else (t.alive + 1) % 256 }

/-- What the region holds of the sequencer once this sync point is completed (R224). -/
def Slice.keepHeld (sl : Slice) : Slice := { sl with held := sl.portal, heldHomed := sl.homedNow, heldNext := none, heldSent := false }

/-- The evaluation has ended; its sync point is completed when its refresh has been sent and its region write is complete (R224). -/
def Slice.offerHeld (sl : Slice) : Slice := { sl with heldNext := some (sl.portal, sl.homedNow), heldSent := false }

/-! ### Establishing and resuming a state -/

/-- What was decided for the axes lapses: a module that does not drive has nothing to latch (R77). -/
def Slice.dropDecisions (sl : Slice) : Slice :=
  forAxes (fun a sl => (sl.modM a fun m => { m with pending := [], pendStop := false, req := .idle, needsGrant := false }).modD a fun d => { d with pendMode := none }) sl

/-- R417: a portal establishes its state from its own inputs; in a standby without driving (R399). -/
def Slice.establish (e : Env) (sl : Slice) : Slice :=
  let home (sl : Slice) : Slice := forAxes (fun a sl =>
    if e.role a = 1 ∨ (e.role a = 2 ∧ sl.input (cfgPrtInStepStowed e.p e.i)) then
      sl.modM a fun m => { m with pos := cfgAxHomePosition e.p e.i a, homed := true, homeCode := 0 }
    else sl) sl
  let sl := sl.modPortal fun q => { q with reopenCount := 0, restricted := false, sources := 0, s2Alone := none, prevS1 := sl.s1 e, obs := .none, obsLatch := none }
  let sl :=
    if !e.portalEnabled then sl.modPortal fun q => { q with st := .unused, phase := .none }
    else if sl.handleEgress e || sl.handleAccess e then (sl.enterEmergency e).emergencyLeaves e
    else if sl.isoInput e && sl.s1 e && sl.s2 e && e.isoAllowed then sl.enterIsolated e
    else if sl.s1 e && sl.s2 e then (home sl).enter e .locked .none
    else if sl.s1 e then ((home sl).enter e .closedUnlocked .none).decideAux e fun a => e.closedPos a
    else sl.enterHoming e true
  if e.active then sl else sl.dropDecisions

/-- R224: how a held state resumes after an engine restart; timers restart at their full value. -/
def Slice.resumeFrom (e : Env) (st : PState) (sl : Slice) : Slice :=
  let unhomed := !allAxes fun a => !e.enabledAxis a || sl.axes[a].m.homed
  let stands := match st with | .isolated | .emergency | .fault | .unused => true | _ => false
  if !stands && unhomed then sl.enterHoming e true
  else match st with
    | .homing => sl.enterHoming e true
    | .opening =>
      let sl := (sl.enter e .opening .none).decideAux e fun a => e.openPos a
      if cfgPrtStepOrder e.p e.i = 1 || sl.deployed e then
        (sl.decideLeaf e 1 fun a => e.openPos a).modPortal fun q => { q with issued := true }
      else sl
    | .closedUnlocked => (sl.enter e .closedUnlocked .none).decideAux e fun a => e.closedPos a
    | .closing => sl.enterWarn e
    | .reopening =>
      let t := sl.portal.reopenTarget
      (sl.enter e .reopening .move).decideLeaf e 3 fun _ => t
    | st => sl.modPortal fun q => { q with st := st, phase := .none, tState := e.cyc, issued := false }

end Sys2Proof.Machine
end

