-- ==== Sys2Proof/Machine/CarBus.lean ====
section
/-! DEFINITION. The car bus controller: receive and transmit objects, time-triggered operation, matrix banks, error confinement (file 10). -/

namespace Sys2Proof.Machine

def CanMode.code : CanMode → Nat
  | .off => 0 | .normal => 1 | .monitor => 2 | .busOff => 3 | .waiting => 4

def Env.busFlag (e : Env) (b : Nat) : Bool := (cfgBusBusFlags e.p e.i).testBit b
def Env.busEnable (e : Env) : Bool := e.busFlag 0
def Env.ttEnable (e : Env) : Bool := e.busFlag 2

/-- Set CBS_FAULT and raise E(s×12+11) (R357). -/
def Slice.busEvent (e : Env) (code obj : Nat) (sl : Slice) : Slice :=
  (sl.modCan fun c => { c with faultCode := code, faultObject := obj }).raise e 11 code 0

/-! ### Receiving (R336, R337) -/

/-- A frame matches receive object `r`: used, IDE equal, identifier equal under the mask. -/
def Env.rxMatch (e : Env) (f : CanFrame) (r : Nat) : Bool :=
  let id := cfgBusRxId e.p e.i r
  let mask := cfgBusRxMask e.p e.i r
  decide (mask ≠ 0) && (f.ide == id.testBit 29) && decide (f.id &&& (mask % 536870912) = id % 536870912 &&& (mask % 536870912))

/-- The first object that takes a frame. -/
def Env.rxObject (e : Env) (f : CanFrame) : Option (Fin 32) := (List.finRange 32).find? fun r => e.rxMatch f r.val

/-- The 80 bytes of a receive object in the slice's region (R337). -/
def RxObj.bytes (o : RxObj) : List Byte :=
  leBytes 4 (o.id % 536870912 + 536870912 * b2n o.ide + 1073741824 * b2n o.fdf + 2147483648 * b2n o.valid)
    ++ leBytes 4 (o.dlc % 16 + 16 * b2n o.brs + 32 * b2n o.esi + 64 * b2n o.overwritten + 256 * o.age)
    ++ leBytes 4 (o.sof % 4294967296) ++ leBytes 4 0
    ++ (o.data ++ List.replicate (64 - o.data.length) 0).take 64

/-- A frame from another station with the reference identifier, where there is a reference message (R343, log entry 140). -/
def Env.isConflict (e : Env) (f : CanFrame) : Bool :=
  e.ttEnable && decide (f.id = cfgBusRefId e.p e.i) && (f.ide == e.busFlag 4)

/-- The bus is idle again after a frame of another station; an event frame put up meanwhile has not started, and what starts is decided anew (R338, R340, R345). -/
def CanBus.nowIdle (c : CanBus) : CanBus :=
  { c with busy := false, onBus := match c.onBus with
      | .object _ _ false => .idle
      | x => x }

/-- CAN_FRAME_RECEIVE (R336, R337): the first matching object takes the frame; none discards and counts it. -/
def Slice.canReceive (e : Env) (f : CanFrame) (sl : Slice) : Slice :=
  let sl := sl.modCan CanBus.nowIdle
  if sl.can.mode ≠ .normal ∧ sl.can.mode ≠ .monitor then sl
  else
    let sl := if e.isConflict f then (sl.modCan fun c => { c with cntConflicts := satInc 255 c.cntConflicts }).busEvent e 5 0 else sl
    let sl := if sl.can.mode = .normal then sl.modCan fun c =>
        { c with rec_ := if 127 < c.rec_ then 119 + Config.freeNat 30 e.draw % 9 else c.rec_ - 1 } else sl
    if f.remote then sl
    else match e.rxObject f with
      | none => sl.modCan fun c => { c with cntUnmatched := satInc 255 c.cntUnmatched }
      | some r =>
        let o := sl.can.rx[r]
        let o' : RxObj := ⟨f.id, f.ide, f.fdf, true, f.dlc, f.brs, f.esi, o.fresh, 0, f.sof, f.data.take (cfgBusRxLen e.p e.i r.val), true⟩
        sl.modCan fun c =>
          { c with rx := c.rx.set r o', cntReceived := satInc 65535 c.cntReceived,
                   cntOverwrites := if o.fresh then satInc 255 c.cntOverwrites else c.cntOverwrites }

/-- At a sync point each used object ages, or is fresh at age 0 (R337). -/
def RxObj.atSync (o : RxObj) : RxObj := if o.fresh then { o with fresh := false, age := 0 } else { o with age := satInc 255 o.age, overwritten := false }

/-! ### Transmit objects (R338 to R340, R346) -/

/-- The smallest CAN length that holds `n` bytes (DLC codes 0…15). -/
def dlcLength (n : Nat) : Nat :=
  if n ≤ 8 then n else if n ≤ 12 then 12 else if n ≤ 16 then 16 else if n ≤ 20 then 20 else if n ≤ 24 then 24
  else if n ≤ 32 then 32 else if n ≤ 48 then 48 else 64

def Env.txMode (e : Env) (t : Nat) : Nat := cfgBusTxMode e.p e.i t

/-- Length of a nominal and of a data bit in ns (R331). -/
def Env.nominalBit (e : Env) : Rat :=
  (1 + cfgBusNTseg1 e.p e.i + cfgBusNTseg2 e.p e.i : Nat) * (cfgBusNPrescaler e.p e.i : Nat) * (25 / 2 : Rat)
def Env.dataBit (e : Env) : Rat :=
  (1 + cfgBusDTseg1 e.p e.i + cfgBusDTseg2 e.p e.i : Nat) * (cfgBusDPrescaler e.p e.i : Nat) * (25 / 2 : Rat)

/-- The worst-case frame time of R346, ns. -/
def frameTime (tn td : Rat) (ide fdf brs : Bool) (n : Nat) : Rat :=
  let td := if brs then td else tn
  let x : Nat := if n ≤ 16 then 0 else 5
  if fdf then
    (if ide then (49 + (40 + 8 * n) / 4 : Nat) * tn + (32 + 8 * n + x : Nat) * td
     else (30 + (21 + 8 * n) / 4 : Nat) * tn + (32 + 8 * n + x : Nat) * td)
  else if ide then (67 + 8 * n + (53 + 8 * n) / 4 : Nat) * tn
  else (47 + 8 * n + (33 + 8 * n) / 4 : Nat) * tn

def Env.objectTime (e : Env) (t : Nat) : Rat :=
  let id := cfgBusTxId e.p e.i t
  frameTime e.nominalBit e.dataBit (id.testBit 29) (id.testBit 30) (id.testBit 31) (dlcLength (cfgBusTxLen e.p e.i t))

/-- What an object sends: its first tx_len bytes, padded with 0 to the DLC's length (R338). -/
def Env.txPayload (e : Env) (pay : Fin 16 → List Byte) (t : Fin 16) : List Byte :=
  let n := cfgBusTxLen e.p e.i t.val
  let d := (pay t).take n
  d ++ List.replicate (dlcLength n - d.length) 0

/-- Priority of an object in the event queue: lower goes first (R340). -/
def Env.txRank (e : Env) (t : Nat) : Nat :=
  let id := cfgBusTxId e.p e.i t
  if id.testBit 29 then (id % 536870912) * 2 + 1 else (id % 2048) * 262144 * 2

/-- The head of the event queue. -/
def Slice.queueHead (e : Env) (sl : Slice) : Option (Fin 16) :=
  (List.finRange 16).foldl (fun best t =>
    if sl.can.tx[t].pending.isSome && (decide (e.txMode t.val = 2) || decide (e.txMode t.val = 3)) then
      match best with
      | none => some t
      | some b => if e.txRank t.val < e.txRank b.val then some t else some b
    else best) none

def CanBus.bank (c : CanBus) (b : Bool) : Bank := if b then c.bank1 else c.bank0
def Bank.cell (k : Bank) (b j : Nat) : Nat := tabGet k.cells (b * 32 + j)
def Bank.col (k : Bank) (j : Nat) : Nat := tabGet k.cols j

/-- The end of column `j` from the basic cycle start, µs: the next column's start, or the next basic cycle (R344). -/
def Env.columnEnd (e : Env) (tcyc : Nat) (k : Bank) (j : Nat) : Nat :=
  if j + 1 < cfgBusColCount e.p e.i then k.col (j + 1) else cfgBusBcLen e.p e.i * tcyc / 1000

/-- A frame that starts now ends before the present window (R345). -/
def Slice.fits (e : Env) (tcyc : Nat) (time : Rat) (sl : Slice) : Bool :=
  let c := sl.can
  let end_ : Nat := if c.ttHeld then cfgBusBcLen e.p e.i * tcyc / 1000 else e.columnEnd tcyc (c.bank c.activeBank) c.column
  decide ((e.now : Rat) + time ≤ (c.bcAt : Rat) + (end_ : Rat) * 1000)

/-- The present window is free: tt_enable clear, time-triggered operation not resumed after a bus-off (R352), or a free cell (R344, R345). -/
def Slice.freeWindow (e : Env) (sl : Slice) : Bool :=
  let c := sl.can
  !e.ttEnable || c.ttHeld || (c.ttRunning && decide (fieldOf ((c.bank c.activeBank).cell c.basicCycle c.column) 5 2 = 0) && decide (c.column ≠ 0))

/-- The 8 bytes of the reference message (R342); the SOF time is the previous one's. -/
def CanBus.referenceBytes (valid : Bool) (c : CanBus) : List Byte :=
  leBytes 1 (c.basicCycle % 64 + 128 * b2n valid) ++ leBytes 3 0 ++ leBytes 4 (c.refSof % 2 ^ 32)

/-- A frame of this slice can start now: normal mode, and nobody is known to send. -/
def CanBus.canStart (c : CanBus) : Bool := decide (c.mode = .normal) && decide (c.onBus = .idle) && !c.busy

/-- The reference message of this basic cycle has yet to be sent (R343). -/
def CanBus.referenceOwed (c : CanBus) : Bool := c.ttRunning && !c.ttHeld && !c.refSent

/-- What starts at a bus idle: a reference message that waits goes first (R343), then the head of the event queue where a free window allows it (R340, R345). Head, payload and window are those of this instant, the SOF. -/
def Slice.tryStart (e : Env) (tcyc : Nat) (pay : Fin 16 → List Byte) (sl : Slice) : Slice :=
  if !sl.can.canStart then sl
  else if sl.can.referenceOwed then sl.modCan fun c => { c with onBus := .reference (c.referenceBytes !e.holdover), refSent := true }
  else if sl.freeWindow e then
    match sl.queueHead e with
    | none => sl
    | some t => if !e.ttEnable || sl.fits e tcyc (e.objectTime t.val) then sl.modCan fun c => { c with onBus := .object t (e.txPayload pay t) false } else sl
  else sl

def Slice.modTx (t : Fin 16) (f : TxObj → TxObj) (sl : Slice) : Slice := sl.modCan fun c => { c with tx := c.tx.set t (f c.tx[t]) }

/-- A request for an object; one already pending stands (R340, R356). -/
def Slice.requestTx (e : Env) (t : Fin 16) (sl : Slice) : Slice :=
  sl.modTx t fun o => if o.pending.isSome then o else { o with pending := some e.now, waited := decide (sl.can.mode = .busOff ∨ sl.can.mode = .waiting), tooLate := false }

/-- R339 at a sync point: event-on-change objects whose visible payload differs from the one last sent are requested; none in bus monitoring mode, which sends nothing (R332). -/
def Slice.requestChanged (e : Env) (pay : Fin 16 → List Byte) (sl : Slice) : Slice :=
  (List.finRange 16).foldl (fun sl t =>
    if decide (e.txMode t.val = 2) && decide (sl.can.tx[t].lastSent ≠ some (e.txPayload pay t)) && decide (sl.can.mode ≠ .off) && decide (sl.can.mode ≠ .monitor) then sl.requestTx e t else sl) sl

/-- CBS_TX_REQUEST (R340): objects of tx_mode 3, ignored in bus monitoring mode. -/
def Slice.canRequest (e : Env) (tcyc : Nat) (pay : Fin 16 → List Byte) (bits : Nat) (sl : Slice) : Slice :=
  if sl.can.mode = .monitor ∨ sl.can.mode = .off then sl
  else
    ((List.finRange 16).foldl (fun sl t => if bits.testBit t.val && decide (e.txMode t.val = 3) then sl.requestTx e t else sl) sl).tryStart e tcyc pay

/-- Whether an object is the frame on the bus. -/
def CanBus.sends (c : CanBus) (t : Fin 16) : Bool :=
  match c.onBus with
  | .object u _ _ => u = t
  | _ => false

/-- Cancel one object's request (R355): removed with result 2, or left to be transmitted when its frame has won arbitration. -/
def Slice.cancelTx (t : Fin 16) (won : Bool) (sl : Slice) : Slice :=
  if sl.can.tx[t].pending.isNone then sl
  else if sl.can.sends t && won then sl.modTx t fun o => { o with tooLate := true }
  else
    let sl := if sl.can.sends t then sl.modCan fun c => { c with onBus := .idle } else sl
    sl.modTx t fun o => { o with pending := none, result := 2, tooLate := false, waited := false }

def Slice.canCancel (bits : Nat) (won : Bool) (sl : Slice) : Slice :=
  (List.finRange 16).foldl (fun sl t => if bits.testBit t.val then sl.cancelTx t won else sl) sl

/-- CAN_FRAME_END: a frame of this slice ends, transmitted, or with arbitration lost to a station that now sends (R338, R340, R353, R355). -/
def Slice.canFrameEnd (e : Env) (tcyc : Nat) (pay : Fin 16 → List Byte) (sent : Bool) (sof : Nat) (sl : Slice) : Slice :=
  match sl.can.onBus with
  | .idle => sl
  | .reference _ =>
    let sl := sl.modCan fun c => { c with onBus := .idle, busy := !sent, refSent := sent,
                                          tec := if sent then c.tec - 1 else c.tec,
                                          refSof := if sent then sof else c.refSof, cntTransmitted := if sent then satInc 65535 c.cntTransmitted else c.cntTransmitted }
    sl.tryStart e tcyc pay
  | .object t d tt =>
    let o := sl.can.tx[t]
    let sl := sl.modCan fun c => { c with onBus := .idle, busy := !sent }
    if sent then
      let wait := match o.pending with | some r => ((sof + e.now - (e.common + r)) % 2 ^ 48) / 1000000 | none => 0
      let aged := o.waited && !tt
      let sl := sl.modTx t fun o =>
        { o with result := if o.tooLate && !tt then 3 else 1, aged := aged, ageMs := if tt then 0 else min 65535 wait, lastSent := some d,
                 pending := if tt then o.pending else none, tooLate := o.tooLate && tt, waited := o.waited && tt }
      let sl := sl.modCan fun c => { c with cntTransmitted := satInc 65535 c.cntTransmitted, tec := c.tec - 1 }
      let sl := if aged && !sl.can.agedRaised then
          (sl.modCan fun c => { c with agedRaised := true, faultCode := 4, faultObject := t.val }).raiseWith (payBytes 4 t.val ++ payBytes 4 wait) e 11 4 0
        else sl
      sl.tryStart e tcyc pay
    else
      if tt then sl.modTx t fun o => { o with result := 5 } else sl

/-! ### Time-triggered operation (R341 to R345) -/

/-- A time-triggered object that cannot start (R345, R353). -/
def Slice.missWindow (e : Env) (t : Fin 16) (sl : Slice) : Slice :=
  ((sl.modTx t fun o => { o with result := 4 }).modCan fun c => { c with cntMisses := satInc 255 c.cntMisses }).busEvent e 7 t.val

/-- COLUMN_START (R344, R345). `idle`: the bus is idle within tx_enable bits of the window's start. -/
def Slice.columnStart (e : Env) (tcyc : Nat) (pay : Fin 16 → List Byte) (j : Nat) (idle : Bool) (sl : Slice) : Slice :=
  if !e.ttEnable || !sl.can.ttRunning || decide (cfgBusColCount e.p e.i ≤ j) then sl
  else
    let sl := (sl.modCan fun c => { c with column := j, busy := !idle && decide (c.onBus = .idle) }).tryStart e tcyc pay
    let c := sl.can
    let cell := (c.bank c.activeBank).cell c.basicCycle j
    let ty := fieldOf cell 5 2
    let t : Fin 16 := ⟨cell % 16, by omega⟩
    if j = 0 ∨ c.mode = .monitor ∨ c.mode = .off then sl
    else if ty = 0 then sl
    else if !cell.testBit 4 ∨ e.txMode t.val ≠ 1 then sl
    else if idle && decide (c.mode = .normal) && !c.ttHeld && decide (c.onBus = .idle) && sl.fits e tcyc (e.objectTime t.val) then
      sl.modCan fun c => { c with onBus := .object t (e.txPayload pay t) true }
    else sl.missWindow e t

/-- Both error counters at 0; the return to error-active raises code 3 (R335, R351, R352). -/
def Slice.clearErrors (e : Env) (sl : Slice) : Slice :=
  let was := sl.can.errState
  let sl := sl.modCan fun c => { c with tec := 0, rec_ := 0, errState := 0 }
  if was = 0 then sl else sl.busEvent e 3 0

/-- BASIC_CYCLE_START (R335, R341, R342, R349): a pending bank switch at the matrix boundary, the enable gained, the reference message. -/
def Slice.basicCycleStart (e : Env) (idle : Bool) (sl : Slice) : Slice :=
  if !e.busEnable || !e.ttEnable || !sl.can.armed || decide (sl.can.mode = .off) then sl
  else
    let n := cfgBusMatrixCycles e.p e.i
    let bc := if sl.can.ttRunning then (if n ≤ sl.can.basicCycle + 1 then 0 else sl.can.basicCycle + 1) else 0
    let sw := match sl.can.switchAt with
      | some t => decide (bc = 0) && decide (t + 50000 ≤ e.now)
      | none => false
    let sl := sl.modCan fun c =>
      { c with ttRunning := true, armed := false, cyclesIn := 0, basicCycle := bc, column := 0, bcAt := e.now,
               activeBank := if sw then !c.activeBank else c.activeBank, switchAt := if sw then none else c.switchAt,
               bankResult := if sw then 1 else c.bankResult, refSent := false, refLate := false,
               busy := !idle && decide (c.onBus = .idle) }
    let sl := if sl.can.gainPending && e.gate && decide (sl.can.mode = .monitor) then
        (sl.modCan fun c => { c with mode := .normal, gainPending := false }).clearErrors e
      else sl
    let sl := if sl.can.mode = .normal then sl.modCan fun c => { c with ttHeld := false } else sl
    if sl.can.canStart then sl.modCan fun c => { c with onBus := .reference (c.referenceBytes !e.holdover), refSent := true } else sl

/-- The reference message of this basic cycle has not started and is not yet flagged late. -/
def CanBus.refWaits (c : CanBus) : Bool := c.referenceOwed && decide (c.mode = .normal) && !c.refLate

/-- REFERENCE_LATE (R343): the reference has not started within tx_enable bits. -/
def Slice.referenceLate (e : Env) (sl : Slice) : Slice :=
  if sl.can.refWaits then
    (sl.modCan fun c => { c with refLate := true }).busEvent e 6 0
  else sl

/-- At a sync point the basic cycle counts on; the next start falls due after bc_len cycles, the first at a Hawser cycle number that is a multiple of bc_len (R341). -/
def Slice.countCycle (e : Env) (hawserCycle : Nat) (sl : Slice) : Slice :=
  if e.busEnable && e.ttEnable && decide (sl.can.mode ≠ .off) then
    sl.modCan fun c =>
      let n := c.cyclesIn + 1
      { c with cyclesIn := n,
               armed := c.armed || (if c.ttRunning then decide (cfgBusBcLen e.p e.i ≤ n)
                 else decide (hawserCycle % max 1 (cfgBusBcLen e.p e.i) = 0)) }
  else sl

/-! ### Matrix banks (R347 to R350) -/

/-- The first cell of a bank that fails R347: basic cycle and column. `tmin` is the shortest T_CYC in ns. -/
def Env.bankFailure (e : Env) (tmin : Nat) (k : Bank) : Option (Nat × Nat) :=
  let nc := cfgBusColCount e.p e.i
  let nb := cfgBusMatrixCycles e.p e.i
  let txe : Rat := (cfgBusTxEnable e.p e.i : Nat) * e.nominalBit
  let len : Nat := cfgBusBcLen e.p e.i * tmin / 1000
  let start (j : Nat) : Nat := k.col j
  let width (j : Nat) : Rat := (((if j + 1 < nc then start (j + 1) else len : Nat) : Rat) - (start j : Rat)) * 1000
  let colBad (j : Nat) : Bool :=
    (decide (0 < j) && decide (start j ≤ start (j - 1))) || (decide (j + 1 = nc) && decide (len ≤ start j))
      || (decide (j = 1) && decide ((start 1 : Rat) * 1000 < frameTime e.nominalBit e.dataBit (e.busFlag 4) false false 8 + txe))
      || (decide (j = 0) && decide (start 0 ≠ 0))
  let cellBad (b j : Nat) : Bool :=
    let c := k.cell b j
    let ty := fieldOf c 5 2
    let t := c % 16
    decide (j = 0 ∧ c ≠ 0) || decide (128 ≤ c) || decide (ty = 3) ||
      (decide (ty = 1) && (!c.testBit 4 || decide (e.txMode t ≠ 1))) ||
      ((decide (ty = 1) || (decide (ty = 2) && c.testBit 4)) && decide (width j < txe + e.objectTime t))
  match (List.range nc).find? colBad with
  | some j => some (0, j)
  | none =>
    ((List.range nb).flatMap fun b => (List.range nc).map fun j => (b, j)).find? fun x => cellBad x.1 x.2

/-- CBS_MATRIX_WRITE (R348): refused on the active bank; on the inactive bank taken, cancelling a pending switch (R349). The flag tells a refusal. -/
def Slice.matrixWrite (v : Nat) (sl : Slice) : Slice × Bool :=
  let c := sl.can
  if c.selectBank = c.activeBank then (sl.modCan fun c => { c with refusedWrites := satInc 4095 c.refusedWrites }, true)
  else
    let k := c.bank c.selectBank
    let k := if c.selectColumn < 32 then { k with cells := tabSet k.cells (c.selectCycle * 32 + c.selectColumn) (v % 65536) }
      else { k with cols := tabSet k.cols (c.selectColumn - 32) (v % 65536) }
    (sl.modCan fun c =>
      let c := if c.selectBank then { c with bank1 := k } else { c with bank0 := k }
      if c.switchAt.isSome then { c with switchAt := none, bankResult := 3 } else c, false)

/-- CBS_BANK_SWITCH (R349). -/
def Slice.bankSwitch (e : Env) (tmin : Nat) (sl : Slice) : Slice :=
  match e.bankFailure tmin (sl.can.bank (!sl.can.activeBank)) with
  | some (b, j) => (sl.modCan fun c => { c with bankResult := 2, failCycle := b, failColumn := j, switchAt := none }).busEvent e 8 0
  | none => sl.modCan fun c => { c with switchAt := some e.now }

/-- CBS_BANK_COPY (R349). -/
def Slice.bankCopy (sl : Slice) : Slice :=
  sl.modCan fun c =>
    let k := c.bank c.activeBank
    let cancelled := c.switchAt.isSome
    let c := if c.activeBank then { c with bank0 := k } else { c with bank1 := k }
    { c with switchAt := none, bankResult := if cancelled then 3 else 4 }

/-- A bank as the configuration gives it (R350). -/
def Env.configBank (e : Env) : Bank where
  cells := (List.range (min 64 (cfgBusMatrixCycles e.p e.i))).flatMap fun b =>
    (List.range 32).filterMap fun j => let v := cfgBusCell e.p e.i j b; if v = 0 then none else some (b * 32 + j, v)
  cols := (List.range 32).filterMap fun j => let v := cfgBusColStart e.p e.i j; if v = 0 then none else some (j, v)

/-! ### Error confinement (R351 to R354) -/

/-- The error state of two counters (R351). -/
def errorState (tec rec_ : Nat) : Nat := if 255 < tec then 2 else if 128 ≤ tec ∨ 128 ≤ rec_ then 1 else 0

/-- Bus-off (R352, R353): pending requests stand and will be sent aged; mode 3, or 4 where management must start the recovery. -/
def Slice.goBusOff (e : Env) (sl : Slice) : Slice :=
  let sl := sl.busEvent e 2 0
  let recent := e.now :: (sl.can.busOffAt.filter fun t => decide (e.now < t + ms 60000))
  let beyond := !e.busFlag 5 && decide (cfgBusBusOffLimit e.p e.i < recent.length)
  let sl := sl.modCan fun c =>
    { c with mode := if e.busFlag 5 || beyond then .waiting else .busOff, onBus := .idle, busOffAt := recent, remaining := 128, recoverAt := e.now,
             busOffTotal := satInc 65535 c.busOffTotal, agedRaised := false, ttHeld := c.ttRunning,
             tx := Vector.ofFn fun t : Fin 16 => { c.tx[t] with waited := c.tx[t].waited || c.tx[t].pending.isSome } }
  if beyond then sl.busEvent e 9 0 else sl

/-- The frame on the bus meets an error: a time-triggered object ends with result 6, an event object retries unless its cancel was too late (R340, R344, R355). -/
def Slice.frameError (sl : Slice) : Slice :=
  match sl.can.onBus with
  | .object t _ tt =>
    let sl := sl.modCan fun c => { c with onBus := .idle }
    if tt then sl.modTx t fun o => { o with result := 6 }
    else sl.modTx t fun o => if o.tooLate then { o with pending := none, result := 2, tooLate := false, waited := false } else { o with result := 6 }
  | .reference _ => sl.modCan fun c => { c with onBus := .idle, refSent := false }
  | .idle => sl

/-- ISO 11898-1 counts a transmitter's error by 8, but for an acknowledgement error of an error-passive node that sees no dominant bit during its error flag (`heavy`: it does), and for a stuff error, which a transmitter meets in arbitration alone (log entry 167). -/
def CanBus.countsError (kind : Nat) (heavy : Bool) (c : CanBus) : Bool := heavy || !(decide (kind % 8 = 1) || (decide (kind % 8 = 3) && decide (c.errState = 1)))

/-- CAN_ERROR (R351): an error of a kind, in the data phase or not, as transmitter or as receiver; `heavy` where ISO 11898-1 counts a receiver's error by 8, or makes no exception for a transmitter's. -/
def Slice.canError (e : Env) (kind : Nat) (dataPhase transmitter heavy : Bool) (sl : Slice) : Slice :=
  if sl.can.mode ≠ .normal then sl.modCan CanBus.nowIdle
  else
    let old := sl.can.errState
    let sl := sl.modCan fun c =>
      { c with lastError := kind % 8, dataPhase := dataPhase, tec := if transmitter && c.countsError kind heavy then c.tec + 8 else c.tec,
               rec_ := if transmitter then c.rec_ else min 255 (c.rec_ + (if heavy then 8 else 1)) }
    let sl := if transmitter then sl.frameError else sl.modCan CanBus.nowIdle
    let new := errorState sl.can.tec sl.can.rec_
    let sl := sl.modCan fun c => { c with errState := new }
    if new = old then sl
    else if new = 2 then sl.goBusOff e
    else if new = 1 then sl.busEvent e 1 0
    else sl.busEvent e 3 0

/-- The error state after a frame that lowered a counter (R351). -/
def Slice.settleErrors (e : Env) (sl : Slice) : Slice :=
  let new := errorState sl.can.tec sl.can.rec_
  if sl.can.mode = .normal ∧ sl.can.errState = 1 ∧ new = 0 then (sl.modCan fun c => { c with errState := 0 }).busEvent e 3 0 else sl

/-- BUS_OFF_RECOVERY_COMPLETE (R352, R353). -/
def Slice.busRecovered (e : Env) (tcyc : Nat) (pay : Fin 16 → List Byte) (sl : Slice) : Slice :=
  if sl.can.mode = .busOff then
    let sl := sl.modCan fun c => { c with mode := if e.gate then .normal else .monitor, remaining := 0, busy := false }
    (sl.clearErrors e).tryStart e tcyc pay
  else sl

/-- The shortest time of `n` sequences of 11 recessive bits, ns (R352). -/
def Env.recessiveTime (e : Env) (n : Nat) : Nat := ((11 * n : Nat) * e.nominalBit).ceil.toNat

/-- The recessive sequences a recovery still needs (R352): never more than before, at least those that the time since its begin leaves; where other stations send, how many were seen is free (log entry 135). -/
def Slice.countRecessive (e : Env) (sl : Slice) : Slice :=
  if sl.can.mode = .busOff then
    sl.modCan fun c =>
      let most := (e.now - c.recoverAt) / max 1 (e.recessiveTime 1)
      { c with remaining := max (max 1 (128 - most)) (c.remaining - Config.freeNat 72 e.draw % 129) }
  else sl

/-- CBS_RECOVERY_START (R352): from mode 4; ignored in the standby. -/
def Slice.recoveryStart (e : Env) (sl : Slice) : Slice :=
  if decide (sl.can.mode = .waiting) && e.active then sl.modCan fun c => { c with mode := .busOff, remaining := 128, recoverAt := e.now } else sl

/-- TRANSCEIVER_FAULT (R354). -/
def Slice.transceiverFault (e : Env) (present : Bool) (sl : Slice) : Slice :=
  let was := sl.can.transceiverFault
  let sl := sl.modCan fun c => { c with transceiverFault := present }
  if present && !was then sl.busEvent e 10 0 else sl

/-! ### The enable (R333 to R335) -/

/-- Loss of the enable: the frame on the bus is cut with result 7, the controller monitors, and its requests are lost; what the mirror held comes back at a gain (R334, R335). -/
def Slice.canEnableLoss (sl : Slice) : Slice :=
  let sl := match sl.can.onBus with
    | .object t _ tt => sl.modTx t fun o => { o with result := 7, pending := if tt then o.pending else none }
    | _ => sl
  sl.modCan fun c =>
    { c with onBus := .idle, gainPending := false, mode := if c.mode = .off then .off else .monitor,
             tx := c.tx.map fun o => { o with pending := none, waited := false, tooLate := false } }

/-- Gain of the enable: normal mode at once without time-triggered operation, else at the next basic cycle start (R335). -/
def Slice.canEnableGain (e : Env) (sl : Slice) : Slice :=
  if sl.can.mode = .monitor then
    if e.ttEnable then sl.modCan fun c => { c with gainPending := true }
    else (sl.modCan fun c => { c with mode := .normal }).clearErrors e
  else sl

/-- A new active runs the configured matrix in bank 0 (R350). -/
def Slice.canConfigured (e : Env) (sl : Slice) : Slice :=
  let k := e.configBank
  sl.modCan fun c => { c with bank0 := k, bank1 := k, activeBank := false, switchAt := none }

/-- The car bus at the configuration handover (R333, R350). -/
def Slice.canHandover (e : Env) (sl : Slice) : Slice :=
  let k := e.configBank
  sl.modCan fun _ => { CanBus.reset with mode := if e.busEnable then .monitor else .off, bank0 := k, bank1 := k }

end Sys2Proof.Machine
end

