-- ==== Sys2Proof/Machine/State.lean ====
section
/-! DEFINITION. The state of the module: everything the spec gives it, and the queue of commands that wait. -/

namespace Sys2Proof.Machine

/-- The whole module. Plain data. -/
structure State where
  /-- Time run since power-on in ns, as an exact clock would count it; every command acts at this instant or at the instant it names. -/
  now : Nat
  /-- The instant of the last sync point of the process image (R21, R40). -/
  lastSync : Nat
  /-- T_CYC code that islands in holdover go by: the one in force when the Hawser island stopped (R41). -/
  heldTcyc : Nat
  /-- The part is an HV9608 (R1 to R3); it never changes. -/
  small : Bool
  /-- Handed-over parameters (R24); empty before a handover. -/
  params : Mem
  slices : Vector Slice 16
  /-- Process image regions (R20): of the slices, Hawser, Splice and the MSS. -/
  sliceRegions : Vector Region 16
  hwsRegion : Region
  splRegion : Region
  mssRegion : Region
  /-- Logline intake queues 16 (data plane) and 17 (MSS) (R476). -/
  dq : IntakeQ
  mq : IntakeQ
  hws : Hawser
  ina : Inaug
  spl : Splice
  twn : Twin
  groups : Vector Group 2
  blyMask : Nat
  loop : LoopCell
  plug : Plug
  cfg : Cfg
  mss : Mss
  log : Logline
  node : NodeEvents
  start : Start
  islands : Vector Island 34
  /-- Clocks of slice engines 0…15 and, 16, of the MSS. -/
  clocks : Vector Clock 17
  /-- Handshake channels marked stalled (R36), each once. -/
  stalled : List Handshake
  /-- Host ports of the slices (R31). -/
  hostPorts : Vector HostPort 16
  /-- The fabric's answer to the last access (R521). -/
  access : Access
  /-- The model's own: number of the next free value (log entry 1). -/
  freeCount : Nat
  /-- Commands waiting, first in first out. -/
  pending : List Instr
deriving DecidableEq, Repr

/-- Faults of the model. -/
inductive Fault where
  /-- Raised by no command: every command of the table has an effect the spec gives. Safe. -/
  | none
deriving DecidableEq, Repr

/-- Refusals of the model. -/
inductive Refusal where
  /-- Raised by `exec` for a command that has no meaning yet, named by its mnemonic. Safe. -/
  | notModelled (mnemonic : String)
deriving DecidableEq, Repr

/-- The module with X1 just applied: every register at its Reset value (R16), all islands in reset (R507). Contents that survive a power-off, and hidden state without a Reset column, are DESIGN CHOICE (log entries 3 and 5). -/
def State.reset : State where
  now := 0
  lastSync := 0
  heldTcyc := 1
  small := false
  params := []
  slices := Vector.replicate 16 Slice.reset
  sliceRegions := Vector.replicate 16 Region.reset
  hwsRegion := Region.reset
  splRegion := Region.reset
  mssRegion := Region.reset
  dq := IntakeQ.reset
  mq := IntakeQ.reset
  hws := Hawser.reset
  ina := Inaug.reset
  spl := Splice.reset
  twn := Twin.reset
  groups := Vector.replicate 2 Group.reset
  blyMask := 0
  loop := LoopCell.reset
  plug := ⟨false, [], []⟩
  cfg := Cfg.reset
  mss := Mss.reset
  log := Logline.reset
  node := NodeEvents.reset
  start := Start.reset
  islands := Vector.replicate 34 Island.reset
  clocks := Vector.replicate 17 Clock.reset
  stalled := []
  hostPorts := Vector.replicate 16 HostPort.reset
  access := Access.reset
  freeCount := 0
  pending := []

end Sys2Proof.Machine
end

