-- ==== Sys2Proof/Machine/Ops.lean ====
section
/-! DEFINITION. Operations on the whole module: the surroundings a slice sees, updating a part, raising a node-level event, the clock, and the power gate. -/

namespace Sys2Proof.Machine

/-! ### Figures of the node -/

/-- Node part of section 0x0020: T_CYC of a schedule mode in ns (R284). -/
def cycleNs (code : Nat) : Nat := if code = 0 then 500000 else if code = 1 then 1000000 else if code = 2 then 2000000 else 4000000

/-- T_CYC in force; 1 ms before a mode is known, as HWS_MODE.t_cyc is at reset. While the Hawser island stands, the other islands go on with the T_CYC they had: R41 has them generate sync points and names no other (DEDUCED, log entry 102). -/
def State.tcycCode (s : State) : Nat :=
  if s.cfg.state = 2 ∨ s.cfg.state = 3 then (if s.islands[32].running then cfgHwsTCyc s.params s.hws.mode else s.heldTcyc) else 1
def State.tcyc (s : State) : Nat := cycleNs s.tcycCode

/-- The Hawser island's common time (R37): its 64-bit word of 1/65536 ns, and in ns. -/
def State.word64 (s : State) : Nat := s.hws.clock.word s.now
def State.common (s : State) : Nat := s.hws.clock.ns s.now

/-- The common time of the MSS island, ns. -/
def State.mssCommon (s : State) : Nat := s.clocks[16].counter.ns s.now

/-- The clock that leads the node's sync point: the Hawser island's, which keeps all others within 10 ns (R39), and while it stands that of the first island that runs (log entry 11). -/
def State.leader (s : State) : Option (Fin 17) :=
  if s.islands[32].running then none
  else match (List.finRange 16).find? fun i => s.islands[i.val].running with
    | some i => some ⟨i.val, by omega⟩
    | none => some 16

/-- The next sync point of the process image, as `now` will count it: the next multiple of T_CYC in the leading counter (R40). One that has passed without the command is taken late. -/
def State.nextSync (s : State) : Nat :=
  match s.leader with
  | none => s.hws.clock.nextMultiple s.tcyc s.lastSync s.now
  | some k => s.clocks[k].counter.nextMultiple s.tcyc s.clocks[k].syncAt s.now

/-- The multiples of T_CYC that the leading counter passes up to its next sync point. -/
def State.leaderPasses (s : State) : Int :=
  match s.leader with
  | none => s.hws.clock.passes s.tcyc s.lastSync s.nextSync
  | some k => s.clocks[k].counter.passes s.tcyc s.clocks[k].syncAt s.nextSync

/-- The multiple of T_CYC that an island's own counter takes for the sync point at an instant (R40). -/
def State.ownMultiple (k : Fin 17) (t : Nat) (s : State) : Int := s.clocks[k].counter.nearest s.tcyc t

/-- The own sync points of an island that fall to the node's sync point at an instant, for which the leading counter has passed `n` multiples (R40): every multiple of its own counter is one, once. An island whose counter stands off by more than half a cycle has none now, or two (log entry 11). -/
def State.ownDue (k : Fin 17) (n : Int) (t : Nat) (s : State) : List Int :=
  let q := periodQ s.tcyc
  let m := s.ownMultiple k t
  match s.clocks[k].lastMultiple with
  | none => [m]
  | some l => if m ≤ l then [] else if (n + 1) * q ≤ m - l then [multipleBelow q (m - 1), m] else [m]

/-- The clock of a slice. -/
def clockOf (i : Fin 16) : Fin 17 := ⟨i.val, by omega⟩

/-- The island in which a waiter works. -/
def waiterIsland (w : Waiter) : Fin 34 :=
  match w with
  | .slice i => ⟨i.val, by omega⟩
  | .hawser | .splice => 32
  | .logline | .mss => 33

/-- A waiter has marked its channel to an island, or to the calendar domain (34), stalled. -/
def State.channelStands (w : Waiter) (k : Fin 35) (s : State) : Bool := s.stalled.contains ⟨w, k⟩

/-- The MSS reaches the calendar domain: its channel to it is not marked stalled (R36). -/
def State.calendarChannel (s : State) : Bool := !s.channelStands .mss 34

/-- The node is configured (R442). -/
def State.configured (s : State) : Bool := decide (s.cfg.state = 2) || decide (s.cfg.state = 3)

/-- Slices of the part (R1). -/
def State.sliceCount (s : State) : Nat := if s.small then 8 else 16

def State.engineUp (s : State) (i : Fin 16) : Bool := decide (i.val < s.sliceCount) && s.islands[i.val].running
def State.powerUp (s : State) (i : Fin 16) : Bool := decide (i.val < s.sliceCount) && s.islands[16 + i.val].running
def State.hawserUp (s : State) : Bool := s.islands[32].running
def State.mssUp (s : State) : Bool := s.islands[33].running

/-- A slice engine runs with its parameters, and has resumed after any reset (R223). -/
def State.sliceRuns (s : State) (i : Fin 16) : Bool := s.configured && s.engineUp i && !s.slices[i].waitsResume
/-- The Hawser island runs with its parameters. -/
def State.hawserRuns (s : State) : Bool := s.configured && s.hawserUp

def State.twinPresent (s : State) : Bool := (cfgTwnTwinFlags s.params).testBit 0
def State.roleS (s : State) : Bool := decide (cfgRoleTwinRole s.params = 1)

/-- The hardware gate of R395. -/
def State.gate (s : State) : Bool := s.twn.auth.readback && !s.twn.auth.inp

/-- The module has the Hitch: hold is commanded, or its AUTH logic has asserted on its own (R407, R411, R412). -/
def State.drives (s : State) : Bool := s.twn.hitch || (decide (s.twn.layer = 3) && s.twn.auth.out)

/-- Its slices drive: its AUTH logic asserts and the power gate is open (R395, R409, R411). -/
def State.active (s : State) : Bool := s.gate && s.twn.auth.out

/-- Parameters as one slice's own; empty while the node has none (R443). -/
def State.slice (s : State) (i : Fin 16) : Slice := s.slices[i]

/-- A little-endian word of a visible region. -/
def Region.word (r : Region) (off : Nat) : Nat := memGetLe ramDefault r.visible off 4

/-- The surroundings of slice `i` at an instant. Of the Splice region the age alone counts: in a holdover with a region still fresh the Hawser commands hold (R53, log entry 125). -/
def State.envAt (t : Nat) (s : State) (i : Fin 16) : Env where
  now := t
  common := s.clocks[i.val].counter.ns t
  cyc := s.slices[i].cycleT
  tcyc := s.tcyc
  p := s.params
  i := i.val
  active := s.active
  gate := s.gate
  tracks := !s.drives && s.twinPresent && !s.twn.foreign
  cmd := if 1 ≤ s.splRegion.age then 0 else s.splRegion.word 0
  aux := if 1 ≤ s.splRegion.age then 0 else s.splRegion.word (0x40 + 4 * i.val)
  stale := decide (1 ≤ s.splRegion.age)
  orient := s.ina.orientation
  holdover := s.clocks[i.val].holdover
  twinDrives := s.twn.auth.inp
  draw := s.freeCount

/-- The surroundings of slice `i` now (log entry 125 for a holdover with a fresh region). -/
def State.env (s : State) (i : Fin 16) : Env := s.envAt s.now i

/-! ### Updating a part -/

def State.modSlice (i : Fin 16) (f : Slice → Slice) (s : State) : State := { s with slices := s.slices.set i (f s.slices[i]) }
def State.modHws (f : Hawser → Hawser) (s : State) : State := { s with hws := f s.hws }
def State.modIna (f : Inaug → Inaug) (s : State) : State := { s with ina := f s.ina }
def State.modSpl (f : Splice → Splice) (s : State) : State := { s with spl := f s.spl }
def State.modTwn (f : Twin → Twin) (s : State) : State := { s with twn := f s.twn }
def State.modAuth (f : Auth → Auth) (s : State) : State := s.modTwn fun t => { t with auth := f t.auth }
def State.modGroup (g : Fin 2) (f : Group → Group) (s : State) : State := { s with groups := s.groups.set g (f s.groups[g]) }
def State.modLoop (f : LoopCell → LoopCell) (s : State) : State := { s with loop := f s.loop }
def State.modCfg (f : Cfg → Cfg) (s : State) : State := { s with cfg := f s.cfg }
def State.modMss (f : Mss → Mss) (s : State) : State := { s with mss := f s.mss }
def State.modLog (f : Logline → Logline) (s : State) : State := { s with log := f s.log }
def State.modNode (f : NodeEvents → NodeEvents) (s : State) : State := { s with node := f s.node }
def State.modStart (f : Start → Start) (s : State) : State := { s with start := f s.start }
def State.modIsland (k : Fin 34) (f : Island → Island) (s : State) : State := { s with islands := s.islands.set k (f s.islands[k]) }
def State.modClock (k : Fin 17) (f : Clock → Clock) (s : State) : State := { s with clocks := s.clocks.set k (f s.clocks[k]) }
def State.modPort (i : Fin 4) (f : HPort → HPort) (s : State) : State := s.modHws fun h => { h with ports := h.ports.set i (f h.ports[i]) }
def State.modRelay (c : Fin 2) (f : Relay → Relay) (s : State) : State := s.modHws fun h => { h with relays := h.relays.set c (f h.relays[c]) }

/-- The slices in order, as far as the part has them. -/
def State.eachSlice (f : Fin 16 → State → State) (s : State) : State :=
  (List.finRange 16).foldl (fun s i => if i.val < s.sliceCount then f i s else s) s

/-- A slice comes to its own sync point, the multiple `m` of its time counter, with the cycles since its last one counted (R40, R52). -/
def State.openCycle (i : Fin 16) (m : Int) (gap : Nat) (s : State) : State :=
  s.modSlice i fun sl => { sl with cycleT := sl.cycleT + gap, evalAt := some m }

/-- The cycles of a slice from its last evaluation to an own sync point. -/
def State.cyclesSince (i : Fin 16) (m : Int) (s : State) : Nat :=
  let q := periodQ s.tcyc
  match s.slices[i].evalAt with
  | some l => ((m - l + q - 1) / q).toNat
  | none => 1

/-- Run a slice function in the slice's surroundings, if its engine runs with parameters. -/
def State.onSlice (i : Fin 16) (f : Env → Slice → Slice) (s : State) : State :=
  if s.sliceRuns i then s.modSlice i (f (s.env i)) else s

/-- The same for what a power island does, which needs no parameters of the engine. -/
def State.onPower (i : Fin 16) (f : Env → Slice → Slice) (s : State) : State :=
  if s.powerUp i then s.modSlice i (f (s.env i)) else s

/-- The clock moves to an instant that a timer names, never back. -/
def State.advance (t : Nat) (s : State) : State := { s with now := max s.now t }

/-- Count a command, so that the free values of the next are fresh. -/
def State.draw (s : State) : State := { s with freeCount := s.freeCount + 1 }

/-! ### Node-level events (R525 to R527) -/

/-- The mask bit of event `n` ≥ 192. -/
def State.nodeMasked (n : Nat) (s : State) : Bool :=
  if n < 208 then s.hws.eventMask.testBit (n - 192)
  else if n < 216 then s.ina.eventMask.testBit (n - 208)
  else if n < 224 then s.twn.eventMask.testBit (n - 216)
  else if n < 232 then s.spl.eventMask.testBit (n - 224)
  else if n < 238 then s.blyMask.testBit (n - 232)
  else if n < 240 then s.node.mask.testBit (n - 238)
  else if n < 248 then s.log.eventMask.testBit (n - 240)
  else if n < 252 then s.mss.eventMask.testBit (n - 248)
  else s.cfg.eventMask.testBit (n - 252)

/-- Raise event `n` ≥ 192: E192…E239 through the data-plane queue, E240…E255 through the MSS queue (R476). -/
def State.raise (n code detail : Nat) (s : State) : State :=
  if n < 240 then { s with dq := s.dq.raise s.common n code detail (s.nodeMasked n) }
  else { s with mq := s.mq.raise s.mssCommon n code detail (s.nodeMasked n) }

/-- Raise E(192+e) and set HWS_FAULT. -/
def State.hwsEvent (e port channel position : Nat) (s : State) : State :=
  (s.modHws fun h => { h with faultEvent := e, faultPort := port, faultChannel := channel, faultPosition := position }).raise
    (192 + e) (Config.eventCode (192 + e)) (Config.eventDetail (192 + e) port channel position)

/-- Raise E(208+e), set HWS_INAUG_FAULT and count retries, cuts and refusals. -/
def State.inaEvent (e code position : Nat) (s : State) : State :=
  (s.modIna fun x => { x with
    faultEvent := e, faultCode := code, faultPosition := position,
    cntRetries := if e = 7 then satInc 255 x.cntRetries else x.cntRetries,
    cntCuts := if e = 4 then satInc 255 x.cntCuts else x.cntCuts,
    cntRefusals := if e = 5 then satInc 255 x.cntRefusals else x.cntRefusals }).raise (208 + e) code (Config.eventDetail (208 + e) 0 0 position)

/-- Raise E(216+e) with a code; the detail is 0 (R425). -/
def State.twnEvent (e code : Nat) (s : State) : State :=
  (s.modTwn fun t => { t with
    faultEvent := e, faultCode := code,
    lastCode := if e = 0 then code else t.lastCode,
    cntLinkLosses := if e = 2 ∧ code = 1 then satInc 255 t.cntLinkLosses else t.cntLinkLosses,
    cntCollisions := if e = 5 ∧ code = 2 then satInc 255 t.cntCollisions else t.cntCollisions,
    cntDisagreements := if e = 6 ∧ code = 2 then satInc 255 t.cntDisagreements else t.cntDisagreements }).raise (216 + e) code 0

/-- Raise E(224+e) and set SPL_FAULT; E224, E226 and E227 also set SPL_FAULT_ADDR. -/
def State.splEvent (e position entry address : Nat) (s : State) : State :=
  (s.modSpl fun x => { x with
    faultEvent := e, faultPosition := position,
    faultEntry := if e = 5 then entry else x.faultEntry,
    faultAddr := if e = 0 ∨ e = 2 ∨ e = 3 then address else x.faultAddr }).raise
    (224 + e) (Config.eventCode (224 + e)) (Config.eventDetail (224 + e) 0 entry position)

/-- Raise E(232+e) of a group with the code and detail of R560, and set BLY_FAULT. -/
def State.blyEvent (g : Fin 2) (e code item : Nat) (s : State) : State :=
  (s.modGroup g fun x => { x with
    faultEvent := e + 1,
    faultInput := if e = 2 then (if code = 2 ∨ code = 4 then 1 else 0) else x.faultInput,
    faultIndex := if e = 0 ∨ e = 3 then item else x.faultIndex,
    cntBites := if e = 0 then satInc 15 x.cntBites else x.cntBites,
    cntWarnings := if e = 1 then satInc 15 x.cntWarnings else x.cntWarnings,
    cntMisses := if e = 3 then satInc 255 x.cntMisses else x.cntMisses }).raise (232 + e) code (g.val + 1 + item * 4)

/-- Raise E(240+e) and set LOG_FAULT. -/
def State.logEvent (e code detail : Nat) (s : State) : State :=
  (s.modLog fun l => { l with faultEvent := e, faultCode := code, faultDetail := detail }).raise (240 + e) code detail

/-- Raise E(248+e) and set MSS_FAULT. -/
def State.mssEvent (e code detail : Nat) (s : State) : State :=
  (s.modMss fun m => { m with
    faultEvent := e, faultCode := code, faultDetail := detail,
    cntResets := if e = 0 then satInc 255 m.cntResets else m.cntResets,
    cntRefusals := if e = 3 ∧ (code = 7 ∨ code = 8) then satInc 255 m.cntRefusals else m.cntRefusals,
    cntImpacts := if e = 1 ∧ code = 4 then satInc 255 m.cntImpacts else m.cntImpacts }).raise (248 + e) code detail

/-- Raise E(252+e) and set CFG_FAULT; the detail of these events is not stated. -/
def State.cfgEvent (e code : Nat) (s : State) : State :=
  (s.modCfg fun c => { c with faultEvent := e, faultCode := code, cntPlug := if e = 3 ∧ code ≠ 5 then satInc 255 c.cntPlug else c.cntPlug }).raise
    (252 + e) code (Config.eventDetail (252 + e) 0 code 0)

/-! ### The power gate (R395) -/

/-- The slices, car buses and excitations follow a change of the power gate (R138, R187, R199, R333 to R335). -/
def State.settleGate (s : State) : State :=
  let g := s.gate
  if g = s.twn.gate then s
  else
    let s := s.modTwn fun t => { t with gate := g, gateAt := if g then s.now else t.gateAt }
    s.eachSlice fun i s => s.modSlice i fun sl =>
      let e := s.env i
      if g then forAxes (fun a sl => sl.latchMode e a) ((sl.gateOn e).canEnableGain e) else (sl.gateOff e).canEnableLoss


end Sys2Proof.Machine
end

