-- ==== Sys2Proof/Machine/Frames.lean ====
section
/-! DEFINITION. Frames as octets (R8, R258, R259, R261, R290, R305, R307, R370, R372, R383, R397): what stands on a wire of a frame that the node has sent. -/

namespace Sys2Proof.Machine

/-! ### Octets -/

/-- The octets of a number, most significant first (R8). -/
def beBytes (n v : Nat) : List Byte := (leBytes n v).reverse

/-- Zeros up to a length. -/
def padTo (n : Nat) (b : List Byte) : List Byte := b ++ List.replicate (n - b.length) 0

/-- CRC-32 of IEEE 802.3, as the FCS holds it. -/
def fcsBit (c : Nat) : Nat := if c % 2 = 1 then (c / 2) ^^^ 0xEDB88320 else c / 2
def fcsByte (c : Nat) (b : Byte) : Nat := (List.range 8).foldl (fun c _ => fcsBit c) (c ^^^ b.toNat)
def fcs (b : List Byte) : List Byte := leBytes 4 ((b.foldl fcsByte 0xFFFFFFFF) ^^^ 0xFFFFFFFF)

/-- The Internet checksum over an even number of octets. -/
def inetSum : List Byte → Nat
  | a :: b :: t => a.toNat * 256 + b.toNat + inetSum t
  | [a] => a.toNat * 256
  | [] => 0
def inetChecksum (b : List Byte) : Nat :=
  let s := inetSum b
  let s := s % 65536 + s / 65536
  let s := s % 65536 + s / 65536
  65535 - s

/-! ### Addresses (R258, R291, R305) -/

/-- The channels of a node that have an address (R305). -/
inductive MacChannel where
  | hawserA | hawserB | twin | service
deriving DecidableEq, Repr

def MacChannel.code : MacChannel → Nat
  | .hawserA => 0x0A | .hawserB => 0x0B | .twin => 0x0E | .service => 0x0C

/-- 02-48-56-cc-00-pp: the locally administered address of a channel at a position, 0 before numbering and in a passive node (R46, R305). -/
def macAddress (c : MacChannel) (pp : Nat) : List Byte := [0x02, 0x48, 0x56] ++ leBytes 1 c.code ++ [0x00] ++ leBytes 1 pp

/-- The own addresses; a new one takes force with the position, at the switch sync point (R305). -/
def State.mac (c : MacChannel) (s : State) : List Byte := macAddress c (if s.ina.st = .passive then 0 else s.hws.position)

/-- The group address of scheduled frames, and that of link-local ones, which no ring forwards (R258, R291). -/
def groupAddress : List Byte := [0x03, 0x48, 0x56, 0x00, 0x00, 0x01]
def linkLocalAddress : List Byte := [0x03, 0x48, 0x56, 0x00, 0x00, 0x02]

def hawserChannel (c : Nat) : MacChannel := if c % 2 = 0 then .hawserA else .hawserB

/-! ### Payloads -/

/-- The header type of a body (R259, R290, R396, R495); 0 for what travels without a Hawser header. -/
def frameType : Body → Nat
  | .beacon _ => 1 | .static _ _ => 2 | .poll _ => 3 | .response _ => 4 | .container => 5 | .splice _ => 5 | .linkMeasure => 6
  | .coldStart _ _ => 8 | .count _ _ _ => 9 | .report _ _ => 10 | .directory _ => 11 | .cancel _ => 12 | .reset _ _ => 12 | .hello _ => 13
  | .request _ => 14 | .grant _ _ _ => 15 | .heartbeat _ => 16 | .mirror => 17 | .slow => 18 | .relayed _ => 19 | .journalMirror _ => 20 | .packet _ => 0

/-- The Hawser header, 16 octets (R259). -/
def headerBytes (ty : Nat) (h : HwsHeader) : List Byte :=
  leBytes 1 ty ++ leBytes 1 h.flags ++ leBytes 1 h.sender ++ leBytes 1 h.mode ++ leBytes 4 h.cycle ++ leBytes 2 h.dataLen ++ leBytes 2 h.eventLen ++ leBytes 4 h.health

/-- The beacon payload, 64 octets (R261). -/
def beaconBytes (b : Beacon) : List Byte :=
  leBytes 1 b.master ++ leBytes 1 (b2n b.taiValid + 2 * b2n b.switchPending) ++ leBytes 1 b.pendingMode ++ leBytes 1 b.n ++ leBytes 4 b.switchCycle ++
  leBytes 8 b.txTime ++ leBytes 8 b.correction ++ leBytes 6 b.taiSeconds ++ leBytes 2 (ofInt16 b.utcOffset) ++ leBytes 4 b.taiNs ++ leBytes 4 b.ringTime ++
  leBytes 4 b.generation ++ leBytes 4 0 ++ padTo 8 (b.digest.take 8) ++ leBytes 8 0

/-- The authority record, 8 octets (R402). -/
def authBytes (a : AuthRec) : List Byte :=
  let f := b2n a.driving + 2 * b2n a.healthy + 4 * b2n a.resign + 8 * b2n a.synchronised + 16 * b2n a.takeback + 32 * b2n a.linkUp + 64 * b2n a.present + 128 * b2n a.roleS
  let v := a.verdict % 4 + 4 * b2n a.foreign + 8 * b2n a.startupHitch
  leBytes 1 f ++ leBytes 1 v ++ leBytes 1 (a.nomLow % 4) ++ leBytes 1 (a.nomHigh % 4) ++ leBytes 1 a.failsLow ++ leBytes 1 a.failsHigh ++ leBytes 2 a.handovers

/-- An event message, 8 octets (R383). -/
def eventBytes (m : EventMsg) : List Byte := leBytes 1 m.number ++ leBytes 1 m.code ++ leBytes 2 m.detail ++ leBytes 4 m.at_

/-- A listed entry of a poll frame (R266): laid out as its entry of section 0x0020 (R285), with the entry's number in the place of the channel (DESIGN CHOICE, log entry 116). -/
def pollBytes (x : PollSlot) : List Byte := leBytes 1 x.position ++ leBytes 1 x.entry ++ leBytes 2 x.request ++ leBytes 4 x.selector

/-- A report, 28 octets (R290). -/
def reportBytes (r : Report) : List Byte :=
  leBytes 1 r.hop ++ leBytes 1 (b2n r.aftFacing) ++ leBytes 1 (b2n r.end_ + 2 * b2n r.cabActive + 4 * b2n r.roleS + 8 * b2n r.coldStart + 16 * b2n r.twinRunning) ++ leBytes 1 0 ++
  padTo 10 (r.car.take 10) ++ leBytes 2 0 ++ padTo 8 (r.digest.take 8) ++ leBytes 4 r.version

/-- A directory entry, 8 octets (R307). -/
def dirEntryBytes (e : DirEntry) : List Byte :=
  leBytes 1 e.car ++ leBytes 1 e.unit ++ leBytes 1 e.consist ++
  leBytes 1 (b2n e.orientation + 2 * b2n e.unitReversed + 4 * b2n e.reserved + 8 * b2n e.roleS + 16 * b2n e.coldStart + 32 * b2n e.cabActive + 64 * b2n e.end_) ++
  leBytes 1 e.hop ++ leBytes 1 e.side ++ leBytes 1 e.oldPosition ++ leBytes 1 (b2n e.joining)

/-- The directory frame (R307). -/
def directoryBytes (d : Directory) : List Byte :=
  leBytes 4 d.generation ++ leBytes 8 d.nonce ++ leBytes 4 d.switchCycle ++ leBytes 1 d.entries.length ++ leBytes 1 d.leader ++
  leBytes 1 (b2n d.renumberingFree + 2 * b2n d.countBased) ++ leBytes 1 d.mode ++ leBytes 8 (d.timeOffset % 18446744073709551616).toNat ++ leBytes 16 d.bits ++
  d.entries.flatMap dirEntryBytes

/-- A splice frame (R370). -/
def spliceBytes (f : SpliceFrame) : List Byte :=
  leBytes 1 f.version ++ leBytes 1 f.op ++ leBytes 2 f.tag ++ leBytes 1 f.target ++ leBytes 1 f.initiator ++ leBytes 1 (b2n f.exclusive + 2 * b2n f.relayed) ++ leBytes 1 f.status ++
  leBytes 4 f.address ++ leBytes 2 f.length ++ leBytes 1 f.buffer ++ leBytes 1 0 ++ f.data

/-- The heartbeat payload, 32 octets (R397). -/
def heartbeatBytes (h : Heartbeat) : List Byte :=
  authBytes h.auth ++ leBytes 4 h.health ++ leBytes 4 h.version ++ padTo 8 (h.digest.take 8) ++ leBytes 1 h.inaugState ++ leBytes 1 h.twinState ++ leBytes 1 h.loopCell ++ leBytes 5 0

/-- A request: code, channel and one report (R290). -/
def requestBytes (r : InaRequest) : List Byte := leBytes 1 r.code ++ leBytes 1 r.channel ++ leBytes 2 0 ++ reportBytes r.report

/-- What a body puts into the payload; of the mirror and its slow part the spec gives contents and sizes and no octets (R398, log entry 116). -/
def bodyBytes : Body → List Byte
  | .beacon b => beaconBytes b
  | .static data events => data ++ events.flatMap eventBytes
  | .poll l => leBytes 8 l.length ++ l.flatMap pollBytes
  | .response data => data
  | .container | .linkMeasure | .mirror | .slow | .packet _ => []
  | .splice f => spliceBytes f
  | .coldStart nonce digest => leBytes 8 nonce ++ padTo 8 (digest.take 8)
  | .count nonce generation hop => leBytes 8 nonce ++ leBytes 4 generation ++ leBytes 1 hop
  | .report rs _ => leBytes 4 (rs.length % 256) ++ rs.flatMap reportBytes
  | .directory d => directoryBytes d
  | .cancel generation => leBytes 4 generation ++ leBytes 4 1 ++ leBytes 4 0
  | .reset generation resetCycle => leBytes 4 generation ++ leBytes 4 2 ++ leBytes 4 resetCycle
  | .hello h => leBytes 1 h.state ++ leBytes 1 (b2n h.aft + 2 * b2n h.coupler) ++ leBytes 2 h.position ++ leBytes 8 h.nonce ++ leBytes 4 h.generation ++ leBytes 8 h.time
  | .request r => requestBytes r
  | .grant position channel switchCycle => leBytes 1 position ++ leBytes 1 channel ++ leBytes 2 0 ++ leBytes 4 switchCycle
  | .heartbeat h => heartbeatBytes h
  | .relayed r => requestBytes r
  | .journalMirror rs => rs.flatMap id

/-- The payload of a scheduled frame is as long as its slot says, of any other as its body needs; 30 octets at the least (R258, R262, R267). -/
def State.payloadLen (c : Nat) (b : Body) (s : State) : Nat :=
  let m := s.hws.mode
  max 30 (match b with
    | .static _ _ => if c = 0 then cfgHwsStaticLenA s.params m else cfgHwsStaticLenB s.params m
    | .poll _ => 8 + 8 * (if c = 0 then cfgHwsPollSlotsA s.params m else cfgHwsPollSlotsB s.params m)
    | .response _ => if c = 0 then cfgHwsPollRespLenA s.params m else cfgHwsPollRespLenB s.params m
    | .container => if c = 0 then cfgHwsContainerLenA s.params m else cfgHwsContainerLenB s.params m
    | b => (bodyBytes b).length)

/-- A frame of R258 in octets: addresses, EtherType, header, payload, FCS. -/
def ethernet (dest source : List Byte) (etherType : Nat) (content : List Byte) : List Byte :=
  let b := dest ++ source ++ beBytes 2 etherType ++ content
  b ++ fcs b

/-! ### The service port (R372) -/

/-- An IPv4 packet. Identification, the do-not-fragment bit and the time to live are left open by R372: free values of the draw. -/
def ipPacket (draw source dest protocol : Nat) (content : List Byte) : List Byte :=
  let head (sum : Nat) : List Byte :=
    leBytes 2 0x45 ++ beBytes 2 (20 + content.length) ++ beBytes 2 (Config.freeNat 68 draw) ++ beBytes 2 (Config.freeNat 69 draw % 2 * 0x4000) ++ leBytes 1 (Config.freeNat 70 draw) ++
    leBytes 1 protocol ++ beBytes 2 sum ++ leBytes 4 source ++ leBytes 4 dest
  head (inetChecksum (head 0)) ++ content

/-- The UDP checksum over the pseudo header, the header without it and the content. -/
def udpChecksum (source dest sport dport : Nat) (content : List Byte) : Nat :=
  let len := 8 + content.length
  let sum := inetChecksum (leBytes 4 source ++ leBytes 4 dest ++ leBytes 1 0 ++ leBytes 1 17 ++ beBytes 2 len ++ (beBytes 2 sport ++ beBytes 2 dport ++ beBytes 2 len ++ beBytes 2 0) ++ content)
  if sum = 0 then 65535 else sum

/-- A UDP datagram, its checksum always sent (R372). -/
def udpDatagram (source dest sport dport : Nat) (content : List Byte) : List Byte :=
  beBytes 2 sport ++ beBytes 2 dport ++ beBytes 2 (8 + content.length) ++ beBytes 2 (udpChecksum source dest sport dport content) ++ content

/-- The port's address and its UDP port (R372), the defaults while the node has no parameters. -/
def State.ipAddress (s : State) : Nat := if s.configured then cfgSplIpAddress s.params else 0x1060FEA9
def State.udpPort (s : State) : Nat := if s.configured then cfgSplUdpPort s.params else 51417

/-- What a reply holds for a tool at an address: an ARP reply, an ICMP echo reply, or a splice frame in a datagram. -/
def State.serviceFrame (address port : Nat) (b : Body) (s : State) : List Byte :=
  let to_ := Config.macOf address
  let own := s.mac .service
  match b with
  | .packet (.arp _ _) => ethernet to_ own 0x0806 (padTo 46 (beBytes 2 1 ++ beBytes 2 0x0800 ++ leBytes 1 6 ++ leBytes 1 4 ++ beBytes 2 2 ++ own ++ leBytes 4 s.ipAddress ++ to_ ++ leBytes 4 address))
  | .packet (.icmpEcho _ _ _ data) =>
    ethernet to_ own 0x0800 (padTo 46 (ipPacket s.freeCount s.ipAddress address 1 (leBytes 2 0 ++ beBytes 2 (inetChecksum (leBytes 4 0 ++ data)) ++ data)))
  | b => ethernet to_ own 0x0800 (padTo 46 (ipPacket s.freeCount s.ipAddress address 17 (udpDatagram s.ipAddress address s.udpPort port (bodyBytes b))))

/-- The EtherType of Hawser and twin-link frames; a module without parameters sends 0x88B6 (R258, R283, R396). -/
def State.etherType (s : State) : Nat := if s.configured then cfgHwsEthertype s.params else 0x88B6

/-- The octets of a frame that the node sends now. A frame on the twin link goes to the link partner alone (DESIGN CHOICE, log entry 116); one passed on keeps the address of its sender. -/
def State.octets (x : Sent) (s : State) : List Byte :=
  let content (c : Nat) : List Byte := headerBytes (frameType x.body) x.header ++ padTo (s.payloadLen c x.body) (bodyBytes x.body)
  match x.way with
  | .ring c _ _ =>
    let k := hawserChannel c
    ethernet (if x.dest = 0 then groupAddress else macAddress k x.dest) (macAddress k x.header.sender) s.etherType (content c)
  | .port i => ethernet linkLocalAddress (s.mac (hawserChannel (i / 2))) s.etherType (content (i / 2))
  | .twin => ethernet linkLocalAddress (s.mac .twin) s.etherType (content 0)
  | .service a p => s.serviceFrame a p x.body

/-- Put a frame on the wire. -/
def State.send (w : Sent) (s : State) : State := s.modHws fun h => { h with wire := h.wire ++ [w], octets := h.octets ++ [s.octets w] }

end Sys2Proof.Machine
end

