-- ==== Sys2Proof/Machine/Mapping.lean ====
section
/-! DEFINITION. The process image (R19 to R23) and its mapping entries (R360 to R368). -/

namespace Sys2Proof.Machine

/-! ### Reading the visible image -/

/-- The regions of the process image (R20). -/
inductive RegionId where
  | slice (i : Fin 16) | hawser | splice | mss | reserved
deriving DecidableEq, Repr

/-- The region and the offset in it of a PIM offset; slices the part does not have are reserved (R20). -/
def State.regionOf (off : Nat) (s : State) : RegionId × Nat :=
  if h : off < 0x20000 then
    let i : Fin 16 := ⟨off / 0x2000, by omega⟩
    (if i.val < s.sliceCount then .slice i else .reserved, off % 0x2000)
  else if off < 0x30000 then (.hawser, off - 0x20000)
  else if off < 0x38000 then (.splice, off - 0x30000)
  else if off < 0x3C000 then (.mss, off - 0x38000)
  else (.reserved, off - 0x3C000)

def State.region (r : RegionId) (s : State) : Region :=
  match r with
  | .slice i => s.sliceRegions[i]
  | .hawser => s.hwsRegion
  | .splice => s.splRegion
  | .mss => s.mssRegion
  | .reserved => ⟨[], [], false, 0, false⟩

def State.modRegion (r : RegionId) (f : Region → Region) (s : State) : State :=
  match r with
  | .slice i => { s with sliceRegions := s.sliceRegions.set i (f s.sliceRegions[i]) }
  | .hawser => { s with hwsRegion := f s.hwsRegion }
  | .splice => { s with splRegion := f s.splRegion }
  | .mss => { s with mssRegion := f s.mssRegion }
  | .reserved => s

/-- One visible byte of the image; the reserved region reads 0 (R20). -/
def State.pimByte (off : Nat) (s : State) : Byte :=
  let (r, k) := s.regionOf off
  memGet ramDefault (s.region r).visible k

def State.pimBytes (off n : Nat) (s : State) : List Byte := (List.range n).map fun k => s.pimByte (off + k)

/-- A region at a sync point (R21, R23): a completed shadow becomes visible, else the age increments. -/
def Region.atSync (r : Region) : Region :=
  if r.completed then { r with visible := r.shadow, completed := false, age := 0 } else { r with age := satInc 255 r.age }

/-- Write bytes into the shadow copy. -/
def Region.write (off : Nat) (b : List Byte) (r : Region) : Region := { r with shadow := memSetBytes ramDefault r.shadow off b }

/-! ### Mapping entries (R361) -/

structure MapEntry where
  kind : Nat
  flags : Nat
  ref : Nat
  limit : Nat
  width : Nat
  srcBit : Nat
  dstBit : Nat
  src : Nat
  dst : Nat
deriving DecidableEq, Repr

def MapEntry.swap (m : MapEntry) : Bool := m.flags.testBit 0
def MapEntry.staleZero (m : MapEntry) : Bool := m.flags.testBit 1
def MapEntry.copyAge (m : MapEntry) : Bool := m.flags.testBit 2
def MapEntry.channel (m : MapEntry) : Fin 2 := if m.flags.testBit 3 then 1 else 0
def MapEntry.sourceBy (m : MapEntry) : Nat := fieldOf m.flags 4 2
def MapEntry.roleS (m : MapEntry) : Bool := m.flags.testBit 6

/-- The entry at a byte offset of a section. -/
def mapEntry (p : Mem) (ty off : Nat) : MapEntry :=
  ⟨u8 p ty off, u8 p ty (off + 1), u8 p ty (off + 2), u8 p ty (off + 3), u16 p ty (off + 4), u8 p ty (off + 6), u8 p ty (off + 7), u32 p ty (off + 8), u32 p ty (off + 12)⟩

/-- The node's entries with their numbers, in entry order, then those of the slices (R366, R389). -/
def State.entries (s : State) : List (Nat × MapEntry) :=
  (List.range (cfgSplEntryCount s.params)).map (fun i => (i, mapEntry s.params 0x21 (64 + 16 * i))) ++
  (List.range s.sliceCount).flatMap fun k => (List.range (cfgSmapEntryCount s.params k)).map fun i =>
    (2048 + k * 512 + i, mapEntry s.params 0x31 (k * 8208 + 16 + 16 * i))

/-- Bytes a bit field touches. -/
def spanBytes (bit width : Nat) : Nat := (bit + width + 7) / 8

/-- The field of an entry in its source bytes, bits least significant first; swapped bytes are taken in reverse (R362). -/
def MapEntry.read (m : MapEntry) (b : List Byte) : Nat :=
  leNat (if m.swap then b.reverse else b) / 2 ^ m.srcBit % 2 ^ m.width

/-- Put the field into destination bytes; bits outside it are unchanged (R362). -/
def putField (old bit width v : Nat) : Nat := old % 2 ^ bit + (v % 2 ^ width) * 2 ^ bit + old / 2 ^ (bit + width) * 2 ^ (bit + width)

/-- Write the field of an entry into a memory. -/
def MapEntry.store (m : MapEntry) (v : Nat) (d : Mem) : Mem :=
  let n := spanBytes m.dstBit m.width
  memSetLe ramDefault d m.dst n (putField (memGetLe ramDefault d m.dst n) m.dstBit m.width v)

/-! ### Ages and staleness (R364, R365) -/

def Hawser.slot (c : Fin 2) (p : Fin 128) (h : Hawser) : Slot := if c = 0 then h.slotsA[p] else h.slotsB[p]
def Hawser.setSlot (c : Fin 2) (p : Fin 128) (x : Slot) (h : Hawser) : Hawser :=
  if c = 0 then { h with slotsA := h.slotsA.set p x } else { h with slotsB := h.slotsB.set p x }

/-- The authority record of an entry's sender names it the holder of the Hitch: it drives. -/
def NodeRx.holds (x : NodeRx) : Bool := x.auth.driving

/-- The position a kind 1 entry reads (R363), resolved at each use (log entry 130); none where no node matches, as where the position named holds none. -/
def State.entrySource (m : MapEntry) (s : State) : Option (Fin 128) :=
  let find (q : Fin 128 → DirEntry → Bool) : Option (Fin 128) :=
    (List.finRange 128).find? fun i => match s.ina.dir[i.val]? with
      | some d => q i d
      | none => false
  if m.sourceBy = 0 then find fun i d => decide (i.val + 1 = m.ref) && !d.reserved
  else if m.sourceBy = 1 then find fun _ d => decide (d.car = m.ref) && (d.roleS == m.roleS) && !d.reserved
  else find fun i d => d.cabActive && (s.hws.rx[i]).holds

/-- Age of an entry's source; a source no node matches counts as missing, age 255 (R363, R364). -/
def State.sourceAge (m : MapEntry) (s : State) : Nat :=
  if m.kind = 1 then
    match s.entrySource m with
    | some p => (s.hws.slot m.channel p).age
    | none => 255
  else
    let (r, k) := s.regionOf m.src
    let base := (s.region r).age
    match r with
    | .hawser =>
      if k < 0x800 then base
      else
        let n := tabGet s.spl.wrote k
        if n = 0 then base
        else
          let w := mapEntry s.params 0x21 (64 + 16 * (n - 1))
          max base (match s.entrySource w with
            | some p => (s.hws.slot w.channel p).age
            | none => 255)
    | .slice i =>
      if h : 0x1000 ≤ k ∧ k < 0x1A00 then max base (s.slices[i].can.rx[(⟨(k - 0x1000) / 0x50, by omega⟩ : Fin 32)]).age else base
    | _ => base

/-- A sorted list of entry numbers without repeats. -/
def insertNum (n : Nat) : List Nat → List Nat
  | [] => [n]
  | k :: t => if n < k then n :: k :: t else if n = k then k :: t else k :: insertNum n t

/-- Staleness of an entry against its source age: E229 once when the age reaches the limit, again only after fresh data (R365). -/
def State.noteStale (num : Nat) (m : MapEntry) (age : Nat) (s : State) : State :=
  if m.limit ≠ 0 ∧ m.limit ≤ age then
    if num ∈ s.spl.stale then s
    else
      let pos := if m.kind = 1 then (match s.entrySource m with | some p => p.val + 1 | none => 0) else 0
      (s.modSpl fun x => { x with stale := insertNum num x.stale }).splEvent 5 pos num 0
  else if age = 0 then s.modSpl fun x => { x with stale := x.stale.filter (fun k => decide (k ≠ num)) }
  else s

/-- What an entry writes: its source's age, 0 while stale with stale_zero, or the field (R365). -/
def MapEntry.value (m : MapEntry) (age : Nat) (b : List Byte) : Nat :=
  if m.copyAge then min age 255
  else if m.staleZero && decide (m.limit ≠ 0) && decide (m.limit ≤ age) then 0
  else m.read b

/-! ### The three kinds -/

/-- Entry `n` is the last that wrote the bytes of its field in the Hawser region (R364). -/
def MapEntry.noteWrote (n : Nat) (m : MapEntry) (w : List (Nat × Nat)) : List (Nat × Nat) :=
  (List.range (spanBytes m.dstBit m.width)).foldl (fun w k => tabSet w (m.dst + k) (n + 1)) w

/-- What an entry takes from a data section: the field, or 0 or the age in its place (R362, R365). -/
def MapEntry.take (m : MapEntry) (age : Nat) (data : List Byte) : Nat := m.value age ((data.drop m.src).take (spanBytes m.srcBit m.width))

/-- A kind 1 entry that reads a fresh frame of position `p` on channel `c` writes the Hawser region's shadow (R361 to R364). -/
def State.receiveEntries (p : Fin 128) (c : Fin 2) (data : List Byte) (s : State) : State :=
  s.entries.foldl (fun s x =>
    let m := x.2
    if decide (m.kind = 1) && decide (m.channel = c) && decide (s.entrySource m = some p) then
      let s := s.noteStale x.1 m 0
      let v := m.take 0 data
      let s := { s with hwsRegion := { s.hwsRegion with shadow := m.store v s.hwsRegion.shadow } }
      s.modSpl fun y => { y with wrote := m.noteWrote x.1 y.wrote }
    else s) s

/-- The kind 1 entries of position `p` on channel `c` write the data its node has sent last, at a place that is now theirs (R310). -/
def State.placeEntries (p : Fin 128) (c : Fin 2) (s : State) : State :=
  let data := (s.hws.data[c])[p]
  if data = [] then s
  else s.entries.foldl (fun s x =>
    let m := x.2
    if decide (m.kind = 1) && decide (m.channel = c) && decide (s.entrySource m = some p) then
      { s with hwsRegion := { s.hwsRegion with shadow := m.store (m.take (s.sourceAge m) data) s.hwsRegion.shadow } }.modSpl fun y => { y with wrote := m.noteWrote x.1 y.wrote }
    else s) s

/-- Kind 1 entries without fresh data in the cycle: their staleness, and age or 0 in place of the data (R365). -/
def State.staleEntries (s : State) : State :=
  s.entries.foldl (fun s x =>
    let m := x.2
    if m.kind = 1 then
      let age := s.sourceAge m
      if age = 0 then s
      else
        let s := s.noteStale x.1 m age
        if m.copyAge || (m.staleZero && decide (m.limit ≠ 0) && decide (m.limit ≤ age)) then
          { s with hwsRegion := { s.hwsRegion with shadow := m.store (m.value age []) s.hwsRegion.shadow } }.modSpl fun y => { y with wrote := m.noteWrote x.1 y.wrote }
        else s
    else s) s

/-- MAPPING_PASS (R366): all kind 3 entries in order, then completion of the Splice region. -/
def State.mappingPass (s : State) : State :=
  let s := s.entries.foldl (fun s x =>
    let m := x.2
    if m.kind = 3 then
      let age := s.sourceAge m
      let s := s.noteStale x.1 m age
      let v := m.value age (s.pimBytes m.src (spanBytes m.srcBit m.width))
      { s with splRegion := { s.splRegion with shadow := m.store v s.splRegion.shadow } }
    else s) s
  let s := { s with splRegion := { s.splRegion with completed := true } }
  s.modSpl fun x =>
    let d := Config.freeNat 40 s.freeCount % 15001
    { x with passDone := true, mapLast := d, mapMax := max x.mapMax d }

/-- FRAME_ASSEMBLY (R367): kind 2 entries of `ref` and channel fill `n` bytes over `head`; true when some source has age ≥ 1. -/
def State.assemble (c : Fin 2) (ref n : Nat) (head : List Byte) (s : State) : State × List Byte × Bool :=
  let start : State × Mem × Bool := (s, memSetBytes ramDefault [] 0 head, false)
  let r := s.entries.foldl (fun (acc : State × Mem × Bool) x =>
    let m := x.2
    if decide (m.kind = 2) && decide (m.channel = c) && decide (m.ref = ref) then
      let s := acc.1
      let age := s.sourceAge m
      let s := s.noteStale x.1 m age
      let v := m.value age (s.pimBytes m.src (spanBytes m.srcBit m.width))
      (s, m.store v acc.2.1, acc.2.2 || decide (1 ≤ age))
    else acc) start
  (r.1, memGetBytes ramDefault r.2.1 0 n, r.2.2)

/-- Car bus transmit payloads as the visible Splice region holds them (R360). -/
def State.payloads (i : Fin 16) (s : State) : Fin 16 → List Byte :=
  fun t => memGetBytes ramDefault s.splRegion.visible (0x4000 + i.val * 0x400 + t.val * 0x40) 64

end Sys2Proof.Machine
end

