-- ==== Sys2Proof/Machine/Hawser.lean ====
section
/-! DEFINITION. The Hawser cycle (file 08): schedule, guardians, insertion and reception, clock, schedule modes, and what a sync point does to them. Cycle-internal instants are counted by `now`. -/

namespace Sys2Proof.Machine

/-! ### Ring and ports (R255, R256, R262, R301) -/

def portChannel (i : Fin 4) : Fin 2 := if i.val < 2 then 0 else 1
/-- The port of a channel at an end: false fore, true aft. -/
def portAt (c : Fin 2) (aft : Bool) : Fin 4 := if c = 0 then (if aft then 1 else 0) else (if aft then 3 else 2)
def portAft (i : Fin 4) : Bool := decide (i.val % 2 = 1)

/-- Ring index of position `p` with the master at `m` (R262). -/
def ringIndex (m n p : Nat) : Nat := if m ≤ p then p - m else n - p

def State.ownIndex (s : State) : Nat := ringIndex s.hws.master s.hws.n s.hws.position
def State.isMaster (s : State) : Bool := decide (s.hws.position ≠ 0) && decide (s.hws.position = s.hws.master)
def State.quiet (s : State) : Bool := decide (s.ina.phase = .quiet)

/-- The outbound lane leaves by this port: aft with orientation 0, fore with 1 (R301). -/
def State.egress (c : Fin 2) (s : State) : Fin 4 := portAt c (s.ina.orientation != some true)

/-- The receive port where the master's beacon first reaches this node (R256, R262). -/
def State.firstPort (c : Fin 2) (s : State) : Fin 4 :=
  let out := s.egress c
  if s.hws.master ≤ s.hws.position then portAt c (!portAft out) else out

/-- Place of a receive port in ring order: frames of ring index at or above it have passed the whole ring since the beacon reached the port (R279). At the port by which the master's own beacon returns none has: they come with it. -/
def State.portPlace (i : Fin 4) (s : State) : Nat :=
  let p := s.hws.position
  let m := s.hws.master
  let n := s.hws.n
  if i = s.egress (portChannel i) then (if m ≤ p then n - m + 1 else n - p) else (if m < p then p - m else n)

def State.entryAt (p : Nat) (s : State) : Option DirEntry := if p = 0 then none else s.ina.dir[p - 1]?
/-- A position a node holds: in the directory and not reserved. -/
def State.present (p : Nat) (s : State) : Bool := match s.entryAt p with | some d => !d.reserved | none => false

/-- The twin's position: the other present node of the own car. -/
def State.twinPosition (s : State) : Option Nat :=
  match s.entryAt s.hws.position with
  | some d => (List.range' 1 s.ina.dir.length).find? fun p => decide (p ≠ s.hws.position) && s.present p && (match s.entryAt p with | some x => decide (x.car = d.car) | none => false)
  | none => none

/-- The nearest present positions below and above the own one, the twin included or not (R405, R497). -/
def State.nearBelow (skip : Option Nat) (s : State) : Option Nat :=
  ((List.range' 1 (s.hws.position - 1)).reverse).find? fun p => s.present p && decide (some p ≠ skip)
def State.nearAbove (skip : Option Nat) (s : State) : Option Nat :=
  (List.range' (s.hws.position + 1) (s.ina.dir.length - s.hws.position)).find? fun p => s.present p && decide (some p ≠ skip)

def pos128 (p : Nat) : Fin 128 := if h : 1 ≤ p ∧ p ≤ 128 then ⟨p - 1, by omega⟩ else 0

/-! ### The schedule (R258, R262, R284) -/

/-- Slot time of a frame with a payload of `len` bytes, and the guard (R258). -/
def slotNs (len : Nat) : Nat := (len + 54) * 8
def guardNs : Nat := 400
def leadNs : Nat := 2000

/-- The parts of a mode on one channel. -/
structure ChanMode where
  static : Nat
  slots : Nat
  respLen : Nat
  containers : Nat
  contLen : Nat
deriving DecidableEq, Repr

def chanMode (p : Mem) (m : Nat) (c : Fin 2) : ChanMode :=
  if c = 0 then ⟨cfgHwsStaticLenA p m, cfgHwsPollSlotsA p m, cfgHwsPollRespLenA p m, cfgHwsContainersA p m, cfgHwsContainerLenA p m⟩
  else ⟨cfgHwsStaticLenB p m, cfgHwsPollSlotsB p m, cfgHwsPollRespLenB p m, cfgHwsContainersB p m, cfgHwsContainerLenB p m⟩

/-- Offsets at the master of the parts of R262, with N nodes and a ring time. -/
def staticAt (x : ChanMode) (k : Nat) : Nat := slotNs 64 + guardNs + k * (slotNs x.static + guardNs)
def staticEnd (x : ChanMode) (n : Nat) : Nat := if x.static = 0 then slotNs 64 + guardNs else staticAt x n
def pollAt (x : ChanMode) (n ring : Nat) : Nat :=
  staticEnd x n + if x.static ≠ 0 ∧ (x.slots ≠ 0 ∨ x.containers ≠ 0) then ring + 400 else 0
def pollLen (x : ChanMode) : Nat := slotNs (8 + 8 * x.slots)
def respAt (x : ChanMode) (n ring j : Nat) : Nat := pollAt x n ring + pollLen x + guardNs + j * (slotNs x.respLen + guardNs)
def contAt (x : ChanMode) (n ring j : Nat) : Nat :=
  (if x.slots = 0 then pollAt x n ring else respAt x n ring x.slots + if x.containers ≠ 0 then ring + 400 else 0) + j * (slotNs x.contLen + guardNs)
/-- E, the end of the train. -/
def trainEnd (x : ChanMode) (n ring : Nat) : Nat := contAt x n ring x.containers

def State.chanMode (c : Fin 2) (s : State) : ChanMode := Machine.chanMode s.params s.hws.mode c
def State.ring (c : Fin 2) (s : State) : Nat := s.hws.ringTime[c]

/-- A scheduled window (R262): what it is for, its owner (none: the master or a filler), offset and slot time. -/
structure Window where
  what : Slotted
  owner : Option Nat
  offset : Nat
  len : Nat
deriving DecidableEq, Repr

/-- The windows of the present cycle on a channel; a quiet cycle has the beacon alone (R310). -/
def State.windows (c : Fin 2) (s : State) : List Window :=
  let x := s.chanMode c
  let n := s.hws.n
  let r := s.ring c
  let m := s.hws.master
  let beacon : Window := ⟨.beacon, some m, 0, slotNs 64⟩
  if s.quiet then [beacon]
  else
    let statics := if x.static = 0 then [] else
      (List.range' 1 n).map fun p => (⟨.static, some p, staticAt x (ringIndex m n p), slotNs x.static⟩ : Window)
    let poll := if x.slots = 0 then [] else [(⟨.poll, some m, pollAt x n r, pollLen x⟩ : Window)]
    let resp := if x.slots = 0 then [] else
      (s.hws.listedNow[c]).zipIdx.map fun y => (⟨.response y.2, some y.1.position, respAt x n r y.2, slotNs x.respLen⟩ : Window)
    let conts := (List.range x.containers).map fun j => (⟨.container j, none, contAt x n r j, slotNs x.contLen⟩ : Window)
    beacon :: (statics ++ poll ++ resp ++ conts)

/-! ### Health word and authority record (R260, R402) -/

/-- R496: recorder_code while the last-word store is valid. -/
def Logline.code (l : Logline) : Nat :=
  match l.lastWord with
  | some b => leNat ((b.drop 2).take 2)
  | none => 0

/-- The static slots of a channel that R260 and R271 look at: every present position but the own one. -/
def State.others (s : State) : List Nat := (List.range' 1 s.hws.n).filter fun p => decide (p ≠ s.hws.position) && s.present p

def State.rxIncomplete (c : Fin 2) (s : State) : Bool :=
  decide ((s.chanMode c).static ≠ 0) && s.others.any fun p => (s.hws.slot c (pos128 p)).missing

/-- The own health word (R260). -/
def State.healthWord (s : State) : Nat :=
  let h := s.hws
  b2n (!s.mssUp) + 2 * b2n (s.log.ledgerFailed && s.log.journalFailed) + 4 * b2n (!s.twn.link) + 8 * b2n h.holdover +
  16 * b2n h.ports[0].lost + 32 * b2n h.ports[1].lost + 64 * b2n h.ports[2].lost + 128 * b2n h.ports[3].lost +
  256 * b2n (s.rxIncomplete 0) + 512 * b2n (s.rxIncomplete 1) + 1024 * b2n (decide (s.cfg.state = 3)) + 65536 * (s.log.code % 65536)

def authOfBytes (b : List Byte) : AuthRec :=
  let n := leNat (b.take 8)
  ⟨n.testBit 0, n.testBit 1, n.testBit 2, n.testBit 3, n.testBit 4, n.testBit 5, n.testBit 6, n.testBit 7,
   fieldOf n 8 2, n.testBit 10, n.testBit 11, fieldOf n 16 2, fieldOf n 24 2, fieldOf n 32 8, fieldOf n 40 8, fieldOf n 48 16⟩

/-- The own authority record (R402). -/
def State.authRec (s : State) : AuthRec where
  driving := s.gate
  healthy := s.twn.healthy
  resign := s.twn.resign
  synchronised := s.twn.synchronised || s.twn.foreign
  takeback := s.twn.takeback
  linkUp := s.twn.link
  present := s.twinPresent
  roleS := s.roleS
  verdict := min 3 s.twn.verdict
  foreign := s.twn.foreign
  startupHitch := s.twn.startupHitch
  nomLow := s.twn.low.holder
  nomHigh := s.twn.high.holder
  failsLow := min 255 s.twn.low.fails
  failsHigh := min 255 s.twn.high.fails
  handovers := s.twn.handovers % 65536

/-- The barrier word (R322). -/
def State.barrierWord (s : State) : Nat := s.ina.barrierId % 256 + 256 * b2n s.ina.barrierArrive

/-! ### Sending -/

/-- The header of a frame this node sends (R259). -/
def State.header (c : Fin 2) (empty repeated : Bool) (dataLen eventLen : Nat) (s : State) : HwsHeader :=
  ⟨b2n empty + 2 * b2n repeated + 4 * c.val, s.hws.position, s.hws.mode, s.hws.cycle, dataLen, eventLen, s.healthWord, 0⟩

/-- The port by which what arrives at a port goes on: the channel's other one, or the same where that is folded and turns the traffic back (R255). -/
def State.passPort (i : Fin 4) (s : State) : Fin 4 :=
  let other := portAt (portChannel i) (!portAft i)
  if (s.hws.ports[other]).folded then i else other

/-- The port by which the own frames leave: on the lane where the master's beacon first reaches the node (R256). -/
def State.outPort (c : Fin 2) (s : State) : Fin 4 := s.passPort (s.firstPort c)

/-- What arrives at a port comes to the own insertion point: the port where the beacon first arrives, or the other one while that is folded and turns the traffic onto the node's lane (R255, R256). -/
def State.atInsertion (i : Fin 4) (s : State) : Bool :=
  decide (i = s.firstPort (portChannel i)) || (s.hws.ports[s.firstPort (portChannel i)]).folded

/-- Put a frame on the ring of a channel; HWS_HEALTH shows the health word it carries. -/
def State.sendRing (c : Fin 2) (dest : Nat) (empty repeated : Bool) (dataLen eventLen : Nat) (body : Body) (s : State) : State :=
  (s.send ⟨.ring c.val (s.outPort c).val .own, dest, { s.header c empty repeated dataLen eventLen with dest := dest }, body⟩).modHws fun h => { h with health := s.healthWord }

/-- The channel whose containers carry asynchronous frames: B where the mode in force gives B containers (R373). -/
def State.asyncChannel (s : State) : Fin 2 := if (s.chanMode 1).containers = 0 ∧ (s.chanMode 0).containers ≠ 0 then 0 else 1

/-- Queue an asynchronous frame, to a position or 0 for all, for the containers of a channel that has them; B carries it where the mode gives B containers (R267). -/
def State.queueAsync (dest : Nat) (body : Body) (s : State) : State :=
  let c := s.asyncChannel
  s.modHws fun h => { h with async := h.async.set c (h.async[c] ++ [⟨body, dest, h.cycle, false, s.common % 2 ^ 32⟩]) }

/-- Another mode in force: what waits goes by the channel it names (R373). -/
def State.moveAsync (s : State) : State :=
  s.modHws fun h => { h with async := (Vector.replicate 2 []).set s.asyncChannel (h.async[0] ++ h.async[1]) }

/-- Send a frame link-local out of a port that has its link up (R291). -/
def State.sendPort (i : Fin 4) (body : Body) (s : State) : State :=
  if (s.hws.ports[i]).linkUp then s.send ⟨.port i.val, 0, (s.header (portChannel i) false false 0 0), body⟩ else s

/-- Length of a section's value, kept with the parameters at handover. -/
def secLen (p : Mem) (ty : Nat) : Nat := u32 p ty 0xFFFF0

/-- mode_digest: the first 8 bytes of the SHA-512 of the value of section 0x0020 (R261). -/
def State.modeDigest (s : State) : List Byte := (Config.sha512 (memGetBytes ramDefault s.params (cfgKey 0x20 0) (secLen s.params 0x20))).take 8

/-! ### Calendar (R464, R465) -/

/-- Calendar time at an instant, in ns since 2000-01-01 TAI. -/
def Calendar.nsAt (t : Nat) (c : Calendar) : Nat := c.tai * 1000000000 + c.ns + (t - c.at_)

def Calendar.setNs (t ns : Nat) (c : Calendar) : Calendar := { c with tai := ns / 1000000000 % 2 ^ 48, ns := ns % 1000000000, at_ := t }

/-- CALENDAR_FOLLOW (R465): a step when the difference is above 1 ms or the time invalid, else a slew of at most 200 ppm. -/
def State.calendarFollow (b : Beacon) (s : State) : State :=
  if b.taiValid && s.calendarChannel then
    let target := b.taiSeconds * 1000000000 + b.taiNs + (s.now - s.lastSync)
    let own := s.mss.cal.nsAt s.now
    let diff : Int := (target : Int) - own
    if s.mss.cal.invalid || decide (1000000 < diff.natAbs) then
      (s.modMss fun m => { m with cal := { (m.cal.setNs s.now target) with utc := b.utcOffset, invalid := false }, stepped := true }).mssEvent 2 2 0
    else
      let room : Int := ((s.now - s.mss.cal.at_) / 5000 : Nat)
      s.modMss fun m => { m with cal := { (m.cal.setNs s.now ((own : Int) + clampInt (-room) room diff).toNat) with utc := b.utcOffset } }
  else s

/-! ### Schedule modes (R268 to R271) -/

/-- Announce a mode from the beacon of cycle `a` on (R269): the earliest switch_cycle ≥ a + 4 whose sync point is a multiple of both cycle times. -/
def State.announce (a m : Nat) (s : State) : State :=
  let told := s.tcyc
  let tnew := cycleNs (cfgHwsTCyc s.params m)
  let base := (s.hws.clock.nearest told s.lastSync % counterSpan / 65536).toNat
  let at_ (w : Nat) : Nat := base + (w - s.hws.cycle) * told
  let sw := ((List.range 9).map fun i => a + 4 + i).find? fun w => decide (at_ w % told = 0) && decide (at_ w % tnew = 0)
  (s.modHws fun h => { h with pendingMode := m, switchPending := true, switchCycle := sw.getD (a + 4) }).hwsEvent 5 0 0 0

/-- An inauguration is in progress (R324). -/
def State.inaugurating (s : State) : Bool := decide (s.ina.phase ≠ .none) || s.ina.pendingDir.isSome || s.ina.collect.isSome

/-- The first cycle whose beacons can all carry an announcement: the present one until a beacon of it has left (R269). -/
def State.announceFrom (s : State) : Nat :=
  let sent := s.hws.wire.any fun x => match x.way, x.body with | .ring _ _ .own, .beacon _ => true | _, _ => false
  if sent then s.hws.cycle + 1 else s.hws.cycle

def State.fallbackOf (c : Fin 2) (s : State) : Nat := if c = 0 then cfgHwsFallbackA s.params s.hws.mode else cfgHwsFallbackB s.params s.hws.mode

/-- Announce the fallback of a degraded channel in the mode in force, or keep the channel for after a pending switch or an inauguration (R271, R324, log entry 156). -/
def State.fallBack (c : Fin 2) (s : State) : State :=
  if s.hws.switchPending || s.inaugurating then s.modHws fun h => { h with fallbackDue := h.fallbackDue.set c true }
  else if s.fallbackOf c = 0xFF then s
  else (s.modHws fun h => { h with leftMode := some (h.leftMode.getD h.mode) }).announce s.announceFrom (s.fallbackOf c)

/-- The degradation of a channel that waited is announced (R271, R282). -/
def State.dueChannel (c : Fin 2) (s : State) : State :=
  if s.hws.fallbackDue[c] && !s.hws.switchPending && !s.inaugurating then (s.modHws fun h => { h with fallbackDue := h.fallbackDue.set c false }).fallBack c else s

/-- The degradations that waited for a switch, channel A's first (R271, R282). -/
def State.dueFallback (s : State) : State := (s.dueChannel 0).dueChannel 1

/-- A slot has brought no valid frame. -/
def Slot.isBad (x : Slot) : Bool := decide (x.got = .nothing) || decide (x.got = .invalid)

/-- The port_lost bits of a channel in a health word (R260). -/
def lostBits (c : Fin 2) (w : Nat) : Bool := if c = 0 then w.testBit 4 || w.testBit 5 else w.testBit 6 || w.testBit 7

/-- A grant lets a relay of a node open now: within 400 ms a link change at a port next to that node counts neither as lost port nor as cut, nor for R271 (R319). -/
def State.grantOpen (c : Fin 2) (s : State) : Option Nat :=
  match s.ina.grant with
  | some g => if decide (g.channel = c.val) && (match g.at_ with | some t => decide (s.now ≤ t + 400000000) | none => false) then some g.position else none
  | none => none

/-- The first position on the higher side of the node that a grant names: with a grant for A no node stands at that position yet, and one that will give way to it is the neighbour (R318). -/
def State.aboveGrant (c : Fin 2) (g : Nat) (s : State) : Nat := if c = 0 ∧ s.present g = true then g else g + 1

/-- A port stands next to the node that the running grant on its channel names (R319). -/
def State.facesGrant (i : Fin 4) (s : State) : Bool :=
  let c := portChannel i
  match s.grantOpen c with
  | some g =>
    let below := ((List.range' 1 (g - 1)).reverse).find? fun q => s.present q
    let from_ := s.aboveGrant c g
    let above := (List.range' from_ (s.ina.dir.length + 1 - from_)).find? fun q => s.present q
    if i = s.egress c then decide (below = some s.hws.position) else decide (above = some s.hws.position)
  | none => false

/-- The node that the running grant names stands between this one and a position, or at it: the ring is cut there while its links change (R319). -/
def State.beyondGrant (c : Fin 2) (p : Nat) (s : State) : Bool :=
  match s.grantOpen c with
  | some g => if s.hws.position < g then decide (g ≤ p) else decide (p < s.aboveGrant c g)
  | none => false

/-- What R271 looks for on a channel has shown in the present cycle, as far as it has come. While the links next to a node that a grant names change, they give no input: what stands beyond them is not missed (R319, log entry 157). -/
def State.channelFault (c : Fin 2) (s : State) : Bool :=
  let x := s.chanMode c
  !s.hws.beaconNow[c] ||
  (decide (x.static ≠ 0) && !s.quiet && s.others.any fun p => !s.beyondGrant c p && (s.hws.slot c (pos128 p)).isBad) ||
  (s.hws.listedNow[c]).any (fun e => s.present e.position && decide (e.position ≠ s.hws.position) && !s.beyondGrant c e.position && (if h : e.entry < 256 then s.hws.polls[e.entry].isBad else false)) ||
  s.others.any (fun p => lostBits c (s.hws.rx[pos128 p]).health) || lostBits c s.healthWord

/-- Every scheduled frame of the present cycle is back at its sender: what has not come by now is missing (R262, R264, R271). -/
def State.scheduleOver (c : Fin 2) (s : State) : Bool :=
  let x := s.chanMode c
  let e := if s.quiet then slotNs 64 else if x.slots = 0 then staticEnd x s.hws.n - guardNs else respAt x s.hws.n (s.ring c) x.slots - guardNs
  decide (s.lastSync + leadNs + e + s.ring c ≤ s.now)

/-- Consecutive cycles in which a channel was bad, with the present one once it shows (R271). -/
def State.badCycles (c : Fin 2) (s : State) : Nat := s.hws.faultRun[c] + b2n (s.scheduleOver c && s.channelFault c)

/-- A channel has been bad for 3 cycles and is not yet declared degraded (R271). -/
def State.degrading (s : State) : Bool := (List.finRange 2).any fun c => decide (3 ≤ s.hws.faultRun[c]) && !s.hws.degraded[c]

/-- HWS_MODE_REQUEST.go taken at a sync point (R270); refused where a channel's degradation is to be declared at the same sync point (R282). -/
def State.takeModeRequest (s : State) : State :=
  if s.hws.requestGo then
    let s := s.modHws fun h => { h with requestGo := false }
    let m := s.hws.modeRequest
    if s.isMaster && decide (m < cfgHwsModeCount s.params) && !s.hws.switchPending && !s.inaugurating && !s.degrading then s.announce s.announceFrom m
    else s.modHws fun h => { h with cntRefused := satInc 255 h.cntRefused }
  else s

/-- MODE_SWITCH (R269). -/
def State.modeSwitch (s : State) : State :=
  if s.hawserRuns && s.hws.switchPending && decide (s.hws.switchCycle ≤ s.hws.cycle) then
    ((s.modHws fun h => { h with mode := h.pendingMode, switchPending := false, pollCursor := Vector.replicate 2 0 }).moveAsync.hwsEvent 6 0 0 0).dueFallback
  else s

/-- CHANNEL_DEGRADED (R271). -/
def State.channelDegraded (c : Fin 2) (s : State) : State :=
  if s.hawserRuns && s.isMaster && decide (3 ≤ s.badCycles c) && !s.hws.degraded[c] then
    ((s.modHws fun h => { h with degraded := h.degraded.set c true, clearRun := 0 }).hwsEvent 7 0 c.val 0).fallBack c
  else s

/-- AUTO_RETURN (R271). -/
def State.autoReturn (s : State) : State :=
  match s.hws.leftMode with
  | some m =>
    if s.hawserRuns && s.isMaster && (cfgHwsHwsFlags s.params).testBit 0 && decide (cfgHwsAutoReturnCycles s.params ≤ s.hws.clearRun) && !s.hws.switchPending && !s.inaugurating then
      (s.modHws fun h => { h with leftMode := none, degraded := Vector.replicate 2 false }).announce s.announceFrom m
    else s
  | none => s

/-! ### Inserting frames (R256, R263, R266, R267) -/

/-- The instant of an offset at the own insertion point (R263); the master's d is 0. -/
def State.insertAt (c : Fin 2) (y : Nat) (s : State) : Nat := s.lastSync + leadNs + (if s.isMaster then 0 else s.hws.d[c] / 65536) + y

/-- Poll entries of the mode on a channel, in table order, with their numbers (R266, R285). -/
def State.pollTable (c : Fin 2) (s : State) : List PollSlot :=
  ((List.range' (cfgHwsPollFirst s.params s.hws.mode) (cfgHwsPollCount s.params s.hws.mode)).filter fun e => decide (cfgHwsChannel s.params e = c.val)).map
    fun e => ⟨cfgHwsPosition s.params e, e, cfgHwsRequest s.params e, cfgHwsSelector s.params e⟩

/-- Insert a poll slot into a list ordered by ring index. -/
def insertByIndex (f : Nat → Nat) (x : PollSlot) : List PollSlot → List PollSlot
  | [] => [x]
  | y :: t => if f x.position < f y.position then x :: y :: t else y :: insertByIndex f x t

/-- The entries of the next poll frame (R266). -/
def State.nextPoll (c : Fin 2) (s : State) : List PollSlot :=
  let tab := s.pollTable c
  let n := (s.chanMode c).slots
  if tab.length = 0 then []
  else
    let take := (List.range n).filterMap fun j => tab[(s.hws.pollCursor[c] + j) % tab.length]?
    take.foldl (fun l x => insertByIndex (ringIndex s.hws.master s.hws.n) x l) []

def State.eventSlots (c : Fin 2) (s : State) : Nat := if c = 0 then cfgSplEventSlotsA s.params else cfgSplEventSlotsB s.params

/-- The node inserts on a channel: numbered, in the schedule of it, not passive. -/
def State.inserts (c : Fin 2) (s : State) : Bool := s.hawserRuns && decide (s.hws.position ≠ 0) && s.hws.inSchedule[c] && decide (s.ina.st ≠ .passive)

/-- The beacon the master sends (R261). -/
def State.beacon (c : Fin 2) (s : State) : Beacon where
  master := s.hws.position
  taiValid := !s.mss.cal.invalid
  switchPending := s.hws.switchPending
  pendingMode := if s.hws.switchPending then s.hws.pendingMode else s.hws.mode
  n := s.hws.n
  switchCycle := s.hws.switchCycle
  txTime := s.word64
  correction := 0
  taiSeconds := s.mss.cal.nsAt s.lastSync / 1000000000
  utcOffset := s.mss.cal.utc
  taiNs := s.mss.cal.nsAt s.lastSync % 1000000000
  ringTime := if s.quiet then 0 else s.ring c
  generation := s.ina.generation
  digest := s.modeDigest
  nonce := s.ina.nonce

/-- FRAME_INSERTION (R263). -/
def State.insertFrame (c : Fin 2) (what : Slotted) (s : State) : State :=
  let x := s.chanMode c
  let n := s.hws.n
  let r := s.ring c
  if !s.inserts c then s
  else match what with
    | .beacon =>
      if s.isMaster then
        let s := s.advance (s.insertAt c 0)
        s.sendRing c 0 false false 64 0 (.beacon (s.beacon c))
      else s
    | .static =>
      if x.static = 0 ∨ s.quiet = true then s
      else
        let s := s.advance (s.insertAt c (staticAt x s.ownIndex))
        let len := x.static - 8 * s.eventSlots c
        let (s, data, rep) := s.assemble c 0 len (authBytes s.authRec ++ leBytes 4 s.barrierWord)
        let evs := (s.spl.events.take s.spl.eventsReady).take (s.eventSlots c)
        (s.sendRing c 0 false rep len (8 * evs.length) (.static data evs)).modHws fun h => { h with sentNow := h.sentNow.set c true }
    | .poll =>
      if x.slots = 0 ∨ s.quiet = true ∨ s.isMaster = false then s
      else
        let s := s.advance (s.insertAt c (pollAt x n r))
        let l := s.nextPoll c
        (s.sendRing c 0 false false (8 + 8 * l.length) 0 (.poll l)).modHws fun h =>
          { h with listedNext := h.listedNext.set c l, pollCursor := h.pollCursor.set c (if (s.pollTable c).length = 0 then 0 else (h.pollCursor[c] + x.slots) % (s.pollTable c).length) }
    | .response j =>
      match (s.hws.listedNow[c])[j]? with
      | some e =>
        if decide (e.position = s.hws.position) && decide (x.slots ≠ 0) && !s.quiet then
          let s := s.advance (s.insertAt c (respAt x n r j))
          let (s, data, rep) := s.assemble c (e.request % 256) x.respLen []
          s.sendRing c 0 false rep x.respLen 0 (.response data)
        else s
      | none => s
    | .container j =>
      if decide (j < x.containers) && !s.quiet && s.isMaster then
        let s := s.advance (s.insertAt c (contAt x n r j))
        s.sendRing c 0 true false 0 0 .container
      else s

/-- A frame is a request of this node as initiator (R373, R382). -/
def AsyncFrame.request (f : AsyncFrame) : Bool :=
  match f.body with
  | .splice x => decide (x.op = 1) || decide (x.op = 2)
  | _ => false

/-- A frame is a posted write (R375). -/
def AsyncFrame.write (f : AsyncFrame) : Bool :=
  match f.body with
  | .splice x => decide (x.op = 1)
  | _ => false

/-- One instant lies behind another, both as common time in ns, bits [31:0]. -/
def behind (a b : Nat) : Bool := decide ((a + 2 ^ 32 - b) % 2 ^ 32 < 2 ^ 31) && decide (a ≠ b)

/-- The node's static frames carry event messages on some channel (R383). -/
def State.eventsRide (s : State) : Bool :=
  (List.finRange 2).any fun c => s.inserts c && decide ((s.chanMode c).static ≠ 0) && decide (s.eventSlots c ≠ 0)

/-- A request waits for an event message raised before it, which its target has after the sync point that follows the message (R382, R383). -/
def State.waitsForEvent (f : AsyncFrame) (s : State) : Bool :=
  f.request && s.eventsRide && (s.spl.events ++ s.spl.eventsNew).any fun m => !behind m.at_ f.at_

/-- The first frame that may go and the list without it; a request passes no earlier one to the same target (R373). -/
def nextAsync (may : AsyncFrame → Bool) (passed : List AsyncFrame) : List AsyncFrame → Option (AsyncFrame × List AsyncFrame)
  | [] => none
  | x :: t =>
    if may x && !(x.request && passed.any fun y => y.request && decide (y.dest = x.dest)) then some (x, t)
    else (nextAsync may (x :: passed) t).map fun y => (y.1, x :: y.2)

/-- CONTAINER_PASS (R267): an empty container is filled with the first waiting frame that may go and whose payload it holds, within the quota and never twice in a row. -/
def State.containerPass (c : Fin 2) (index : Nat) (empty : Bool) (s : State) : State :=
  let h := s.hws
  match nextAsync (fun f => decide (s.payloadLen c.val f.body ≤ (s.chanMode c).contLen) && !s.waitsForEvent f) [] h.async[c] with
  | some (f, rest) =>
    if s.inserts c && empty && !s.quiet && decide (index < (s.chanMode c).containers) && decide (h.filled[c] < cfgHwsAsyncQuota s.params h.mode) &&
        (match h.lastFilled[c] with | some k => decide (index ≠ k + 1) && decide (index ≠ k) | none => true) then
      (s.sendRing c f.dest false false 0 0 f.body).modHws fun h => { h with async := h.async.set c rest, filled := h.filled.set c (h.filled[c] + 1), lastFilled := h.lastFilled.set c (some index) }
    else s
  | none => s

/-- ASYNC_BACKLOG (R267). -/
def markBacklog (cycle : Nat) : List AsyncFrame → Option (List AsyncFrame)
  | [] => none
  | f :: t => if decide (16 < cycle - f.since) && !f.raised then some ({ f with raised := true } :: t) else (markBacklog cycle t).map (f :: ·)

def State.asyncBacklog (c : Fin 2) (s : State) : State :=
  if s.hawserRuns then
    match markBacklog s.hws.cycle s.hws.async[c] with
    | some l => (s.modHws fun h => { h with async := h.async.set c l, cntBacklog := satInc 255 h.cntBacklog }).hwsEvent 14 0 c.val 0
    | none => s
  else s

/-! ### Guardians (R279, R280) -/

/-- Expected start of a frame of ring index `k` for an offset at a receive port (R279). -/
def State.expectedAt (i : Fin 4) (k y : Nat) (s : State) : Option Nat :=
  (s.hws.ports[i]).beaconAt.map fun b => s.lastSync + leadNs + b + y + (if s.portPlace i ≤ k then s.ring (portChannel i) else 0)

/-- The window a frame starts in, with its expected start. -/
def State.windowOf (i : Fin 4) (sender startAt : Nat) (s : State) : Option (Window × Nat) :=
  (s.windows (portChannel i)).findSome? fun w =>
    match s.expectedAt i (ringIndex s.hws.master s.hws.n (w.owner.getD sender)) w.offset with
    | some t => if startAt ≤ t + 200 ∧ t ≤ startAt + 200 then some (w, t) else none
    | none => none

/-- Bits set in a history of 64 cycles. -/
def ones (n : Nat) : Nat := ((List.range 64).filter fun i => n.testBit i).length

/-- The guardian blocks or truncates a frame (R279) and counts the cycle bad (R280). -/
def State.guardAct (i : Fin 4) (truncated : Bool) (s : State) : State :=
  let s := s.modPort i fun x => if truncated then { x with truncated := satInc 65535 x.truncated } else { x with blocked := satInc 65535 x.blocked }
  let x := s.hws.ports[i]
  if x.bad then s
  else
    let first := match x.e194At with | some t => decide (t + 1000000000 ≤ s.now) | none => true
    let s := s.modPort i fun x => { x with bad := true, e194At := if first then some s.now else x.e194At }
    let s := if first then s.hwsEvent 2 i.val 0 0 else s
    if 8 ≤ ones (x.hist * 2 % 2 ^ 64 + 1) ∧ x.guardFold = false then
      (s.modPort i fun x => { x with folded := true, guardFold := true, lost := true }).hwsEvent 1 i.val 0 0
    else s

/-! ### Receiving (R272, R273) -/

/-- What a valid frame of a position says besides its data: health word, with NEIGHBOUR_RECORDER_FAILURE (R497). -/
def State.noteHealth (p : Nat) (health : Nat) (s : State) : State :=
  let i := pos128 p
  let old := s.hws.rx[i]
  let s := s.modHws fun h => { h with rx := h.rx.set i { old with health := health } }
  let near := decide (s.twinPosition = some p) || decide (s.nearBelow none = some p) || decide (s.nearAbove none = some p)
  let told := decide (s.twinPosition = some p) && s.twn.beat.any fun b => b.health.testBit 1
  if (cfgLogLogFlags s.params).testBit 1 && near && health.testBit 1 && !old.health.testBit 1 && !told then s.logEvent 6 0 p else s

/-- The event messages of a received static frame wait for the sync point; one that came on the other channel already is dropped (R383, R530). -/
def State.noteEvents (p : Nat) (evs : List EventMsg) (s : State) : State :=
  evs.foldl (fun s m =>
    let key := (m.number, p, m.at_)
    if s.node.arriving.any (fun x => decide ((x.msg.number, x.position, x.msg.at_) = key)) || decide (key ∈ s.node.seen) then s
    else s.modNode fun n => { n with arriving := n.arriving ++ [⟨m, p, s.ina.generation⟩] }) s

/-- A static frame of position `p` as this node received it (R272, R273, R402). A first copy in a cycle stands. -/
def State.copyStatic (c : Fin 2) (p : Nat) (h : HwsHeader) (data : List Byte) (evs : List EventMsg) (ok : Bool) (s : State) : State :=
  let i := pos128 p
  let x := s.hws.slot c i
  if x.got ≠ .nothing then s
  else if !ok then s.modHws fun w => w.setSlot c i { x with got := .invalid }
  else
    let rep := h.flags.testBit 1
    let s := s.modHws fun w => w.setSlot c i (if rep then { x with got := .repeated } else { x with got := .fresh, raised := false })
    let s := s.modHws fun w =>
      let o := w.rx[i]
      { w with rx := w.rx.set i { o with auth := authOfBytes data, barrier := leNat ((data.drop 8).take 4), now := true } }
    let s := s.noteHealth p h.health
    let s := s.noteEvents p evs
    if rep then s else (s.modHws fun w => { w with data := w.data.set c (w.data[c].set i data) }).receiveEntries i c data

/-- A poll response in slot `j` (R266, R272). -/
def State.copyResponse (c : Fin 2) (j : Nat) (h : HwsHeader) (ok : Bool) (s : State) : State :=
  match (s.hws.listedNow[c])[j]? with
  | some e =>
    if hk : e.entry < 256 then
      s.modHws fun w =>
        let x := w.polls[e.entry]
        if x.got ≠ .nothing then w
        else { w with polls := w.polls.set e.entry { x with got := if !ok then .invalid else if h.flags.testBit 1 then .repeated else .fresh } }
    else s
  | none => s

/-- POLL_FRAME_RECEIVE (R266). -/
def State.pollReceive (c : Fin 2) (slots : List PollSlot) (s : State) : State :=
  if s.hawserRuns then s.modHws fun h => { h with listedNext := h.listedNext.set c slots } else s

/-- A frame goes on along the ring (R255, R256), with an error symbol where the guardian has ended it (R279). -/
def State.passOn (i : Fin 4) (cut : Bool) (h : HwsHeader) (body : Body) (s : State) : State :=
  s.send ⟨.ring (portChannel i).val (s.passPort i).val (if cut then .cut else .passed), h.dest, h, body⟩

/-! ### Directories as they pass (R307, R308) -/

/-- The directory joins another segment to the leader's, and this node belongs to the one that joins. -/
def State.joins (d : Directory) (s : State) : Bool := decide (s.ina.nonce ≠ d.nonce) && d.entries.any fun e => e.joining

/-- The own position in a directory (R307): the leader's; by side and hop; by old segment and old position; of an inserted node the position of its grant, or the one new entry of its role where it was given none (R320). -/
def State.ownPlace (d : Directory) (s : State) : Option Nat :=
  let find (q : DirEntry → Bool) : Option Nat := (d.entries.zipIdx.find? fun x => !x.1.reserved && q x.1).map fun x => x.2 + 1
  if s.ina.leader && decide (s.ina.nonce = d.nonce) then some d.leader
  else if d.countBased then find fun e => decide (e.hop = s.ina.hop) && decide (e.side = s.ina.side)
  else if s.hws.position ≠ 0 then find fun e => decide (e.oldPosition = s.hws.position) && (e.joining == s.joins d)
  else if s.ina.announced then s.ina.grant.bind fun g => if g.position ≤ d.entries.length ∧ g.position ≠ 0 then some g.position else none
  else if s.ina.st = .inserting then find fun e => decide (e.oldPosition = 0) && !e.joining && (e.roleS == s.roleS)
  else none

def setBit (n i : Nat) : Nat := if n.testBit i then n else n + 2 ^ i

/-- A directory with the own bit set, where the node finds its entry and the generation exceeds its own (R308). -/
def State.accept (d : Directory) (s : State) : Directory :=
  match s.ownPlace d with
  | some p => if s.ina.generation < d.generation then { d with bits := setBit d.bits (p - 1) } else d
  | none => d

/-- What a node passes on of a frame that came intact: a directory with its bit. -/
def State.acceptBody (ok : Bool) (b : Body) (s : State) : Body :=
  match b with
  | .directory d => if ok then .directory (s.accept d) else b
  | _ => b

/-- HAWSER_FRAME_RECEIVE (R256, R272, R279): the guardian decides, the frame is copied and goes on. A frame of the node's own goes on past every port but that of its insertion point, and is not copied; a directory goes on with the node's bit (R308). A passive node forwards what comes: it has no place in ring order from which a guardian could tell its time (R304, log entry 159). -/
def State.hawserFrame (i : Fin 4) (h : HwsHeader) (body : Body) (arrival : Arrival) (startAt endAt : Nat) (s : State) : State :=
  let port := s.hws.ports[i]
  if !s.hawserRuns || !port.linkUp || port.folded then s
  else if s.ina.st = .passive then (s.advance endAt).passOn i false h body
  else if s.hws.position = 0 then s
  else
    let s := s.advance endAt
    match s.windowOf i h.sender startAt with
    | none => s.guardAct i false
    | some (w, t) =>
      let late := decide (t + w.len + 100 < endAt)
      let foreign := match w.owner with | some o => decide (o ≠ h.sender) | none => false
      let s := if late || foreign then s.guardAct i true else s
      let ok := !late && !foreign && decide (arrival = .valid)
      let c := portChannel i
      let own := decide (h.sender = s.hws.position)
      let s := if own && s.atInsertion i then s else s.passOn i (late || foreign) h (s.acceptBody ok body)
      if own && !foreign then s
      else match w.what, body with
        | .static, .static data evs => s.copyStatic c (w.owner.getD 0) h data evs ok
        | .static, _ => s.copyStatic c (w.owner.getD 0) h [] [] false
        | .response j, .response _ => s.copyResponse c j h ok
        | .response j, _ => s.copyResponse c j h false
        | .poll, .poll l => if ok then s.pollReceive c l else s
        | _, _ => s

/-- OWN_FRAME_REMOVAL (R256, R264, R276, R281). The sender's own static frame reaches its own slot as it returns; the master's beacon gives the guardian of that port its arrival. -/
def State.ownRemoval (c : Fin 2) (what : Slotted) (ok : Bool) (ringNs : Nat) (s : State) : State :=
  if !s.inserts c then s
  else match what with
    | .beacon =>
      if s.isMaster && ok then
        let s := s.modHws fun h => { h with beaconNow := h.beaconNow.set c true, ringTime := if s.quiet then h.ringTime.set c ringNs else h.ringTime }
        s.modPort (s.firstPort c) fun x => { x with beaconAt := some ringNs }
      else s
    | .static =>
      if ok && s.hws.sentNow[c] then
        let s := s.modHws fun h => { h with backNow := h.backNow.set c true }
        match s.hws.wire.find? (fun x => (match x.way with | .ring k _ .own => decide (k = c.val) | _ => false) && (match x.body with | .static _ _ => true | _ => false)) with
        | some x => (match x.body with | .static data _ => s.copyStatic c s.hws.position x.header data [] true | _ => s)
        | none => s
      else s
    | .response j => s.copyResponse c j (s.header c false false 0 0) ok
    | _ => s

/-- LEFT_SCHEDULE (R281). The state is reintegrating once no channel is left. -/
def State.leftSchedule (c : Fin 2) (s : State) : State :=
  if s.hawserRuns && s.hws.inSchedule[c] && decide (3 ≤ s.hws.ownRun[c]) then
    let s := s.modHws fun h => { h with inSchedule := h.inSchedule.set c false, ownRun := h.ownRun.set c 0, leftRaised := h.leftRaised.set c true, beaconRun := 0 }
    let s := if s.hws.inSchedule[0] || s.hws.inSchedule[1] then s else s.modIna fun x => { x with st := .reintegrating }
    s.hwsEvent 4 0 c.val 0
  else s

/-- BEACON_LOST (R278): of a node that is or was in the schedule; one that is being numbered again has no beacons to miss (R323). -/
def State.beaconLost (s : State) : State :=
  if s.hawserRuns && (decide (s.ina.st = .running) || decide (s.ina.st = .reintegrating)) && decide (4 ≤ s.hws.beaconMissed) && !s.hws.lostRaised then
    let s := s.modHws fun h => { h with inSchedule := Vector.replicate 2 false, lostRaised := true, beaconRun := 0 }
    (s.modIna fun x => { x with st := .reintegrating }).hwsEvent 3 0 0 0
  else s

/-- SLOT_STALE (R273): of a slot that the schedule has (R262). -/
def State.slotStale (p : Fin 128) (c : Fin 2) (s : State) : State :=
  let x := s.hws.slot c p
  if s.hawserRuns && decide (p.val < s.hws.n) && decide (cfgHwsStaleLimit s.params ≤ x.age) && !x.raised then
    (s.modHws fun h => h.setSlot c p { x with raised := true }).hwsEvent 8 0 c.val (p.val + 1)
  else s

/-- HWS_COMMAND taken at a sync point: code 1 unfolds a port its guardian folded (R280). -/
def State.takeHwsCommand (s : State) : State :=
  let h := s.hws
  if h.command = 0 then s
  else
    let i : Fin 4 := ⟨h.commandPort % 4, by omega⟩
    let s := s.modHws fun h => { h with command := 0 }
    if h.command = 1 then
      (s.modPort i fun x => { x with guardFold := false, folded := if x.guardFold then !x.linkUp else x.folded, hist := if x.guardFold then 0 else x.hist }).hwsEvent 15 i.val 0 0
    else s

/-! ### Clock (R254, R275 to R278) -/

/-- LINK_DELAY_MEASUREMENT (R254): in the last 2 µs of the cycle; times in 1/65536 ns. -/
def State.measureLink (i : Fin 4) (t1 t2 t3 t4 : Int) (s : State) : State :=
  if s.hawserRuns && (s.hws.ports[i]).linkUp && (decide (s.hws.measureIn = 0) || s.ina.merge.isSome) then
    let s := s.advance (s.nextSync - 2000)
    (s.sendPort i .linkMeasure).modPort i fun x => { x with delay := (((t4 - t1) - (t3 - t2)) / 2).toNat }
  else s

/-- ±200 ppm in 0.001 ppm. -/
def rateLimit : Int := 200000

/-- The servo of R275 at one valid beacon; `off` and `rx` in 1/65536 ns. rate_adjust changes the adjustment in force. -/
def Hawser.discipline (t tcyc : Nat) (off : Int) (rx : Nat) (h : Hawser) : Hawser :=
  let h' := if 65536000 < off.natAbs then { h with pendingStep := some (-off), stepReady := false }
    else
      let err : Rat := ((off - h.offsetPrev : Int) : Rat) / (((rx : Int) - h.rxPrev : Int) : Rat)
      let adj : Rat := -err - (off : Rat) / 65536 / (8 * (tcyc : Rat))
      { h with clock := h.clock.slew t (clampInt (-rateLimit) rateLimit (h.clock.rate + reportR (adj * 1000000000))) }
  { h' with offset := off, offsetPrev := off, rxPrev := rx, alarmRun := if 200 * 65536 < off.natAbs then h.alarmRun + 1 else 0 }

/-- The servo takes a beacon of a channel (R275): channel A's serves where one is valid in the cycle, so that it takes the place of channel B's, which has come first. -/
def Hawser.serve (c : Fin 2) (t tcyc : Nat) (off : Int) (rx : Nat) (h : Hawser) : Hawser :=
  if c = 0 then
    match h.servo with
    | some v => { h with clock := h.clock.slew t v.rate, offsetPrev := v.offsetPrev, rxPrev := v.rxPrev, alarmRun := v.alarmRun, pendingStep := v.pendingStep, servo := none }.discipline t tcyc off rx
    | none => h.discipline t tcyc off rx
  else { h with servo := some ⟨h.clock.rate, h.offsetPrev, h.rxPrev, h.alarmRun, h.pendingStep⟩ }.discipline t tcyc off rx

/-- An announcement in a valid beacon (R269): E197 when it is new. -/
def State.noteSwitch (b : Beacon) (s : State) : State :=
  if b.switchPending then
    let new := !s.hws.switchPending || decide (s.hws.switchCycle ≠ b.switchCycle)
    let s := s.modHws fun h => { h with switchPending := true, pendingMode := b.pendingMode, switchCycle := b.switchCycle }
    if new then s.hwsEvent 5 0 0 0 else s
  else s

/-- A beacon belongs to the segment (R288, R321): its identity is the own one. A member in the schedule also takes a new nonce of its leader (R314), and a deputy's takeover with the next generation (R316). -/
def State.ownBeacon (b : Beacon) (s : State) : Bool :=
  let member := decide (s.ina.st = .running)
  (decide (b.generation = s.ina.generation) && decide (b.master = s.hws.master) && (member || decide (b.nonce = s.ina.nonce))) ||
  (member && decide (b.generation = s.ina.generation + 1) && decide (b.master ≠ s.hws.master) && s.present b.master && s.ina.pendingDir.isNone)

/-- A member that listens to come back, and hears its segment under a newer generation, asks for the directory through the neighbour it hears (R321, log entry 119). -/
def State.askDirectory (i : Fin 4) (b : Beacon) (s : State) : State :=
  if decide (s.ina.st = .reintegrating) && decide (b.digest = s.modeDigest) && decide (s.ina.generation < b.generation) && s.ina.pendingDir.isNone then
    s.sendPort i (.request ⟨2, (portChannel i).val, ⟨0, false, false, false, s.roleS, (cfgHierCarFlags s.params).testBit 1, false, memGetBytes ramDefault s.params (cfgKey 2 0) 10, s.modeDigest, s.cfg.version⟩⟩)
  else s

/-- The beacon as it goes on: its residence, a free value (log entry 128), and the link's delay added to its correction (R275). -/
def State.passBeacon (i : Fin 4) (h : HwsHeader) (b : Beacon) (s : State) : State :=
  s.passOn i false h (.beacon { b with correction := b.correction + (s.hws.ports[i]).delay + Config.freeNat 71 s.freeCount })

/-- BEACON_RECEIVE (R275 to R278): every port records the arrival, and the beacon goes on, in a passive node whatever its segment (R304). A deputy's first beacon opens its quiet cycle (R316). `rx` is the own common time at the start of the beacon in 1/65536 ns. -/
def State.beaconReceive (i : Fin 4) (h : HwsHeader) (b : Beacon) (rx : Nat) (s : State) : State :=
  let port := s.hws.ports[i]
  if !s.hawserRuns || !port.linkUp then s
  else if !s.ownBeacon b then (if s.ina.st = .passive ∧ port.folded = false then s.passBeacon i h b else s.askDirectory i b)
  else
    let c := portChannel i
    let d := b.correction + port.delay
    let mine := s.isMaster && decide (b.master = s.hws.master)
    let s := s.modPort i fun x => { x with beaconAt := some (d / 65536) }
    let s := if port.folded || (mine && s.atInsertion i) then s
      else s.passBeacon i h b
    if mine then s
    else
      let took := decide (b.master ≠ s.hws.master)
      let s := s.modIna fun x => { x with nonce := b.nonce }
      let s := if took then (s.modHws fun w => { w with master := b.master }).modIna fun x => { x with generation := b.generation, leader := false, phase := .quiet, trigger := 7, startAt := s.now } else s
      if i ≠ s.firstPort c ∨ s.hws.beaconNow[c] = true then s
      else
        let serve := decide (c = 0) || !s.hws.beaconNow[0]
        let alone := !s.hws.beaconNow[0] && !s.hws.beaconNow[1]
        let s := s.modHws fun w => { w with
          d := w.d.set c d, beaconNow := w.beaconNow.set c true, ringTime := w.ringTime.set c b.ringTime,
          cycle := if s.ina.st = .running then w.cycle else h.cycle, mode := if s.ina.st = .running then w.mode else h.mode, beaconMissed := 0, holdover := false, lostRaised := false,
          beaconRun := if alone then w.beaconRun + 1 else w.beaconRun,
          taiValid := b.taiValid, taiSeconds := b.taiSeconds, taiNs := b.taiNs, utcOffset := b.utcOffset }
        let s := s.noteSwitch b
        let s := s.noteHealth b.master h.health
        if serve then
          let told := s.hws.servo.isSome && decide (s.hws.alarmRun = 3)
          let s := s.modHws fun w => w.serve c s.now s.tcyc ((rx : Int) - (b.txTime + d)) rx
          let s := if s.hws.alarmRun = 3 ∧ told = false then s.hwsEvent 10 0 c.val 0 else s
          s.calendarFollow b
        else s

/-- CLOCK_STEP_APPLY on the Hawser island (R38, R275): its counter steps in the tick of 2.5 ns that follows a sync point. E201. -/
def State.applyHwsStep (s : State) : State :=
  match s.hws.pendingStep with
  | some d =>
    if s.hawserUp && s.hws.stepReady && decide (s.now ≤ s.lastSync + 3) then
      (s.modHws fun h => { h with clock := h.clock.step d, pendingStep := none, stepReady := false }).hwsEvent 9 0 0 0
    else s
  | none => s

/-! ### Relays (R257) -/

/-- The island starts toggling a relay's drive: the node is configured and admitted (R257). -/
def State.openRelay (c : Fin 2) (s : State) : State :=
  let s := s.modRelay c fun r => { r with drive := true, open_ := true, openedAt := s.now, mismatchAt := none, mismatchRaised := false }
  if c = 0 then s.modMss fun m => { m with relayA := m.relayA + 1 } else s.modMss fun m => { m with relayB := m.relayB + 1 }

/-- The drives stop: the Hawser island stops, or is told to (R257, R505). -/
def State.stopRelays (s : State) : State :=
  s.modHws fun h => { h with relays := h.relays.map fun r => if r.drive then r.stopDrive s.now else r }

/-- RELAY_DRIVE_STOP: 200 µs after the last toggle the relay closes, and the ports lose their pairs (R257). -/
def State.relayDriveStop (c : Fin 2) (s : State) : State :=
  let r := s.hws.relays[c]
  if r.drive = false ∧ r.open_ = true ∧ r.mismatchRaised = false then
    let s := s.advance (r.driveStopAt + 200000)
    s.modRelay c fun r => { r with open_ := false }
  else s

/-- BYPASS_RELAY_MISMATCH (R257): for more than 20 ms the readback has shown the other position, which E203 tells once; or it shows the drive's position again, which ends the mismatch. -/
def State.relayMismatch (c : Fin 2) (open_ : Bool) (s : State) : State :=
  let r := s.hws.relays[c]
  if !s.hawserRuns then s
  else if open_ = r.drive then s.modRelay c fun r => { r with open_ := open_, mismatchAt := none, mismatchRaised := false }
  else
    let s := s.modRelay c fun r => { r with open_ := open_, mismatchAt := some (r.mismatchAt.getD s.now), mismatchRaised := true }
    if r.mismatchRaised then s else s.hwsEvent 11 0 c.val 0

/-! ### At a sync point (R266, R272, R273, R278, R280, R281) -/

/-- A slot at the end of a cycle. -/
def Slot.close (x : Slot) : Slot :=
  match x.got with
  | .fresh => { x with age := 0, missing := false, invalid := false, repeated := false, seen := true, raised := false, got := .nothing }
  | .repeated => { x with age := satInc 255 x.age, missing := false, invalid := false, repeated := true, got := .nothing }
  | .invalid => { x with age := satInc 255 x.age, missing := false, invalid := true, repeated := false, got := .nothing }
  | .nothing => { x with age := satInc 255 x.age, missing := true, invalid := false, repeated := false, got := .nothing }

/-- The status word of R272. -/
def Slot.word (x : Slot) : Nat := x.age + 256 * b2n x.missing + 512 * b2n x.invalid + 1024 * b2n x.repeated + 2048 * b2n x.seen

/-- The master's view of its channels at the end of a cycle (R271). -/
def State.watchChannels (s : State) : State :=
  if s.isMaster then
    let a := s.channelFault 0
    let b := s.channelFault 1
    s.modHws fun h => { h with
      faultNow := #v[a, b], faultRun := #v[if a then h.faultRun[0] + 1 else 0, if b then h.faultRun[1] + 1 else 0],
      clearRun := if a || b then 0 else h.clearRun + 1 }
  else s.modHws fun h => { h with faultNow := Vector.replicate 2 false, faultRun := Vector.replicate 2 0, clearRun := 0 }

/-- Own frames at the end of a cycle (R281). -/
def Hawser.watchOwn (c : Fin 2) (h : Hawser) : Hawser :=
  if h.sentNow[c] && !h.backNow[c] then
    { h with cntOwnLost := satInc 255 h.cntOwnLost, ownRun := h.ownRun.set c (if h.beaconNow[c] then h.ownRun[c] + 1 else 0) }
  else { h with ownRun := h.ownRun.set c 0 }

/-- Slots and poll entries at the end of a cycle: each ages that has brought nothing fresh, the entries that were not listed and the positions that no node holds among them (R266, R272, R273). -/
def Hawser.closeSlots (h : Hawser) : Hawser :=
  let f (v : Vector Slot 128) : Vector Slot 128 := v.map Slot.close
  let listed (e : Nat) : Bool := (h.listedNow[0]).any (fun x => decide (x.entry = e)) || (h.listedNow[1]).any fun x => decide (x.entry = e)
  { h with slotsA := f h.slotsA, slotsB := f h.slotsB, polls := h.polls.mapIdx fun e x => if listed e then x.close else { x with age := satInc 255 x.age } }

/-- The status words of R272 go into the shadow copy, which completes. -/
def State.writeStatus (s : State) : State :=
  let h := s.hws
  let b := (h.slotsA.toList ++ h.slotsB.toList ++ h.polls.toList).flatMap fun x => leBytes 4 x.word
  { s with hwsRegion := { (s.hwsRegion.write 0 b) with completed := true } }

/-- The Hawser engine at the sync point that ends a cycle, before the regions switch. -/
def State.hwsCycleEnd (s : State) : State :=
  if s.hawserRuns then
    let s := s.watchChannels
    let s := s.modHws fun h => (h.watchOwn 0).watchOwn 1
    let s := s.modHws fun h =>
      let none_ := !h.beaconNow[0] && !h.beaconNow[1] && !s.isMaster
      let missed := if none_ then h.beaconMissed + 1 else 0
      { h.closeSlots with
        beaconMissed := missed, beaconRun := if none_ then 0 else h.beaconRun, holdover := decide (2 ≤ missed),
        cntBeacons := if h.beaconNow[0] then h.cntBeacons else satInc 255 h.cntBeacons }
    s.writeStatus
  else s

/-- How many messages at the head of the queue may ride in the cycle that opens: those that no posted write raised before them still waits in front of (R382). -/
def State.readyEvents (s : State) : Nat :=
  let ws := (s.hws.async[0] ++ s.hws.async[1]).filter (·.write)
  (s.spl.events.takeWhile fun m => !(ws.any fun w => behind m.at_ w.at_)).length

/-- Event messages that rode in this cycle leave the queue, and those raised in it may ride from the next (R383). -/
def State.closeEvents (s : State) : State :=
  let k (c : Fin 2) : Option Nat := if s.hws.sentNow[c] && decide (s.eventSlots c ≠ 0) then some (s.eventSlots c) else none
  let n := match k 0, k 1 with
    | some a, some b => min a b
    | some a, none => a
    | none, some b => b
    | none, none => 0
  let s := s.modSpl fun x => { x with events := x.events.drop (min n x.eventsReady) ++ x.eventsNew, eventsNew := [] }
  s.modSpl fun x => { x with eventsReady := s.readyEvents }

/-- The Hawser engine at the sync point that opens a cycle. -/
def State.hwsCycleStart (s : State) : State :=
  if s.hawserUp then
    let s := s.moveAsync.closeEvents
    s.modHws fun h => { h with
      cycle := (h.cycle + 1) % 2 ^ 32,
      rx := h.rx.map fun x => { x with last := x.now, now := false },
      ports := h.ports.map fun p => { p with hist := (p.hist * 2 + b2n p.bad) % 2 ^ 64, bad := false },
      beaconNow := Vector.replicate 2 false, sentNow := Vector.replicate 2 false, backNow := Vector.replicate 2 false,
      listedNow := h.listedNext, listedNext := Vector.replicate 2 [],
      filled := Vector.replicate 2 0, lastFilled := Vector.replicate 2 none, servo := none,
      measureIn := if h.measureIn = 0 then 999 else h.measureIn - 1, wire := [], octets := [] }
  else s

end Sys2Proof.Machine
end

