-- ==== Sys2Proof/Machine/Ranges.lean ====
section
/-! DEFINITION. The Ranges and reserved fields of the configuration sections (R17, check 10 of R437): per record the byte offset of each field in its section and whether its value lies in its Range. Signed fields without a Range admit every value. -/

namespace Sys2Proof.Machine

/-- The bytes from `off`: each with whether it is 0. -/
def zeros (p : Mem) (ty off : Nat) : Nat → List (Nat × Bool)
  | 0 => []
  | n + 1 => (off, decide (u8 p ty off = 0)) :: zeros p ty (off + 1) n

/-- A field of `n` bytes that must hold 0, at its offset. -/
def reservedField (p : Mem) (ty off n : Nat) : List (Nat × Bool) := [(off, (zeros p ty off n).all (·.2))]

/-- Fields that must hold 0, by offset in their record and length. -/
def zeroFields (p : Mem) (ty base : Nat) (l : List (Nat × Nat)) : List (Nat × Bool) := l.flatMap fun x => reservedField p ty (base + x.1) x.2

/-- Ranges of the fields of 0x0010, R88: portalNode. -/
def portalNodeRanges (p : Mem) : List (Nat × Bool) :=
  [
   (2, let v := cfgPrtReleaseMode p; decide (v ≤ 2)),
   (3, let v := cfgPrtLineSideMode p; decide (v ≤ 1)),
   (4, let v := cfgPrtLoopTestInterval p; decide (10 ≤ v ∧ v ≤ 3600)),
   (6, let v := cfgPrtLoopDiscrepancyTime p; decide (5 ≤ v ∧ v ≤ 100)),
   (8, let v := cfgPrtCloseSources p; decide (v ≤ 7)),
   (9, let v := cfgPrtTrainLineDebounce p; decide (v ≤ 50))
  ]

/-- Reserved fields of 0x0010, R88: portalNode. -/
def portalNodeReserved (p : Mem) : List (Nat × Bool) :=
  reservedField p 0x0010 (10) 6

/-- Ranges of the fields of 0x0010, R89: portalRec. -/
def portalRecRanges (p : Mem) (s : Nat) : List (Nat × Bool) :=
  [
   (16 + s * 64 + 0, let v := cfgPrtSide p s; decide (v ≤ 1)),
   (16 + s * 64 + 1, let v := cfgPrtFlags p s; decide (v < 128)),
   (16 + s * 64 + 2, let v := cfgPrtInS1 p s; decide (v ≤ 15)),
   (16 + s * 64 + 3, let v := cfgPrtInS2 p s; decide (v ≤ 15)),
   (16 + s * 64 + 4, let v := cfgPrtInStepStowed p s; decide (v ≤ 15 ∨ v = 255)),
   (16 + s * 64 + 5, let v := cfgPrtInIsolation p s; decide (v ≤ 15 ∨ v = 255)),
   (16 + s * 64 + 6, let v := cfgPrtInEgress p s; decide (v ≤ 15 ∨ v = 255)),
   (16 + s * 64 + 7, let v := cfgPrtInAccess p s; decide (v ≤ 15 ∨ v = 255)),
   (16 + s * 64 + 8, let v := cfgPrtInOpenInside p s; decide (v ≤ 15 ∨ v = 255)),
   (16 + s * 64 + 9, let v := cfgPrtInOpenOutside p s; decide (v ≤ 15 ∨ v = 255)),
   (16 + s * 64 + 10, let v := cfgPrtInClose p s; decide (v ≤ 15 ∨ v = 255)),
   (16 + s * 64 + 11, let v := cfgPrtUnlockChannel p s; decide (1 ≤ v ∧ v ≤ 5 ∨ v = 255)),
   (16 + s * 64 + 12, let v := cfgPrtLampChannel p s; decide (2 ≤ v ∧ v ≤ 5)),
   (16 + s * 64 + 13, let v := cfgPrtBuzzerChannel p s; decide (2 ≤ v ∧ v ≤ 5)),
   (16 + s * 64 + 14, let v := cfgPrtStepOrder p s; decide (v ≤ 1)),
   (16 + s * 64 + 15, let v := cfgPrtFaultAxisMode p s; decide (v ≤ 1)),
   (16 + s * 64 + 16, let v := cfgPrtWarnTime p s; decide (v ≤ 10000)),
   (16 + s * 64 + 18, let v := cfgPrtLockPullMs p s; decide (50 ≤ v ∧ v ≤ 2000)),
   (16 + s * 64 + 20, let v := cfgPrtUnlockPulseMs p s; decide (50 ≤ v ∧ v ≤ 2000)),
   (16 + s * 64 + 22, let v := cfgPrtLockConfirmMs p s; decide (100 ≤ v ∧ v ≤ 5000)),
   (16 + s * 64 + 24, let v := cfgPrtUnlockConfirmMs p s; decide (100 ≤ v ∧ v ≤ 5000)),
   (16 + s * 64 + 26, let v := cfgPrtOpenTimeout p s; decide (1000 ≤ v ∧ v ≤ 20000)),
   (16 + s * 64 + 28, let v := cfgPrtCloseTimeout p s; decide (1000 ≤ v ∧ v ≤ 20000)),
   (16 + s * 64 + 30, let v := cfgPrtS1Window p s; decide (v ≤ 500)),
   (16 + s * 64 + 32, let v := cfgPrtAutoClose p s; decide (v = 0 ∨ (1 ≤ v ∧ v ≤ 6000))),
   (16 + s * 64 + 34, let v := cfgPrtReopenLimit p s; decide (v ≤ 10)),
   (16 + s * 64 + 35, let v := cfgPrtReopenMode p s; decide (v ≤ 1)),
   (16 + s * 64 + 36, let v := cfgPrtReopenDistance p s; decide (100 ≤ v ∧ v ≤ 12000)),
   (16 + s * 64 + 38, let v := cfgPrtReclosePauseMs p s; decide (v ≤ 10000)),
   (16 + s * 64 + 40, let v := cfgPrtEgressHoldMs p s; decide (v ≤ 10000)),
   (16 + s * 64 + 42, let v := cfgPrtStepStowTimeout p s; decide (500 ≤ v ∧ v ≤ 10000))
  ]

/-- Reserved fields of 0x0010, R89: portalRec. -/
def portalRecReserved (p : Mem) (s : Nat) : List (Nat × Bool) :=
  reservedField p 0x0010 (16 + s * 64 + 44) 20

/-- Ranges of the fields of 0x0011, R133: axisRec. -/
def axisRecRanges (p : Mem) (s : Nat) (a : Nat) : List (Nat × Bool) :=
  [
   ((s * 3 + a) * 224 + 0, let v := cfgAxRole p s a; decide (v ≤ 4)),
   ((s * 3 + a) * 224 + 1, let v := cfgAxFlags p s a; decide (v < 8)),
   ((s * 3 + a) * 224 + 2, let v := cfgAxHomeStage p s a; decide (v ≤ 2)),
   ((s * 3 + a) * 224 + 3, let v := cfgAxGearSource p s a; decide (v ≤ 6 ∧ v ≠ 3)),
   ((s * 3 + a) * 224 + 4, let v := cfgAxStepsPerMm p s a; decide (65536 ≤ v ∧ v ≤ 67108864)),
   ((s * 3 + a) * 224 + 12, let v := cfgAxSoftMax p s a; decide (cfgAxSoftMin p s a < v)),
   ((s * 3 + a) * 224 + 144, let v := cfgAxHomeDir p s a; decide (v ≤ 1)),
   ((s * 3 + a) * 224 + 145, let v := cfgAxHomeConfirmInput p s a; decide (v ≤ 15 ∨ v = 255)),
   ((s * 3 + a) * 224 + 146, let v := cfgAxHomeChatterMs p s a; decide (v ≤ 50)),
   ((s * 3 + a) * 224 + 148, let v := cfgAxHomeSpeed p s a; decide (1000 ≤ v ∧ v ≤ 1000000)),
   ((s * 3 + a) * 224 + 152, let v := cfgAxHomeMaxTravel p s a; decide (1000 ≤ v ∧ v ≤ 2147483647)),
   ((s * 3 + a) * 224 + 156, let v := cfgAxHomeLatchWindow p s a; decide (v ≤ 1000000)),
   ((s * 3 + a) * 224 + 164, let v := cfgAxHomeRelatchLimit p s a; decide (1 ≤ v ∧ v ≤ 7)),
   ((s * 3 + a) * 224 + 166, let v := cfgAxGearLagLimit p s a; decide (16 ≤ v ∧ v ≤ 65535)),
   ((s * 3 + a) * 224 + 180, let v := cfgAxGearBreakCount p s a; decide (v ≤ 4))
  ]

/-- Reserved fields of 0x0011, R133: axisRec. -/
def axisRecReserved (p : Mem) (s : Nat) (a : Nat) : List (Nat × Bool) :=
  reservedField p 0x0011 ((s * 3 + a) * 224 + 165) 1 ++ reservedField p 0x0011 ((s * 3 + a) * 224 + 181) 3 ++ reservedField p 0x0011 ((s * 3 + a) * 224 + 216) 8

/-- Ranges of the fields of 0x0011, R133: axisSet. -/
def axisSetRanges (p : Mem) (s : Nat) (a : Nat) (j : Nat) : List (Nat × Bool) :=
  [
   ((s * 3 + a) * 224 + 16 + 32 * j, let v := cfgAxVStart p s a j; decide (1 ≤ v ∧ v ≤ 1000000)),
   ((s * 3 + a) * 224 + 20 + 32 * j, let v := cfgAxA1 p s a j; decide (100 ≤ v ∧ v ≤ 20000000)),
   ((s * 3 + a) * 224 + 24 + 32 * j, let v := cfgAxV1 p s a j; decide (1 ≤ v ∧ v ≤ 1000000)),
   ((s * 3 + a) * 224 + 28 + 32 * j, let v := cfgAxA2 p s a j; decide (100 ≤ v ∧ v ≤ 20000000)),
   ((s * 3 + a) * 224 + 32 + 32 * j, let v := cfgAxVMax p s a j; decide (1 ≤ v ∧ v ≤ 1000000)),
   ((s * 3 + a) * 224 + 36 + 32 * j, let v := cfgAxD2 p s a j; decide (100 ≤ v ∧ v ≤ 20000000)),
   ((s * 3 + a) * 224 + 40 + 32 * j, let v := cfgAxD1 p s a j; decide (100 ≤ v ∧ v ≤ 20000000)),
   ((s * 3 + a) * 224 + 44 + 32 * j, let v := cfgAxVStop p s a j; decide (1 ≤ v ∧ v ≤ 1000000))
  ]

/-- Ranges of the fields of 0x0011, R133: axisBreak. -/
def axisBreakRanges (p : Mem) (s : Nat) (a : Nat) (i : Nat) : List (Nat × Bool) :=
  [
   ((s * 3 + a) * 224 + 184 + 8 * i, let v := cfgAxBreakPos p s a i; decide (i = 0 ∨ cfgAxGearBreakCount p s a ≤ i ∨ cfgAxBreakPos p s a (i - 1) < v))
  ]

/-- Ranges of the fields of 0x0012, R170: driveRec. -/
def driveRecRanges (p : Mem) (s : Nat) (a : Nat) : List (Nat × Bool) :=
  [
   ((s * 3 + a) * 64 + 0, let v := cfgDrvDriveFlags p s a; decide (v < 32)),
   ((s * 3 + a) * 64 + 1, let v := cfgDrvEdgeInput p s a; decide (v ≤ 3 ∨ v = 255)),
   ((s * 3 + a) * 64 + 2, let v := cfgDrvRunCurrent p s a; decide (100 ≤ v ∧ v ≤ 2500)),
   ((s * 3 + a) * 64 + 4, let v := cfgDrvHoldCurrent p s a; decide (v ≤ 2500)),
   ((s * 3 + a) * 64 + 6, let v := cfgDrvBoostCurrent p s a; decide (v ≤ 4240)),
   ((s * 3 + a) * 64 + 8, let v := cfgDrvModeThreshold p s a; decide (1000 ≤ v ∧ v ≤ 1000000)),
   ((s * 3 + a) * 64 + 12, let v := cfgDrvLambdaValidSpeed p s a; decide (1000 ≤ v ∧ v ≤ 1000000)),
   ((s * 3 + a) * 64 + 16, let v := cfgDrvMotorR p s a; decide (100 ≤ v ∧ v ≤ 50000)),
   ((s * 3 + a) * 64 + 18, let v := cfgDrvMotorL p s a; decide (100 ≤ v ∧ v ≤ 60000)),
   ((s * 3 + a) * 64 + 20, let v := cfgDrvMotorKe p s a; decide (100 ≤ v ∧ v ≤ 60000)),
   ((s * 3 + a) * 64 + 22, let v := cfgDrvCurrentSlew p s a; decide (10 ≤ v ∧ v ≤ 500)),
   ((s * 3 + a) * 64 + 24, let v := cfgDrvFPerA p s a; decide (32768 ≤ v ∧ v ≤ 16777216)),
   ((s * 3 + a) * 64 + 28, let v := cfgDrvForceCeiling p s a; decide (50 ≤ v ∧ v ≤ 400)),
   ((s * 3 + a) * 64 + 30, let v := cfgDrvEnvMargin p s a; decide (10 ≤ v ∧ v ≤ 200)),
   ((s * 3 + a) * 64 + 32, let v := cfgDrvTransientAllowance p s a; decide (v ≤ 100)),
   ((s * 3 + a) * 64 + 34, let v := cfgDrvObstacleConfirm p s a; decide (1 ≤ v ∧ v ≤ 64)),
   ((s * 3 + a) * 64 + 35, let v := cfgDrvEstTau p s a; decide (1 ≤ v ∧ v ≤ 40)),
   ((s * 3 + a) * 64 + 36, let v := cfgDrvClampAngle p s a; decide (16 ≤ v ∧ v ≤ 60)),
   ((s * 3 + a) * 64 + 37, let v := cfgDrvStallRatio p s a; decide (10 ≤ v ∧ v ≤ 80)),
   ((s * 3 + a) * 64 + 38, let v := cfgDrvStallConfirm p s a; decide (8 ≤ v ∧ v ≤ 400)),
   ((s * 3 + a) * 64 + 40, let v := cfgDrvEnvSpan p s a; decide (1000 ≤ v.natAbs ∧ v.natAbs ≤ 2147483647)),
   ((s * 3 + a) * 64 + 48, let v := cfgDrvLowCurrentCeiling p s a; decide (100 ≤ v ∧ v ≤ 6000)),
   ((s * 3 + a) * 64 + 50, let v := cfgDrvCurrentConfirm p s a; decide (1 ≤ v ∧ v ≤ 400)),
   ((s * 3 + a) * 64 + 52, let v := cfgDrvSlipLimit p s a; decide (256 ≤ v ∧ v ≤ 1000000)),
   ((s * 3 + a) * 64 + 56, let v := cfgDrvTeachCycles p s a; decide (1 ≤ v ∧ v ≤ 8))
  ]

/-- Reserved fields of 0x0012, R170: driveRec. -/
def driveRecReserved (p : Mem) (s : Nat) (a : Nat) : List (Nat × Bool) :=
  reservedField p 0x0012 ((s * 3 + a) * 64 + 57) 7

/-- Ranges of the fields of 0x0013, R195: inputNode. -/
def inputNodeRanges (p : Mem) : List (Nat × Bool) :=
  [
   (0, let v := cfgInpTrainLineClass p; decide (v ≤ 5))
  ]

/-- Reserved fields of 0x0013, R195: inputNode. -/
def inputNodeReserved (p : Mem) : List (Nat × Bool) :=
  reservedField p 0x0013 (1) 15

/-- Ranges of the fields of 0x0013, R196: inputDig. -/
def inputDigRanges (p : Mem) (s : Nat) (i : Nat) : List (Nat × Bool) :=
  [
   (16 + s * 192 + 8 * i, let v := cfgInpInFlags p s i; decide (v % 8 ≤ 5 ∧ v < 32)),
   (16 + s * 192 + 8 * i + 1, let v := cfgInpDebounceMs p s i; decide (v ≤ 50)),
   (16 + s * 192 + 8 * i + 2, let v := cfgInpChatterLimit p s i; decide (v = 0 ∨ (2 ≤ v ∧ v ≤ 255))),
   (16 + s * 192 + 8 * i + 4, let v := cfgInpStuckTimeout p s i; decide (v = 0 ∨ (1 ≤ v ∧ v ≤ 600))),
   (16 + s * 192 + 8 * i + 6, let v := cfgInpChatterQuiet p s i; decide (100 ≤ v ∧ v ≤ 10000))
  ]

/-- Reserved fields of 0x0013, R196: inputDig. -/
def inputDigReserved (p : Mem) (s : Nat) (i : Nat) : List (Nat × Bool) :=
  reservedField p 0x0013 (16 + s * 192 + 8 * i + 3) 1

/-- Ranges of the fields of 0x0013, R196: inputAn. -/
def inputAnRanges (p : Mem) (s : Nat) (k : Nat) : List (Nat × Bool) :=
  [
   (16 + s * 192 + 128 + 8 * k, let v := cfgInpAnMode p s k; decide (v ≤ 2)),
   (16 + s * 192 + 129 + 8 * k, let v := cfgInpAnConfirm p s k; decide (1 ≤ v ∧ v ≤ 50)),
   (16 + s * 192 + 130 + 8 * k, let v := cfgInpShortMax p s k; decide (10 ≤ v ∧ v ≤ 10999)),
   (16 + s * 192 + 132 + 8 * k, let v := cfgInpPressMax p s k; decide (11 ≤ v ∧ v ≤ 10999)),
   (16 + s * 192 + 134 + 8 * k, let v := cfgInpNormMax p s k; decide (12 ≤ v ∧ v ≤ 11000))
  ]

/-- Ranges of the fields of 0x0013, R196: inputEnc. -/
def inputEncRanges (p : Mem) (s : Nat) (k : Nat) : List (Nat × Bool) :=
  [
   (16 + s * 192 + 160 + 8 * k, let v := cfgInpEncMode p s k; decide (v ≤ 2)),
   (16 + s * 192 + 161 + 8 * k, let v := cfgInpEncFlags p s k; decide (v < 16)),
   (16 + s * 192 + 162 + 8 * k, let v := cfgInpCountsPerIndex p s k; decide (4 ≤ v ∧ v ≤ 2147483647)),
   (16 + s * 192 + 166 + 8 * k, let v := cfgInpIndexTolerance p s k; decide (v ≤ 1000))
  ]

/-- Ranges of the fields of 0x0013, R196: inputRec. -/
def inputRecRanges (p : Mem) (s : Nat) : List (Nat × Bool) :=
  [
   (16 + s * 192 + 184, let v := cfgInpEncSupply p s; decide (v ≤ 2 ∨ v = 128)),
   (16 + s * 192 + 186, let v := cfgInpTwinCompareMs p s; decide (v = 0 ∨ (50 ≤ v ∧ v ≤ 10000)))
  ]

/-- Reserved fields of 0x0013, R196: inputRec. -/
def inputRecReserved (p : Mem) (s : Nat) : List (Nat × Bool) :=
  reservedField p 0x0013 (16 + s * 192 + 185) 1 ++ reservedField p 0x0013 (16 + s * 192 + 188) 4

/-- Ranges of the fields of 0x0014, R227: switchRec. -/
def switchRecRanges (p : Mem) (s : Nat) : List (Nat × Bool) :=
  [
   (s * 128 + 0, let v := cfgLswTetherTimeout p s; decide (2 ≤ v ∧ v ≤ 100)),
   (s * 128 + 2, let v := cfgLswAxisFailsafe p s; decide (v % 4 ≤ 1 ∧ v / 4 % 4 ≤ 1 ∧ v / 16 ≤ 1))
  ]

/-- Reserved fields of 0x0014, R227: switchRec. -/
def switchRecReserved (p : Mem) (s : Nat) : List (Nat × Bool) :=
  reservedField p 0x0014 (s * 128 + 3) 5 ++ reservedField p 0x0014 (s * 128 + 104) 24

/-- Ranges of the fields of 0x0014, R227: switchCh. -/
def switchChRanges (p : Mem) (s : Nat) (k : Nat) : List (Nat × Bool) :=
  [
   (s * 128 + 8 + 16 * k, let v := cfgLswChSource p s k; decide (v ≤ 4)),
   (s * 128 + 9 + 16 * k, let v := cfgLswChFlags p s k; decide (v % 4 ≤ 2 ∧ v < 8)),
   (s * 128 + 10 + 16 * k, let v := cfgLswDtTrip p s k; decide (40 ≤ v ∧ v ≤ 80)),
   (s * 128 + 11 + 16 * k, let v := cfgLswRetryLimit p s k; decide (v ≤ 15)),
   (s * 128 + 12 + 16 * k, let v := cfgLswRetryDelay p s k; decide (10 ≤ v ∧ v ≤ 10000)),
   (s * 128 + 14 + 16 * k, let v := cfgLswRetryReset p s k; decide (1 ≤ v ∧ v ≤ 3600)),
   (s * 128 + 16 + 16 * k, let v := cfgLswParamA p s k; decide (if cfgLswChSource p s k = 2 then v ≤ 3 else if cfgLswChSource p s k = 3 then v ≤ 31 else if cfgLswChSource p s k = 4 then v < 8192 else v = 0)),
   (s * 128 + 18 + 16 * k, let v := cfgLswParamB p s k; decide (if cfgLswChSource p s k = 2 then v ≤ 10000 else v = 0)),
   (s * 128 + 20 + 16 * k, let v := cfgLswParamC p s k; decide (if cfgLswChSource p s k = 2 then v ≤ 10000 else v = 0)),
   (s * 128 + 22 + 16 * k, let v := cfgLswMinCurrent p s k; decide (v = 0 ∨ (5 ≤ v ∧ v ≤ 2000)))
  ]

/-- Ranges of the fields of 0x0015, R248: belayGroup. -/
def belayGroupRanges (p : Mem) (g : Nat) : List (Nat × Bool) :=
  [
   (g * 64 + 0, let v := cfgBlyBudget p g; decide (40 ≤ v ∧ v ≤ 1200)),
   (g * 64 + 2, let v := cfgBlyCurrentWarn p g; decide (40 ≤ v ∧ v ≤ 2000)),
   (g * 64 + 4, let v := cfgBlyWarnConfirm p g; decide (1 ≤ v ∧ v ≤ 100)),
   (g * 64 + 5, let v := cfgBlyGroupFlags p g; decide (v ≤ 1)),
   (g * 64 + 6, let v := cfgBlyWatchdog p g; decide (1 ≤ v ∧ v ≤ 100)),
   (g * 64 + 8, let v := cfgBlyLfsrSeed p g; decide (1 ≤ v ∧ v ≤ 4294967295))
  ]

/-- Reserved fields of 0x0015, R248: belayGroup. -/
def belayGroupReserved (p : Mem) (g : Nat) : List (Nat × Bool) :=
  reservedField p 0x0015 (g * 64 + 12) 4 ++ reservedField p 0x0015 (g * 64 + 48) 16

/-- Ranges of the fields of 0x0015, R248: belayClass. -/
def belayClassRanges (p : Mem) (g : Nat) (c : Nat) : List (Nat × Bool) :=
  [
   (g * 64 + 16 + 4 * c, let v := cfgBlyInrushCurrent p g c; decide (1 ≤ v ∧ v ≤ 800)),
   (g * 64 + 18 + 4 * c, let v := cfgBlyInrushTime p g c; decide (1 ≤ v ∧ v ≤ 10000))
  ]

/-- Ranges of the fields of 0x0015, R249: belayEntry. -/
def belayEntryRanges (p : Mem) (s : Nat) (j : Nat) : List (Nat × Bool) :=
  [
   (128 + s * 48 + 4 * j, let v := cfgBlyClass p s j; decide (v ≤ 7 ∨ v = 255)),
   (128 + s * 48 + 4 * j + 1, let v := cfgBlyTickets p s j; decide (1 ≤ v ∧ v ≤ 255)),
   (128 + s * 48 + 4 * j + 2, let v := cfgBlyDeadlineT p s j; decide (1 ≤ v ∧ v ≤ 10000))
  ]

/-- Reserved fields of 0x0015, R249: belaySlice. -/
def belaySliceReserved (p : Mem) (s : Nat) : List (Nat × Bool) :=
  reservedField p 0x0015 (128 + s * 48 + 36) 12

/-- Ranges of the fields of 0x0020, R283: hwsNode. -/
def hwsNodeRanges (p : Mem) : List (Nat × Bool) :=
  [
   (0, let v := cfgHwsEthertype p; decide (1536 ≤ v)),
   (2, let v := cfgHwsModeCount p; decide (1 ≤ v ∧ v ≤ 8)),
   (3, let v := cfgHwsInitialMode p; decide (v < cfgHwsModeCount p)),
   (4, let v := cfgHwsHwsFlags p; decide (v ≤ 1)),
   (5, let v := cfgHwsStaleLimit p; decide (1 ≤ v ∧ v ≤ 255)),
   (6, let v := cfgHwsAutoReturnCycles p; decide (100 ≤ v ∧ v ≤ 60000))
  ]

/-- Reserved fields of 0x0020, R283: hwsNode. -/
def hwsNodeReserved (p : Mem) : List (Nat × Bool) :=
  reservedField p 0x0020 (8) 24

/-- Ranges of the fields of 0x0020, R284: hwsMode. -/
def hwsModeRanges (p : Mem) (m : Nat) : List (Nat × Bool) :=
  [
   (32 + m * 64 + 0, let v := cfgHwsTCyc p m; decide (v ≤ 3)),
   (32 + m * 64 + 1, let v := cfgHwsFallbackA p m; decide (v ≤ 7 ∨ v = 255)),
   (32 + m * 64 + 2, let v := cfgHwsFallbackB p m; decide (v ≤ 7 ∨ v = 255)),
   (32 + m * 64 + 3, let v := cfgHwsAsyncQuota p m; decide (v ≤ 255)),
   (32 + m * 64 + 4, let v := cfgHwsStaticLenA p m; decide (v = 0 ∨ (30 ≤ v ∧ v ≤ 1484))),
   (32 + m * 64 + 6, let v := cfgHwsStaticLenB p m; decide (v = 0 ∨ (30 ≤ v ∧ v ≤ 1484))),
   (32 + m * 64 + 8, let v := cfgHwsPollSlotsA p m; decide (v ≤ 32)),
   (32 + m * 64 + 9, let v := cfgHwsPollSlotsB p m; decide (v ≤ 32)),
   (32 + m * 64 + 10, let v := cfgHwsPollRespLenA p m; decide (v = 0 ∨ (30 ≤ v ∧ v ≤ 1484))),
   (32 + m * 64 + 12, let v := cfgHwsPollRespLenB p m; decide (v = 0 ∨ (30 ≤ v ∧ v ≤ 1484))),
   (32 + m * 64 + 14, let v := cfgHwsContainersA p m; decide (v ≤ 255)),
   (32 + m * 64 + 15, let v := cfgHwsContainersB p m; decide (v ≤ 255)),
   (32 + m * 64 + 16, let v := cfgHwsContainerLenA p m; decide (v = 0 ∨ (30 ≤ v ∧ v ≤ 1484))),
   (32 + m * 64 + 18, let v := cfgHwsContainerLenB p m; decide (v = 0 ∨ (30 ≤ v ∧ v ≤ 1484))),
   (32 + m * 64 + 20, let v := cfgHwsPollFirst p m; decide (v ≤ 255)),
   (32 + m * 64 + 22, let v := cfgHwsPollCount p m; decide (v ≤ 256))
  ]

/-- Reserved fields of 0x0020, R284: hwsMode. -/
def hwsModeReserved (p : Mem) (m : Nat) : List (Nat × Bool) :=
  reservedField p 0x0020 (32 + m * 64 + 24) 40

/-- Ranges of the fields of 0x0020, R285: hwsEntry. -/
def hwsEntryRanges (p : Mem) (e : Nat) : List (Nat × Bool) :=
  [
   (544 + 8 * e, let v := cfgHwsPosition p e; decide (1 ≤ v ∧ v ≤ 128)),
   (545 + 8 * e, let v := cfgHwsChannel p e; decide (v ≤ 1)),
   (546 + 8 * e, let v := cfgHwsRequest p e; decide (v ≤ 65535)),
   (548 + 8 * e, let v := cfgHwsSelector p e; decide (v ≤ 4294967295))
  ]

/-- Ranges of the fields of 0x0002, R326: hierSec. -/
def hierSecRanges (p : Mem) : List (Nat × Bool) :=
  [
   (0, let v := cfgHierUnitSerial p; decide (1 ≤ v ∧ v ≤ 4294967295)),
   (4, let v := cfgHierUnitCars p; decide (1 ≤ v ∧ v ≤ 8)),
   (5, let v := cfgHierCarIndex p; decide (1 ≤ v ∧ v ≤ cfgHierUnitCars p)),
   (6, let v := cfgHierCarFlags p; decide (v < 16)),
   (7, let v := cfgHierConsistGroup p; decide (v ≤ 255)),
   (8, let v := cfgHierCouplerEnds p; decide (v < 4)),
   (10, let v := cfgHierSplitConfirm p; decide (50 ≤ v ∧ v ≤ 2000)),
   (12, let v := cfgHierMergeWait p; decide (50 ≤ v ∧ v ≤ 1000))
  ]

/-- Reserved fields of 0x0002, R326: hierSec. -/
def hierSecReserved (p : Mem) : List (Nat × Bool) :=
  reservedField p 0x0002 (9) 1 ++ reservedField p 0x0002 (14) 50

/-- Ranges of the fields of 0x0030, R358: busRec. -/
def busRecRanges (p : Mem) (s : Nat) : List (Nat × Bool) :=
  [
   (s * 4800 + 0, let v := cfgBusBusFlags p s; decide (v < 64)),
   (s * 4800 + 1, let v := cfgBusNPrescaler p s; decide (1 ≤ v ∧ v ≤ 32)),
   (s * 4800 + 2, let v := cfgBusNTseg1 p s; decide (2 ≤ v ∧ v ≤ 256)),
   (s * 4800 + 4, let v := cfgBusNTseg2 p s; decide (2 ≤ v ∧ v ≤ 128)),
   (s * 4800 + 5, let v := cfgBusNSjw p s; decide (1 ≤ v ∧ v ≤ cfgBusNTseg2 p s)),
   (s * 4800 + 6, let v := cfgBusDPrescaler p s; decide (v = 0 ∨ (1 ≤ v ∧ v ≤ 32))),
   (s * 4800 + 7, let v := cfgBusDTseg1 p s; decide (v = 0 ∨ (2 ≤ v ∧ v ≤ 32))),
   (s * 4800 + 8, let v := cfgBusDTseg2 p s; decide (v = 0 ∨ (1 ≤ v ∧ v ≤ 16))),
   (s * 4800 + 9, let v := cfgBusDSjw p s; decide (v = 0 ∨ (1 ≤ v ∧ v ≤ cfgBusDTseg2 p s))),
   (s * 4800 + 10, let v := cfgBusTdcOffset p s; decide (v ≤ 127)),
   (s * 4800 + 11, let v := cfgBusBcLen p s; decide (1 ≤ v ∧ v ≤ 64)),
   (s * 4800 + 12, let v := cfgBusRefId p s; decide (if (cfgBusBusFlags p s).testBit 4 then v < 0x20000000 else v < 0x800)),
   (s * 4800 + 16, let v := cfgBusRefOffset p s; decide (v ≤ 500)),
   (s * 4800 + 18, let v := cfgBusMatrixCycles p s; decide (v = 1 ∨ v = 2 ∨ v = 4 ∨ v = 8 ∨ v = 16 ∨ v = 32 ∨ v = 64)),
   (s * 4800 + 19, let v := cfgBusColCount p s; decide (1 ≤ v ∧ v ≤ 32)),
   (s * 4800 + 20, let v := cfgBusTxEnable p s; decide (1 ≤ v ∧ v ≤ 16)),
   (s * 4800 + 21, let v := cfgBusBusOffLimit p s; decide (1 ≤ v ∧ v ≤ 255))
  ]

/-- Reserved fields of 0x0030, R358: busRec. -/
def busRecReserved (p : Mem) (s : Nat) : List (Nat × Bool) :=
  reservedField p 0x0030 (s * 4800 + 22) 58 ++ reservedField p 0x0030 (s * 4800 + 144) 48

/-- Ranges of the fields of 0x0030, R358: busCol. -/
def busColRanges (p : Mem) (s : Nat) (j : Nat) : List (Nat × Bool) :=
  [
   (s * 4800 + 80 + 2 * j, let v := cfgBusColStart p s j; decide (j ≠ 0 ∨ v = 0))
  ]

/-- Ranges of the fields of 0x0030, R358: busTx. -/
def busTxRanges (p : Mem) (s : Nat) (t : Nat) : List (Nat × Bool) :=
  [
   (s * 4800 + 196 + 8 * t, let v := cfgBusTxMode p s t; decide (v ≤ 3)),
   (s * 4800 + 197 + 8 * t, let v := cfgBusTxLen p s t; decide (if (cfgBusTxId p s t).testBit 30 then v ≤ 64 else v ≤ 8))
  ]

/-- Reserved fields of 0x0030, R358: busTx. -/
def busTxReserved (p : Mem) (s : Nat) (t : Nat) : List (Nat × Bool) :=
  reservedField p 0x0030 (s * 4800 + 198 + 8 * t) 2

/-- Ranges of the fields of 0x0030, R358: busRx. Besides [28:0], rx_mask takes 0x2000_0000, with which the text under R358 writes an object that takes every frame, though the table keeps [31:29] at 0 (log entry 165). -/
def busRxRanges (p : Mem) (s : Nat) (r : Nat) : List (Nat × Bool) :=
  [
   (s * 4800 + 320 + 12 * r, let v := cfgBusRxId p s r; decide (v < 0x40000000)),
   (s * 4800 + 324 + 12 * r, let v := cfgBusRxMask p s r; decide (v ≤ 0x20000000)),
   (s * 4800 + 328 + 12 * r, let v := cfgBusRxLen p s r; decide (v ≤ 64))
  ]

/-- Reserved fields of 0x0030, R358: busRx. -/
def busRxReserved (p : Mem) (s : Nat) (r : Nat) : List (Nat × Bool) :=
  reservedField p 0x0030 (s * 4800 + 329 + 12 * r) 3

/-- Ranges of the fields of 0x0030, R358: busCell. -/
def busCellRanges (p : Mem) (s : Nat) (j : Nat) (b : Nat) : List (Nat × Bool) :=
  [
   (s * 4800 + 704 + 2 * (32 * b + j), let v := cfgBusCell p s j b; decide (v < 128 ∧ v / 32 ≤ 2))
  ]

/-- Ranges of the fields of 0x0021, R390: splNode. -/
def splNodeRanges (p : Mem) : List (Nat × Bool) :=
  [
   (0, let v := cfgSplEntryCount p; decide (v ≤ 2048)),
   (2, let v := cfgSplEventSlotsA p; decide (v ≤ 32)),
   (3, let v := cfgSplEventSlotsB p; decide (v ≤ 32)),
   (8, let v := cfgSplUdpPort p; decide (1024 ≤ v ∧ v ≤ 65535)),
   (10, let v := cfgSplPrefixLen p; decide (8 ≤ v ∧ v ≤ 30)),
   (11, let v := cfgSplSplFlags p; decide (v ≤ 1)),
   (12, let v := cfgSplBufferHold p; decide (10 ≤ v ∧ v ≤ 1000)),
   (14, let v := cfgSplRelayTimeout p; decide (10 ≤ v ∧ v ≤ 1000))
  ]

/-- Reserved fields of 0x0021, R390: splNode. -/
def splNodeReserved (p : Mem) : List (Nat × Bool) :=
  reservedField p 0x0021 (48) 16

/-- Ranges of the fields of 0x0021, R390: splWindow. -/
def splWindowRanges (p : Mem) (w : Nat) : List (Nat × Bool) :=
  [
   (16 + 8 * w, let v := cfgSplPfBase p w; decide (v % 4096 = 0)),
   (20 + 8 * w, let v := cfgSplPfSize p w; decide (v % 4096 = 0 ∧ v ≤ 16777216))
  ]

/-- Ranges of the fields of 0x0031, R391: smapRec. -/
def smapRecRanges (p : Mem) (s : Nat) : List (Nat × Bool) :=
  [
   (s * 8208 + 0, let v := cfgSmapEntryCount p s; decide (v ≤ 512))
  ]

/-- Reserved fields of 0x0031, R391: smapRec. -/
def smapRecReserved (p : Mem) (s : Nat) : List (Nat × Bool) :=
  reservedField p 0x0031 (s * 8208 + 2) 14

/-- Ranges of the fields of 0x0040, R424: twinSec. -/
def twinSecRanges (p : Mem) : List (Nat × Bool) :=
  [
   (0, let v := cfgTwnTwinFlags p; decide (v < 4)),
   (1, let v := cfgTwnSwapPoint p; decide (v ≤ 2)),
   (2, let v := cfgTwnSyncAgeLimit p; decide (2 ≤ v ∧ v ≤ 32)),
   (4, let v := cfgTwnSliceFailMs p; decide (v = 0 ∨ (10 ≤ v ∧ v ≤ 10000))),
   (6, let v := cfgTwnPWait p; decide (100 ≤ v ∧ v ≤ 10000)),
   (8, let v := cfgTwnTakebackWindow p; decide (v = 0 ∨ (1 ≤ v ∧ v ≤ 3600))),
   (10, let v := cfgTwnSwapTimeout p; decide (1 ≤ v ∧ v ≤ 3600))
  ]

/-- Reserved fields of 0x0040, R424: twinSec. -/
def twinSecReserved (p : Mem) : List (Nat × Bool) :=
  reservedField p 0x0040 (3) 1 ++ reservedField p 0x0040 (12) 20

/-- Ranges of the fields of 0x0001, R436: roleSec. -/
def roleSecRanges (p : Mem) : List (Nat × Bool) :=
  [
   (0, let v := cfgRoleTwinRole p; decide (v ≤ 1)),
   (2, let v := cfgRoleCarType p; decide (v ≤ 65535)),
   (4, let v := cfgRoleProbationMode p; decide (v ≤ 2)),
   (6, let v := cfgRoleProbationTriggers p; decide (if cfgRoleProbationMode p = 0 then v = 0 else v < 64)),
   (8, let v := cfgRoleProbationLimit p; decide (if cfgRoleProbationMode p = 0 then v = 0 else if cfgRoleProbationMode p = 1 then 1 ≤ v ∧ v ≤ 100000 else 1 ≤ v ∧ v ≤ 8760)),
   (12, let v := cfgRoleSinkTempMax p; decide (25 ≤ v ∧ v ≤ 85)),
   (14, let v := cfgRoleRThCs p; decide (v ≤ 2000))
  ]

/-- Reserved fields of 0x0001, R436: roleSec. -/
def roleSecReserved (p : Mem) : List (Nat × Bool) :=
  reservedField p 0x0001 (1) 1 ++ reservedField p 0x0001 (5) 1 ++ reservedField p 0x0001 (16) 16

/-- Ranges of the fields of 0x0060, R471: secNode. -/
def secNodeRanges (p : Mem) : List (Nat × Bool) :=
  [
   (0, let v := cfgSecPolicyFlags p; decide (v < 16)),
   (1, let v := cfgSecRuleCount p; decide (1 ≤ v ∧ v ≤ 32)),
   (2, let v := cfgSecFwConfirmS p; decide (10 ≤ v ∧ v ≤ 3600)),
   (4, let v := cfgSecImpactThreshold p; decide (10 ≤ v ∧ v ≤ 160)),
   (6, let v := cfgSecHumidityWarn p; decide (20 ≤ v ∧ v ≤ 100))
  ]

/-- Reserved fields of 0x0060, R471: secNode. -/
def secNodeReserved (p : Mem) : List (Nat × Bool) :=
  reservedField p 0x0060 (7) 25

/-- Ranges of the fields of 0x0060, R471: secRule. -/
def secRuleRanges (p : Mem) (j : Nat) : List (Nat × Bool) :=
  [
   (32 + 16 * j, let v := cfgSecClass p j; decide (1 ≤ v ∧ v ≤ 3)),
   (33 + 16 * j, let v := cfgSecRights p j; decide (v < 4)),
   (34 + 16 * j, let v := cfgSecPosition p j; decide (if cfgSecClass p j = 3 then 1 ≤ v ∧ v ≤ 128 else v = 0)),
   (36 + 16 * j, let v := cfgSecBase p j; decide (v % 4096 = 0)),
   (40 + 16 * j, let v := cfgSecSize p j; decide (v % 4096 = 0 ∧ 4096 ≤ v))
  ]

/-- Reserved fields of 0x0060, R471: secRule. -/
def secRuleReserved (p : Mem) (j : Nat) : List (Nat × Bool) :=
  reservedField p 0x0060 (35 + 16 * j) 1 ++ reservedField p 0x0060 (44 + 16 * j) 4

/-- Ranges of the fields of 0x0050, R501: logSec. -/
def logSecRanges (p : Mem) : List (Nat × Bool) :=
  [
   (0, let v := cfgLogLogFlags p; decide (v < 4)),
   (1, let v := cfgLogFlushInterval p; decide (1 ≤ v ∧ v ≤ 10))
  ]

/-- Reserved fields of 0x0050, R501: logSec. -/
def logSecReserved (p : Mem) : List (Nat × Bool) :=
  reservedField p 0x0050 (2) 6 ++ reservedField p 0x0050 (40) 8

end Sys2Proof.Machine
end

