-- ==== Sys2Proof/Machine/BundleCheck.lean ====
section
/-! DEFINITION. Verification and validation of a configuration bundle (R432 to R439, R556): the checks of R437 over the bytes of a plug slot. Of several failing fields the one of the lowest section and offset is reported (DESIGN CHOICE, log entry 40). -/

namespace Sys2Proof.Machine

/-! ### Reading a slot (R426, R432 to R435) -/

/-- Base of slot `i` in the plug (R426). -/
def slotBase (i : Nat) : Nat := 0x800000 * (i + 1)

def norLe (nor : Mem) (a n : Nat) : Nat := memGetLe norDefault nor a n
def norBytes (nor : Mem) (a n : Nat) : List Byte := memGetBytes norDefault nor a n

/-- A section of the section area (R433). -/
structure SecAt where
  ty : Nat
  fmt : Nat
  len : Nat
  at_ : Nat
deriving DecidableEq, Repr

/-- `n` sections from `a` to exactly `stop`, with the place where the walk breaks off otherwise. -/
def walkSections (nor : Mem) (stop : Nat) : Nat → Nat → List SecAt × Bool
  | 0, a => ([], decide (a = stop))
  | n + 1, a =>
    let len := norLe nor (a + 4) 4
    let next := a + 8 + (len + 7) / 8 * 8
    if stop < next then ([], false)
    else
      let r := walkSections nor stop n next
      (⟨norLe nor a 2, norLe nor (a + 2) 2, len, a + 8⟩ :: r.1, r.2)

/-- Put a section's value into the parameter memory, with its length at 0xFFFF0. -/
def loadSection (nor : Mem) (p : Mem) (x : SecAt) : Mem :=
  memSetLe ramDefault (memSetBytes ramDefault p (cfgKey x.ty 0) (norBytes nor x.at_ x.len)) (cfgKey x.ty 0xFFFF0) 4 x.len

/-- The parameters that the sections of a slot give (R24). -/
def slotParams (nor : Mem) (slot : Nat) : Mem :=
  let b := slotBase slot
  let w := walkSections nor (b + 128 + norLe nor (b + 96) 4) (norLe nor (b + 28) 2) (b + 128)
  w.1.foldl (loadSection nor) []

/-! ### Structure (check 9) -/

/-- The length a section must have (R434), given its own counts. -/
def sectionLength (p : Mem) (ty : Nat) : Nat :=
  match ty with
  | 0x01 => 32
  | 0x02 => 64
  | 0x10 => 1040
  | 0x11 => 10752
  | 0x12 => 3072
  | 0x13 => 3088
  | 0x14 => 2048
  | 0x15 => 896
  | 0x20 => 544 + 8 * ((secLen p 0x20 - 544) / 8)
  | 0x21 => 64 + 16 * cfgSplEntryCount p
  | 0x30 => 76800
  | 0x31 => 131328
  | 0x40 => 32
  | 0x50 => 48
  | _ => 544

def requiredSections : List Nat := [0x01, 0x02, 0x10, 0x11, 0x12, 0x13, 0x14, 0x15, 0x20, 0x21, 0x40, 0x50, 0x60]
def optionalSections : List Nat := [0x30, 0x31]

/-- The first section out of order, unknown, of another format or length, or with padding that is not 0. -/
def badSection (nor p : Mem) (prev : Nat) : List SecAt → Option Nat
  | [] => none
  | x :: t =>
    let pad := norBytes nor (x.at_ + x.len) ((x.len + 7) / 8 * 8 - x.len)
    if x.ty ≤ prev ∨ x.ty ∉ requiredSections ++ optionalSections ∨ x.fmt ≠ 1 ∨ x.len ≠ sectionLength p x.ty ∨ ¬ pad.all (fun b => decide (b = 0))
    then some x.ty else badSection nor p x.ty t

/-- Check 9: the failing section's type, 0 for the area as a whole. -/
def structureFault (nor p : Mem) (slot : Nat) : Option Nat :=
  let b := slotBase slot
  let w := walkSections nor (b + 128 + norLe nor (b + 96) 4) (norLe nor (b + 28) 2) (b + 128)
  match badSection nor p 0 w.1 with
  | some t => some t
  | none =>
    if !w.2 then some 0
    else requiredSections.find? fun t => !(w.1.any fun x => decide (x.ty = t))

/-! ### What is in use (R556) -/

def enabledPortal (p : Mem) (s : Nat) : Bool := (cfgPrtPortalEnable p).testBit s
def axisUsed (p : Mem) (s a : Nat) : Bool := enabledPortal p s && decide (cfgAxRole p s a ≠ 0)
def busUsed (p : Mem) (s : Nat) : Bool := (cfgBusBusFlags p s).testBit 0
def groupUsed (p : Mem) (g : Nat) : Bool := (cfgBlyGroupFlags p g).testBit 0

/-- The whole enrolment record of a slice is 0. -/
def enrolmentZero (p : Mem) (s : Nat) : Bool := (zeros p 0x15 (128 + s * 48) 48).all (·.2)

/-- An enrolment entry is in use: its class is not 0xFF. An all-zero record of a portal that is not enabled enrols nothing, as the last sentence of R556 asks (DEDUCED, log entry 41). -/
def enrolledEntry (p : Mem) (s j : Nat) : Bool :=
  decide (cfgBlyClass p s j ≠ 255) && (enabledPortal p s || !enrolmentZero p s)

def namedClass (p : Mem) (g c : Nat) : Bool :=
  (List.range 8).any fun k => (List.range 9).any fun j => enrolledEntry p (g * 8 + k) j && decide (cfgBlyClass p (g * 8 + k) j = c)

/-- Keep checks of what is in use. -/
def whenUsed (b : Bool) (l : List (Nat × Bool)) : List (Nat × Bool) := if b then l else []

/-- Ranges that decide use stand first in their record: the field at `off` alone. -/
def deciding (off : Nat) (l : List (Nat × Bool)) : List (Nat × Bool) := l.filter fun x => decide (x.1 = off)

def pollEntries (p : Mem) : Nat := (secLen p 0x20 - 544) / 8

/-- Slices, axes, and pairs of them. -/
def slices16 : List Nat := List.range 16
def axes48 : List (Nat × Nat) := slices16.flatMap fun s => [(s, 0), (s, 1), (s, 2)]

/-! ### Ranges (check 10) -/

/-- A mapping entry lies in the layout of R361. -/
def entryRanges (p : Mem) (ty off : Nat) (kinds : List Nat) : List (Nat × Bool) :=
  let m := mapEntry p ty off
  (off, decide (m.kind ∈ kinds)) ::
    (if m.kind = 0 then [] else
      [(off + 1, decide (m.flags < 128 ∧ m.sourceBy ≤ 2)),
       (off + 2, decide (if m.kind = 1 then (if m.sourceBy = 0 then 1 ≤ m.ref ∧ m.ref ≤ 128 else if m.sourceBy = 1 then 1 ≤ m.ref ∧ m.ref ≤ 64 else m.ref = 0)
         else m.kind = 2 ∨ m.ref = 0)),
       (off + 4, decide (1 ≤ m.width ∧ m.width ≤ 4096)),
       (off + 6, decide (m.srcBit ≤ 7)), (off + 7, decide (m.dstBit ≤ 7)),
       (off + 8, decide (m.kind ≠ 1 ∨ m.src ≤ 1483))])

def rangeSection (p : Mem) (ty : Nat) : List (Nat × Bool) :=
  match ty with
  | 0x01 => roleSecRanges p ++ roleSecReserved p
  | 0x02 => hierSecRanges p ++ hierSecReserved p
  | 0x10 => portalNodeRanges p ++ portalNodeReserved p ++
      slices16.flatMap fun s => whenUsed (enabledPortal p s) (portalRecRanges p s) ++ portalRecReserved p s
  | 0x11 => axes48.flatMap fun x =>
      (if axisUsed p x.1 x.2 then axisRecRanges p x.1 x.2 ++ (List.range 4).flatMap fun j => axisSetRanges p x.1 x.2 j ++ axisBreakRanges p x.1 x.2 j
       else deciding ((x.1 * 3 + x.2) * 224 + 0) (axisRecRanges p x.1 x.2)) ++ axisRecReserved p x.1 x.2
  | 0x12 => axes48.flatMap fun x => whenUsed (axisUsed p x.1 x.2) (driveRecRanges p x.1 x.2) ++ driveRecReserved p x.1 x.2
  | 0x13 => inputNodeRanges p ++ inputNodeReserved p ++ slices16.flatMap fun s =>
      let on := enabledPortal p s
      whenUsed on (inputRecRanges p s) ++ inputRecReserved p s ++
      ((List.range 16).flatMap fun i => whenUsed on (inputDigRanges p s i) ++ inputDigReserved p s i) ++
      ((List.range 4).flatMap fun k => if on && decide (cfgInpAnMode p s k ≠ 0) then inputAnRanges p s k
        else deciding (16 + s * 192 + 128 + 8 * k) (inputAnRanges p s k)) ++
      ((List.range 3).flatMap fun k => if on && decide (cfgInpEncMode p s k ≠ 0) then inputEncRanges p s k
        else deciding (16 + s * 192 + 160 + 8 * k) (inputEncRanges p s k))
  | 0x14 => slices16.flatMap fun s =>
      let on := enabledPortal p s
      whenUsed on (switchRecRanges p s) ++ switchRecReserved p s ++
      ((List.range 6).flatMap fun k => if on && decide (cfgLswChSource p s k ≠ 0) then switchChRanges p s k
        else deciding (s * 128 + 8 + 16 * k) (switchChRanges p s k))
  | 0x15 =>
      ((List.range 2).flatMap fun g =>
        (if groupUsed p g then belayGroupRanges p g else deciding (g * 64 + 5) (belayGroupRanges p g)) ++ belayGroupReserved p g ++
        (List.range 8).flatMap fun c => whenUsed (namedClass p g c) (belayClassRanges p g c)) ++
      (slices16.flatMap fun s => belaySliceReserved p s ++ (List.range 9).flatMap fun j =>
        if enrolledEntry p s j then belayEntryRanges p s j else deciding (128 + s * 48 + 4 * j) (belayEntryRanges p s j))
  | 0x20 => hwsNodeRanges p ++ hwsNodeReserved p ++
      ((List.range 8).flatMap fun m => (if m < cfgHwsModeCount p then hwsModeRanges p m else zeroFields p 0x20 (32 + m * 64) [(0, 1), (1, 1), (2, 1), (3, 1), (4, 2), (6, 2), (8, 1), (9, 1), (10, 2), (12, 2), (14, 1), (15, 1), (16, 2), (18, 2), (20, 2), (22, 2)]) ++ hwsModeReserved p m) ++
      ((List.range (pollEntries p)).flatMap fun e => hwsEntryRanges p e)
  | 0x21 => splNodeRanges p ++ splNodeReserved p ++ ((List.range 4).flatMap fun w => splWindowRanges p w) ++
      ((List.range (cfgSplEntryCount p)).flatMap fun i => entryRanges p 0x21 (64 + 16 * i) [0, 1, 2, 3])
  | 0x30 => slices16.flatMap fun s =>
      let on := busUsed p s
      (if on then busRecRanges p s else deciding (s * 4800 + 0) (busRecRanges p s)) ++ busRecReserved p s ++
      ((List.range 32).flatMap fun j => whenUsed on (busColRanges p s j)) ++
      ((List.range 16).flatMap fun t => (if on && decide (cfgBusTxMode p s t ≠ 0) then busTxRanges p s t
        else deciding (s * 4800 + 196 + 8 * t) (busTxRanges p s t)) ++ busTxReserved p s t) ++
      ((List.range 32).flatMap fun r => (if on && decide (cfgBusRxMask p s r ≠ 0) then busRxRanges p s r
        else deciding (s * 4800 + 324 + 12 * r) (busRxRanges p s r)) ++ busRxReserved p s r) ++
      (if on then (List.range 64).flatMap fun b => (List.range 32).flatMap fun j => busCellRanges p s j b else [])
  | 0x31 => slices16.flatMap fun s => smapRecRanges p s ++ smapRecReserved p s ++
      (List.range (min 512 (cfgSmapEntryCount p s))).flatMap fun i => entryRanges p 0x31 (s * 8208 + 16 + 16 * i) [0, 3]
  | 0x40 => twinSecRanges p ++ twinSecReserved p
  | 0x50 => logSecRanges p ++ logSecReserved p
  | _ => secNodeRanges p ++ secNodeReserved p ++
      (List.range 32).flatMap fun j => whenUsed (decide (j < cfgSecRuleCount p)) (secRuleRanges p j) ++ secRuleReserved p j

/-- The lowest failing offset of a list of checks. -/
def lowestFault (l : List (Nat × Bool)) : Option Nat := (l.filter fun x => !x.2).map (·.1) |>.min?

/-- The sections in ascending order of type. -/
def allSections : List Nat := [0x01, 0x02, 0x10, 0x11, 0x12, 0x13, 0x14, 0x15, 0x20, 0x21, 0x30, 0x31, 0x40, 0x50, 0x60]

/-- The lowest section with a fault, and its lowest offset. -/
def firstFault (f : Nat → List (Nat × Bool)) : Option (Nat × Nat) :=
  allSections.findSome? fun t => (lowestFault (f t)).map fun o => (t, o)

/-! ### Section rules (check 11) -/

/-- Longest and shortest T_CYC of the valid modes, ns. -/
def modeTimes (p : Mem) : List Nat := (List.range (cfgHwsModeCount p)).map fun m => cycleNs (cfgHwsTCyc p m)
def longestCycle (p : Mem) : Nat := (modeTimes p).foldl max 0
def shortestCycle (p : Mem) : Nat := (modeTimes p).foldl min 4000000

/-- The input roles of a portal in record order (R89, R90): record offset and input. -/
def inputRoles (p : Mem) (s : Nat) : List (Nat × Nat) :=
  [(2, cfgPrtInS1 p s), (3, cfgPrtInS2 p s), (4, cfgPrtInStepStowed p s), (5, cfgPrtInIsolation p s), (6, cfgPrtInEgress p s),
   (7, cfgPrtInAccess p s), (8, cfgPrtInOpenInside p s), (9, cfgPrtInOpenOutside p s), (10, cfgPrtInClose p s)]

/-- R90. -/
def portalRules (p : Mem) (s : Nat) : List (Nat × Bool) :=
  let b := 16 + s * 64
  let f := cfgPrtFlags p s
  let roles := inputRoles p s
  (roles.map fun x => (b + x.1, !(roles.any fun y => decide (y.1 < x.1) && decide (y.2 = x.2) && decide (x.2 ≠ 255)))) ++
  [(b + 2, decide (cfgPrtInS1 p s ≠ 255)), (b + 3, decide (cfgPrtInS2 p s ≠ 255)),
   (b + 13, decide (cfgPrtLampChannel p s ≠ cfgPrtBuzzerChannel p s ∧ cfgPrtLampChannel p s ≠ cfgPrtUnlockChannel p s ∧
     cfgPrtBuzzerChannel p s ≠ cfgPrtUnlockChannel p s)),
   (b + 11, f.testBit 4 || decide (cfgPrtUnlockChannel p s ≠ 255)),
   (b + 1, !f.testBit 3 || decide (cfgAxRole p s 2 = 2)),
   (b + 1, !f.testBit 4 || decide (cfgLswChFlags p s 0 % 4 ≠ 0)),
   (b + 5, !f.testBit 2 || decide (cfgPrtInIsolation p s ≠ 255))]

/-- A slice's surroundings for functions of the configuration alone. -/
def configEnv (p : Mem) (s : Nat) : Env := ⟨0, 0, 0, 0, p, s, false, false, false, 0, 0, false, none, false, false, 0⟩

/-- R95, R103, R121, R126, R128, R134 for an axis in use. An encoder has no home position, so that the check of R126 on f(home_position of the master) does not arise for the sources ENC0 to ENC2 (log entry 154). -/
def axisRules (p : Mem) (s a : Nat) : List (Nat × Bool) :=
  let e := configEnv p s
  let b := (s * 3 + a) * 224
  let role := cfgAxRole p s a
  let geared := e.geared a
  let src := cfgAxGearSource p s a
  let spm := cfgAxStepsPerMm p s a
  let home := cfgAxHomePosition p s a
  let confirm := cfgAxHomeConfirmInput p s a
  [(b + 12, decide (role ≠ 1 ∨ (cfgAxSoftMax p s a - cfgAxSoftMin p s a) * 65536 ≤ 1200 * spm)),
   (b + 148, decide (70 * spm ≤ cfgAxHomeSpeed p s a * 65536)),
   (b + 148, decide (cfgDrvLambdaValidSpeed p s a ≤ cfgAxHomeSpeed p s a)),
   (b + 3, !geared || decide (src < 4) || (decide (src - 4 ≠ a) && !e.geared (src - 4) && decide (cfgAxRole p s (src - 4) ≠ 0))),
   (b + 172, !geared || decide (src < 4) || decide ((e.gearDemand a (cfgAxHomePosition p s (src - 4)) - home).natAbs ≤ cfgAxGearLagLimit p s a)),
   (b + 1, !geared || decide (role ≠ 1) || e.leafAxis.isSome),
   (b + 145, decide (confirm = 255) || (inputRoles p s).all fun x => decide (x.1 = 2 ∨ x.1 = 4 ∨ x.2 ≠ confirm)),
   (if e.dirInvert a then b + 8 else b + 12, geared || (if e.dirInvert a then decide (cfgAxSoftMin p s a ≤ home) else decide (home ≤ cfgAxSoftMax p s a)))] ++
  ((List.range 4).flatMap fun j =>
    [(b + 16 + 32 * j, decide (cfgAxVStart p s a j ≤ cfgAxV1 p s a j)), (b + 24 + 32 * j, decide (cfgAxV1 p s a j ≤ cfgAxVMax p s a j)),
     (b + 44 + 32 * j, decide (cfgAxVStop p s a j ≤ cfgAxV1 p s a j)),
     (b + 184 + 8 * j, decide (j < cfgAxGearBreakCount p s a ∨ (cfgAxBreakPos p s a j = 0 ∧ cfgAxBreakRatio p s a j = 0)))])

/-- R171 of an axis of role 0 in an enabled portal: obstacle_enable is clear. The clause stands although such an axis's record is not in use (R556, log entry 153). -/
def idleDriveRules (p : Mem) (s a : Nat) : List (Nat × Bool) := [((s * 3 + a) * 64, !(cfgDrvDriveFlags p s a).testBit 1)]

/-- R145, R171 for an axis in use. -/
def driveRules (p : Mem) (s a : Nat) : List (Nat × Bool) :=
  let b := (s * 3 + a) * 64
  let f := cfgDrvDriveFlags p s a
  let role := cfgAxRole p s a
  [(b + 4, decide (cfgDrvHoldCurrent p s a ≤ cfgDrvRunCurrent p s a)),
   (b + 6, !f.testBit 3 || decide (cfgDrvRunCurrent p s a ≤ cfgDrvBoostCurrent p s a)),
   (b + 8, decide (cfgDrvLambdaValidSpeed p s a ≤ cfgDrvModeThreshold p s a)),
   (b + 12, decide (60 * cfgAxStepsPerMm p s a ≤ cfgDrvLambdaValidSpeed p s a * 65536)),
   (b, decide (role ≠ 1) || !f.testBit 1 || f.testBit 0),
   (b + 1, decide (cfgDrvEdgeInput p s a = 255 ∨ role = 1 ∨ role = 3 ∨ role = 4)),
   (b + 40, if (cfgAxFlags p s a).testBit 0 then decide (cfgDrvEnvSpan p s a < 0) else decide (0 < cfgDrvEnvSpan p s a))]

/-- R197. -/
def inputRules (p : Mem) (s : Nat) : List (Nat × Bool) :=
  let b := 16 + s * 192
  ((List.range 4).map fun k => (b + 132 + 8 * k, decide (cfgInpAnMode p s k ≠ 1) ||
    decide (cfgInpShortMax p s k < cfgInpPressMax p s k ∧ cfgInpPressMax p s k < cfgInpNormMax p s k))) ++
  ((List.range 3).filter (fun a => axisUsed p s a)).flatMap (fun a =>
    let k := cfgDrvEdgeInput p s a
    let src := cfgAxGearSource p s a
    [(b + 128 + 8 * k, decide (k = 255 ∨ cfgInpAnMode p s k = 1)),
     (b + 160 + 8 * src, decide (¬ (cfgAxFlags p s a).testBit 2 ∨ 3 ≤ src ∨ cfgInpEncMode p s src ≠ 0))]) ++
  (List.range 3).flatMap fun k =>
    let m := cfgInpEncMode p s k
    let f := cfgInpEncFlags p s k
    [(b + 161 + 8 * k, decide (m ≠ 2) || !f.testBit 0),
     (b + 162 + 8 * k, decide (m ≠ 2) || !f.testBit 3 || decide (4 ≤ cfgInpCountsPerIndex p s k)),
     (b + 184, decide (m = 0 ∨ cfgInpEncSupply p s ≠ 0))]

/-- R216, R228. -/
def switchRules (p : Mem) (s : Nat) : List (Nat × Bool) :=
  let b := s * 128
  let named (k : Nat) : Bool := decide (k = cfgPrtLampChannel p s ∨ k = cfgPrtBuzzerChannel p s ∨ k = cfgPrtUnlockChannel p s)
  (b, decide (2 * longestCycle p ≤ ms (cfgLswTetherTimeout p s))) ::
  (List.range 6).flatMap fun k =>
    let c := b + 8 + 16 * k
    let src := cfgLswChSource p s k
    (c, if k = 0 || named k then decide (src = 1) else decide (src ≠ 1)) ::
    whenUsed (decide (src ≠ 0))
      [(c + 1, decide (cfgLswChFlags p s k % 4 ≠ 1 ∨ (k ≠ cfgPrtUnlockChannel p s ∧ src ≠ 3))),
       (c + 8, decide (src ≠ 2 ∨ cfgInpAnMode p s (cfgLswParamA p s k) = 2)),
       (c + 10, decide (src ≠ 2 ∨ cfgLswParamB p s k < cfgLswParamC p s k)),
       (c + 14, decide (cfgLswMinCurrent p s k ≤ if k < 2 then 4000 else 1500))]

/-- The enrolled entries of a group in order. -/
def enrolledIn (p : Mem) (g : Nat) : List (Nat × Nat) :=
  ((List.range 8).flatMap fun k => (List.range 9).map fun j => (g * 8 + k, j)).filter fun x => enrolledEntry p x.1 x.2

/-- R250. -/
def belayRules (p : Mem) : List (Nat × Bool) :=
  (List.range 2).flatMap fun g =>
    (g * 64, decide ((enrolledIn p g).length ≤ 48)) ::
    (g * 64 + 5, !groupUsed p g || (List.range 8).any fun k => enabledPortal p (g * 8 + k)) ::
    (enrolledIn p g).flatMap fun x =>
      let off := 128 + x.1 * 48 + 4 * x.2
      [(off, groupUsed p g && enabledPortal p x.1),
       (off, if x.2 < 6 then decide (cfgLswChSource p x.1 x.2 ≠ 0) else decide (cfgAxRole p x.1 (x.2 - 6) ≠ 0) && !(cfgAxFlags p x.1 (x.2 - 6)).testBit 2),
       (off, decide (cfgBlyInrushCurrent p g (cfgBlyClass p x.1 x.2) ≤ cfgBlyBudget p g))]

/-- R265, R286. -/
def modeRules (p : Mem) (m : Nat) : List (Nat × Bool) :=
  let b := 32 + m * 64
  let ring := 281600
  let t := cycleNs (cfgHwsTCyc p m)
  let part (c : Fin 2) (k : Nat) : Bool :=
    let x := chanMode p k c
    decide (x.static = 0 ∧ x.slots = 0 ∧ x.respLen = 0 ∧ x.containers = 0 ∧ x.contLen = 0)
  let fall (c : Fin 2) (k : Nat) : Bool := decide (k = 255) || (decide (k < cfgHwsModeCount p) && part c k)
  let entries := (List.range' (cfgHwsPollFirst p m) (cfgHwsPollCount p m))
  let polled (c : Nat) : Bool := entries.any fun e => decide (cfgHwsChannel p e = c)
  [(b, decide (leadNs + trainEnd (chanMode p m 0) 128 ring + ring + 2000 ≤ t)),
   (b, decide (leadNs + trainEnd (chanMode p m 1) 128 ring + ring + 2000 ≤ t)),
   (b + 10, decide (cfgHwsPollRespLenA p m = 0 ↔ cfgHwsPollSlotsA p m = 0)), (b + 12, decide (cfgHwsPollRespLenB p m = 0 ↔ cfgHwsPollSlotsB p m = 0)),
   (b + 16, decide (cfgHwsContainerLenA p m = 0 ↔ cfgHwsContainersA p m = 0)), (b + 18, decide (cfgHwsContainerLenB p m = 0 ↔ cfgHwsContainersB p m = 0)),
   (b + 20, decide (cfgHwsPollFirst p m + cfgHwsPollCount p m ≤ pollEntries p)),
   (b + 8, decide (cfgHwsPollSlotsA p m = 0) || polled 0), (b + 9, decide (cfgHwsPollSlotsB p m = 0) || polled 1),
   (b + 1, fall 0 (cfgHwsFallbackA p m)), (b + 2, fall 1 (cfgHwsFallbackB p m)),
   (b + 4, decide (cfgHwsStaticLenA p m ≠ 0 ∨ cfgHwsStaticLenB p m ≠ 0))]

/-- R327. -/
def hierRules (p : Mem) : List (Nat × Bool) :=
  let first := decide (cfgHierCarIndex p = 1)
  let last := decide (cfgHierCarIndex p = cfgHierUnitCars p)
  let rev := (cfgHierCarFlags p).testBit 0
  let fore := (first && !rev) || (last && rev)
  let aft := (last && !rev) || (first && rev)
  [(5, decide (cfgHierCarIndex p ≤ cfgHierUnitCars p)),
   (8, (!(cfgHierCouplerEnds p).testBit 0 || fore) && (!(cfgHierCouplerEnds p).testBit 1 || aft)),
   (6, !(cfgHierCarFlags p).testBit 2 || fore)]

/-- R331, R347, R359 for a slice with its bus enabled. -/
def busRules (p : Mem) (s : Nat) : List (Nat × Bool) :=
  let e := configEnv p s
  let b := s * 4800
  let f := cfgBusBusFlags p s
  let fd := f.testBit 1
  let txs := (List.range 16).filter fun t => decide (cfgBusTxMode p s t ≠ 0)
  [(b, enabledPortal p s),
   (b + 1, decide (e.nominalBit ∈ [8000, 4000, 2000, 1000])),
   (b + 6, if fd then decide (e.dataBit ∈ [1000, 500, 250, 200] ∧ e.dataBit ≤ e.nominalBit)
     else decide (cfgBusDPrescaler p s = 0 ∧ cfgBusDTseg1 p s = 0 ∧ cfgBusDTseg2 p s = 0 ∧ cfgBusDSjw p s = 0)),
   (b + 11, !f.testBit 2 || decide (1000000 ≤ cfgBusBcLen p s * shortestCycle p))] ++
  (txs.flatMap fun t =>
    let id := cfgBusTxId p s t
    [(b + 192 + 8 * t, fd || (!id.testBit 30 && !id.testBit 31)), (b + 192 + 8 * t, !id.testBit 31 || id.testBit 30),
     (b + 197 + 8 * t, decide (cfgBusTxLen p s t ≤ 8) || id.testBit 30)]) ++
  ((List.range 64).flatMap fun k => (List.range 32).map fun j =>
    (b + 704 + 2 * (32 * k + j), decide (cfgBusCell p s j k = 0 ∨ (k < cfgBusMatrixCycles p s ∧ j < cfgBusColCount p s)))) ++
  (match e.bankFailure (shortestCycle p) e.configBank with
   | some (k, j) => [(b + 704 + 2 * (32 * k + j), false)]
   | none => [])

/-- A mapping entry with its section and offset, and the slice whose record holds it. -/
structure EntryAt where
  ty : Nat
  off : Nat
  slice : Option Nat
  m : MapEntry
deriving DecidableEq, Repr

def mapEntries (p : Mem) : List EntryAt :=
  ((List.range (cfgSplEntryCount p)).map (fun i => (⟨0x21, 64 + 16 * i, none, mapEntry p 0x21 (64 + 16 * i)⟩ : EntryAt)) ++
    slices16.flatMap fun s => (List.range (cfgSmapEntryCount p s)).map fun i =>
      (⟨0x31, s * 8208 + 16 + 16 * i, some s, mapEntry p 0x31 (s * 8208 + 16 + 16 * i)⟩ : EntryAt)).filter fun x => decide (x.m.kind ≠ 0)

/-- The destination bits of an entry, from and up to, in bits. -/
def MapEntry.dstFrom (m : MapEntry) : Nat := m.dst * 8 + m.dstBit
def MapEntry.dstTo (m : MapEntry) : Nat := m.dst * 8 + m.dstBit + m.width

/-- Destinations of the same space overlap (R392). -/
def MapEntry.clashes (x y : MapEntry) : Bool :=
  decide (x.kind = y.kind) && (decide (x.kind ≠ 2) || (decide (x.channel = y.channel) && decide (x.ref = y.ref))) &&
    decide (x.dstFrom < y.dstTo) && decide (y.dstFrom < x.dstTo)

/-- The data section of a channel's static frame in a mode with one, and the shortest response (R383, R392). -/
def staticRoom (p : Mem) (c : Fin 2) : List Nat :=
  (List.range (cfgHwsModeCount p)).filterMap fun m =>
    let n := (chanMode p m c).static
    if n = 0 then none else some (n - 8 * (if c = 0 then cfgSplEventSlotsA p else cfgSplEventSlotsB p))

/-- The destination of an entry lies where its kind allows (R392). -/
def dstAllowed (p : Mem) (x : EntryAt) : Bool :=
  let m := x.m
  let last := m.dst + spanBytes m.dstBit m.width
  match x.slice with
  | some s =>
    (decide (0x4000 + s * 0x400 ≤ m.dst) && decide (last ≤ 0x4400 + s * 0x400)) || (decide (0x40 + 4 * s ≤ m.dst) && decide (last ≤ 0x44 + 4 * s))
  | none =>
    if m.kind = 1 then decide (0x800 ≤ m.dst) && decide (last ≤ 0x10000)
    else if m.kind = 2 then
      if m.ref = 0 then decide (12 ≤ m.dst) && (staticRoom p m.channel).all fun n => decide (last ≤ n)
      else (List.range (cfgHwsModeCount p)).all fun k => decide (last ≤ (chanMode p k m.channel).respLen)
    else decide (last ≤ 0x2000) && (decide (last ≤ 4) || decide (0x40 ≤ m.dst))

/-- R392 for one entry; `rest` are the entries before it. -/
def entryRules (small : Bool) (p : Mem) (rest : List EntryAt) (x : EntryAt) : List (Nat × Bool) :=
  let m := x.m
  let srcEnd := m.src + spanBytes m.srcBit m.width
  [(x.off, match x.slice with | some s => decide (m.kind = 3) && enabledPortal p s | none => true),
   (x.off + 8, if m.kind = 1 then decide (srcEnd ≤ 1484) else decide (srcEnd ≤ 0x3C000 ∧ (¬ small ∨ srcEnd ≤ 0x10000 ∨ 0x20000 ≤ m.src))),
   (x.off + 12, dstAllowed p x),
   (x.off + 12, !(rest.any fun y => y.m.clashes m)),
   (x.off + 1, !m.swap || decide ((m.width = 16 ∨ m.width = 32 ∨ m.width = 64) ∧ m.srcBit = 0 ∧ m.dstBit = 0)),
   (x.off + 1, !m.copyAge || decide (m.width = 8)),
   (x.off + 1, !(m.staleZero && m.copyAge))]

def entriesRules (small : Bool) (p : Mem) : List EntryAt → List EntryAt → List (EntryAt × List (Nat × Bool))
  | _, [] => []
  | seen, x :: t => (x, entryRules small p seen x) :: entriesRules small p (seen ++ [x]) t

/-- The windows of the address map (R517). -/
def mapWindows (small : Bool) : List (Nat × Nat) :=
  [(0x00000000, 0x100000), (0x01000000, 0x100000), (0x01100000, 0x100000), (0x01200000, 0x100000), (0x01300000, 0x8000)] ++
  (if small then [] else [(0x01308000, 0x8000)]) ++
  [(0x02000000, 0x100000), (0x02100000, 0x100000), (0x02200000, 0x100000), (0x03000000, 0x40000)] ++
  (List.range (if small then 8 else 16)).map fun s => (0x04000000 + s * 0x10000, 0x10000)

/-- A range stays inside the address map: every 4 KiB page of it lies in a window. -/
def insideMap (small : Bool) (base size : Nat) : Bool :=
  decide (base + size ≤ 0x04100000) && (List.range (min 0x4100 (size / 4096))).all fun k =>
    (mapWindows small).any fun w => decide (w.1 ≤ base + k * 4096) && decide (base + k * 4096 < w.1 + w.2)

/-- Two prefetch windows, both used (R390) and neither empty, overlap. -/
def windowsOverlap (p : Mem) (w v : Nat) : Bool :=
  let b (x : Nat) : Nat := cfgSplPfBase p x
  let n (x : Nat) : Nat := if b x = 0 then 0 else cfgSplPfSize p x
  decide (n w ≠ 0 ∧ n v ≠ 0 ∧ b w < b v + n v ∧ b v < b w + n w)

/-- R392 of the prefetch windows: one whose base is 0 is not used (R390). -/
def windowRules (small : Bool) (p : Mem) : List (Nat × Bool) :=
  (List.range 4).flatMap fun w =>
    if cfgSplPfBase p w = 0 then [] else
      [(16 + 8 * w, insideMap small (cfgSplPfBase p w) (cfgSplPfSize p w)), (16 + 8 * w, (List.range w).all fun v => !windowsOverlap p w v)]

/-- R424. -/
def twinRules (p : Mem) : List (Nat × Bool) :=
  let n := ms (cfgTwnSliceFailMs p)
  [(0, decide ((cfgTwnTwinFlags p).testBit 0 = (cfgHierCarFlags p).testBit 3)),
   (4, decide (n = 0) || (decide (3 * longestCycle p ≤ n) &&
     slices16.all fun s => !enabledPortal p s || decide (ms (cfgLswTetherTimeout p s) ≤ n)))]

/-- The first rule of the service port that holds a page decides its rights (R469). -/
def serviceRights (p : Mem) (page : Nat) : Nat :=
  match (List.range (cfgSecRuleCount p)).find? fun j => decide (cfgSecClass p j = 1 ∧ cfgSecBase p j ≤ page ∧ page + 4096 ≤ cfgSecBase p j + cfgSecSize p j) with
  | some j => cfgSecRights p j
  | none => 0

/-- R473. -/
def policyRules (small : Bool) (p : Mem) : List (Nat × Bool) :=
  ((List.range 32).flatMap fun j =>
    if j < cfgSecRuleCount p then [(36 + 16 * j, insideMap small (cfgSecBase p j) (cfgSecSize p j))]
    else zeroFields p 0x60 (32 + 16 * j) [(0, 1), (1, 1), (2, 1), (3, 1), (4, 4), (8, 4), (12, 4)]) ++
  [(1, (List.range 256).all fun k => decide (serviceRights p (0x02000000 + 4096 * k) = 3) && decide (serviceRights p (0x02200000 + 4096 * k) = 3))]

def ruleSection (small : Bool) (p : Mem) (ty : Nat) : List (Nat × Bool) :=
  match ty with
  | 0x02 => hierRules p
  | 0x10 => slices16.flatMap fun s => whenUsed (enabledPortal p s) (portalRules p s)
  | 0x11 => axes48.flatMap fun x => whenUsed (axisUsed p x.1 x.2) (axisRules p x.1 x.2)
  | 0x12 => axes48.flatMap fun x => if axisUsed p x.1 x.2 then driveRules p x.1 x.2 else whenUsed (enabledPortal p x.1) (idleDriveRules p x.1 x.2)
  | 0x13 => slices16.flatMap fun s => whenUsed (enabledPortal p s) (inputRules p s)
  | 0x14 => slices16.flatMap fun s => whenUsed (enabledPortal p s) (switchRules p s)
  | 0x15 => belayRules p
  | 0x20 => (List.range (cfgHwsModeCount p)).flatMap fun m => modeRules p m
  | 0x21 => windowRules small p ++ (entriesRules small p [] (mapEntries p)).flatMap fun x => if x.1.ty = 0x21 then x.2 else []
  | 0x30 => slices16.flatMap fun s => whenUsed (busUsed p s) (busRules p s)
  | 0x31 => (entriesRules small p [] (mapEntries p)).flatMap fun x => if x.1.ty = 0x31 then x.2 else []
  | 0x40 => twinRules p
  | 0x60 => policyRules small p
  | _ => []

/-! ### Variant, cross rule and thermal check -/

/-- Check 13 on an HV9608: nothing of slices above 7 or of power group 2 (R3, R250, R502). -/
def variantFault (small : Bool) (p : Mem) : Bool :=
  small && (decide (256 ≤ cfgPrtPortalEnable p) ||
    !((List.range 8).all fun k =>
      let s := 8 + k
      (zeros p 0x10 (16 + s * 64) 64 ++ zeros p 0x11 (s * 672) 672 ++ zeros p 0x12 (s * 192) 192 ++ zeros p 0x13 (16 + s * 192) 192 ++
        zeros p 0x14 (s * 128) 128 ++ zeros p 0x15 (128 + s * 48) 48 ++ zeros p 0x30 (s * 4800) 4800 ++ zeros p 0x31 (s * 8208) 8208).all (·.2)) ||
    !((zeros p 0x15 64 64).all (·.2)) || !((zeros p 0x50 20 12).all (·.2)))

/-- Check 12 (R438). -/
def crossFault (p : Mem) : Option (Nat × Nat) :=
  let present := (cfgTwnTwinFlags p).testBit 0
  if cfgRoleTwinRole p = 1 ∧ ¬ present then some (0x01, 0)
  else if present ≠ (cfgHierCarFlags p).testBit 3 then some (0x40, 0)
  else (slices16.find? fun s => enabledPortal p s && !((List.range 3).any fun a => decide (cfgAxRole p s a = 1))).map fun s => (0x11, s * 672)

/-- P_w of R439 in W. -/
def dissipation (p : Mem) : Rat :=
  let slice (s : Nat) : Rat :=
    if enabledPortal p s then
      let ch := ((List.range 6).map fun k => if cfgLswChSource p s k = 0 then (0 : Rat) else if k < 2 then 3125 / 10000 else 1375 / 10000).foldl (· + ·) 0
      let ax := ((List.range 3).map fun a =>
        if cfgAxRole p s a = 0 then (0 : Rat)
        else
          let i := if (cfgDrvDriveFlags p s a).testBit 3 then min (cfgDrvBoostCurrent p s a) 2500 else cfgDrvRunCurrent p s a
          5208 / 10000 * ((i : Rat) / 2500) * ((i : Rat) / 2500)).foldl (· + ·) 0
      ch + ax + 4 / 10
    else 0
  let bus (s : Nat) : Rat := if busUsed p s then 375 / 10000 else 0
  6 + (slices16.map fun s => slice s + bus s).foldl (· + ·) 0

/-- Check 14 passes (R439). -/
def thermalPasses (small : Bool) (p : Mem) : Bool :=
  let w := dissipation p
  decide (w ≤ if small then 34 else 60) && decide ((cfgRoleSinkTempMax p : Rat) + (cfgRoleRThCs p : Rat) / 1000 * w ≤ 85)

/-! ### The checks in order (R437) -/

/-- What check 8 asks of the bundle's versions: that it is the one the entry in force names (R442), or that it may be activated (R440). -/
inductive VersionRule where
  | expected (v : Nat)
  | staged (active barred : Option Nat)
deriving DecidableEq, Repr

def VersionRule.holds (r : VersionRule) (version previous : Nat) : Bool :=
  match r with
  | .expected v => decide (version = v)
  | .staged a b => (a.all fun v => decide (v < version) && decide (previous = v)) && b.all fun v => decide (version ≠ v)

/-- A failed check: its code, section and offset; 0 where R437 names none. -/
structure Finding where
  code : Nat
  section_ : Nat
  offset : Nat
deriving DecidableEq, Repr

/-- The signature block of R435 at `a`, over the bytes `msg`: which of checks 5, 6, 7 fails. -/
def signatureFault (nor : Mem) (a : Nat) (key : Option Anchor) (msg : List Byte) : Option Nat :=
  match key with
  | none => some 5
  | some k =>
    if norBytes nor (a + 3376) 32 ≠ Config.sha256 k.ed ∨ norBytes nor (a + 3408) 32 ≠ Config.sha256 k.ml then some 5
    else if !Config.ed25519Valid k.ed msg (norBytes nor a 64) then some 6
    else if !Config.mldsaValid k.ml msg (norBytes nor (a + 64) 3309) then some 7
    else none

/-- The first check of R437 that the bundle of a slot fails, if any. `key` is the owner anchor of the generation in force. -/
def checkBundle (small readable : Bool) (key : Option Anchor) (rule : VersionRule) (nor : Mem) (slot : Nat) : Option Finding :=
  let b := slotBase slot
  let secs := norLe nor (b + 96) 4
  let length := norLe nor (b + 24) 4
  let zero (a n : Nat) : Bool := (norBytes nor (b + a) n).all fun x => decide (x = 0)
  if !readable then some ⟨1, 0, 0⟩
  else if norBytes nor b 4 ≠ [0x48, 0x56, 0x43, 0x42] ∨ norLe nor (b + 4) 2 ≠ 1 ∨ ¬ zero 6 2 ∨ ¬ zero 30 2 ∨ ¬ zero 100 28 then some ⟨2, 0, 0⟩
  else if 8388608 < length ∨ length ≠ 3568 + secs then some ⟨3, 0, 0⟩
  else if Config.sha512 (norBytes nor (b + 128) secs) ≠ norBytes nor (b + 32) 64 then some ⟨4, 0, 0⟩
  else
    match signatureFault nor (b + 128 + secs) key (norBytes nor b 128) with
    | some c => some ⟨c, 0, 0⟩
    | none =>
      let version := norLe nor (b + 8) 4
      let previous := norLe nor (b + 12) 4
      if !rule.holds version previous then some ⟨8, 0, 0⟩
      else
        let p := slotParams nor slot
        match structureFault nor p slot with
        | some t => some ⟨9, t, 0⟩
        | none =>
          if variantFault small p then some ⟨13, 0, 0⟩
          else if version = 0 ∨ version ≤ previous then some ⟨10, 0, if version = 0 then 8 else 12⟩
          else
            match firstFault (rangeSection p) with
            | some x => some ⟨10, x.1, x.2⟩
            | none =>
              match firstFault (ruleSection small p) with
              | some x => some ⟨11, x.1, x.2⟩
              | none =>
                match crossFault p with
                | some x => some ⟨12, x.1, x.2⟩
                | none => if thermalPasses small p then none else some ⟨14, 0, 0⟩

end Sys2Proof.Machine
end

