-- ==== Sys2Proof/Machine/Logline.lean ====
section
/-! DEFINITION. The event recorder (file 15): intake, records with their CRC, flushes, stores, snapshots, failures and start. -/

namespace Sys2Proof.Machine

/-! ### CRC-32C and records (R483 to R486) -/

def crcBit (c : Nat) : Nat := if c % 2 = 1 then (c / 2) ^^^ 0x82F63B78 else c / 2
def crcByte (c : Nat) (b : Byte) : Nat := (List.range 8).foldl (fun c _ => crcBit c) (c ^^^ b.toNat)
/-- CRC-32C of bytes. -/
def crc32c (b : List Byte) : Nat := (b.foldl crcByte 0xFFFFFFFF) ^^^ 0xFFFFFFFF

/-- A record of `n` bytes with its CRC over the first n − 4 (R483). -/
def sealRec (n : Nat) (b : List Byte) : List Byte :=
  let head := (b ++ List.replicate n 0).take (n - 4)
  head ++ leBytes 4 (crc32c head)

def crcGood (b : List Byte) : Bool := decide (leNat (b.drop (b.length - 4)) = crc32c (b.take (b.length - 4)))

/-- A time of R483, from an instant in common time. -/
def State.recTime (t : Nat) (s : State) : Nat :=
  let cal : Int := s.mss.cal.nsAt s.now
  let ns := (cal - signedN 48 ((s.mssCommon : Int) - t)).toNat
  ns / 1000000000 % 2 ^ 48 + ns % 1000000000 / 1000000 * 2 ^ 48

/-- A Journal record of an event (R486). -/
def State.eventRecord (seq queue losses : Nat) (x : Intake) (s : State) : List Byte :=
  sealRec 64 (leBytes 4 seq ++ leBytes 1 (if x.payload = [] then 1 else 2) ++ leBytes 1 x.src ++ leBytes 1 x.code ++ leBytes 1 losses ++
    leBytes 8 (s.recTime x.at_) ++ leBytes 4 x.at_ ++ leBytes 2 x.detail ++ leBytes 1 queue ++
    leBytes 1 (b2n s.mss.cal.invalid + 4 * b2n x.masked) ++ leBytes 4 s.cfg.version ++ x.payload.flatMap (leBytes 1))

/-- A Ledger cycle record (R484), from the figures the slice gave. -/
def State.cycleRecord (seq losses : Nat) (x : Intake) (s : State) : List Byte :=
  let p (k : Nat) : Nat := x.payload.getD k 0
  let abnormal := decide (p 8 ≠ 1)
  sealRec 256 (leBytes 4 seq ++ leBytes 1 1 ++ leBytes 1 x.src ++ leBytes 1 (b2n s.mss.cal.invalid + 2 * b2n abnormal + p 28) ++ leBytes 1 losses ++
    leBytes 8 (s.recTime (p 0)) ++ leBytes 4 (p 1) ++ leBytes 2 (p 2) ++ leBytes 2 (p 3) ++ leBytes 4 (p 4) ++ leBytes 2 (p 5) ++ leBytes 2 (p 6) ++
    leBytes 2 (p 7) ++ leBytes 1 (p 8) ++ leBytes 1 (p 9) ++ leBytes 1 (p 10) ++ leBytes 1 (p 11) ++ leBytes 1 (p 12) ++ leBytes 1 (p 13) ++ leBytes 1 (p 14) ++ leBytes 1 0 ++
    leBytes 2 (p 15) ++ leBytes 2 (p 16) ++ leBytes 2 (p 17) ++ leBytes 2 (p 18) ++ leBytes 1 (p 19) ++ leBytes 1 (p 20) ++ leBytes 1 (p 21) ++ leBytes 1 0 ++
    leBytes 2 (p 22) ++ leBytes 2 (p 23) ++ leBytes 2 (p 24) ++ leBytes 2 (p 25) ++ leBytes 2 (p 26) ++ leBytes 2 (p 27) ++ leBytes 1 (p 29) ++ leBytes 1 (p 30) ++
    leBytes 4 s.cfg.version ++ List.replicate 52 0 ++ (List.range 64).flatMap fun b => leBytes 2 (x.payload.getD (31 + b) 0xFFFF))

/-- A condensed cycle record, Journal kind 3: bytes 16…47 of the cycle record as payload (R486, R494). -/
def condensed (queue : Nat) (cycle : List Byte) : List Byte :=
  let sl (o n : Nat) : List Byte := (cycle.drop o).take n
  sealRec 64 (sl 0 4 ++ leBytes 1 3 ++ leBytes 2 0 ++ sl 7 1 ++ sl 8 8 ++ leBytes 6 0 ++ leBytes 1 queue ++ leBytes 1 (leNat (sl 6 1) % 2) ++ sl 68 4 ++ sl 16 32)

/-- A carrier of up to three Journal records (R490). -/
def carrier (rs : List LogRec) : LogRec :=
  let seq := match rs with | r :: _ => r.seq | [] => 0
  ⟨seq, true, 0, sealRec 256 (leBytes 4 seq ++ leBytes 1 2 ++ leBytes 1 rs.length ++ leBytes 2 0 ++ rs.flatMap fun r => r.bytes)⟩

def carriers : Nat → List LogRec → List LogRec
  | 0, _ => []
  | _, [] => []
  | k + 1, rs => carrier (rs.take 3) :: carriers k (rs.drop 3)

/-! ### Intake (R26, R476) -/

def State.intake (q : Fin 18) (s : State) : IntakeQ :=
  if h : q.val < 16 then s.slices[q.val].iq else if q.val = 16 then s.dq else s.mq

def State.setIntake (q : Fin 18) (x : IntakeQ) (s : State) : State :=
  if h : q.val < 16 then s.modSlice ⟨q.val, h⟩ fun sl => { sl with iq := x } else if q.val = 16 then { s with dq := x } else { s with mq := x }

/-- INTAKE_OFFER: a producer offers an entry and never waits (R26). A slice the part does not have has no queue. -/
def State.intakeOffer (q : Fin 18) (x : Intake) (s : State) : State :=
  if q.val < 16 ∧ s.sliceCount ≤ q.val then s else s.setIntake q ((s.intake q).offer x)

/-- The next queue that has an entry, in rotating order (R476); one whose channel the recorder has marked stalled is not used (R36). -/
def State.nextQueue (s : State) : Option (Fin 18) :=
  (List.range 18).findSome? fun k =>
    let q : Fin 18 := ⟨(s.log.turn + k) % 18, by omega⟩
    if (s.intake q).entries.isEmpty || s.channelStands .logline ⟨if q.val < 16 then q.val else q.val + 16, by split <;> omega⟩ then none else some q

/-! ### The control area, and what is committed (R478, R480) -/

/-- The control copy in force: the valid one, the later of two. -/
def Logline.controlAt (l : Logline) : Fin 2 := if l.controls[1].valid && (!l.controls[0].valid || decide (l.controls[0].gen < l.controls[1].gen)) then 1 else 0

def Logline.control (l : Logline) : ControlArea := l.controls[l.controlAt]

/-- The control area is written: into the copy not in force, which then is. An MRAM that has failed is not written (R494). -/
def Logline.writeControl (f : ControlArea → ControlArea) (l : Logline) : Logline :=
  if l.journalFailed then l
  else { l with controls := l.controls.set (1 - l.controlAt) { f l.control with valid := true, gen := l.control.gen + 1 } }

/-- Records of the Ledger that lie in programmed pages of 16. -/
def Logline.programmed (l : Logline) : Nat := l.ledger.length / 16 * 16

/-- The sequence numbers a record of a store holds: those of its Journal records in a carrier, else its own (R490). -/
def LogRec.seqs (r : LogRec) : List Nat :=
  if r.ledger && decide (leNat ((r.bytes.drop 4).take 1) = 2) then
    (List.range (leNat ((r.bytes.drop 5).take 1))).map fun k => leNat ((r.bytes.drop (8 + 64 * k)).take 4)
  else [r.seq]

/-- The records that are committed: in the Journal, in a programmed page, or in the tail image in force (R478). -/
def Logline.stored (l : Logline) : List LogRec := l.journal ++ l.ledger.take l.programmed ++ l.tail[l.control.tailAt]

def Logline.committed (n : Nat) (l : Logline) : Bool := l.stored.any fun r => r.seqs.contains n

/-- The highest sequence number committed; 0 for none. -/
def Logline.written (l : Logline) : Nat := l.stored.foldl (fun n r => r.seqs.foldl max n) 0

/-- The committed sequence number counted on from one that is: the highest number up to which every record is committed (R478). -/
def Logline.reach : Nat → Nat → Logline → Nat
  | 0, s, _ => s
  | k + 1, s, l => if l.committed (s + 1) then l.reach k (s + 1) else s

/-! ### Triggers and fill (R478, R479) -/

def Logline.fill (l : Logline) : Nat := l.buffer.foldl (fun n r => n + r.bytes.length) 0
def bufferSize : Nat := 524288

/-- A flush becomes due (R479). -/
def State.flushTrigger (tr : Nat) (s : State) : State := s.modLog fun l => { l with flushNext := some (l.flushNext.getD tr) }

def journalCapacity : Nat := 506880
def Logline.ledgerCapacity (l : Logline) : Nat := (262144 - l.badBlocks) * 64 * 16

/-- The recorder takes entries (R476, R478, R481, R490, R496); once the buffer had no room for one, not before a flush has freed room. -/
def State.takes (s : State) : Bool :=
  let l := s.log
  s.mssUp && l.recording && !l.stopped && !l.bufferFull && !(l.ledgerFailed && l.journalFailed) && !(l.ledgerFull && l.journalFull)

/-- E243 of a queue may be raised: one second has passed since the last (R26). -/
def State.lossDue (q : Fin 18) (s : State) : Bool :=
  (s.log.e243At.get q).all fun t => decide (t + 1000000000 ≤ s.now)

/-- Losses that the next record carries: of its queue, and of the buffer (R26, R482). E243 once per second per queue. -/
def State.noteLosses (q : Fin 18) (n : Nat) (s : State) : State :=
  if n = 0 then s
  else
    let due := s.lossDue q
    let s := s.modLog fun l => { l with cntLosses := min 65535 (l.cntLosses + n), lastLossQueue := q.val }
    if due then (s.modLog fun l => { l with e243At := l.e243At.set q (some s.now) }).logEvent 3 0 q.val else s

/-- A taken record goes into the buffer with the next sequence number. -/
def State.pushRecord (r : LogRec) (s : State) : State :=
  let s := s.modLog fun l => { l with buffer := l.buffer ++ [r], next := l.next + 1 }
  if 393216 ≤ s.log.fill then s.flushTrigger 3 else s

/-- An axis record in octets (R489): the samples of each bin oldest first, 0xFFFF where there is none. -/
def AxisRecord.bytes (generation : Nat) (r : AxisRecord) : List Byte :=
  let t := r.teach
  let head := leBytes 4 generation ++ leBytes 1 (r.axis / 3) ++ leBytes 1 (r.axis % 3) ++ leBytes 1 (b2n r.teachValid) ++ leBytes 1 r.result ++
    leBytes 2 t.rA ++ leBytes 2 t.rB ++ leBytes 2 t.lA ++ leBytes 2 t.lB ++ leBytes 2 t.c ++ leBytes 2 t.ke ++ leBytes 2 t.noise ++ List.replicate 38 0
  let bins := r.env.toList.flatMap fun b => (b.hist.take 32).reverse.flatMap (leBytes 2) ++ List.replicate (64 - 2 * b.hist.length) 255
  head ++ leBytes 4 (crc32c (head ++ bins)) ++ bins

/-- The copy of an axis in force is that with the higher generation (R489). -/
def Logline.teachCopy (axis : Fin 48) (l : Logline) : Option (Nat × AxisRecord) :=
  match l.teach[axis][0], l.teach[axis][1] with
  | some a, some b => some (if b.1 < a.1 then a else b)
  | a, b => a.or b

/-- The recorder writes the copy of an axis with the lower generation, unless the MRAM has failed (R154, R489, R494). -/
def State.storeTeach (r : AxisRecord) (s : State) : State :=
  if h : r.axis < 48 ∧ !s.log.journalFailed then
    s.modLog fun l =>
      let two := l.teach[r.axis]'h.1
      let last := (l.teachCopy ⟨r.axis, h.1⟩).map fun x => x.1
      let new := some (last.getD 0 + 1, r)
      let k : Fin 2 := match two[0], two[1] with | some a, some b => if a.1 < b.1 then 0 else 1 | none, _ => 0 | _, none => 1
      { l with teach := l.teach.set r.axis (two.set k.val new) h.1 }
  else s

/-- The event's bit of flush_events (R501). -/
def State.flushesOn (n : Nat) (s : State) : Bool := (u8 s.params 0x50 (8 + n / 8)).testBit (n % 8)

/-- RECORD_TAKE (R476 to R478). -/
def State.recordTake (s : State) : State :=
  if !s.takes then s
  else match s.nextQueue with
    | none => s
    | some q =>
      match (s.intake q).entries with
      | [] => s
      | x :: rest =>
        let size := if x.kind = 2 then 256 else if x.kind = 1 then 64 else 0
        if bufferSize < s.log.fill + size then
          (s.modLog fun l => { l with bufferFull := true }).logEvent 5 0 0
        else
          let s := s.setIntake q { s.intake q with entries := rest }
          let s := s.modLog fun l => { l with turn := (q.val + 1) % 18 }
          let lost := x.lost + s.log.discarded
          let s := s.noteLosses q x.lost
          if x.kind = 3 then
            (match x.axis with
            | some r => s.storeTeach r
            | none => s)
          else
            let s := s.modLog fun l => { l with discarded := 0 }
            let n := s.log.next
            if x.kind = 2 then
              let b := s.cycleRecord n (min 255 lost) x
              (if s.log.ledgerFailed then s.pushRecord ⟨n, false, q.val, condensed q.val b⟩ else s.pushRecord ⟨n, true, q.val, b⟩)
            else
              let s' := s.pushRecord ⟨n, false, q.val, s.eventRecord n q.val (min 255 lost) x⟩
              if s.flushesOn x.src then s'.flushTrigger 1 else s'

/-! ### Flushes (R479 to R481, R490, R494, R495) -/

/-- FLUSH_START (R479): a due flush begins; it covers what the buffer holds. -/
def State.flushStart (s : State) : State :=
  match s.log.flushNext, s.log.flush with
  | some tr, none =>
    if s.mssUp then s.modLog fun l => { l with flush := some ⟨tr, s.now, l.next - 1⟩, flushNext := none, lastFlush := s.now } else s
  | _, _ => s

/-- FLUSH_INTERVAL_EXPIRY (R479). -/
def State.flushInterval (s : State) : State :=
  if s.mssUp && s.log.recording then
    (s.advance (s.log.lastFlush + ms (cfgLogFlushInterval s.params * 1000))).flushTrigger 4
  else s

/-- Commit one Ledger record, or discard it as a loss when the Ledger is full (R490). -/
def State.commitLedger (r : LogRec) (s : State) : State :=
  if s.log.ledgerFull then s.modLog fun l => { l with cntLosses := min 65535 (l.cntLosses + r.seqs.length), lastLossQueue := r.queue }
  else
    let s := s.modLog fun l => { l with ledger := l.ledger ++ [r] }
    let n := s.log.ledger.length
    let cap := s.log.ledgerCapacity
    let s := if decide (cap * 9 ≤ n * 10) && !s.log.ledger90 then (s.modLog fun l => { l with ledger90 := true }).logEvent 1 1 0 else s
    if cap ≤ n then (s.modLog fun l => { l with ledgerFull := true }).logEvent 1 2 0 else s

/-- Commit one Journal record; E242 when the Journal is full (R490). -/
def State.commitJournal (r : LogRec) (s : State) : State :=
  let s := s.modLog fun l => { l with journal := l.journal ++ [r] }
  if journalCapacity ≤ s.log.journal.length then (s.modLog fun l => { l with journalFull := true }).logEvent 2 0 0 else s

/-- Commit a record to its store. -/
def State.commit (r : LogRec) (s : State) : State := if r.ledger then s.commitLedger r else s.commitJournal r

/-- Insert into a list in ascending order of sequence. -/
def insertSeq (r : LogRec) : List LogRec → List LogRec
  | [] => [r]
  | x :: t => if r.seq ≤ x.seq then r :: x :: t else x :: insertSeq r t

/-- Send committed Journal records to the twin, at most 16 to a frame (R495). -/
def mirrorFrames : Nat → List LogRec → List (List (List Byte))
  | 0, _ => []
  | _, [] => []
  | k + 1, rs => ((rs.take 16).map fun r => r.bytes) :: mirrorFrames k (rs.drop 16)

/-- A Journal record has gone to its store: the Journal, or a carrier of the Ledger. -/
def Logline.holds (n : Nat) (l : Logline) : Bool := (l.journal ++ l.ledger).any fun r => r.seqs.contains n

def State.mirrorJournal (rs : List LogRec) (s : State) : State :=
  if s.log.ledgerFailed || s.log.journalFailed || (cfgLogLogFlags s.params).testBit 0 then
    if s.twn.link then
      (mirrorFrames rs.length rs).foldl (fun s f => s.send ⟨.twin, 0, (s.header 0 false false 0 0), .journalMirror f⟩) s
    else s.modLog fun l => { l with cntMirrorLost := min 255 (l.cntMirrorLost + rs.length) }
  else s

/-- The door cycles of each slice (R480). -/
def State.cycleCounts (s : State) : Vector Nat 16 := s.slices.map fun (sl : Slice) => sl.portal.doorCycles

/-- S as it is counted on, also in the control copy in force. -/
def Logline.putS (s : Nat) (l : Logline) : Logline :=
  { l with s := s, controls := if l.journalFailed then l.controls else l.controls.set l.controlAt { l.control with s := s } }

/-- The present page goes to the tail image not in force, and the write pointers, the flush state, the door cycles and S into the control copy not in force; an MRAM that has failed takes nothing (R480, R494). -/
def Logline.saveStores (st : FlushState) (cycles : Vector Nat 16) (l : Logline) : Logline :=
  let k := 1 - l.control.tailAt
  let l := { l with tail := if l.journalFailed then l.tail else l.tail.set k (l.ledger.drop l.programmed) }
  let l := l.writeControl fun c => { c with tailAt := k, ledgerAt := l.programmed, journalAt := l.journal.length, flushState := st, doorCycles := cycles }
  l.putS (l.reach l.next l.s)

/-- FLUSH_COMPLETE (R480, R481, R487, R490, R494): the records go to their stores in sequence order, carriers at the place of their first record. `bad` blocks failed to program in this flush and were marked bad. The flush state becomes complete at the end of the power-fail flush, and of the flush before a commanded restart (log entry 173). -/
def State.flushComplete (bad : Nat) (s : State) : State :=
  match s.log.flush with
  | none => s
  | some f =>
    if !s.mssUp then s
    else
      let due := s.log.buffer.filter fun r => decide (r.seq ≤ f.upTo)
      let s := s.modLog fun l => { l with
        buffer := l.buffer.filter (fun r => decide (f.upTo < r.seq))
        flush := none
        bufferFull := false
        badBlocks := min 262144 (l.badBlocks + bad)
        cntBad := min 255 (l.cntBad + bad) }
      let due := if s.log.ledgerFailed then due.map fun r => if r.ledger then ⟨r.seq, false, r.queue, condensed r.queue r.bytes⟩ else r else due
      let js := due.filter fun r => !r.ledger
      let room := if s.log.journalFailed || s.log.journalFull then 0 else journalCapacity - s.log.journal.length
      let left := js.drop room
      let items := ((due.filter fun r => r.ledger) ++ js.take room ++ (if s.log.ledgerFailed then [] else carriers left.length left)).foldr insertSeq []
      let s := items.foldl (fun s r => s.commit r) s
      let s := if s.log.ledgerFailed then s.modLog fun l => { l with cntLosses := min 65535 (l.cntLosses + left.length), lostBase := l.lostBase - left.length } else s
      let s := s.mirrorJournal (js.filter fun r => s.log.holds r.seq)
      let last := (s.log.stopped && decide (s.log.control.flushState = .started)) || (s.start.commanded && !s.start.warning)
      let st := if last && s.log.buffer.isEmpty then FlushState.complete else s.log.control.flushState
      let cycles := s.cycleCounts
      s.modLog fun l =>
        { l.saveStores st cycles with flushTook := min 65535 ((s.now - f.at_) / 10000), flushTrigger := f.trigger, cntFlushes := satInc 255 l.cntFlushes }

/-- The power-fail warning reaches the recorder (R481). -/
def State.recorderWarning (s : State) : State :=
  (s.modLog fun l => l.writeControl fun c => { c with flushState := .started }).flushTrigger 2

/-- The warning is withdrawn (R481). -/
def State.recorderResume (s : State) : State :=
  s.modLog fun l => ({ l with stopped := false }).writeControl fun c => { c with flushState := .running }

/-- RECORDER_TAKING_STOP: 20 ms after the warning (R481). -/
def State.recorderStop (s : State) : State :=
  if s.mssUp && (s.start.warning || s.start.lost) then
    ((s.advance (s.start.warningAt + ms 20)).modLog fun l => { l with stopped := true }).flushTrigger 2
  else s

/-! ### Commands and reading (R479, R491, R492, R496) -/

/-- LOG_FLUSH_NOW. -/
def State.logFlushNow (s : State) : State := if s.mssUp then s.flushTrigger 5 else s

/-- LOG_CLEAR_LAST_WORD. -/
def State.logClearLastWord (s : State) : State := if s.mssUp then s.modLog fun l => { l with lastWord := none } else s

def State.modHandle (h : Fin 4) (f : Handle → Handle) (s : State) : State := s.modLog fun l => { l with handles := l.handles.set h (f l.handles[h]) }

/-- LOG_SNAPSHOT_OPEN (R491). -/
def State.snapshotOpen (h : Fin 4) (s : State) : State :=
  if s.mssUp then
    let n := s.log.s
    let count (rs : List LogRec) : Nat := (rs.filter fun r => decide (r.seq ≤ n)).length
    s.modHandle h fun x => { x with open_ := true, s := n, ledger := count s.log.ledger, journal := count s.log.journal }
  else s

/-- LOG_SNAPSHOT_CLOSE (R491). -/
def State.snapshotClose (h : Fin 4) (s : State) : State := if s.mssUp then s.modHandle h fun _ => Handle.reset else s

/-- LOG_READ_SELECT (R492). -/
def State.readSelect (h : Fin 4) (v : Nat) (s : State) : State :=
  if s.mssUp then s.modHandle h fun x => { x with select := v % 2 ^ 29, waiting := true, ready := false, outside := false, readError := false, crcBad := false } else s

/-- READ_WINDOW_READY (R492). -/
def State.readReady (h : Fin 4) (uncorrectable : Bool) (s : State) : State :=
  let x := s.log.handles[h]
  if s.mssUp && x.waiting then
    let journal := x.select.testBit 28
    let ix := x.select % 2 ^ 28
    let n := if journal then x.journal else x.ledger
    if n ≤ ix ∨ x.open_ = false then s.modHandle h fun x => { x with waiting := false, ready := true, outside := true, window := List.replicate 256 0 }
    else if uncorrectable && !journal then
      (s.modHandle h fun x => { x with waiting := false, ready := true, readError := true, window := (List.range 256).map fun k => Config.freeByte k s.freeCount }).modLog fun l => { l with cntReadErrors := satInc 255 l.cntReadErrors }
    else
      let b := match (if journal then s.log.journal else s.log.ledger)[ix]? with | some r => r.bytes | none => []
      s.modHandle h fun x => { x with waiting := false, ready := true, crcBad := !crcGood b, window := (b ++ List.replicate 256 0).take 256 }
  else s

/-! ### Failures (R493 to R496) -/

/-- recorder_code of the causes (R496). -/
def Logline.causes (l : Logline) : Nat := l.ledgerCause + 16 * l.journalCause

/-- The last-word store (R496). -/
def State.lastWordBytes (s : State) : List Byte :=
  let js := (s.log.journal ++ s.log.buffer.filter fun r => !r.ledger).reverse.take 3
  let recs := js.flatMap fun r => r.bytes
  sealRec 256 (leBytes 2 0x574C ++ leBytes 2 s.log.causes ++ leBytes 4 s.log.s ++ leBytes 8 (s.recTime s.mssCommon) ++ leBytes 4 0 ++ leBytes 4 0 ++ recs)

/-- Losses that the intake queues hold, shown by no record yet. -/
def State.queueLosses (s : State) : Nat :=
  (List.finRange 18).foldl (fun n q => n + (s.intake q).lost + ((s.intake q).entries.map fun x => x.lost).sum) 0

/-- Records lost since the failure, as the last-word store shows them (R496). -/
def State.refreshLastWord (s : State) : State :=
  match s.log.lastWord with
  | some b =>
    if s.log.ledgerFailed && s.log.journalFailed then
      let lost : Int := s.queueLosses - s.log.lostBase
      s.modLog fun l => { l with lastWord := some (sealRec 256 (b.take 16 ++ leBytes 4 lost.toNat ++ (b.drop 20).take 232)) }
    else s
  | none => s

/-- STORE_FAILURE (R493, R494, R496). With the Ledger full, a failing Journal is code 3 with the Ledger's cause 0 (R499). -/
def State.storeFailure (journal : Bool) (cause : Nat) (s : State) : State :=
  if !s.mssUp || (if journal then s.log.journalFailed else s.log.ledgerFailed) then s
  else
    let s := s.modLog fun l => if journal then { l with journalFailed := true, journalCause := cause % 16 } else { l with ledgerFailed := true, ledgerCause := cause % 16 }
    let s := if journal && s.log.ledgerFull then s else s.logEvent 0 (if journal then 2 else 1) s.log.causes
    if s.log.ledgerFailed && s.log.journalFailed then
      let s := (s.logEvent 0 3 s.log.causes).modLog fun l => { l with lastWord := some s.lastWordBytes, lostBase := s.queueLosses }
      s.mirrorJournal [⟨s.log.next, false, 17, s.eventRecord s.log.next 17 0 ⟨1, 240, 3, s.log.causes, s.mssCommon, s.nodeMasked 240, 0, [], none⟩⟩]
    else if journal && s.log.ledgerFull then s.logEvent 0 3 s.log.causes
    else s

/-- JOURNAL_MIRROR_RECEIVE (R495): each record joins the own Journal with its own number, marked mirrored, ref holding the sender's. -/
def State.journalMirrorReceive (records : List (List Byte)) (s : State) : State :=
  records.foldl (fun s b =>
    if s.takes && decide (b.length = 64) && crcGood b && decide (s.log.fill + 64 ≤ bufferSize) then
      let n := s.log.next
      let b' := sealRec 64 (leBytes 4 n ++ (b.drop 4).take 19 ++ leBytes 1 (leNat ((b.drop 23).take 1) ||| 2) ++ b.take 4 ++ (b.drop 28).take 32)
      s.pushRecord ⟨n, false, 17, b'⟩
    else s) s

/-! ### Start (R482, R498) -/

/-- MSS_ISLAND_RESTART_RECOVERY (R482): records of the buffer that fail their CRC are discarded and counted, the rest is flushed. -/
def State.restartRecovery (failed : List Nat) (s : State) : State :=
  if !s.mssUp || s.log.recording then s
  else
    let bad := s.log.buffer.filter fun r => decide (r.seq ∈ failed)
    let s := s.modLog fun l => { l with buffer := l.buffer.filter (fun r => decide (r.seq ∉ failed)), discarded := l.discarded + bad.length }
    let s := match bad.head? with
      | some r => (s.modLog fun l => { l with cntLosses := min 65535 (l.cntLosses + bad.length), lastLossQueue := r.queue }).logEvent 3 0 r.queue
      | none => s
    if s.log.buffer.isEmpty then s else s.flushTrigger (Config.freeNat 41 s.freeCount % 8)

/-- RECORDER_START (R498): the control area is read, the tail image becomes the present page unless pages were programmed after it, the stores are tested afresh, recording begins. -/
def State.recorderStart (s : State) : State :=
  if !s.mssUp || s.log.recording then s
  else
    let c := s.log.control
    let s := s.modLog fun l => { l with
      recording := true, stopped := false, ledgerFailed := false, journalFailed := false, ledgerCause := 0, journalCause := 0,
      s := if c.valid then max l.s c.s else l.s, next := max l.next (max l.written (if c.valid then max l.s c.s else l.s) + 1), lastFlush := s.now,
      ledger := l.ledger.take l.programmed ++ (if l.programmed = c.ledgerAt then l.tail[c.tailAt] else [])
      unclean := decide (c.flushState ≠ .complete) }
    let s := if c.valid then s.modLog fun l => l.writeControl fun c => { c with flushState := .running } else s.storeFailure true 3
    match c.flushState with
    | .complete => s
    | .started => s.logEvent 4 2 0
    | .running => s.logEvent 4 1 0

/-- The recorder stops with its island: open handles close, a flush in progress ends; the buffer stays (R482, R491). -/
def State.recorderLost (s : State) : State :=
  s.modLog fun l => { l with
    recording := false, flush := none, flushNext := none, handles := Vector.replicate 4 Handle.reset, flushTook := 0, flushTrigger := 0, command := 0, eventMask := 0,
    faultEvent := 0, faultCode := 0, faultDetail := 0, cntFlushes := 0, cntBad := 0, cntReadErrors := 0, cntMirrorLost := 0, cntLosses := 0, lastLossQueue := 0 }

end Sys2Proof.Machine
end

