-- ==== Sys2Proof/Machine/Belay.lean ====
section
/-! DEFINITION. The power groups and their Belay arbiters (file 07). Requests stand at their requesters; the arbiter reads them there. -/

namespace Sys2Proof.Machine

/-- The group of a slice (R229). -/
def groupOf (i : Fin 16) : Fin 2 := if i.val < 8 then 0 else 1

/-- The part has the group (R1, R229). -/
def State.hasGroup (g : Fin 2) (s : State) : Bool := decide (g = 0) || !s.small

/-- A requester: slice and item, 0…5 K0…K5 and 6…8 A0…A2 (R249). -/
abbrev Requester := Fin 16 × Fin 9

/-- Every possible requester of a group in index order (R234). -/
def groupSlots (g : Fin 2) : List Requester :=
  (List.finRange 8).flatMap fun k => (List.finRange 9).map fun j => ((⟨g.val * 8 + k.val, by omega⟩ : Fin 16), j)

/-- The enrolled requesters of a group, in index order (R234). -/
def State.requesters (g : Fin 2) (s : State) : List Requester :=
  if s.configured then (groupSlots g).filter fun r => decide (r.1.val < s.sliceCount) && (s.env r.1).enrolled r.2 else []

/-- Index of a requester in its group (R234). -/
def State.requesterIndex (r : Requester) (s : State) : Nat := (s.requesters (groupOf r.1)).findIdx (fun x => decide (x = r))

def Slice.reqOf (j : Fin 9) (sl : Slice) : Req :=
  if h : j.val < 6 then sl.sw.ch[j.val].req else sl.axes[(⟨j.val - 6, by omega⟩ : Fin 3)].m.req

def Slice.setReq (j : Fin 9) (q : Req) (sl : Slice) : Slice :=
  if h : j.val < 6 then sl.modCh ⟨j.val, h⟩ fun c => { c with req := q } else sl.modM ⟨j.val - 6, by omega⟩ fun m => { m with req := q }

def State.req (r : Requester) (s : State) : Req := s.slices[r.1].reqOf r.2
def State.setReq (r : Requester) (q : Req) (s : State) : State := s.modSlice r.1 (·.setReq r.2 q)

/-- Inrush current and time of a requester's class (R235): 0.1 A, ms. -/
def State.inrushI (r : Requester) (s : State) : Nat := cfgBlyInrushCurrent s.params (groupOf r.1).val (cfgBlyClass s.params r.1 r.2)
def State.inrushT (r : Requester) (s : State) : Nat := cfgBlyInrushTime s.params (groupOf r.1).val (cfgBlyClass s.params r.1 r.2)
def State.tickets (r : Requester) (s : State) : Nat := cfgBlyTickets s.params r.1 r.2

def Req.isGranted : Req → Bool
  | .granted _ => true
  | _ => false
def Req.isWaiting : Req → Bool
  | .waiting _ _ _ => true
  | _ => false
/-- Deadline of a waiting request (R241). -/
def Req.deadline : Req → Nat
  | .waiting _ d _ => d
  | _ => 0
/-- Time in the present state began. -/
def Req.since : Req → Nat
  | .waiting t _ _ => t
  | .granted t => t
  | .idle => 0

def State.granted (g : Fin 2) (s : State) : List Requester := (s.requesters g).filter fun r => (s.req r).isGranted
def State.waiting (g : Fin 2) (s : State) : List Requester := (s.requesters g).filter fun r => (s.req r).isWaiting

/-- Sum of I_c over the grants held, 0.1 A (R240). -/
def State.allocated (g : Fin 2) (s : State) : Nat := (s.granted g).foldl (fun n r => n + s.inrushI r) 0

/-- 32 steps of the Galois LFSR: one draw (R242). -/
def lfsrStep (x : Nat) : Nat := if x % 2 = 1 then (x / 2) ^^^ 0x80200003 else x / 2
def lfsrDraw (x : Nat) : Nat := (List.range 32).foldl (fun x _ => lfsrStep x) x

/-- The request with the earliest deadline, ties to the lower index (R241). -/
def State.earliest (s : State) : List Requester → Option Requester
  | [] => none
  | r :: t => match s.earliest t with
    | none => some r
    | some q => if (s.req q).deadline < (s.req r).deadline then some q else some r

/-- The first requester in index order whose cumulative tickets exceed `x` (R242). -/
def State.byTicket (s : State) (x : Nat) : List Requester → Nat → Option Requester
  | [], _ => none
  | r :: t, acc => if x < acc + s.tickets r then some r else s.byTicket x t (acc + s.tickets r)

/-- The next place in rank order (R241, R242), with the LFSR after its draw. -/
def State.nextRanked (g : Fin 2) (s : State) (w : List Requester) : Option Requester × Nat :=
  let l := s.groups[g].lfsr
  if (s.requesters g).length ≤ 24 then (s.earliest w, l)
  else
    let l := lfsrDraw l
    let total := w.foldl (fun n r => n + s.tickets r) 0
    (s.byTicket (l % total) w 0, l)

/-- Grant a request at time `t` (R240). -/
def State.grant (g : Fin 2) (t : Nat) (r : Requester) (s : State) : State :=
  let wait := (t - (s.req r).since) / 10000
  (s.setReq r (.granted t)).modGroup g fun x => { x with cntGrants := satInc 65535 x.cntGrants, maxWait := max x.maxWait (min 65535 wait) }

/-- Grants one at a time in rank order until one does not fit or none waits (R240); `n` bounds the places. -/
def State.grantLoop (g : Fin 2) (t : Nat) : Nat → Nat → State → State
  | 0, _, s => s
  | n + 1, free, s =>
    let w := s.waiting g
    if w.isEmpty then s
    else
      let (r, l) := s.nextRanked g w
      let s := s.modGroup g fun x => { x with lfsr := l }
      match r with
      | none => s
      | some r => if free < s.inrushI r then s else (s.grant g t r).grantLoop g t n (free - s.inrushI r)

/-- The start of the arbiter's next round by its own oscillator (R240): 10 µs after the last, or the latest the clock has reached. -/
def nextRound (last now : Nat) : Nat := last + max 1 ((now - last) / 10000) * 10000

/-- What the arbiter sees of a request. -/
def Req.view : Req → Option (Bool × Nat)
  | .idle => none
  | .waiting t _ _ => some (false, t)
  | .granted t => some (true, t)

/-- Slice and item of a place in a group's record. -/
def slotOf (g : Fin 2) (n : Fin 72) : Requester := (⟨g.val * 8 + n.val / 9, by omega⟩, ⟨n.val % 9, by omega⟩)

/-- The arbiter notes what its requesters ask and hold: a grant that it no longer sees has been held until now, and so has one that stands (R238, R240, R560). -/
def State.noteViews (g : Fin 2) (t : Nat) (s : State) : State :=
  let view (n : Fin 72) : Option (Bool × Nat) := (s.req (slotOf g n)).view
  let x := s.groups[g]
  let held (v : Option (Bool × Nat)) : Nat := match v with | some (true, t') => (t - t') / 1000000 | _ => 0
  let longest := (List.finRange 72).foldl (fun m n => max m (max (held x.seen[n]) (held (view n)))) 0
  s.modGroup g fun x =>
    { x with seen := Vector.ofFn view, maxHold := max x.maxHold (min 65535 longest),
             idleAt := Vector.ofFn fun n => if x.seen[n].isSome && (view n).isNone then t else x.idleAt[n] }

/-- One measurement of a group's inputs is due: 10 kHz (R230). Voltages and currents are in 0.1 V and 0.1 A. -/
def Group.measure (now : Nat) (m : GroupInputs) (x : Group) : Group :=
  if x.measuredAt.all fun t => decide (t + 100000 ≤ now) then
    { x with loadV := m.loadV, motorV := m.motorV, loadI := m.loadI, motorI := m.motorI, measuredAt := some now }
  else x

/-- ARBITRATION_ROUND (R240), with what the group's inputs show if a measurement falls in it (R230). -/
def State.arbitrate (g : Fin 2) (m : GroupInputs) (s : State) : State :=
  if !s.hasGroup g || decide (s.start.stage = .off) then s
  else
    let t := nextRound s.groups[g].roundAt s.now
    let s := (s.advance t).modGroup g fun x => { x.measure t m with roundAt := t }
    if s.configured then
      ((s.noteViews g t).grantLoop g t 48 (cfgBlyBudget s.params g.val - s.allocated g)).noteViews g t
    else s

/-- BELAY_GRANT_ARRIVAL (R236, R237): a waiting switch turns on; an axis' move is latched at the next sync point. -/
def State.grantArrival (i : Fin 16) (j : Fin 9) (s : State) : State :=
  s.onPower i fun e sl =>
    if h : j.val < 6 then
      let k : Fin 6 := ⟨j.val, h⟩
      let c := sl.sw.ch[k]
      if c.st = .waiting ∧ c.req.isGranted then sl.modCh k fun c => c.on e.now else sl
    else sl

/-- The instant at which the inrush time of a granted axis begins: its first microstep since the grant; the grant itself for an enable from free with no move or homing run behind it (R237, log entry 107). -/
def Motion.inrushFrom (m : Motion) : Option Nat :=
  match m.req with
  | .granted t =>
    match m.firstAt with
    | some f => if t ≤ f then some f else if m.startsLater then none else some t
    | none => if m.startsLater then none else some t
  | _ => none

/-- INRUSH_TIME_EXPIRY (R236, R237): on for t_c and not limiting; for an axis, t_c since its first microstep. -/
def State.inrushExpiry (i : Fin 16) (j : Fin 9) (s : State) : State :=
  let r : Requester := (i, j)
  if !(s.req r).isGranted then s
  else if h : j.val < 6 then
    let c := s.slices[i].sw.ch[j.val]
    if c.st = .on ∧ c.limiting = false then (s.advance (c.onAt + ms (s.inrushT r))).setReq r .idle else s
  else
    match (s.slices[i].axes[(⟨j.val - 6, by omega⟩ : Fin 3)].m).inrushFrom with
    | some t => (s.advance (t + ms (s.inrushT r))).setReq r .idle
    | none => s

/-- DEADLINE_MISSED (R243). -/
def State.deadlineMissed (i : Fin 16) (j : Fin 9) (s : State) : State :=
  let r : Requester := (i, j)
  match s.req r with
  | .waiting t d false =>
    let s := (s.advance d).setReq r (.waiting t d true)
    s.blyEvent (groupOf i) 3 1 (s.requesterIndex r)
  | _ => s

/-- A stuck holder is forced off (R244). An axis stops and holds: a homing run that was granted and has not begun stays waiting, so that it does not begin before the sequencer takes the fault; the stop interrupts a teach cycle (R152, log entry 155). -/
def Slice.forceOff (e : Env) (j : Fin 9) (sl : Slice) : Slice :=
  if h : j.val < 6 then
    let k : Fin 6 := ⟨j.val, h⟩
    (sl.modCh k fun c => { c.off e.now with st := .latchedOff, cntLatch := satInc 255 c.cntLatch }).switchEvent e 8 2 k.val
  else
    let a : Fin 3 := ⟨j.val - 6, by omega⟩
    (sl.teachBreak.modM a fun m => { m.stop with req := .idle, needsGrant := sl.homingDue e a }).modPortal fun q => { q with cause11 := true }

/-- The holder held longest, ties to the lower index (R244). -/
def State.longestHeld (s : State) : List Requester → Option Requester
  | [] => none
  | r :: t => match s.longestHeld t with
    | none => some r
    | some q => if (s.req q).since < (s.req r).since then some q else some r

/-- BELAY_WATCHDOG_BITE (R244, R245). -/
def State.watchdogBite (g : Fin 2) (s : State) : State :=
  let wd := ms (cfgBlyWatchdog s.params g.val * 100)
  let held := s.granted g
  let firstWait := (s.waiting g).foldl (fun (n : Option Nat) r => some (match n with | none => (s.req r).since | some t => min t (s.req r).since)) none
  match firstWait, s.longestHeld held with
  | some t, some r =>
    let s := s.advance (max (t + wd) ((s.req r).since + wd))
    let s := (s.blyEvent g 0 1 (s.requesterIndex r)).noteViews g s.now
    held.foldl (fun s q =>
      let stuck := decide ((s.req q).since + wd ≤ s.now)
      if stuck then s.modSlice q.1 (·.forceOff (s.env q.1) q.2) else s.setReq q .idle) s
  | _, _ => s

/-- ARBITER_FRAME_LOSS (R246): the island's requesters switch on without grants. -/
def State.arbiterLost (i : Fin 16) (s : State) : State :=
  if !s.powerUp i || s.slices[i].sw.unarbitrated then s
  else
    let s := s.modSlice i fun sl =>
      let e := s.env i
      let sl := sl.modSw fun x => { x with unarbitrated := true }
      let sl := forChannels (fun k sl =>
        if sl.sw.ch[k].st = .waiting then sl.modCh k fun c => { c.on e.now with req := .idle } else sl) sl
      forAxes (fun a sl => if sl.axes[a].m.req.isWaiting then sl.modM a fun m => { m with req := .idle } else sl) sl
    s.blyEvent (groupOf i) 4 1 i.val

/-- ARBITRATION_RESUME (R246): with none of the island's requesters holding a grant. -/
def State.arbiterBack (i : Fin 16) (s : State) : State :=
  if s.slices[i].sw.unarbitrated then
    s.modSlice i fun sl =>
      let sl := sl.modSw fun x => { x with unarbitrated := false }
      (List.finRange 9).foldl (fun sl j => sl.setReq j .idle) sl
  else s

/-- R246 holds in some power island of the group. -/
def State.unarbitrated (g : Fin 2) (s : State) : Bool := (List.finRange 16).any fun i => decide (groupOf i = g) && s.slices[i].sw.unarbitrated

/-- GROUP_SUPPLY_RANGE_CHANGE (R208, R231, R168 code 4): the named voltage must lie on the side the change names. -/
def State.supplyRange (g : Fin 2) (motor out : Bool) (dv : Nat) (s : State) : State :=
  let x := s.groups[g]
  let was := if motor then x.motorOut else x.loadOut
  let fits := if out then decide (dv < 168 ∨ 1650 < dv) else decide (168 ≤ dv ∧ dv ≤ 1540)
  if !s.hasGroup g || was = out || !fits then s
  else
    let s := s.modGroup g fun x => if motor then { x with motorV := dv, motorOut := out } else { x with loadV := dv, loadOut := out }
    let s := s.blyEvent g 2 ((if motor then 2 else 1) + (if out then 0 else 2)) 0
    s.eachSlice fun i s =>
      if groupOf i = g then
        s.modSlice i fun sl =>
          let e := s.env i
          if motor then
            forAxes (fun a sl =>
              let sl := sl.modD a fun d => { d with standing := d.standing - d.standing / 16 % 2 * 16 - d.standing / 1024 % 2 * 1024 + (if out then 16 else 0) + (if out && decide (1650 < dv) then 1024 else 0) }
              if out && e.gate && e.enabledAxis a then sl.driveFault e a 4 (decide (1650 < dv)) else sl) sl
          else sl.loadSupply e (!out)
      else s

/-- GROUP_CURRENT_WARNING (R232): the present currents in 0.1 A lie on the side the change names. -/
def State.currentWarning (g : Fin 2) (set : Bool) (loadDa motorDa : Nat) (s : State) : State :=
  let x := s.groups[g]
  let above := decide (cfgBlyCurrentWarn s.params g.val < loadDa + motorDa)
  if !s.hasGroup g || !s.configured || x.warning = set || above ≠ set then s
  else
    let s := s.modGroup g fun x => { x with warning := set, loadI := loadDa, motorI := motorDa }
    if set then s.blyEvent g 1 1 0 else s

/-- GROUP_OVER_TEMPERATURE (R233), temperature in 0.1 °C. -/
def State.overTemperature (g : Fin 2) (t : Int) (s : State) : State :=
  let x := s.groups[g]
  if !s.hasGroup g then s
  else if 1000 ≤ t ∧ x.overTemp = false then (s.modGroup g fun x => { x with overTemp := true }).blyEvent g 5 1 0
  else if t ≤ 950 then s.modGroup g fun x => { x with overTemp := false }
  else s

/-- The groups at the configuration handover (R242): the LFSR starts from lfsr_seed. -/
def State.belayHandover (s : State) : State :=
  (List.finRange 2).foldl (fun s g => s.modGroup g fun x => { x with lfsr := cfgBlyLfsrSeed s.params g.val, roundAt := s.now, idleAt := Vector.replicate 72 s.now }) s

end Sys2Proof.Machine
end

