-- ==== Sys2Proof/Machine/Numbering.lean ====
section
/-! DEFINITION. How a leader numbers the nodes of a segment: the chain, positions, reserved positions, cars, units, consists and limits (R298 to R304). -/

namespace Sys2Proof

/-- Bytes 0…9 of section 0x0002 tell a car (R302). -/
def Report.unitSerial (r : Report) : Nat := Machine.leNat (r.car.take 4)
def Report.unitCars (r : Report) : Nat := Machine.leNat ((r.car.drop 4).take 1)
def Report.carIndex (r : Report) : Nat := Machine.leNat ((r.car.drop 5).take 1)
def Report.twinExpected (r : Report) : Bool := (Machine.leNat ((r.car.drop 6).take 1)).testBit 3
def Report.consistGroup (r : Report) : Nat := Machine.leNat ((r.car.drop 7).take 1)

end Sys2Proof

namespace Sys2Proof.Machine

/-- A node of the chain, listed from the end the leader's fore side lies towards. `foreLeft`: its car's fore end faces the start of the list. `old`, `joining`: its position in its old segment. -/
structure ChainNode where
  report : Report
  foreLeft : Bool
  hop : Nat
  old : Nat
  joining : Bool
  lead : Bool
deriving DecidableEq, Repr

/-- The chain turned round. -/
def turnChain (l : List ChainNode) : List ChainNode := l.reverse.map fun (x : ChainNode) => { x with foreLeft := !x.foreLeft }

/-- Whether position 1 lies at the end of the list (R298): by the one car with cab_active, else by the leader's fore port. -/
def startsAtEnd (l : List ChainNode) : Bool :=
  let cabs := l.filter fun x => x.report.cabActive
  let lead := match l.find? fun x => x.lead with | some x => !x.foreLeft | none => false
  match cabs with
  | x :: t => if t.all fun y => decide (y.report.car = x.report.car) then !x.foreLeft else lead
  | [] => lead

/-- What a place in the chain holds: a node with a position, one that is passive and has none (R304), or a position reserved beside the node for its absent twin (R299). -/
inductive PlaceKind where
  | node | passive | reserved
deriving DecidableEq, Repr

structure Place where
  node : ChainNode
  kind : PlaceKind
deriving DecidableEq, Repr

/-- The places of a chain from its first end on, with the reserved ones put in (R299, R304). -/
def places (digest : List Byte) (l : List ChainNode) : List Place :=
  l.flatMap fun x =>
    let twin := l.any fun y => decide (y.report.car = x.report.car) && (y.report.roleS != x.report.roleS)
    if x.report.digest ≠ digest then [⟨x, .passive⟩]
    else if x.report.twinExpected && !twin then
      (if x.report.roleS == x.foreLeft then [⟨x, .reserved⟩, ⟨x, .node⟩] else [⟨x, .node⟩, ⟨x, .reserved⟩])
    else [⟨x, .node⟩]

/-- The running numbers while positions are counted (R302). -/
structure Count where
  key : List Byte
  inCar : Nat
  serial : Nat
  group : Nat
  car : Nat
  unit : Nat
  consist : Nat
  unitsHere : Nat
deriving DecidableEq, Repr

def Count.next (r : Report) (c : Count) : Count :=
  if c.car ≠ 0 ∧ c.key = r.car ∧ c.inCar < 2 then { c with inCar := c.inCar + 1 }
  else
    let c1 := { c with key := r.car, inCar := 1, car := c.car + 1 }
    if c.car ≠ 0 ∧ c.serial = r.unitSerial then c1
    else
      let c2 := { c1 with serial := r.unitSerial, unit := c.unit + 1 }
      if c.car ≠ 0 ∧ c.group = r.consistGroup ∧ c.unitsHere < 4 then { c2 with unitsHere := c.unitsHere + 1 }
      else { c2 with group := r.consistGroup, consist := c.consist + 1, unitsHere := 1 }

/-- Each place with its car, unit and consist numbers. -/
def countPlaces (c : Count) : List Place → List (Place × Count)
  | [] => []
  | p :: t => let c' := if p.kind = .passive then c else c.next p.node.report; (p, c') :: countPlaces c' t

/-- Car indices of a unit, one per car in position order. -/
def unitCarsOf (u : Nat) (l : List (Place × Count)) : List Nat :=
  (l.filter fun x => decide (x.2.unit = u) && decide (x.2.inCar = 1)).map fun x => x.1.node.report.carIndex

def rising : List Nat → Bool
  | a :: b :: t => decide (b = a + 1) && rising (b :: t)
  | _ => true

/-- A unit is reversed when its car_index values fall along the positions (R302). -/
def unitTurned (l : List Nat) : Bool := match l with | a :: t => decide ((a :: t).getLastD a < a) | [] => false

/-- Some unit is not whole or its car_index values are not consecutive (R302). -/
def unitOdd (u : Nat) (l : List (Place × Count)) : Bool :=
  let k := unitCarsOf u l
  let whole := match l.find? fun x => decide (x.2.unit = u) with | some x => decide (x.1.node.report.unitCars = k.length) | none => true
  !whole || !(rising k || rising k.reverse)

/-- The places before the first that breaks a limit, counted from the end of position 1; a passive node counts among the 128 (R303). -/
def within (l : List (Place × Count)) : List (Place × Count) :=
  (l.zipIdx.takeWhile fun x => decide (x.2 + 1 ≤ 128) && decide (x.1.2.car ≤ 64) && decide (x.1.2.unit ≤ 16) && decide (x.1.2.consist ≤ 4)).map fun x => x.1

/-- What numbering gives: the directory entries, the leader's position, reports by position, and the E213 codes with their positions. -/
structure Numbering where
  entries : List DirEntry
  leader : Nat
  reports : List (Nat × Report)
  notes : List (Nat × Nat)
deriving DecidableEq, Repr

/-- The side of a position (R307): 2 the leader itself, 0 where the leader's fore port faces it, 1 where the aft port does. -/
def sideOf (leader : Nat) (entries : List DirEntry) (p : Nat) : Nat :=
  let turned := match entries[leader - 1]? with | some e => e.orientation | none => false
  if p = leader then 2 else if p < leader then b2n turned else b2n (!turned)

/-- Entries as seen from a leader. -/
def seenFrom (leader : Nat) (entries : List DirEntry) : List DirEntry := entries.zipIdx.map fun x => { x.1 with side := sideOf leader entries (x.2 + 1) }

/-- A report as its node would answer a count of the leader at a position (R290, log entry 160): the hop, and the port that faces the leader. For the leader's own it names the port that faces position 1. -/
def reportSeen (leader p : Nat) (foreLeft : Bool) (r : Report) : Report :=
  { r with hop := if leader ≤ p then p - leader else leader - p, aftFacing := if leader ≤ p then !foreLeft else foreLeft }

/-- Number a chain that starts at position 1. -/
def numberFrom (digest : List Byte) (l : List ChainNode) : Numbering :=
  let all := countPlaces ⟨[], 0, 0, 0, 0, 0, 0, 0⟩ (places digest l)
  let kept := within all
  let fit := kept.filter fun x => decide (x.1.kind ≠ .passive)
  let nodes := fit.zipIdx.filter fun x => decide (x.1.1.kind = .node)
  let first := match nodes.head? with | some x => x.2 | none => 0
  let last := match nodes.getLast? with | some x => x.2 | none => 0
  let units := (List.range' 1 (match fit.getLast? with | some x => x.2.unit | none => 0))
  let leader := match nodes.find? fun x => x.1.1.node.lead with | some x => x.2 + 1 | none => 0
  { entries := seenFrom leader (fit.zipIdx.map fun x =>
      let p := x.1.1
      let c := x.1.2
      let r := p.node.report
      let free := decide (p.kind = .reserved)
      ⟨c.car, c.unit, c.consist, !p.node.foreLeft, unitTurned (unitCarsOf c.unit fit), free,
       if free then !r.roleS else r.roleS, !free && r.coldStart, !free && r.cabActive,
       !free && (decide (x.2 = first) || decide (x.2 = last)), if free then 0 else p.node.hop, 0,
       if free then 0 else p.node.old, p.node.joining⟩)
    leader := leader
    reports := nodes.map fun x => (x.2 + 1, reportSeen leader (x.2 + 1) x.1.1.node.foreLeft x.1.1.node.report)
    notes := (if kept.length < all.length then [(1, fit.length)] else []) ++ List.replicate (kept.length - fit.length) (2, 0) ++
      (units.filter fun u => unitOdd u fit).map fun u => (4, match fit.zipIdx.find? fun x => decide (x.1.2.unit = u) with | some x => x.2 + 1 | none => 0) }

/-- Number a chain (R298 to R304); when the limits would leave the leader out, position 1 is taken at the other end (R303). -/
def numberChain (digest : List Byte) (l : List ChainNode) : Numbering :=
  let a := if startsAtEnd l then turnChain l else l
  let n := numberFrom digest a
  if n.leader = 0 then numberFrom digest (turnChain a) else n

end Sys2Proof.Machine
end

