-- ==== Sys2Proof/Machine/Inaug.lean ====
section
/-! DEFINITION. Cold start, inauguration, coupling, cuts and insertion (file 09), and the link changes they follow. -/

namespace Sys2Proof.Machine

/-! ### Records a node sends (R290) -/

def InaState.code : InaState → Nat
  | .offline => 0 | .listen => 1 | .contest => 2 | .inaugurating => 3 | .running => 4 | .inserting => 5 | .reintegrating => 6 | .passive => 7
def InaPhase.code : InaPhase → Nat
  | .none => 0 | .collect => 1 | .numbering => 2 | .directory => 3 | .awaiting => 4 | .quiet => 5
def InsStep.code : InsStep → Nat
  | .none => 0 | .requested => 1 | .granted => 2 | .relayOpen => 3 | .linksUp => 4 | .inSchedule => 5 | .failed => 7

/-- cab_active as the lowest enabled slice publishes it (R298). -/
def State.cabPublished (s : State) : Bool :=
  match (List.finRange 16).find? fun i => decide (i.val < s.sliceCount) && (cfgPrtPortalEnable s.params).testBit i.val with
  | some i => (s.sliceRegions[i].word 0).testBit 18
  | none => false

/-- The twin reports state running (R292, R397). -/
def State.twinRunning (s : State) : Bool := s.twn.link && (match s.twn.beat with | some b => decide (b.twinState = 1) | none => false)

/-- The own report (R290). -/
def State.ownReport (hop : Nat) (aftFacing end_ : Bool) (s : State) : Report where
  hop := hop
  aftFacing := aftFacing
  end_ := end_
  cabActive := s.cabPublished
  roleS := s.roleS
  coldStart := (cfgHierCarFlags s.params).testBit 1
  twinRunning := s.twinRunning
  car := memGetBytes ramDefault s.params (cfgKey 2 0) 10
  digest := s.modeDigest
  version := s.cfg.version

def State.coldCapable (s : State) : Bool := (cfgHierCarFlags s.params).testBit 1
def State.couplerEnd (aft : Bool) (s : State) : Bool := (cfgHierCouplerEnds s.params).testBit (if aft then 1 else 0)

def State.ownHello (i : Fin 4) (s : State) : Hello :=
  ⟨s.ina.st.code, portAft i, s.couplerEnd (portAft i), s.hws.position, s.ina.nonce, s.ina.generation, s.word64⟩

def State.sendHello (i : Fin 4) (s : State) : State := (s.sendPort i (.hello (s.ownHello i))).modPort i fun x => { x with helloAt := s.now }

/-- Out of both A ports that have their link up. -/
def State.sendBothA (b : Body) (s : State) : State := (s.sendPort 0 b).sendPort 1 b

/-- The port at an end by which a coupler node speaks with its partner (R314): channel A's, or B's where A has no link. -/
def State.couplerPort (aft : Bool) (s : State) : Fin 4 := if (s.hws.ports[portAt 0 aft]).linkUp then portAt 0 aft else portAt 1 aft

/-- A coupler node sends to its partner what concerns a merge that has started (R308, R314). -/
def State.toPartner (b : Body) (s : State) : State :=
  match s.ina.merge with
  | some g => if g.started then s.sendPort (s.couplerPort g.aft) b else s
  | none => s

/-- A request of type 14 to the leader, in a container (R290). -/
def State.askLeader (code channel : Nat) (s : State) : State := s.queueAsync s.hws.master (.request ⟨code, channel, s.ownReport 0 false false⟩)

/-- A trigger of R312. -/
def State.trigger (t : Nat) (s : State) : State := (s.modIna fun x => { x with trigger := t, startAt := s.now }).inaEvent 0 0 0

/-! ### Directories (R307 to R311) -/

/-- The leader distributes a numbering: hop by hop when it is count-based, else in a container, and across the coupler where it is the coupler node (R308, R309). -/
def State.issue (num : Numbering) (countBased free : Bool) (offset : Int) (base mode : Nat) (s : State) : State :=
  let s := num.notes.foldl (fun s x => s.inaEvent 5 x.1 x.2) s
  let n := num.entries.length
  let d := if countBased then 1000000 + 300000 * n else 3 * s.tcyc
  let sw0 := s.hws.cycle + (d + s.tcyc - 1) / s.tcyc + 2
  let sw := if s.hws.switchPending then max sw0 (s.hws.switchCycle + 1) else sw0
  let dir : Directory := ⟨base + 1, s.ina.nonce, sw, num.leader, free, countBased, mode, offset, 2 ^ (num.leader - 1), num.entries⟩
  let s := s.modIna fun x => { x with phase := .directory, pendingDir := some dir, pendingReports := num.reports, collect := none }
  if countBased then s.sendBothA (.directory dir) else (s.queueAsync 0 (.directory dir)).toPartner (.directory dir)

/-- The trigger of R312 that a directory tells a node which has not seen it happen (log entry 162). -/
def State.triggerOf (d : Directory) (s : State) : Nat :=
  let granted := match s.ina.grant with | some g => g.at_.isSome && !g.followed | none => false
  if d.countBased then 1
  else if d.entries.any fun e => e.joining then 2
  else if granted || d.entries.any fun e => !e.reserved && decide (e.oldPosition = 0) then 4
  else if d.renumberingFree then 5 else 3

/-- A node that learns of an inauguration by its directory takes that for its beginning (R312, log entry 162). -/
def State.learnStart (d : Directory) (s : State) : State :=
  let knows := s.ina.pendingDir.isSome || d.countBased || (match s.ina.merge with | some g => g.started | none => false)
  if knows then s else s.modIna fun x => { x with trigger := s.triggerOf d, startAt := s.now }

/-- DIRECTORY_RECEIVE (R308). `aft`: the A port it came by, when it came hop by hop; an end, marked or without a link beyond, returns it (R297). -/
def State.directoryReceive (aft container : Bool) (d : Directory) (s : State) : State :=
  if !s.hawserRuns then s
  else if s.ina.leader && decide (s.ina.nonce = d.nonce) then
    match s.ina.pendingDir with
    | some q =>
      if q.generation = d.generation ∧ q.switchCycle = d.switchCycle then
        let bits := q.bits ||| d.bits
        let all := q.entries.zipIdx.all fun x => x.1.reserved || bits.testBit x.2
        s.modIna fun x => { x with pendingDir := some { q with bits := bits }, phase := if all then .awaiting else x.phase }
      else s
    | none => s
  else
    let higher := decide (s.ina.generation < d.generation)
    let d' := s.accept d
    let couples := d.entries.any (fun e => e.joining) && (match s.ina.merge with | some g => g.started | none => false)
    let s := if higher then (s.learnStart d).modIna fun x => { x with pendingDir := some d', phase := .awaiting } else s
    if container then (if couples then s.toPartner (.directory d') else s)
    else if couples then s.queueAsync 0 (.directory d')
    else
      let other := portAt 0 (!aft)
      let ended := (aft == s.ina.toLeader) && (match (s.ownPlace d).bind fun p => d.entries[p - 1]? with | some e => e.end_ | none => false)
      if (s.hws.ports[other]).linkUp && !ended then s.sendPort other (.directory d') else s.sendPort (portAt 0 aft) (.directory d')

/-- The leader gives up an insertion: E214 code 3 (R325). -/
def State.failInsertion (s : State) : State := (s.modIna fun x => { x with insertion := none }).inaEvent 6 3 (match s.ina.insertion with | some i => i.position | none => 0)

/-- ACCEPTANCE_CHECK (R309), at the sync point of switch_cycle − 1. -/
def State.acceptanceCheck (s : State) : State :=
  match s.ina.pendingDir with
  | some d =>
    if s.hawserRuns && s.ina.leader && decide (s.ina.nonce = d.nonce) && decide (d.switchCycle ≤ s.hws.cycle + 1) then
      let missing := (d.entries.zipIdx.filter fun x => !x.1.reserved && !d.bits.testBit x.2).map fun x => x.2 + 1
      if missing = [] then s.modIna fun x => { x with phase := .awaiting }
      else
        let s := if d.countBased then s.sendBothA (.cancel d.generation) else s.queueAsync 0 (.cancel d.generation)
        let s := s.inaEvent 7 0 0
        let out := missing.filter fun p => decide (p ∈ s.ina.missedOnce)
        let s := out.foldl (fun s p => s.inaEvent 5 3 p) s
        let s := if out.any fun p => match d.entries[p - 1]? with | some e => decide (e.oldPosition = 0) && !e.joining && !d.countBased | none => false then s.failInsertion else s
        let kept := d.entries.zipIdx.filter fun x => decide (x.2 + 1 ∉ out)
        let shift (p : Nat) : Nat := p - (out.filter fun q => decide (q < p)).length
        let num : Numbering := ⟨kept.map fun x => x.1, shift d.leader, (s.ina.pendingReports.filter fun x => decide (x.1 ∉ out)).map fun x => (shift x.1, x.2), []⟩
        let s := s.modIna fun x => { x with missedOnce := (missing.filter fun p => decide (p ∉ out)).map shift }
        s.issue num d.countBased d.renumberingFree d.timeOffset (d.generation - 1) d.mode
    else s
  | none => s

/-- A list in pieces of at most `k`; `n` bounds their number. -/
def chunks {α : Type} (k : Nat) : Nat → List α → List (List α)
  | 0, _ => []
  | _, [] => []
  | n + 1, l => l.take k :: chunks k n (l.drop k)

/-- Slots, their data and what was heard follow their senders to their new positions; a position without an old sender starts afresh, and no poll entry has brought fresh data since this inauguration (R272, R310). -/
def Hawser.moveSlots (entries : List DirEntry) (joining : Bool) (h : Hawser) : Hawser :=
  let old (i : Nat) : Option (Fin 128) := match entries[i]? with
    | some e => if e.oldPosition ≠ 0 ∧ (e.joining = joining) ∧ e.reserved = false then some (pos128 e.oldPosition) else none
    | none => none
  { h with
    data := h.data.map fun v => v.mapIdx fun i _ => match old i with | some k => v[k] | none => []
    slotsA := h.slotsA.mapIdx fun i _ => match old i with | some k => h.slotsA[k] | none => Slot.reset
    slotsB := h.slotsB.mapIdx fun i _ => match old i with | some k => h.slotsB[k] | none => Slot.reset
    polls := h.polls.map fun x => { x with seen := false }
    rx := h.rx.mapIdx fun i _ => match old i with | some k => h.rx[k] | none => NodeRx.reset }

/-- A port after a numbering (R255, R280, R301, R310). -/
def State.portAfter (d : Directory) (p : Nat) (orient : Bool) (x : HPort) (c : Fin 2) (i : Fin 4) : HPort :=
  let present (q : Nat) : Bool := match d.entries[q - 1]? with | some e => decide (1 ≤ q) && !e.reserved | none => false
  let low := !(List.range' 1 (p - 1)).any present
  let high := !(List.range' (p + 1) (d.entries.length - p)).any present
  let out := decide (i = portAt c (!orient))
  let ended := match d.entries[p - 1]? with | some e => e.end_ | none => false
  let outer := ended && (if out then high else low)
  { x with egress := out, guardFold := false, lost := false, hist := 0, folded := !x.linkUp || outer }

/-- The data of every slot stands where the entries of its new position put it (R310): in the shadow copy, so that it is seen from the next sync point on (log entry 163). -/
def State.placeData (s : State) : State :=
  (List.finRange 128).foldl (fun s p => (s.placeEntries p 0).placeEntries p 1) s

/-- DIRECTORY_SWITCH (R310): the directory takes force and the quiet cycle begins. A member that has left the schedule, or a channel of it, comes back by its beacons alone (R321), and a node without an entry is passive, its insertion failed (R307, R325). -/
def State.takeDirectory (d : Directory) (s : State) : State :=
  let joining := s.joins d
  let back := decide (s.ina.st = .reintegrating)
  let member := decide (s.ina.st = .running)
  let common := fun (x : Inaug) => { x with
    grant := x.grant.map fun (g : Grant) => { g with followed := g.followed || decide (x.trigger = 4) },
    pendingDir := none, collect := none, missedOnce := [], merge := none, mergeRefused := false, repairAt := none, splitAt := none, resetCycle := none,
    nonce := d.nonce, generation := d.generation, dir := d.entries, cntInaug := satInc 255 x.cntInaug, duration := min 65535 ((s.now - x.startAt) / 10000) }
  match s.ownPlace d with
  | none =>
    let under (st : InsStep) : Bool := decide (st ≠ .none) && decide (st ≠ .inSchedule) && decide (st ≠ .failed)
    let fails := under s.ina.stepA || under s.ina.stepB
    let fail (st : InsStep) : InsStep := if under st then .failed else st
    let s := s.modIna fun x => { common x with st := .passive, phase := .none, leader := false, reports := [], stepA := fail x.stepA, stepB := fail x.stepB }
    let s := (s.modHws fun h =>
      { h with position := 0, master := d.leader, n := d.entries.length, inSchedule := Vector.replicate 2 false, cycle := d.switchCycle, mode := d.mode,
               ports := h.ports.map fun x => { x with guardFold := false, lost := false, hist := 0, folded := !x.linkUp } }).inaEvent 1 0 0
    if fails then s.inaEvent 6 3 0 else s
  | some p =>
    let e := d.entries[p - 1]?
    let orient := match e with | some e => e.orientation | none => false
    let lead := decide (p = d.leader)
    let s := s.modHws fun h =>
      { h.moveSlots d.entries joining with
        position := p, master := d.leader, n := d.entries.length, cycle := d.switchCycle, mode := d.mode, switchPending := false,
        inSchedule := Vector.ofFn fun c : Fin 2 => if back then h.inSchedule[c] else s.ina.admitted[c] && !(member && h.leftRaised[c]), beaconRun := if back then 0 else h.beaconRun, ringTime := Vector.replicate 2 0, degraded := Vector.replicate 2 false, faultRun := Vector.replicate 2 0,
        beaconMissed := 0, ownRun := Vector.replicate 2 0, leftRaised := if back || member then h.leftRaised else Vector.replicate 2 false, lostRaised := false,
        ports := h.ports.mapIdx fun i x => if hi : i < 4 then State.portAfter d p orient x (portChannel ⟨i, hi⟩) ⟨i, hi⟩ else x }
    let new (c : Fin 2) (st : InsStep) : Bool := s.ina.admitted[c] && decide (st ≠ .none) && decide (st ≠ .inSchedule)
    let ins (c : Fin 2) (st : InsStep) : InsStep := if new c st then .inSchedule else st
    let enters := new 0 s.ina.stepA || new 1 s.ina.stepB
    let s := s.modIna fun x => { common x with
      st := if back then .reintegrating else .running, phase := if back then .none else .quiet, leader := lead, tookOver := x.tookOver && lead, reports := if lead then x.pendingReports else [], pendingReports := [],
      orientation := some orient, unitReversed := match e with | some e => e.unitReversed | none => false,
      car := match e with | some e => e.car | none => 0, unit := match e with | some e => e.unit | none => 0, consist := match e with | some e => e.consist | none => 0,
      stepA := ins 0 x.stepA, stepB := ins 1 x.stepB, insertion := if x.trigger = 4 then x.insertion.map (fun (i : Insertion) => { i with dirs := i.dirs + 1 }) else x.insertion }
    let s := s.placeData
    let s := if enters then s.inaEvent 6 2 p else s
    let s := s.inaEvent 1 0 p
    if lead then (chunks 52 s.ina.reports.length (s.ina.reports.map fun x => x.2)).foldl (fun s rs => s.queueAsync 0 (.report rs 0)) s else s

/-- The guard of the switch: a member of the leader's segment counts its cycles; others follow the leader's sync point. -/
def State.switchDue (d : Directory) (s : State) : Bool :=
  s.hawserRuns && (!(s.ina.leader || (decide (s.ina.st = .running) && decide (s.ina.nonce = d.nonce))) || decide (s.ina.nonce ≠ d.nonce) || decide (d.switchCycle ≤ s.hws.cycle))

/-- CANCEL_OR_RESET_RECEIVE (R290, R309, R323). -/
def State.cancelOrReset (generation code resetCycle : Nat) (s : State) : State :=
  if !s.hawserRuns then s
  else if code = 1 then
    match s.ina.pendingDir with
    | some d => if d.generation = generation then s.modIna fun x => { x with pendingDir := none, phase := if x.st = .running then .none else .collect } else s
    | none => s
  else if code = 2 ∧ generation = s.ina.generation then s.modIna fun x => { x with resetCycle := some resetCycle }
  else s

/-! ### Admission (R292) -/

/-- TWIN_STATE_WAIT_END (R292): at once when the twin has reported its state, else 250 ms after the handover. -/
def State.twinWaitEnd (s : State) : State :=
  match s.ina.handoverAt with
  | some t =>
    if !s.hawserRuns then s
    else if s.twinRunning then
      let s := s.modIna fun x => { x with handoverAt := none, st := .inserting, stepA := .requested, announced := true }
      s.send ⟨.twin, 0, (s.header 0 false false 0 0), .relayed ⟨1, 0, s.ownReport 0 false false⟩⟩
    else
      let s := if s.twn.link && s.twn.beat.isSome then s else s.advance (t + ms 250)
      (s.modIna fun x => { x with handoverAt := none, admitted := x.admitted.set 0 true, admittedAt := s.now }).openRelay 0
  | none => s

/-- CHANNEL_B_ADMISSION (R292). -/
def State.admitB (s : State) : State :=
  if s.hawserRuns && s.ina.admitted[0] && !s.ina.admitted[1] && !s.ina.announced && !s.ina.runningHello then
    let s := s.advance (s.ina.admittedAt + ms 200)
    (s.modIna fun x => { x with admitted := x.admitted.set 1 true }).openRelay 1
  else s

/-! ### Cold start (R293 to R297) -/

/-- LISTEN_START (R293). `r` in steps of 10 µs. A node that has answered a count and got no directory stands beyond a marked end: it listens again, with no position and no generation, and forms a segment with those beyond it (R288, R297, log entry 164). -/
def State.listenStart (r : Nat) (s : State) : State :=
  let ready (i : Fin 4) : Bool := (s.hws.ports[i]).linkUp || (s.hws.relays[0].open_ && decide (s.hws.relays[0].openedAt + ms 250 ≤ s.now))
  let left := decide (s.ina.st = .inaugurating) && !s.ina.leader && s.ina.pendingDir.isNone && decide (s.ina.startAt + ms 33 ≤ s.now)
  if s.hawserRuns && s.ina.admitted[0] && (decide (s.ina.st = .offline) || left) && ready 0 && ready 1 then
    let s := if left then (s.modIna fun x => { x with generation := 0 }).modHws fun h => { h with position := 0 } else s
    s.modIna fun x => { x with st := .listen, phase := .none, heardAny := false, listenEnd := if s.coldCapable then some (s.now + ms 25 + min r 500 * 10000) else none }
  else s

/-- A nonce received or sent, with its time (R294). -/
def State.hearNonce (nonce : Nat) (s : State) : State := s.modIna fun x => { x with heard := (x.heard.filter fun y => decide (s.now ≤ y.2 + ms 10)) ++ [(nonce, s.now)] }

/-- LISTEN_WINDOW_END (R294). -/
def State.listenEnd (nonce : Nat) (s : State) : State :=
  match s.ina.listenEnd with
  | some t =>
    if s.hawserRuns && decide (s.ina.st = .listen) && !s.ina.heardAny then
      let s := s.advance t
      s.modIna fun x => { x with st := .contest, ownNonce := nonce % 2 ^ 64, contestAt := none, lastCold := none, listenEnd := none }
    else s
  | none => s

/-- COLD_START_FRAME_SEND (R294). -/
def State.coldSend (s : State) : State :=
  if s.hawserRuns && decide (s.ina.st = .contest) then
    let s := match s.ina.lastCold with | some t => s.advance (t + ms 1) | none => s
    let s := s.sendBothA (.coldStart s.ina.ownNonce s.modeDigest)
    s.modIna fun x => { x with lastCold := some s.now, contestAt := some (x.contestAt.getD s.now), heard := x.heard ++ [(x.ownNonce, s.now)] }
  else s

/-- COLD_START_FRAME_RECEIVE (R293 to R295), by A-fore or A-aft; every node whose ports carry no schedule relays it. `r` is a fresh draw for a listening window. -/
def State.coldReceive (aft : Bool) (nonce : Nat) (digest : List Byte) (r : Nat) (s : State) : State :=
  if s.hawserRuns && decide (s.ina.st ≠ .running) && decide (s.ina.st ≠ .reintegrating) then
    let recent := s.ina.heard.filter fun x => decide (s.now ≤ x.2 + ms 10)
    let relay := recent.all fun x => decide (nonce ≤ x.1)
    let s := s.modIna fun x => { x with heard := recent ++ [(nonce, s.now)] }
    let s := if relay then s.sendPort (portAt 0 (!aft)) (.coldStart nonce digest) else s
    match s.ina.st with
    | .contest =>
      if nonce < s.ina.ownNonce then s.modIna fun x => { x with st := .listen, heardAny := true, listenEnd := none }
      else if nonce = s.ina.ownNonce then
        (s.modIna fun x => { x with st := .listen, heardAny := false, listenEnd := some (s.now + ms 25 + min r 500 * 10000) }).inaEvent 7 0 0
      else s
    | .listen => s.modIna fun x => { x with heardAny := true, listenEnd := none }
    | _ => s
  else s

/-- The unbroken run of hops a leader holds on a side (R296), nearest first. -/
def sideRun (k : Nat) (l : List (Nat × Report)) (side : Nat) : List Report :=
  ((List.range' 1 k).map fun hop => (l.find? fun x => decide (x.1 = side) && decide (x.2.hop = hop)).map fun x => x.2).takeWhile (fun x => x.isSome) |>.filterMap id

/-- The chain of a count: the fore side from its far end, the leader, the aft side. -/
def State.countChain (c : Collect) (s : State) : List ChainNode :=
  let f := sideRun 128 c.reports 0
  let a := sideRun 128 c.reports 1
  (f.reverse.map fun r => (⟨r, r.aftFacing, r.hop, 0, false, false⟩ : ChainNode)) ++
  [⟨s.ownReport 0 false (f.isEmpty || a.isEmpty), true, 0, 0, false, true⟩] ++
  a.map fun r => ⟨r, !r.aftFacing, r.hop, 0, false, false⟩

/-- The count is complete (R296): on each side nothing is linked (log entry 139), or the run ends in a report with end set. -/
def State.countComplete (c : Collect) (s : State) : Bool :=
  let side (i : Fin 4) (k : Nat) : Bool := !(s.hws.ports[i]).linkUp || (match (sideRun 128 c.reports k).getLast? with | some r => r.end_ | none => false)
  side 0 0 && side 1 1

def State.numberCount (c : Collect) (s : State) : State :=
  s.issue (numberChain s.modeDigest (s.countChain c)) true false 0 s.ina.generation s.hws.mode

/-- A leader starts the count (R296). With no link on either A port nothing is left to count, and it numbers itself at once (log entry 139). -/
def State.startCount (trig : Nat) (s : State) : State :=
  let s := s.modIna fun x => { x with leader := true, st := .inaugurating, phase := .collect, collect := some ⟨[], s.now, 0⟩, missedOnce := [] }
  let s := s.modHws fun h => { h with mode := cfgHwsInitialMode s.params }
  let s := s.trigger trig
  let s := (s.sendBothA (.count s.ina.nonce (s.ina.generation + 1) 0)).hearNonce s.ina.nonce
  if s.countComplete ⟨[], s.now, 0⟩ then s.numberCount ⟨[], s.now, 0⟩ else s

/-- CONTEST_TIMEOUT (R295). -/
def State.contestTimeout (s : State) : State :=
  match s.ina.contestAt with
  | some t =>
    if s.hawserRuns && decide (s.ina.st = .contest) then
      let s := s.advance (t + ms 6)
      let s := (s.modIna fun x => { x with nonce := x.ownNonce, leader := true }).inaEvent 2 0 0
      s.startCount 1
    else s
  | none => s

/-- COUNT_RECEIVE (R295, R296). `side` is the leader's port the count left by, which the identity of R307 needs. -/
def State.countReceive (aft : Bool) (nonce generation hop side : Nat) (s : State) : State :=
  let s := if s.hawserRuns then s.hearNonce nonce else s
  let yields := decide (s.ina.st = .listen) || (decide (s.ina.st = .contest) && decide (nonce < s.ina.ownNonce)) || (decide (s.ina.st = .inaugurating) && !s.ina.leader)
  if s.hawserRuns && yields then
    let other := portAt 0 (!aft)
    let linked := (s.hws.ports[other]).linkUp
    let s := if s.ina.st = .inaugurating then s else s.modIna fun x => { x with startAt := s.now, trigger := 1 }
    let s := s.modIna fun x => { x with st := .inaugurating, phase := .collect, heardAny := true, listenEnd := none, toLeader := aft, hop := hop + 1, side := side }
    let s := s.sendPort (portAt 0 aft) (.report [s.ownReport (hop + 1) aft (!linked)] 0)
    s.sendPort other (.count nonce generation (hop + 1))
  else s

/-- REPORT_RECEIVE (R289, R296). -/
def State.reportReceive (aft : Bool) (rs : List Report) (s : State) : State :=
  if !s.hawserRuns then s
  else match s.ina.collect with
    | some c =>
      let c := { c with reports := c.reports ++ rs.map fun r => (b2n aft, r) }
      let s := s.modIna fun x => { x with collect := some c }
      if s.countComplete c then s.numberCount c else s
    | none =>
      if s.ina.st = .inaugurating then s.sendPort (portAt 0 s.ina.toLeader) (.report rs 0)
      else if s.ina.st = .running ∧ s.ina.leader = false then
        let left := ((List.range' 1 s.ina.dir.length).filter fun p => s.present p).drop s.ina.reports.length
        s.modIna fun x => { x with reports := x.reports ++ left.zip rs }
      else s

/-- COUNT_TIMEOUT (R297). -/
def State.countTimeout (s : State) : State :=
  match s.ina.collect with
  | some c =>
    if s.hawserRuns && s.ina.leader then (((s.advance (c.at_ + ms 33)).inaEvent 7 0 0)).numberCount c else s
  | none => s

/-! ### Links (R252, R255, R315, R319) -/

/-- The chain of the segment in force, from position 1, over the positions given. -/
def State.segmentChain (keep : List Nat) (s : State) : List ChainNode :=
  keep.filterMap fun p => match s.entryAt p, (if p = s.hws.position then some (s.ownReport 0 false false) else (s.ina.reports.find? fun x => decide (x.1 = p)).map fun x => x.2) with
    | some d, some r => if d.reserved then none else some ⟨r, !d.orientation, 0, p, false, decide (p = s.hws.position)⟩
    | _, _ => none

/-- What a renumbering-free directory holds: every position as it is, one of them now held by the inserted node (R313, R318). -/
def State.freeNumbering (insert : Option (Nat × Report)) (s : State) : Numbering where
  entries := seenFrom s.hws.position (s.ina.dir.zipIdx.map fun x =>
    let e := { x.1 with hop := 0, oldPosition := if x.1.reserved then 0 else x.2 + 1, joining := false }
    match insert with
    | some (p, r) => if p = x.2 + 1 then { e with reserved := false, roleS := r.roleS, coldStart := r.coldStart, cabActive := r.cabActive, oldPosition := 0 } else e
    | none => e)
  leader := s.hws.position
  reports := match insert with
    | some x => (s.ina.reports.filter fun y => decide (y.1 < x.1)) ++ (x.1, reportSeen s.hws.position x.1 (match s.entryAt x.1 with | some d => !d.orientation | none => true) x.2) :: s.ina.reports.filter fun y => decide (x.1 < y.1)
    | none => s.ina.reports
  notes := []

/-- A running inauguration is given up for a cut; with a switch pending the leader cancels it (R324). -/
def State.dropInauguration (s : State) : State :=
  let s := match s.ina.pendingDir with
    | some d => if s.ina.leader && decide (s.ina.nonce = d.nonce) then (if d.countBased then s.sendBothA (.cancel d.generation) else s.queueAsync 0 (.cancel d.generation)) else s
    | none => s
  s.modIna fun x => { x with pendingDir := none, collect := none, phase := if x.phase = .quiet then .quiet else .none }

/-- Some node of the segment stands beyond this one at an end: without one the links there belong to no segment yet. -/
def State.goesOn (aft : Bool) (s : State) : Bool :=
  let p := s.hws.position
  if portAt 0 aft = s.egress 0 then (List.range' (p + 1) (s.ina.dir.length - p)).any fun q => s.present q else (List.range' 1 (p - 1)).any fun q => s.present q

/-- CUT_DETECTION (R315): both ports at an end have lost their links, before or after a numbering, and the segment goes on beyond them. -/
def State.checkCut (aft : Bool) (s : State) : State :=
  if decide (s.hws.position ≠ 0) && (s.hws.ports[portAt 0 aft]).linkLost && (s.hws.ports[portAt 1 aft]).linkLost && s.goesOn aft then
    let s := s.dropInauguration
    let s := s.modIna fun x => { x with splitAt := some s.now, merge := match x.merge with | some g => if g.aft = aft then none else some g | none => none }
    s.inaEvent 4 (if s.couplerEnd aft then 1 else 2) s.hws.position
  else s

/-- LINK_DOWN (R255, R315, R319). -/
def State.linkDown (i : Fin 4) (s : State) : State :=
  let x := s.hws.ports[i]
  if s.hawserRuns && x.linkUp then
    let exempt := s.facesGrant i
    let s := s.modPort i fun x => { x with linkUp := false, folded := true, lost := x.lost || !exempt, linkLost := !exempt, downAt := s.now, partner := none }
    let s := (s.hwsEvent 0 i.val 0 0).hwsEvent 1 i.val 0 0
    let s := s.modIna fun x => { x with mergeRefused := false }
    if exempt then s else s.checkCut (portAft i)
  else s

/-- LINK_UP (R252, R313, R318 step 4). A port of a numbered node stays folded until a switch. -/
def State.linkUp (i : Fin 4) (phyMaster : Bool) (s : State) : State :=
  let x := s.hws.ports[i]
  let c := portChannel i
  if s.hawserRuns && !x.linkUp && (s.hws.relays[c]).open_ then
    let s := s.modPort i fun x => { x with linkUp := true, linkLost := false, phyMaster := phyMaster, upAt := s.now, folded := decide (s.hws.position ≠ 0) || x.guardFold }
    let s := (s.hwsEvent 0 i.val 0 0).modIna fun x => { x with mergeRefused := false }
    let both := (s.hws.ports[portAt c false]).linkUp && (s.hws.ports[portAt c true]).linkUp
    let up (st : InsStep) : InsStep := if st = .relayOpen ∧ both = true then .linksUp else st
    let s := s.modIna fun x => if c = 0 then { x with stepA := up x.stepA } else { x with stepB := up x.stepB }
    s.sendHello i
  else s

/-! ### Hellos, merge and ring repair (R313, R314) -/

/-- HELLO_RECEIVE (R293, R313, R320). A node outside a segment takes the cycle number of a running partner. -/
def State.helloReceive (i : Fin 4) (cycle : Nat) (h : Hello) (s : State) : State :=
  if !s.hawserRuns || !(s.hws.ports[i]).linkUp then s
  else
    let s := s.modPort i fun x => { x with partner := some h, partnerDiff := (s.word64 : Int) - h.time - x.delay }
    let mine := s.ina.st
    if h.state = 4 then
      if mine = .running then
        if h.nonce = s.ina.nonce ∧ h.generation = s.ina.generation then
          if s.ina.stepB = .linksUp ∧ portChannel i = 1 then s.askLeader 1 1
          else if (s.hws.ports[i]).folded then
            (if s.ina.leader then s.modIna fun x => { x with repairAt := some (x.repairAt.getD s.now) } else s.askLeader 4 (portChannel i).val)
          else s
        else if s.ina.merge.isNone && !s.ina.mergeRefused then
          (s.modIna fun x => { x with merge := some ⟨portAft i, s.hws.ports[i].upAt, false, h.nonce, h.generation⟩ }).inaEvent 3 0 s.hws.position
        else s
      else
        let s := (s.modIna fun x => { x with runningHello := true }).modHws fun w => { w with cycle := cycle }
        if (mine = .listen ∨ mine = .contest) ∧ portChannel i = 0 then
          let s := s.modIna fun x => { x with st := .inserting, stepA := .requested, announced := false, listenEnd := none }
          s.sendPort i (.request ⟨1, 0, s.ownReport 0 (portAft i) false⟩)
        else if mine = .inserting ∧ s.ina.stepA = .linksUp then s.sendPort i (.request ⟨1, 0, s.ownReport 0 (portAft i) false⟩)
        else s
    else s

/-- HELLO_REPEAT (R313). -/
def State.helloRepeat (i : Fin 4) (s : State) : State :=
  let x := s.hws.ports[i]
  if s.hawserRuns && x.linkUp && x.folded then (s.advance (x.helloAt + ms 100)).sendHello i else s

/-- Whether each node of a joining segment, listed outward from the coupler, has its fore end towards the coupler. A report names the port that faces its leader (R290), the node of hop 0: a node inside it has the leader outward, one beyond it inward. The leader's own names the port that faces its position 1 (log entry 160). -/
def foreInward (rises : Bool) : List (Nat × Report) → List ((Nat × Report) × Bool)
  | [] => []
  | x :: t =>
    if x.2.hop = 0 then (x, x.2.aftFacing != rises) :: t.map fun y => (y, !y.2.aftFacing)
    else (x, x.2.aftFacing) :: foreInward rises t

/-- The chain of a merge: the partner's nodes beyond the end they couple to, listed outward from the coupler. -/
def mergeChain (far : Bool) (own : List ChainNode) (reports : List (Nat × Report)) : List ChainNode :=
  let l := foreInward (match reports with | x :: y :: _ => decide (x.1 < y.1) | _ => true) reports
  if far then own ++ l.map fun x => ⟨x.1.2, x.2, 0, x.1.1, true, false⟩
  else (l.reverse.map fun x => (⟨x.1.2, !x.2, 0, x.1.1, true, false⟩ : ChainNode)) ++ own

/-- MERGE_START (R303, R313, R314, R324): what it is at a coupler node, and what it is at a leader. -/
def State.mergeStart (far : Bool) (partner generation : Nat) (reports : List (Nat × Report)) (offset : Int) (fresh : Nat) (s : State) : State :=
  if !s.hawserRuns || decide (s.ina.st ≠ .running) || s.inaugurating then s
  else
    let s := match s.ina.merge with
      | some g =>
        let linked := (s.hws.ports[portAt 0 g.aft]).linkUp && (s.hws.ports[portAt 1 g.aft]).linkUp
        let s := if linked then s else s.advance (g.firstAt + ms (cfgHierMergeWait s.params))
        let s := s.modIna fun x => { x with merge := some { g with started := true } }
        let s := s.modIna fun x => { x with trigger := 2, startAt := s.now }
        let s := (chunks 52 s.ina.reports.length (s.ina.reports.map fun x => x.2)).foldl (fun s rs => s.toPartner (.report rs 0)) s
        if s.ina.leader then s
        else (chunks 52 (s.ina.reports.length + reports.length) ((s.ina.reports ++ reports).map fun x => x.2)).foldl (fun s rs => s.queueAsync s.hws.master (.report rs ((s.hws.ports[s.couplerPort g.aft]).partnerDiff / 65536))) s
      | none => s
    if !s.ina.leader then s
    else if partner = s.ina.nonce then
      (s.modIna fun x => { x with nonce := fresh % 2 ^ 64, merge := x.merge.map fun g => { g with started := false } }).inaEvent 7 0 0
    else if s.ina.nonce < partner then
      let chain := mergeChain far (s.segmentChain (List.range' 1 s.ina.dir.length)) reports
      let num := numberChain s.modeDigest chain
      if num.notes.any fun x => decide (x.1 = 1) then (s.modIna fun x => { x with merge := none, mergeRefused := true }).inaEvent 5 1 0
      else ((s.inaEvent 2 0 s.hws.position).trigger 2).issue num false false offset (max s.ina.generation generation) s.hws.mode
    else s

/-- JOINING_SEGMENT_TIME_STEP (R314): the step, and nothing sent until the switch. -/
def State.joinTimeStep (s : State) : State :=
  match s.ina.pendingDir with
  | some d =>
    if s.hawserRuns && decide (s.ina.nonce ≠ d.nonce) && decide (s.ina.st = .running) then
      let s := s.modHws fun h => { h with inSchedule := Vector.replicate 2 false, pendingStep := some (d.timeOffset * 65536), stepReady := decide (s.now ≤ s.lastSync + 3) }
      s.applyHwsStep
    else s
  | none => s

/-- RING_REPAIR_COLLECT_END (R313). -/
def State.repairEnd (s : State) : State :=
  match s.ina.repairAt with
  | some t =>
    if s.hawserRuns && s.ina.leader && !s.inaugurating then
      let s := s.advance (t + ms (cfgHierMergeWait s.params))
      ((s.modIna fun x => { x with repairAt := none }).trigger 5).issue (s.freeNumbering none) false true 0 s.ina.generation s.hws.mode
    else s
  | none => s

/-! ### Cuts (R315 to R317) -/

/-- A position shows a cut towards lower or higher positions: both its ports at that end are lost. -/
def State.cutAt (higher : Bool) (p : Nat) (s : State) : Bool :=
  let w := if p = s.hws.position then s.healthWord else (s.hws.rx[pos128 p]).health
  let o := match s.entryAt p with | some d => d.orientation | none => false
  if higher != o then w.testBit 5 && w.testBit 7 else w.testBit 4 && w.testBit 6

/-- Positions on this side of every cut that is seen, around a position (R317). -/
def State.uncut (m : Nat) (s : State) : List Nat :=
  let low := ((List.range' 1 m).filter fun p => s.present p && s.cutAt false p).getLastD 1
  let high := match (List.range' m (s.ina.dir.length + 1 - m)).find? fun p => s.present p && s.cutAt true p with | some p => p | none => s.ina.dir.length
  (List.range' low (high + 1 - low)).filter fun p => s.present p

/-- This node is the deputy of a part whose cut from the leader has been seen (R306, R316). -/
def State.deputyOf (s : State) : Bool :=
  let m := s.hws.master
  let own := s.hws.position
  let cold (p : Nat) : Bool := match s.entryAt p with | some d => d.coldStart && !d.reserved | none => false
  let heard (p : Nat) : Bool := decide (p = own) || (s.hws.rx[pos128 p]).last || (s.hws.rx[pos128 p]).now
  cold own && (List.range' 1 s.ina.dir.length).any fun p =>
    s.present p && heard p &&
    ((decide (m < p) && decide (p ≤ own) && s.cutAt false p && !(List.range' p (own - p)).any cold) ||
     (decide (p < m) && decide (own ≤ p) && s.cutAt true p && !(List.range' (own + 1) (p - own)).any cold))

/-- DEPUTY_TAKEOVER (R316): the cycle that begins here is the quiet one (log entry 132). -/
def State.deputyTakeover (nonce : Nat) (s : State) : State :=
  if s.hawserRuns && decide (s.hws.position ≠ 0) && !s.isMaster && decide (2 ≤ s.hws.beaconMissed) && s.deputyOf then
    let s := s.modHws fun h => { h with master := h.position, beaconMissed := 0, holdover := false }
    (s.modIna fun x => { x with
      leader := true, tookOver := true, trigger := 7, generation := x.generation + 1, nonce := nonce % 2 ^ 64, phase := .quiet, splitAt := some (x.splitAt.getD s.now) }).inaEvent 2 0 s.hws.position
  else s

/-- SPLIT_CONFIRM_EXPIRY (R317): a merge that has started takes its place. -/
def State.splitConfirm (s : State) : State :=
  match s.ina.splitAt with
  | some t =>
    let merging := match s.ina.merge with | some g => g.started | none => false
    if s.hawserRuns && s.ina.leader && !merging && !s.inaugurating then
      let s := s.advance (t + ms (cfgHierSplitConfirm s.params))
      let chain := s.segmentChain (s.uncut s.hws.position)
      ((s.modIna fun x => { x with splitAt := none }).trigger 3).issue (numberChain s.modeDigest chain) false false 0 s.ina.generation s.hws.mode
    else s.modIna fun x => { x with splitAt := if x.leader then x.splitAt else none }
  | none => s

/-! ### Insertion and requests (R318 to R321, R323) -/

/-- The position for a node asking for insertion, whether it is the one reserved in its car, and its orientation. Where none is reserved and the other node of its car stands in the segment, it goes beside that one, P towards the car's fore end (R300); else beside the node that relayed the request, on the side away from the leader, and the port that its report says faces that node gives its orientation (R290, log entry 161). -/
def State.insertPlace (sender : Nat) (r : Report) (s : State) : Nat × Bool × Bool :=
  let turned (p : Nat) : Bool := match s.entryAt p with | some d => d.orientation | none => false
  let carOf (p : Nat) : Option Nat := (s.entryAt p).map fun d => d.car
  let mates := (s.ina.reports.filter fun x => decide (x.2.car = r.car)).map fun x => x.1
  let mates := if (s.ownReport 0 false false).car = r.car then s.hws.position :: mates else mates
  match (List.range' 1 s.ina.dir.length).find? fun p => (match s.entryAt p with | some d => d.reserved && (d.roleS == r.roleS) | none => false) && mates.any fun q => decide (carOf q = carOf p) with
  | some p => (p, true, turned p)
  | none =>
    match mates.find? fun q => s.present q with
    | some q => (if r.roleS == turned q then q else q + 1, false, turned q)
    | none => if s.hws.position ≤ sender then (sender + 1, false, r.aftFacing) else (sender, false, !r.aftFacing)

/-- Grant a channel: the fallback of the mode in force is announced, and the grant names its switch cycle (R318); without a fallback it names the earliest cycle R269 could. -/
def State.grantChannel (c : Fin 2) (p : Nat) (s : State) : State :=
  let f := s.fallbackOf c
  let s := if f = 0xFF then s else s.announce (s.hws.cycle + 1) f
  let sw := if f = 0xFF then s.hws.cycle + 5 else s.hws.switchCycle
  let s := s.modIna fun x => { x with grant := some ⟨p, c.val, sw, none, false⟩ }
  (s.queueAsync 0 (.grant p c.val sw)).inaEvent 6 1 p

/-- The directory that puts an inserted node in (R318 step 5); where the limits of R303 leave that node out, its insertion has failed. -/
def State.insertDirectory (i : Insertion) (s : State) : State :=
  if i.reserved ∨ i.dirs ≠ 0 then (s.trigger 4).issue (s.freeNumbering (if i.dirs = 0 then some (i.position, i.request.report) else none)) false true 0 s.ina.generation s.hws.mode
  else
    let chain := s.segmentChain (List.range' 1 s.ina.dir.length)
    let x : ChainNode := ⟨i.request.report, !i.turned, 0, 0, false, false⟩
    let k := (chain.takeWhile fun y => decide (y.old < i.position)).length
    let num := numberChain s.modeDigest (chain.take k ++ [x] ++ chain.drop k)
    if num.entries.any fun e => !e.reserved && decide (e.oldPosition = 0) then (s.trigger 4).issue num false false 0 s.ina.generation s.hws.mode
    else (num.notes.foldl (fun s x => s.inaEvent 5 x.1 x.2) s).failInsertion

/-- A train-wide reset (R323): a type 12 reset with reset_cycle 4 cycles ahead of the next. -/
def State.announceReset (s : State) : State :=
  let r := s.hws.cycle + 5
  (s.queueAsync 0 (.reset s.ina.generation r)).modIna fun x => { x with resetCycle := some r }

/-- The directory in force, for a node that asks for it (R321): with the old positions of its numbering, by which the node finds itself. -/
def State.currentDirectory (s : State) : Directory :=
  ⟨s.ina.generation, s.ina.nonce, s.hws.cycle, s.hws.master, true, false, s.hws.mode, 0, 0, s.ina.dir.map fun x => { x with hop := 0 }⟩

/-- INSERTION_REQUEST: a type 14 request reaches the leader, or a running node that relays it there (R290, R313, R318, R321, R323, R324). `position` is its sender's. The request sent again once the links are up completes an insertion step. A node whose twin runs is granted channel A (R318); one without is on A already and goes in by the directory at once (R320). One of another mode_digest gets no position: E213 and E214 tell it, and a directory without it makes the one that is on A passive (R304, R307). -/
def State.leaderRequest (position : Nat) (r : InaRequest) (s : State) : State :=
  if !s.hawserRuns || decide (s.ina.st ≠ .running) then s
  else if s.ina.leader = false then s.queueAsync s.hws.master (.request r)
  else if r.code = 1 then
    match s.ina.insertion with
    | some i =>
      if i.request.report.car = r.report.car ∧ i.request.report.roleS = r.report.roleS then
        (if (match s.ina.grant with | some g => g.at_.isSome && !g.followed | none => false) && !s.inaugurating then s.insertDirectory i else s)
      else s.modIna fun x => { x with heldRequests := x.heldRequests ++ [(position, r)] }
    | none =>
      if s.inaugurating || s.hws.switchPending then s.modIna fun x => { x with heldRequests := x.heldRequests ++ [(position, r)] }
      else if r.report.digest ≠ s.modeDigest then
        let s := (s.inaEvent 5 2 0).inaEvent 6 3 0
        if r.report.twinRunning then s else (s.trigger 4).issue (s.freeNumbering none) false true 0 s.ina.generation s.hws.mode
      else
        let (p, res, turned) := s.insertPlace position r.report
        let i : Insertion := ⟨p, s.hws.mode, r, turned, res, if r.report.twinRunning then none else some s.now, false, 0⟩
        let s := s.modIna fun x => { x with insertion := some i }
        if r.report.twinRunning then s.grantChannel 0 p else s.insertDirectory i
  else if r.code = 2 then s.queueAsync position (.directory s.currentDirectory)
  else if r.code = 3 then s.announceReset
  else if r.code = 4 then s.modIna fun x => { x with repairAt := some (x.repairAt.getD s.now) }
  else s

/-- RELAYED_REQUEST_RECEIVE (R318 step 1): from the twin, on to the leader. -/
def State.relayRequest (r : InaRequest) (s : State) : State :=
  if s.hawserRuns && decide (s.ina.st = .running) then
    (if s.ina.leader then s.leaderRequest s.hws.position r else s.queueAsync s.hws.master (.request r))
  else s

/-- GRANT_RECEIVE (R318, R319). -/
def State.grantReceive (position channel switchCycle : Nat) (s : State) : State :=
  if !s.hawserRuns then s
  else
    let s := s.modIna fun x => { x with grant := some ⟨position, channel, switchCycle, none, false⟩ }
    let mine := if channel = 0 then decide (s.ina.stepA = .requested) else decide (s.ina.stepA = .inSchedule) && !s.ina.admitted[1] && decide (position = s.hws.position)
    if mine then
      (s.modIna fun x => if channel = 0 then { x with stepA := .granted } else { x with stepB := .granted }).inaEvent 6 1 position
    else s

/-- REINTEGRATION (R321): of a member that has left the schedule, or one channel of it. -/
def State.reintegrate (s : State) : State :=
  let lost := decide (s.ina.st = .reintegrating)
  let out (c : Fin 2) : Bool := s.ina.admitted[c] && !s.hws.inSchedule[c] && (lost || s.hws.leftRaised[c])
  if s.hawserRuns && (lost || decide (s.ina.st = .running)) && decide (s.hws.position ≠ 0) && (out 0 || out 1) && decide (2 ≤ s.hws.beaconRun) then
    ((s.modHws fun h => { h with inSchedule := Vector.ofFn fun c : Fin 2 => h.inSchedule[c] || out c, leftRaised := Vector.replicate 2 false, ownRun := Vector.replicate 2 0 }).modIna fun x => { x with st := .running }).hwsEvent 5 0 0 0
  else s

/-- RESET_CYCLE (R323): every node stops inserting; the leader counts again. -/
def State.resetCycleDue (s : State) : State :=
  match s.ina.resetCycle with
  | some c =>
    if s.hawserRuns && decide (c ≤ s.hws.cycle) then
      let s := s.modHws fun h => { h with inSchedule := Vector.replicate 2 false }
      let s := s.modIna fun x => { x with resetCycle := none, st := .inaugurating, phase := .collect, pendingDir := none, insertion := none, grant := none, trigger := 6, startAt := s.now }
      let s := s.modTwn fun t => { t with resetAt := some s.now, low := { t.low with holder := 0 }, high := { t.high with holder := 0 } }
      if s.ina.leader then s.startCount 6 else s
    else s
  | none => s

/-! ### At a sync point -/

/-- HWS_INAUG_COMMAND (R323). -/
def State.takeInaugCommand (s : State) : State :=
  if s.ina.command = 0 then s
  else
    let c := s.ina.command
    let s := s.modIna fun x => { x with command := 0 }
    if c = 1 ∧ s.ina.st = .running then (if s.ina.leader then s.announceReset else s.queueAsync s.hws.master (.request ⟨3, 0, s.ownReport 0 false false⟩)) else s

/-- A grant reaches its switch cycle: the named node opens its relay (R318 step 3), and the 400 ms of R319 begin. -/
def State.grantDue (s : State) : State :=
  match s.ina.grant with
  | some g =>
    if g.at_.isNone ∧ g.switchCycle ≤ s.hws.cycle then
      let c : Fin 2 := if g.channel = 0 then 0 else 1
      let mine := if c = 0 then decide (s.ina.stepA = .granted) else decide (s.ina.stepB = .granted)
      let s := s.modIna fun x => { x with grant := some { g with at_ := some s.now }, insertion := x.insertion.map fun i => { i with openedAt := some (i.openedAt.getD s.now) } }
      if mine then
        (s.modIna fun x => if c = 0 then { x with stepA := .relayOpen, admitted := x.admitted.set 0 true } else { x with stepB := .relayOpen, admitted := x.admitted.set 1 true }).openRelay c
      else s
    else s
  | none => s

/-- The leader goes on with an insertion (R318 steps 6 and 7) and then with requests that were held (R324). -/
def State.goInsertion (s : State) : State :=
  if !s.ina.leader || s.inaugurating || s.hws.switchPending then s
  else match s.ina.insertion with
    | some i =>
      if i.dirs = 1 ∧ i.bGranted = false ∧ i.openedAt.isSome ∧ i.openedAt.getD 0 + ms 200 ≤ s.now then
        (s.modIna fun x => { x with insertion := some { i with bGranted := true } }).grantChannel 1 i.position
      else if 2 ≤ i.dirs then
        let s := s.modIna fun x => { x with insertion := none }
        if s.hws.mode = i.mode then s else s.announce s.hws.cycle i.mode
      else s
    | none =>
      match s.ina.heldRequests with
      | x :: rest => (s.modIna fun y => { y with heldRequests := rest }).leaderRequest x.1 x.2
      | [] => s

/-- A leader that sees a cut in received data starts split_confirm (R317). An inauguration that runs is given up for it, unless its directory already leaves out what lies beyond (R324). -/
def State.seeCuts (s : State) : State :=
  let cut := s.others.any fun p => s.cutAt false p || s.cutAt true p
  let open_ := match s.ina.pendingDir with
    | some d => d.entries.any fun e => !e.joining && decide (e.oldPosition ≠ 0) && decide (e.oldPosition ∉ s.uncut s.hws.position)
    | none => true
  if s.ina.leader && s.ina.splitAt.isNone && decide (s.hws.position ≠ 0) && cut && open_ then
    s.dropInauguration.modIna fun x => { x with splitAt := some s.now }
  else s

/-- BARRIER_COMPLETE (R322): the cycle that ended brought arrived with the id from every position whose slot is not stale, the own one among them, whose frame has come round the ring. -/
def State.barrierCheck (s : State) : State :=
  let want := s.ina.barrierId % 256 + 256
  let live (p : Nat) : Bool :=
    let i := pos128 p
    let fresh (c : Fin 2) : Bool := decide ((s.chanMode c).static ≠ 0) && decide ((s.hws.slot c i).age < cfgHwsStaleLimit s.params)
    fresh 0 || fresh 1
  if s.hawserRuns && s.ina.barrierArrive && decide (s.hws.position ≠ 0) &&
      ((List.range' 1 s.hws.n).filter fun p => s.present p).all (fun p => !live p || ((s.hws.rx[pos128 p]).now && decide ((s.hws.rx[pos128 p]).barrier % 512 = want))) then
    s.modIna fun x => { x with barrierArrive := false, barrierDone := x.barrierId % 256 }
  else s

/-- Inauguration at the sync point that opens a cycle; a quiet cycle has ended (R310). -/
def State.inaugAtSync (s : State) : State :=
  if s.hawserRuns then
    let s := s.modIna fun x => { x with phase := if x.phase = .quiet then .none else x.phase }
    s.takeInaugCommand.grantDue.goInsertion.seeCuts.dueFallback
  else s

end Sys2Proof.Machine
end

