-- ==== Sys2Proof/Machine/Loop.lean ====
section
/-! DEFINITION. The door-loop cell (file 02, R78 to R86): channels, discrepancy, pulse tests and midpoint checks. -/

namespace Sys2Proof.Machine

/-- A portal is proven in channel `c` (R78): contacts stand as ch1 s1, s2, isolation, then ch2. R73 calls a portal not proven whose isolation switch is operated while S1 or S2 is not confirmed; the channel follows R78 as it stands (log entry 123). -/
def State.provenIn (c : Fin 2) (i : Fin 16) (s : State) : Bool :=
  let k := s.slices[i].portal.contacts
  let b := 3 * c.val
  (k[b]! && k[b + 1]!) || (k[b + 2]! && (s.env i).isoAllowed)

/-- The portal counts for the loop (R78, R88). -/
def State.portalOn (i : Fin 16) (s : State) : Bool := decide (i.val < s.sliceCount) && (cfgPrtPortalEnable s.params).testBit i.val

/-- A channel commands its switch closed: every enabled portal proven in it, the node configured and X1 in range (R78, R81), the cell not latched (R83). -/
def State.channelWants (c : Fin 2) (s : State) : Bool :=
  s.configured && s.start.qualified && !s.start.lost && !s.loop.latched && (List.finRange 16).all fun i => !s.portalOn i || s.provenIn c i

/-- The twin's cell reported closed in the heartbeat of the last cycle (R84, R85). -/
def State.twinCellClosed (s : State) : Bool :=
  s.twinPresent && s.twn.beatLast && (match s.twn.beat with | some b => b.loopCell.testBit 0 | none => false)

/-- The cell opens both switches and latches (R83, R86). -/
def LoopCell.latch (cause : Nat) (l : LoopCell) : LoopCell :=
  { l with latched := true, latchCause := cause, ch1 := false, ch2 := false, sw1 := false, sw2 := false, conducting := false, secondDue := false }

/-- A test of a switch has passed (R84 to R86). -/
def LoopCell.pass (second : Bool) (t : Nat) (l : LoopCell) : LoopCell :=
  if second then { l with test2 := 1, passed2 := some t, overdue2 := false } else { l with test1 := 1, passed1 := some t, overdue1 := false }

/-- Record the result of a test: 2 aborted, 3 failed. -/
def LoopCell.noteTest (second : Bool) (r : Nat) (l : LoopCell) : LoopCell :=
  if second then { l with test2 := r } else { l with test1 := r }

/-- The cell closes from open (R80, R85): together beside a closed twin cell; otherwise in alternating order, and the midpoint monitor checks the switch still open. `held`: that switch holds off the loop voltage. -/
def State.closeCell (held : Bool) (s : State) : State :=
  let l := s.loop
  if s.twinCellClosed then s.modLoop fun l => { l with sw1 := true, sw2 := true }
  else
    let second := decide (l.closures % 2 = 0)
    let s := s.modLoop fun l => { l with closures := l.closures + 1 }
    let alreadyClosed := if second then l.sw2 else l.sw1
    if alreadyClosed then s.modLoop fun l => { l with sw1 := true, sw2 := true }
    else if held then s.modLoop fun l => { (l.pass second s.now) with sw1 := true, sw2 := true }
    else (s.modLoop fun l => (l.noteTest second 3).latch 3).raise 239 2 (if second then 2 else 1)

/-- The channels and switches follow the contacts (R78 to R81, R85). While the twin's cell is not closed, a channel proven alone keeps its switch open until both are proven (log entry 124). -/
def State.settleLoop (held : Bool) (ma : Nat) (s : State) : State :=
  let c1 := s.channelWants 0
  let c2 := s.channelWants 1
  let both := decide (s.loop.sw1 = true) && decide (s.loop.sw2 = true)
  let s := s.modLoop fun l => { l with ch1 := c1, ch2 := c2, sw1 := l.sw1 && c1, sw2 := l.sw2 && c2 }
  let s :=
    if c1 && c2 then (if both then s else s.closeCell held)
    else if s.twinCellClosed then s.modLoop fun l => { l with sw1 := c1, sw2 := c2 }
    else s
  s.modLoop fun l => { l with conducting := l.sw1 && l.sw2 && decide (10 ≤ ma) }

/-- Watch for disagreement of the channels about a portal (R83). -/
def State.watchDiscrepancy (i : Fin 16) (s : State) : State :=
  let differ := s.portalOn i && (s.provenIn 0 i != s.provenIn 1 i)
  s.modLoop fun l => { l with discrepant := l.discrepant.set i (if differ then some ((l.discrepant[i]).getD s.now) else none) }

/-- A contact as a loop channel sees it after its 2 ms filter: the class of the input, without the invert flag (R78). -/
def State.contactLevel (i : Fin 16) (channel : Fin 2) (contact : Fin 3) (dv : Int) (s : State) : Bool :=
  let n := if contact = 0 then cfgPrtInS1 s.params i else if contact = 1 then cfgPrtInS2 s.params i else cfgPrtInIsolation s.params i
  let k := 3 * channel.val + contact.val
  if n < 16 then
    comparator (cfgInpInFlags s.params i n % 8) (Config.loopRise channel i contact) (Config.loopFall channel i contact)
      s.slices[i].portal.contacts[k]! (s.slices[i].portal.contactVolts[k]!) dv
  else false

/-- LOOP_CONTACT_CHANGE (R78). -/
def State.loopContact (i : Fin 16) (channel : Fin 2) (contact : Fin 3) (dv : Int) (held : Bool) (ma : Nat) (s : State) : State :=
  if s.configured && decide (i.val < s.sliceCount) then
    let v := s.contactLevel i channel contact dv
    let k : Fin 6 := ⟨3 * channel.val + contact.val, by omega⟩
    let s := s.modSlice i fun sl => sl.modPortal fun q => { q with contacts := q.contacts.set k v, contactVolts := q.contactVolts.set k (some dv) }
    (s.watchDiscrepancy i).settleLoop held ma
  else s

/-- LOOP_DISCREPANCY_TIMEOUT (R83). -/
def State.loopDiscrepancy (i : Fin 16) (s : State) : State :=
  match s.loop.discrepant[i] with
  | none => s
  | some t =>
    let s := s.advance (t + ms (cfgPrtLoopDiscrepancyTime s.params))
    let s := s.modLoop fun l => { (l.latch 1) with discrepantSlice := i.val, discrepant := l.discrepant.set i none }
    (s.modSlice i fun sl => sl.modPortal fun q => { q with cntDiscrep := satInc 255 q.cntDiscrep }).raise 238 1 i.val

/-- The conditions of a pulse (R84). -/
def State.pulseAllowed (s : State) : Bool := s.twinCellClosed && s.loop.sw1 && s.loop.sw2 && !s.loop.latched

/-- One pulse on a switch and its result (R84, R86). -/
def State.pulse (second : Bool) (p : Pulse) (s : State) : State :=
  match p with
  | .passed => s.modLoop fun l => l.pass second s.now
  | .aborted => s.modLoop fun l => { (l.noteTest second 2) with cntAborted := satInc 255 l.cntAborted }
  | .failed => (s.modLoop fun l => (l.noteTest second 3).latch 2).raise 239 1 (if second then 2 else 1)

/-- A pulse test is due (R84): none made since the start, its interval over, or commanded. -/
def State.testDue (s : State) : Bool :=
  s.loop.commanded || (match s.loop.lastTest with
    | none => true
    | some t => decide (t + ms (cfgPrtLoopTestInterval s.params * 1000) ≤ s.now))

/-- The loop cell at a sync point: NODE_LOOP_COMMAND is taken, then a pulse that is due is made, switch 1 first and switch 2 at the next sync point (R84). -/
def State.loopAtSync (p : Pulse) (s : State) : State :=
  let s :=
    if s.loop.command = 1 then
      (if s.twinCellClosed then s.modLoop fun l => { l with command := 0, commanded := true }
       else s.modLoop fun l => { l with command := 0, cntRefused := satInc 255 l.cntRefused })
    else s.modLoop fun l => { l with command := 0 }
  if !s.pulseAllowed then s
  else if s.loop.secondDue then (s.modLoop fun l => { l with secondDue := false }).pulse true p
  else if s.testDue then (s.modLoop fun l => { l with commanded := false, lastTest := some s.now, secondDue := true }).pulse false p
  else s

/-- LOOP_TEST_DUE: loop_test_interval after the start of the previous test (R84). -/
def State.loopTestDue (s : State) : State :=
  match s.loop.lastTest with
  | none => s
  | some t => (s.advance (t + ms (cfgPrtLoopTestInterval s.params * 1000))).modLoop fun l => { l with commanded := true }

/-- 24 h in ns. -/
def dayNs : Nat := ms 86400000

/-- LOOP_TEST_OVERDUE (R86). -/
def State.loopOverdue (second : Bool) (s : State) : State :=
  if (if second then s.loop.overdue2 else s.loop.overdue1) then s
  else
    let base := ((if second then s.loop.passed2 else s.loop.passed1).getD s.loop.startAt)
    let s := s.advance (base + dayNs)
    let s := s.modLoop fun l => if second then { l with overdue2 := true } else { l with overdue1 := true }
    s.raise 239 3 (if second then 2 else 1)

end Sys2Proof.Machine
end

