-- ==== Sys2Proof/Machine/Twin.lean ====
section
/-! DEFINITION. The twin pair (file 12): link and mirror, verdict, referees, the Hitch, the AUTH logic, takeover, and the commands of the TWN block. -/

namespace Sys2Proof.Machine

/-! ### Records of the twin (R397, R402) -/

/-- Enabled slices the part has. -/
def State.enabled (s : State) : List (Fin 16) :=
  (List.finRange 16).filter fun i => decide (i.val < s.sliceCount) && (cfgPrtPortalEnable s.params).testBit i.val

/-- portal_digest (R397). -/
def State.portalDigest (s : State) : List Byte :=
  (Config.sha512 ([0x10, 0x11, 0x12, 0x13, 0x14, 0x15].flatMap fun ty => memGetBytes ramDefault s.params (cfgKey ty 0) (secLen s.params ty))).take 8

/-- A frame of a position came in the cycle that ends (R406). -/
def State.heard (p : Nat) (s : State) : Bool := decide (p ≠ 0) && (s.hws.rx[pos128 p]).now

/-- The twin's record of the cycle that ends: by heartbeat, else by static frame. -/
def State.twinRec (s : State) : Option AuthRec :=
  match s.twn.beatLast, s.twn.beat with
  | true, some b => some b.auth
  | _, _ =>
    match s.twinPosition with
    | some p => if s.heard p then some (s.hws.rx[pos128 p]).auth else none
    | none => none

/-- The twin's last record, as TWN_STATUS and TWN_VERDICT show it. -/
def State.twinLast (s : State) : AuthRec :=
  match s.twn.beat with
  | some b => b.auth
  | none => match s.twinPosition with
    | some p => (s.hws.rx[pos128 p]).auth
    | none => AuthRec.zero

def State.twinDrives (s : State) : Bool := match s.twinRec with | some r => r.driving | none => false

/-- Zero speed as the first enabled slice receives it (R420, TWN_COMMAND). -/
def State.nodeZeroSpeed (s : State) : Bool := match s.enabled with | i :: _ => s.slices[i].zeroSpeed | [] => false

/-! ### The link (R396, R397) -/

/-- TWIN_LINK_CHANGE: the PHY reports link up or down; with link up, heartbeats decide. -/
def State.twinLinkChange (up : Bool) (s : State) : State :=
  if !s.hawserUp then s
  else
    let was := s.twn.link
    let s := s.modTwn fun t => { t with phyUp := up, link := t.link && up, valid := if up then t.valid else 0, missing := 0 }
    if was && !up then s.twnEvent 2 1 else s

/-- HEARTBEAT_RECEIVE (R396, R397); a neighbour's lost recorder (R497) shows in it as well. A node in no segment follows the cycle number of its twin. -/
def State.heartbeatReceive (cycle : Nat) (h : Heartbeat) (s : State) : State :=
  if !s.hawserUp || !s.twn.phyUp || s.twn.beatNow then s
  else
    let lost := h.health.testBit 1
    let before := (s.twn.beat.any fun b => b.health.testBit 1) || s.twinPosition.any fun p => (s.hws.rx[pos128 p]).health.testBit 1
    let up := !s.twn.link && decide (3 ≤ s.twn.valid + 1)
    let s := s.modTwn fun t => { t with beatNow := true, beat := some h, valid := min 3 (t.valid + 1), link := t.link || up }
    let s := if s.hws.position = 0 then s.modHws fun w => { w with cycle := cycle } else s
    let s := if up then s.twnEvent 2 2 else s
    if s.configured && (cfgLogLogFlags s.params).testBit 1 && lost && !before then s.logEvent 6 0 (s.twinPosition.getD 0) else s

/-- The link at a sync point: down when three in a row passed without a valid heartbeat (R396). -/
def State.twinLinkSync (s : State) : State :=
  let got := s.twn.beatNow
  let missing := if got then 0 else s.twn.missing + 1
  let down := s.twn.link && decide (3 ≤ missing)
  let s := s.modTwn fun t => { t with beatLast := got, beatNow := false, missing := missing, valid := if got then t.valid else 0, link := t.link && !down }
  if down then s.twnEvent 2 1 else s

/-- R510, as the heartbeat reports it: 2 unconfigured, 1 running, 0 starting. -/
def State.twinState (s : State) : Nat :=
  if s.cfg.state = 4 then 2 else if s.configured && s.twn.healthy && decide (s.ina.st = .running) then 1 else 0

/-- The heartbeat (R397). -/
def State.heartbeat (s : State) : Heartbeat where
  auth := s.authRec
  health := s.healthWord
  version := s.cfg.version
  digest := s.portalDigest
  inaugState := s.ina.st.code
  twinState := s.twinState
  loopCell := b2n (s.loop.sw1 && s.loop.sw2) + 2 * b2n s.loop.latched

/-- The axes of the slow part, in its order (R398). -/
def State.slowAxes (s : State) : List Nat :=
  s.enabled.flatMap fun (i : Fin 16) => ([0, 1, 2].filter fun a => decide (cfgAxRole s.params i.val a ≠ 0)).map fun a => 3 * i.val + a

/-- What the mirror says of an axis (R398). -/
def Env.mirrorAxis (e : Env) (a : Fin 3) (sl : Slice) : MirrorAxis where
  pos := sl.axes[a].m.pos
  v := sl.axes[a].m.v
  dirPos := sl.axes[a].m.dirPos
  queue := sl.axes[a].m.queue
  profile := sl.axes[a].m.profile
  mode := sl.axes[a].d.mode
  thetaA := sl.axes[a].d.est.thetaA
  current := sl.axes[a].d.current
  homed := sl.axes[a].m.homed
  slip := sl.axes[a].d.est.slip
  target := sl.axes[a].m.target
  segment := e.gearSegment a.val (sl.gearMaster e a.val)

/-- What the mirror says of a channel (R398). -/
def Env.mirrorChannel (e : Env) (k : Nat) (c : Channel) : MirrorChannel where
  st := c.st
  commanded := c.commanded
  trips := c.trips
  retryLeft := if c.st = .thermalOff then c.tripAt + ms (cfgLswRetryDelay e.p e.i k) - e.now else 0
  failsafe := c.failsafe

/-- The slice record of the mirror (R398). -/
def Env.mirrorSlice (e : Env) (regionAge : Nat) (sl : Slice) : MirrorSlice where
  slice := e.i
  regionAge := regionAge
  st := sl.portal.st
  phase := sl.portal.phase
  elapsed := (e.cyc - sl.portal.tState).toNat
  stopElapsed := sl.portal.stopPause.map fun t => ((e.cyc : Int) - t).toNat
  reopenCount := sl.portal.reopenCount
  doorCycles := sl.portal.doorCycles
  faultCause := sl.portal.faultCause
  stateAtFault := sl.portal.stateAtFault
  axes := Vector.ofFn fun a => e.mirrorAxis a sl
  channels := Vector.ofFn fun k : Fin 6 => e.mirrorChannel k.val sl.sw.ch[k]
  encoders := sl.inp.enc.map fun c => c.count
  homeOffsets := sl.inp.enc.map fun c => c.offset
  pending := ((List.finRange 16).filter fun t => sl.can.tx[t].pending.isSome && (decide (e.txMode t.val = 2) || decide (e.txMode t.val = 3))).map fun t => t.val
  tether := sl.sw.tether.st
  deb := sl.inp.debWord

/-- The ages of the requesters in a Req state, with their indices (R398). -/
def State.mirrorReqs (which : State → Fin 2 → List Requester) (s : State) : List (Nat × Nat × Nat) :=
  (List.finRange 2).flatMap fun g => (which s g).map fun r => (g.val, s.requesterIndex r, s.now - (s.req r).since)

/-- The mirror of the state the node stands in (R398). -/
def State.mirrorNow (slow size : Nat) (s : State) : Mirror where
  cycle := s.hws.cycle
  at_ := s.now
  loop := ⟨s.loop.ch1, s.loop.ch2, s.loop.latched, s.loop.test1, s.loop.test2⟩
  lfsr := s.groups.map fun g => g.lfsr
  granted := s.mirrorReqs fun s g => s.granted g
  waiting := s.mirrorReqs fun s g => s.waiting g
  slices := s.enabled.map fun i => (s.env i).mirrorSlice s.sliceRegions[i].age s.slices[i]
  slowAxis := slow
  sizeKib := size

/-- The axis record of the slow part (R398, R489). -/
def Slice.axisRecord (axis : Nat) (a : Fin 3) (sl : Slice) : AxisRecord := ⟨axis, sl.axes[a].d.teachValid, sl.axes[a].d.teachResult, sl.axes[a].d.teach, sl.axes[a].d.env⟩

/-- HEARTBEAT_SEND, and the mirror of a module that drives, with its slow part (R397, R398). -/
def State.twinSend (s : State) : State :=
  if !s.hawserUp then s
  else
    let s := s.send ⟨.twin, 0, (s.header 0 false false 32 0), .heartbeat s.heartbeat⟩
    if s.configured && s.twinPresent && s.drives then
      let s := s.send ⟨.twin, 0, (s.header 0 false false 0 0), .mirror⟩
      let axes := s.slowAxes
      let k := min (if s.tcyc = 500000 then 1 else 3) (axes.length - s.twn.slowNext)
      let s := if k = 0 then s else s.send ⟨.twin, 0, (s.header 0 false false 0 0), .slow⟩
      let ended := decide (axes.length ≤ s.twn.slowNext + k)
      let size := (4096 + 2048 * s.enabled.length + 8256 * k + 1023) / 1024
      let first := axes[s.twn.slowNext]?.getD 0
      let m := s.mirrorNow first size
      let slow := ((axes.drop s.twn.slowNext).take k).filterMap fun x => if h : x < 48 then some (s.slices[x / 3].axisRecord x ⟨x % 3, Nat.mod_lt _ (by decide)⟩) else none
      s.modTwn fun t => { t with
        sentMirror := some m, sentSlow := slow,
        slowAxis := first, slowNext := if ended then 0 else t.slowNext + k,
        slowPasses := if ended ∧ k ≠ 0 then satInc 65535 t.slowPasses else t.slowPasses,
        sizeKib := size }
    else s

/-! ### The mirror (R398 to R401) -/

/-- MIRROR_RECEIVE: a complete mirror waits for the next sync point; another is discarded and counted. -/
def State.mirrorReceive (complete : Bool) (m : Mirror) (s : State) : State :=
  if !s.hawserRuns || !s.twinPresent || !s.twn.phyUp || s.drives then s
  else if complete then
    s.modTwn fun t => { t with
      mirror := some m, sizeKib := m.sizeKib % 256, slowAxis := m.slowAxis % 256,
      slowPasses := if m.slowAxis < t.slowAxis then satInc 65535 t.slowPasses else t.slowPasses }
  else s.modTwn fun t => { t with cntDiscarded := satInc 255 t.cntDiscarded }

/-- SLOW_RECORD_APPLY (R400); a slice whose channel is marked stalled is not reached (R36). -/
def State.slowApply (r : AxisRecord) (s : State) : State :=
  if h : r.axis < 48 then
    if !s.channelStands .hawser ⟨r.axis / 3, by omega⟩ && s.hawserRuns && s.twinPresent && !s.drives && !s.twn.foreign then
      let i : Fin 16 := ⟨r.axis / 3, by omega⟩
      let a : Fin 3 := ⟨r.axis % 3, by omega⟩
      s.modSlice i fun sl => sl.modD a fun d => { d with teach := r.teach, teachValid := r.teachValid, teachResult := r.result, env := r.env, rUseA := r.teach.rA, rUseB := r.teach.rB }
    else s
  else s

/-- A standby's count of an encoder takes the mirrored one, with the counts since the sync point it describes (R398, R417). -/
def Encoder.follow (count offset : Int) (c : Encoder) : Encoder := { c.jump (wrap32 (count + (c.count - c.syncCount))) with offset := offset }

/-- A slice of a standby takes a record's portal state and its running timer (R77, R399), and its encoder counts where home_sync has set them; `age` is the cycle time since the sync point that it describes. -/
def Slice.follow (e : Env) (age : Nat) (m : MirrorSlice) (sl : Slice) : Slice :=
  (sl.modPortal fun q => { q with
    st := m.st, phase := m.phase, tState := (e.cyc : Int) - age - m.elapsed, stopPause := m.stopElapsed.map fun x => (e.cyc : Int) - age - x, reopenCount := m.reopenCount, doorCycles := m.doorCycles,
    faultCause := m.faultCause, stateAtFault := m.stateAtFault }).modInp fun x => { x with
    twinDeb := m.deb, twinFresh := true
    enc := Vector.ofFn fun k : Fin 3 => if (cfgInpEncFlags e.p e.i k.val).testBit 2 then x.enc[k].follow m.encoders[k] m.homeOffsets[k] else x.enc[k] }

/-- MIRROR_APPLY (R399, R239): records with age 0 are applied and kept; the generators of the lottery follow. A foreign standby takes the counts of door cycles alone. A slice whose channel is marked stalled is not reached (R36). -/
def State.mirrorApply (s : State) : State :=
  let t := s.now - s.tcyc
  match s.twn.mirror with
  | some m =>
    let m := { m with slices := m.slices.filter fun r => if h : r.slice < 16 then !s.channelStands .hawser ⟨r.slice, by omega⟩ else false }
    let s := s.modTwn fun w => { w with mirror := none, completeRun := min 16 (w.completeRun + 1), mirrorAge := 1 }
    if s.twn.foreign then
      m.slices.foldl (fun s r => if h : r.slice < 16 then s.modSlice ⟨r.slice, h⟩ fun sl => sl.modPortal fun q => { q with doorCycles := r.doorCycles } else s) s
    else
      let s := { s with groups := s.groups.mapIdx fun g (x : Group) => if h : g < 2 then { x with lfsr := m.lfsr[g] } else x }
      m.slices.foldl (fun s r =>
        if h : r.slice < 16 then
          if r.regionAge = 0 then
            (s.modTwn fun w => { w with kept := w.kept.set r.slice (some r), keptAt := w.keptAt.set r.slice t }).modSlice ⟨r.slice, h⟩ (Slice.follow (s.env ⟨r.slice, h⟩) 0 r)
          else s.modSlice ⟨r.slice, h⟩ fun sl => sl.modInp fun x => { x with twinDeb := r.deb, twinFresh := true }
        else s) s
  | none => s.modTwn fun w => { w with completeRun := 0, mirrorAge := satInc 255 w.mirrorAge }

/-- SYNCHRONISATION_CHANGE (R401). A module that has taken the Hitch applies no more mirrors, and its age goes on past the limit like any other. -/
def State.syncChange (s : State) : State :=
  let t := s.twn
  let differs := match t.beat with | some b => decide (b.digest ≠ s.portalDigest) | none => false
  let sync := decide (16 ≤ t.completeRun) || ((t.synchronised || t.foreign) && decide (t.mirrorAge ≤ cfgTwnSyncAgeLimit s.params))
  let sync := sync && t.link
  let foreign := sync && differs
  let s' := s.modTwn fun t => { t with synchronised := sync && !foreign, foreign := foreign }
  let s' := if foreign && !t.foreign && !s.drives then s'.eachSlice fun i s => if s.sliceRuns i && (s.env i).portalEnabled then s.modSlice i (·.establish (s.env i)) else s else s'
  if foreign != t.foreign || (sync && !foreign) != t.synchronised then s'.twnEvent 3 (if foreign then 3 else if sync then 1 else 2) else s'

/-! ### Health and verdict (R403, R404) -/

/-- Power groups that have enabled slices. -/
def State.groupOut (s : State) : Bool :=
  s.enabled.any fun i => (s.groups[groupOf i]).loadOut || (s.groups[groupOf i]).motorOut

/-- Completion of the slices' regions, timed in common time from the last sync point at which each completed (R403); run before the slices complete theirs. -/
def State.noteCompletion (s : State) : State :=
  s.modTwn fun t => { t with completedAt := t.completedAt.mapIdx fun i x => if h : i < 16 then (if (s.sliceRegions[i]).age = 0 then s.common else x) else x }

/-- A common time in ns is less than `ns` ago, as its 48 bits count; one that a step has put ahead is. -/
def State.commonWithin (t ns : Nat) (s : State) : Bool := decide (signedN 48 ((s.common : Int) - t) < ns)

/-- A module is healthy (R403). -/
def State.isHealthy (s : State) : Bool :=
  let limit := cfgTwnSliceFailMs s.params
  s.configured &&
  (decide (limit = 0) || s.enabled.all fun i => s.commonWithin s.twn.completedAt[i] (ms limit)) &&
  (s.enabled.all fun i => decide (s.slices[i].sw.tether.st ≠ .lost)) &&
  !s.groupOut && !s.twn.fault1 && !s.twn.fault3 && (!(cfgTwnTwinFlags s.params).testBit 1 || s.mssUp)

/-- TWIN_VERDICT (R404). -/
def State.twinVerdict (s : State) : State :=
  if !s.twinPresent then s
  else
    let r := s.twinRec
    let silent := r.isNone
    let failed : Bool := match r with | some a => !a.healthy | none => true
    let v := s.twn.verdict
    let s := s.modTwn fun t => { t with silent := silent, verdict := if failed then satInc 3 t.verdict else 0 }
    if failed && decide (v = 2) then s.twnEvent 4 1 else if !failed && decide (3 ≤ v) then s.twnEvent 4 2 else s

/-! ### Referees (R405, R406) -/

/-- Positions of the P and S modules of a car; 0 where absent. -/
def State.carModule (car : Nat) (roleS : Bool) (s : State) : Nat :=
  ((List.range' 1 s.ina.dir.length).find? fun p => match s.entryAt p with | some d => decide (d.car = car) && (d.roleS == roleS) && !d.reserved | none => false).getD 0

/-- One referee evaluation of a car (R406). Holder 1 is P, 2 is S. -/
def State.evaluateCar (x : Refereed) (s : State) : Refereed :=
  if x.car = 0 then { x with holder := 0, fails := 0, pNotOkSince := none }
  else
    let p := s.carModule x.car false
    let q := s.carModule x.car true
    let rec_ (m : Nat) : AuthRec := if s.heard m then (s.hws.rx[pos128 m]).auth else AuthRec.zero
    let ok (m : Nat) : Bool := s.heard m && (rec_ m).healthy
    let since : Option Nat := if ok p then none else some (x.pNotOkSince.getD s.now)
    let x : Refereed := { x with pNotOkSince := since }
    let alone (m o : Nat) : Bool := decide (o = 0) && s.heard m && !(rec_ m).present
    if alone p q then { x with holder := 1, fails := 0 }
    else if alone q p then { x with holder := 2, fails := 0 }
    else if x.holder = 0 then
      let waited := match since with | some t => decide (t + ms (cfgTwnPWait s.params) ≤ s.now) | none => false
      let h := if (rec_ p).driving != (rec_ q).driving then (if (rec_ p).driving then 1 else 2)
        else if ok p then 1 else if ok q && waited then 2 else 0
      { x with holder := h, fails := 0 }
    else
      let h := if x.holder = 1 then p else q
      let t := if x.holder = 1 then q else p
      let bad := !ok h || (rec_ h).resign
      let fails : Nat := if bad then min (x.fails + 1) 255 else 0
      let move := (s.heard h && (rec_ h).resign && ok t && (rec_ t).synchronised) ||
        (decide (3 ≤ fails) && ok t && decide (3 ≤ (rec_ t).verdict)) ||
        (decide (x.holder = 2) && (rec_ p).takeback && ok p && (rec_ p).synchronised)
      if move then { x with holder := 3 - x.holder, fails := 0 } else { x with fails := fails }

/-- REFEREE_EVALUATION at a sync point, and the positions of the own car's referees (R405, TWN_REFEREE). -/
def State.refereeSync (s : State) : State :=
  if s.hws.position = 0 then s.modTwn fun t => { t with low := Refereed.reset, high := Refereed.reset, lowPosition := 0, highPosition := 0 }
  else
    let below := s.nearBelow s.twinPosition
    let above := s.nearAbove s.twinPosition
    let carAt (p : Option Nat) : Nat := match p.bind fun p => s.entryAt p with | some d => d.car | none => 0
    let take (p : Option Nat) (x : Refereed) : Refereed := if carAt p = x.car then x else { Refereed.reset with car := carAt p }
    s.modTwn fun t => { t with
      lowPosition := below.getD 0, highPosition := above.getD 0,
      low := s.evaluateCar (take below t.low), high := s.evaluateCar (take above t.high) }

/-- The present modules of the car that holds a position, with their directory entries (R405). -/
def State.carAt (p : Option Nat) (s : State) : List (Nat × DirEntry) :=
  match p.bind fun p => s.entryAt p with
  | some d => (List.range' 1 s.ina.dir.length).filterMap fun k =>
      match s.entryAt k with
      | some x => if x.car = d.car && !x.reserved then some (k, x) else none
      | none => none
  | none => []

/-- A numbering takes force: a referee forgets the holder of a car that was another one before on that side, told by the positions that its modules had in the segment; a car that a module has only joined is the same (R405). -/
def State.refereeRenumbered (old : Option (List Nat × List Nat)) (s : State) : State :=
  let follow (before : List Nat) (now : Option Nat) (x : Refereed) : Refereed :=
    let car := s.carAt now
    let same := car.any fun d => !d.2.joining && before.contains d.2.oldPosition
    match car with
    | d :: _ => if same then { x with car := d.2.car } else { Refereed.reset with car := d.2.car }
    | [] => Refereed.reset
  let b := match old with | some x => x.1 | none => []
  let a := match old with | some x => x.2 | none => []
  s.modTwn fun t => { t with low := follow b (s.nearBelow s.twinPosition) t.low, high := follow a (s.nearAbove s.twinPosition) t.high }

/-! ### The AUTH logic (R409 to R413) -/

/-- AUTH_OUT changes with its readback, and the gate follows (R394, R395). -/
def State.setAuthOut (on : Bool) (s : State) : State := (s.modAuth fun a => { a with out := on, readback := on }).settleGate

/-- Both lines asserted: the gate closes, AUTH_OUT is released, E221 and E217 (R410). -/
def State.collide (s : State) : State :=
  let s := s.modAuth fun a => { a with collided := true }
  let s := s.setAuthOut false
  let s := s.modTwn fun t => { t with layer := if t.layer = 3 then 0 else t.layer, selfDue := false }
  (s.twnEvent 5 2).twnEvent 1 3

/-- AUTH_IN as it reads at an instant (R394). -/
def State.setAuthIn (on : Bool) (s : State) : State :=
  let was := s.twn.auth.inp
  let s := s.modAuth fun a => { a with inp := on, releasedAt := if was && !on then s.now else a.releasedAt }
  let s := if on = was then s else s.eachSlice fun i s => s.onSlice i fun e sl => if on then sl.twinExcites e else sl.refreshHeld e
  if on && s.twn.auth.out then s.settleGate.collide else s.settleGate

/-- AUTH_COLLISION (R410). -/
def State.authCollision (s : State) : State := if s.twn.auth.out then s.setAuthIn true else s

/-- AUTH_IN has been released this long before AUTH_OUT asserts on a hold command (R409, R410), ns. -/
def State.holdWait (s : State) : Nat := if s.twn.auth.collided then (if s.roleS then 3200000 else 1200000) else 200000

/-- The instant AUTH_OUT asserts on the hold command: AUTH_IN may have been released since that command. -/
def State.assertAt (s : State) : Nat :=
  let a := s.twn.auth
  (if a.inp then max a.commandAt a.releasedAt else a.releasedAt) + s.holdWait

/-- E216 with the code that was due, once AUTH_OUT is asserted (R414, R425). -/
def State.noteTaken (s : State) : State :=
  let c := s.twn.takeCode
  if c = 0 then s else (s.modTwn fun t => { t with takeCode := 0 }).twnEvent 0 c

/-- AUTH_ASSERT (R409): before the next sync point, else the module does not drive in that cycle. -/
def State.authAssert (s : State) : State :=
  let a := s.twn.auth
  let t := max s.now s.assertAt
  if a.hold && !a.lapsed && !a.out && decide (t < s.nextSync) then
    let s := s.advance t
    let s := s.modAuth fun a => { a with releasedAt := t - s.holdWait, inp := false }
    let s := s.modTwn fun w => { w with gapUs := min 4095 ((s.now - w.auth.releasedAt) / 1000) }
    let s := s.modAuth fun a => { a with collided := false }
    (s.setAuthOut true).noteTaken
  else s

/-- AUTH_COMMAND_LAPSE (R409): commands have stopped for 5 × T_CYC. -/
def State.authLapse (s : State) : State :=
  let a := s.twn.auth
  if !s.hawserRuns && !a.lapsed then
    let s := s.advance (a.commandAt + a.lapseNs)
    let was := s.twn.auth.out
    let s := s.modAuth fun a => { a with lapsed := true, lapsedAt := s.now, hold := false }
    let s := s.modTwn fun t => { t with hitch := false, layer := 0, holder := if was then 0 else t.holder, handovers := if was then (t.handovers + 1) % 65536 else t.handovers }
    let s := s.setAuthOut false
    if was then s.twnEvent 1 2 else s
  else s

/-- AUTH_READBACK_MISMATCH (R413): the readback differs from the command for more than 10 µs, or agrees again. -/
def State.authReadback (readback : Bool) (s : State) : State :=
  let s := (s.modAuth fun a => { a with readback := readback, mismatchAt := if readback = a.out then none else some s.now }).settleGate
  if readback = s.twn.auth.out then s.modTwn fun t => { t with fault1 := false }
  else if s.twn.fault1 then s
  else (s.modTwn fun t => { t with fault1 := true }).twnEvent 5 1

/-- AUTH_IN_DISAGREEMENT (R413): AUTH_IN and the twin's record have differed for more than 3 cycles. -/
def State.authDisagree (s : State) : State :=
  if !s.hawserRuns then s
  else if 3 < s.twn.run3 ∧ s.twn.fault3 = false then (s.modTwn fun t => { t with fault3 := true }).twnEvent 5 3
  else if 3 < s.twn.run4 ∧ s.twn.fault4 = false then (s.modTwn fun t => { t with fault4 := true }).twnEvent 5 4
  else s

/-- Cycles in which AUTH_IN and the twin's record disagree (R413); a fault stands while they do. -/
def State.authWatch (s : State) : State :=
  let r := s.twinRec
  let a := s.twn.auth.inp && (match r with | some x => !x.driving | none => false)
  let b := !s.twn.auth.inp && (match r with | some x => x.driving | none => false)
  s.modTwn fun t => { t with
    run3 := if a then t.run3 + 1 else 0, run4 := if b then t.run4 + 1 else 0, fault3 := t.fault3 && a, fault4 := t.fault4 && b }

/-- A hold or release command of the Hawser island (R407, R409). -/
def State.authCommand (hold : Bool) (s : State) : State :=
  let s := s.modAuth fun a => { a with hold := hold, commandAt := s.now, lapseNs := 5 * s.tcyc, lapsed := false }
  if hold then (if s.twn.auth.out then s.noteTaken else s)
  else
    let s := s.modTwn fun t => { t with takeCode := 0 }
    if s.twn.auth.out then s.setAuthOut false else s

/-! ### Takeover (R415 to R417) -/

/-- An axis taken over from its record (R415, R416): held where it stood, or to be caught in flight. -/
def Slice.takeAxis (t age : Nat) (m : MirrorAxis) (a : Fin 3) (sl : Slice) : Slice :=
  let sl := sl.modM a fun x => { x.halt with
    pos := m.pos, dirPos := m.dirPos, profile := m.profile, homed := m.homed,
    catching := if m.v = 0 then none else some ⟨m.pos, m.v, m.dirPos, t, m.queue, m.homed && decide (age ≤ 2)⟩ }
  sl.modD a fun d => { d with
    pendMode := some (if m.v = 0 then (if m.mode = .free ∨ m.mode = .shortBrake then m.mode else .hold) else .strong),
    est := { d.est with thetaA := m.thetaA, slip := m.slip } }

/-- A channel taken over from its record (R239, R415). -/
def Env.takeChannel (e : Env) (k : Nat) (m : MirrorChannel) (c : Channel) : Channel :=
  { c with carry := some m.st, commanded := m.commanded, decided := m.commanded, trips := m.trips,
           tripAt := e.now + m.retryLeft - ms (cfgLswRetryDelay e.p e.i k) }

/-- The first homing stage with an enabled axis that its record shows not homed; 3 where every axis is homed. -/
def Env.stageLeft (e : Env) (m : MirrorSlice) : Nat :=
  match (List.range 3).find? fun n => !allAxes fun a => !(e.enabledAxis a && decide (cfgAxHomeStage e.p e.i a = n) && !m.axes[a].homed) with
  | some n => n
  | none => 3

/-- What the record does not carry of a sequencer that is taken over (R415): a leaf in flight has its moves and one at rest has them issued anew, homing starts at the first stage with an axis to home, OPEN is restricted when reopen_count passed its limit (R66), the crew release of R62, which no record carries, ends with the old active (log entry 120), and a reopen move runs to its mirrored target. -/
def Env.takeFlags (e : Env) (m : MirrorSlice) (q : Portal) : Portal :=
  let leaf : Option MirrorAxis := e.leafAxis.map fun a => m.axes[a]
  let run := match leaf with | some x => decide (x.v ≠ 0) | none => false
  { q with
    crew := false, s2Alone := none, obs := .none, obsLatch := none, openStops := 0, acting := .none, reopenShort := false,
    issued := if m.st = .homing then decide (e.stageLeft m = 3) else run
    restricted := decide (m.st = .open_) && decide (cfgPrtReopenLimit e.p e.i < m.reopenCount)
    homeStage := e.stageLeft m
    reopenTarget := match leaf with | some x => (match x.queue.getLast? with | some mv => mv.target | none => x.pos) | none => q.reopenTarget
    emergFreed := match leaf with | some x => decide (x.mode = .free) | none => false
    lockDecided := m.channels[0].commanded
    acc := CycleAcc.atTakeover m.st m.phase e.now q.tState }

/-- A slice of a synchronised new active resumes from its kept record (R415, R335). -/
def Slice.takeOver (e : Env) (t age : Nat) (m : MirrorSlice) (sl : Slice) : Slice :=
  let sl := sl.follow e ((e.now - t + e.tcyc / 2) / e.tcyc * e.tcyc - e.tcyc) m
  let sl := forAxes (fun a sl => sl.takeAxis t age m.axes[a] a) sl
  let sl := forChannels (fun k sl => sl.modCh k fun c => e.takeChannel k.val m.channels[k] c) sl
  let sl := m.pending.foldl (fun sl n => if h : n < 16 then sl.requestTx e ⟨n, h⟩ else sl) sl
  let sl := sl.modPortal fun q => { e.takeFlags m q with prevS1 := sl.s1 e }
  let sl := sl.modPortal fun q => { q with sources := sl.closeSources e &&& 15 }
  if m.st = .fault ∧ m.faultCause = 11 then
    let st := ([PState.homing, .locked, .unlocking, .released, .opening, .open_, .closing, .reopening, .closedUnlocked, .locking, .isolated, .emergency, .fault, .unused].find? fun x => decide (x.code = m.stateAtFault)).getD .homing
    (sl.modPortal fun q => { q with cause11 := false }).resumeFrom e st
  else sl

/-- A slice of an unsynchronised or foreign new active (R417): the state from its own inputs; in HOMING a moving axis is caught under R416, with the age of the mirror, and one whose encoder has home_sync takes its position from it. A door cycle that its last record, or the state it takes, shows under way is recorded with handover (R477). -/
def Slice.takeOwn (e : Env) (t age : Nat) (m : Option MirrorSlice) (sl : Slice) : Slice :=
  let sl := match m with
    | some m => sl.modPortal fun q => { q with acc := CycleAcc.atTakeover m.st m.phase e.now e.cyc }
    | none => sl
  let sl := sl.establish e
  let sl := if sl.portal.st = .closedUnlocked ∧ !sl.portal.acc.running then sl.modPortal fun q => { q with acc := CycleAcc.atTakeover .closedUnlocked .none e.now e.cyc } else sl
  if sl.portal.st = .homing then
    forAxes (fun (a : Fin 3) (sl : Slice) =>
      let sl : Slice := match m with
        | some m => if m.axes[a].v = 0 then sl else sl.takeAxis t age m.axes[a] a
        | none => sl
      if (cfgInpEncFlags e.p e.i a).testBit 2 && decide (cfgInpEncMode e.p e.i a ≠ 0) && decide (sl.inp.enc[a].fault = 0) && (match m with | some m => m.axes[a].homed | none => false) then
        let p := sl.inp.enc[a].count
        sl.modM a fun x => { x with pos := p, homed := true, catching := x.catching.map fun c => { c with pos := p, at_ := e.now, homed := true } }
      else sl) sl
  else sl

/-- A portal of a module that holds the Hitch for the first time since its handover acts on the state it holds (R511): a portal in HOMING starts its warn phase, a step is stowed, the axes of an isolated or emptied portal take their modes. -/
def Slice.firstHold (e : Env) (sl : Slice) : Slice :=
  match sl.portal.st with
  | .homing => sl.enterHoming e true
  | .closedUnlocked => (sl.enter e .closedUnlocked .none).decideAux e fun a => e.closedPos a
  | .isolated => sl.decideMode e (fun _ => true) .shortBrake
  | .emergency => sl.emergencyLeaves e
  | _ => sl

/-- TAKEOVER_RESUME at the takeover sync point; at the first Hitch after the handover nothing is taken over (R511, log entries 133 and 134). -/
def State.takeover (s : State) : State :=
  let sync := s.twn.synchronised && !s.twn.foreign
  let age := s.twn.mirrorAge
  s.eachSlice fun i s =>
    if s.sliceRuns i && (s.env i).portalEnabled then
      s.modSlice i fun sl =>
        let e := { s.env i with active := true }
        if s.twn.firstHold then sl.firstHold e
        else match sync, s.twn.kept[i] with
        | true, some m => (sl.takeOver e s.twn.keptAt[i] age m).canConfigured e
        | _, m => (sl.takeOwn e s.twn.keptAt[i] age m).canConfigured e
    else s

/-- The position nearest to an extrapolated one whose electrical angle equals the measured one, in microsteps of 1024 to the revolution (R416). -/
def nearestAngle (x : Int) (angle : Nat) : Int :=
  let d := ((angle : Int) - x) % 1024
  if d ≤ 512 then x + d else x + d - 1024

/-- An axis can be caught: its isolators are closed and confirmed and its bridges are still disabled (R137, R416). -/
def Slice.catchReady (e : Env) (a : Fin 3) (sl : Slice) : Bool :=
  let d := sl.axes[a].d
  e.gate && sl.axes[a].m.catching.isSome && decide (d.mode = .free) && d.wanted.isSome && d.isolators && d.readback

/-- CATCH_IN_FLIGHT (R416): the estimate of 200 µs, valid or not; the interrupted moves are issued again from standstill. -/
def Slice.catchInFlight (e : Env) (a : Fin 3) (valid : Bool) (angle : Nat) (sl : Slice) : Slice :=
  match sl.axes[a].m.catching with
  | some c =>
    if !sl.catchReady e a then sl
    else
      let run : Int := ((c.v * (e.now - c.at_) / 65536000000000 : Nat) : Int)
      let x := if c.dirPos then c.pos + run else c.pos - run
      let pos := if valid then nearestAngle x (angle % 1024) else x
      let sl := sl.modD a fun d => { d with pendMode := none }
      let sl := sl.modM a fun m => { m with
        pos := pos, catching := none, homed := valid && c.homed, v := if valid then c.v else 0, dirPos := c.dirPos,
        running := false, decel := valid, stopping := valid, queue := [], caught := if valid then c.queue else [], rev := none, carry := 0, exact := none }
      let sl := sl.setMode e a (if valid then .strong else .hold)
      (sl.modD a fun d => { d with est := { d.est with thetaR := pos, thetaA := pos } }).gearFollow e (4 + a.val)
  | none => sl

/-! ### The Hitch (R407, R408, R412) -/

/-- Nominations of the own car in valid referee frames of the cycle that ends: which referee, and what it nominates. -/
def State.refereeFrames (s : State) : List Nat :=
  let lo := s.twn.lowPosition
  let hi := s.twn.highPosition
  (if s.heard lo then [(s.hws.rx[pos128 lo]).auth.nomHigh] else []) ++ (if s.heard hi then [(s.hws.rx[pos128 hi]).auth.nomLow] else [])

/-- A nomination names this module. -/
def State.namesSelf (n : Nat) (s : State) : Bool := (decide (n = 2)) == s.roleS

/-- present_holder: none, or whether it is this module. -/
def State.presentHolder (s : State) : Option Bool :=
  if s.gate && !s.twinDrives then some true else if s.twinDrives && !s.gate then some false else none

/-- The twin-link rule (R408). -/
def State.twinLinkRule (s : State) : Bool :=
  let t := s.twn
  if s.gate then true
  else if t.link then
    if s.twinDrives then ((match s.twinRec with | some r => r.resign | none => false) && (t.synchronised || t.foreign)) || decide (3 ≤ t.verdict)
    else if !s.roleS then t.healthy
    else match t.pNotReadySince with
      | some w => decide (w + ms (cfgTwnPWait s.params) ≤ s.now)
      | none => false
  else decide (3 ≤ t.releasedRun)

/-- The code of E216 for a Hitch taken at this sync point (R414, R425). A nomination while the twin is not known to have held the Hitch is the start-up choice of R406 (log entry 151). -/
def State.takeCause (layer : Nat) (s : State) : Nat :=
  if layer = 4 then 7
  else if layer = 2 then 5
  else if s.twn.takeback then 4
  else if (match s.twinRec with | some r => r.resign | none => false) then 3
  else if s.twn.holder = 2 then 2
  else 1

/-- The Hitch of the car changes hands, as far as this module knows (R402). -/
def State.holderIs (h : Nat) (s : State) : State :=
  s.modTwn fun t => { t with holder := h, handovers := if t.holder = h then t.handovers else (t.handovers + 1) % 65536 }

/-- The decision is made: the events of a change, and takeover, which a module that its AUTH logic has already set driving does not need. Its command goes out after the evaluations of this sync point. -/
def State.decide_ (x : Option Bool) (layer : Nat) (s : State) : State :=
  let own := decide (x = some true)
  let was := s.twn.hitch
  let code := s.takeCause layer
  let s := s.modTwn fun t => { t with lastX := x, hitch := own, layer := layer }
  if own && !was then
    let s := s.modTwn fun t => { t with takeCode := code, startupHitch := t.startupHitch || decide (code = 1) }
    ((if s.active then s else s.takeover).modTwn fun t => { t with firstHold := false }).holderIs 1
  else if was && !own then
    let known := s.twn.synchronised || s.twn.foreign
    let s := s.modTwn fun t => { t with
      startupHitch := false, synchronised := false, foreign := false, completeRun := 0, mirrorAge := 255,
      kept := Vector.replicate 16 none }
    let s := (s.holderIs 2).twnEvent 1 1
    if known then s.twnEvent 3 2 else s
  else s

/-- The command of the decision to the AUTH logic, once the slices have evaluated: a module that loses the Hitch is the standby from the next sync point (R409, R418). -/
def State.hitchCommand (s : State) : State :=
  if s.hawserRuns then
    let s := if s.active && !s.twn.hitch then s.eachSlice fun i s => s.modSlice i fun sl => sl.modPortal fun q => { q with acc := CycleAcc.reset } else s
    s.authCommand s.twn.hitch
  else s

/-- HITCH_DECISION (R407, R408, R412). -/
def State.hitchSync (s : State) : State :=
  if !s.twinPresent then s.decide_ (some true) 4
  else
    let frames := s.refereeFrames
    let lo := s.twn.lowPosition
    let hi := s.twn.highPosition
    let s := s.modTwn fun t => { t with
      nomLow := if s.heard lo then (s.hws.rx[pos128 lo]).auth.nomHigh else t.nomLow
      nomHigh := if s.heard hi then (s.hws.rx[pos128 hi]).auth.nomLow else t.nomHigh }
    match frames with
    | f :: rest =>
      let nom := (f :: rest).filter fun n => decide (n ≠ 0)
      let gone := s.twn.noReferee
      let s := s.modTwn fun t => { t with sinceRef := 0, noReferee := false }
      let s := if gone then s.twnEvent 6 3 else s
      match nom with
      | [] => s.decide_ s.twn.lastX 1
      | n :: more =>
        let differ := !more.all fun k => decide (k = n)
        let first := differ && !s.twn.disagree
        let s := s.modTwn fun t => { t with disagree := differ }
        let s := if first then s.twnEvent 6 2 else s
        s.decide_ (if differ then s.presentHolder else some (s.namesSelf n)) 1
    | [] =>
      let n := satInc 15 s.twn.sinceRef
      let s := s.modTwn fun t => { t with sinceRef := n }
      if n < 3 then s.decide_ s.twn.lastX s.twn.layer
      else
        let first := !s.twn.noReferee
        let s := s.modTwn fun t => { t with noReferee := true }
        let s := if first then s.twnEvent 6 1 else s
        s.decide_ (some s.twinLinkRule) 2

/-- AUTH_SELF_ASSERT (R411): after AUTH_IN has read released for 100 ms in P, 300 ms in S, since the lapse or a collision. The slices resume as those of any new active (R350, R417). -/
def State.authSelf (s : State) : State :=
  let a := s.twn.auth
  if a.lapsed && s.configured && !a.out then
    let base := if a.inp then s.now else if a.collided then a.releasedAt else max a.releasedAt a.lapsedAt
    let s := s.advance (base + (if s.roleS then ms 300 else ms 100))
    let s := s.modAuth fun a => { a with inp := false, collided := false }
    let s := (s.takeover.modTwn fun t => { t with layer := 3, selfDue := true }).holderIs 1
    s.setAuthOut true
  else s

/-! ### Swap, takeback and test mode (R420, R422, R423) -/

/-- The safe point in every enabled portal (R423), from portal states and axis speeds. -/
def safePoint (code : Nat) (states : List PState) (speeds : List Nat) : Bool :=
  if code = 0 then states.all fun st => decide (st = .locked) || decide (st = .isolated)
  else if code = 1 then speeds.all fun v => decide (v = 0)
  else true

def State.ownSafe (s : State) : Bool :=
  let code := if s.twn.foreign || s.twinLast.foreign then 0 else cfgTwnSwapPoint s.params
  safePoint code (s.enabled.map fun i => s.slices[i].portal.st) (s.enabled.flatMap fun i => s.slices[i].axes.toList.map fun a => a.m.v)

/-- The safe point in the last applied mirror; false where none has been applied (R420). -/
def State.mirrorSafe (s : State) : Bool :=
  let l := s.enabled.map fun i => s.twn.kept[i]
  (l.all fun x => x.isSome) &&
  safePoint (cfgTwnSwapPoint s.params) (l.filterMap fun x => x.map fun m => m.st) ((l.filterMap fun x => x).flatMap fun m => m.axes.toList.map fun a => a.v)

/-- Takeback (R420), for P. -/
def State.wantsTakeback (s : State) : Bool :=
  let t := s.twn
  let w := cfgTwnTakebackWindow s.params
  let within (x : Option Nat) : Bool := match x with | some a => decide (w ≠ 0) && decide (s.now < a + ms (w * 1000)) | none => false
  !s.roleS && t.healthy && t.synchronised && s.twinDrives && s.mirrorSafe &&
  ((within t.handoverAt && (match s.twinRec with | some r => r.startupHitch | none => false)) || t.testMode || within t.resetAt)

/-- TWN_COMMAND taken at a sync point (R422, R423, R420). -/
def State.takeTwnCommand (s : State) : State :=
  let c := s.twn.command
  let s := s.modTwn fun t => { t with command := 0 }
  let r := s.twinRec
  let ready := s.twinPresent && (match r with | some r => r.synchronised && r.healthy | none => false)
  if c = 1 ∧ s.drives = true then (if ready then s.modTwn fun t => { t with swapAt := some s.now } else s.twnEvent 7 2)
  else if c = 2 ∧ s.drives = true then
    (if s.twn.swapAt.isSome || s.twn.resign then (s.modTwn fun t => { t with swapAt := none, resign := false, swapSent := false }).twnEvent 7 4 else s)
  else if c = 3 ∧ s.nodeZeroSpeed = true then s.modTwn fun t => { t with testMode := true }
  else if c = 4 then s.modTwn fun t => { t with testMode := false }
  else s

/-- The swap condition and the end of a swap at a sync point (R422, R423); a failed probation resigns under the same condition, without its timeout (R445, R449). -/
def State.swapSync (s : State) : State :=
  let ready := match s.twinRec with | some r => r.synchronised && r.healthy | none => false
  let s := if (s.twn.swapAt.isSome || s.cfg.resignDue) && s.drives && ready && s.ownSafe then
      (s.modTwn fun t => { t with swapAt := none, resign := true, swapSent := true }).modCfg fun c => { c with resignDue := false } else s
  let s := if s.twn.resign && !s.twn.hitch then s.modTwn fun t => { t with resign := false } else s
  if s.twn.swapSent && !s.twn.resign && s.twinDrives then (s.modTwn fun t => { t with swapSent := false }).twnEvent 7 1 else s

/-- SWAP_TIMEOUT (R423). -/
def State.swapTimeout (s : State) : State :=
  match s.twn.swapAt with
  | some t =>
    if s.hawserRuns then
      ((s.advance (t + ms (cfgTwnSwapTimeout s.params * 1000))).modTwn fun t => { t with swapAt := none }).twnEvent 7 3
    else s
  | none => s

/-! ### One sync point of the twin block -/

/-- The twin block at a sync point, before the slices evaluate. -/
def State.twinAtSync (authIn : Bool) (s : State) : State :=
  let s := s.setAuthIn authIn
  if !s.hawserUp then s
  else
    let s := s.twinLinkSync
    if !s.configured then s
    else
      let s := if s.twn.selfDue then (s.modTwn fun t => { t with selfDue := false }).twnEvent 0 6 else s
      let s := s.noteCompletion
      let s := if s.twn.healthy && !s.isHealthy then s.modCfg fun c => { c with healthLost := true } else s
      let s := s.modTwn fun t => { t with healthy := s.isHealthy, firstHold := t.firstHold && !s.twinDrives, releasedRun := if authIn then 0 else min 3 (t.releasedRun + 1) }
      let s := s.authWatch.twinVerdict
      let s := if !s.twinPresent then s.modTwn fun t => { t with mirror := none }
        else (if s.drives then s.modTwn fun t => { t with mirror := none, completeRun := 0, mirrorAge := satInc 255 t.mirrorAge } else s.mirrorApply).syncChange
      let s := if s.twinDrives && decide (s.twn.holder = 0) then s.holderIs 2 else s
      let ready := match s.twn.beatLast, s.twn.beat with | true, some b => b.auth.healthy | _, _ => false
      let s := s.modTwn fun t => { t with pNotReadySince := if ready then none else some (t.pNotReadySince.getD s.now) }
      let s := s.modTwn fun t => { t with takeback := s.wantsTakeback }
      (s.takeTwnCommand.refereeSync.hitchSync).swapSync

end Sys2Proof.Machine
end

