-- ==== Sys2Proof/Machine/Becket.lean ====
section
/-! DEFINITION. The Becket plug (file 13): directory and activation journal, the configuration load, the commands of the CFG block, and probation. -/

namespace Sys2Proof.Machine

/-! ### The directory (R428, R429) -/

/-- Copy `k` of the directory lies at k × 64 KiB; it counts when its first 76 bytes match its CRC. -/
def dirBytes (nor : Mem) (k : Nat) : List Byte := norBytes nor (k * 0x10000) 80
def dirValid (nor : Mem) (k : Nat) : Bool := decide ((dirBytes nor k).take 4 = [0x48, 0x56, 0x42, 0x44]) && crcGood (dirBytes nor k)
def dirSequence (nor : Mem) (k : Nat) : Nat := norLe nor (k * 0x10000 + 8) 4

/-- The copy in force, if any. -/
def dirInForce (nor : Mem) : Option Nat :=
  if dirValid nor 0 && (!dirValid nor 1 || decide (dirSequence nor 1 ≤ dirSequence nor 0)) then some 0
  else if dirValid nor 1 then some 1 else none

/-- slot_state of a slot; without a valid copy it is unknown. -/
def State.slotState (i : Nat) (s : State) : Nat :=
  match dirInForce s.plug.nor with
  | some k => norLe s.plug.nor (k * 0x10000 + 12 + 16 * i) 1
  | none => Config.freeNat 50 (s.freeCount * 4 + i) % 4

/-- The record of a directory with slot `i` at a new state: the stored bundle's version, length and digest stand with state 2 and are 0 otherwise (DESIGN CHOICE, log entry 42). -/
def dirRecord (nor : Mem) (draw i st : Nat) : List Byte :=
  let old (j : Nat) : List Byte :=
    match dirInForce nor with
    | some k => norBytes nor (k * 0x10000 + 12 + 16 * j) 16
    | none => leBytes 4 (Config.freeNat 50 (draw * 4 + j) % 4) ++ List.replicate 12 0
  let b := slotBase i
  let new : List Byte := leBytes 4 st ++ (if st = 2 then norBytes nor (b + 8) 4 ++ norBytes nor (b + 24) 4 ++ norBytes nor (b + 32) 4 else List.replicate 12 0)
  let seq := match dirInForce nor with | some k => dirSequence nor k + 1 | none => Config.freeNat 51 draw % 2 ^ 31
  let body := [0x48, 0x56, 0x42, 0x44] ++ leBytes 2 1 ++ leBytes 2 0 ++ leBytes 4 seq ++ ((List.range 4).flatMap fun j => if j = i then new else old j)
  body ++ leBytes 4 (crc32c body)

/-- The MSS writes the copy with the lower sequence (R429). -/
def State.setSlotState (i st : Nat) (s : State) : State :=
  let k := match dirInForce s.plug.nor with | some k => 1 - k | none => 0
  { s with plug := { s.plug with nor := memSetBytes norDefault s.plug.nor (k * 0x10000) (dirRecord s.plug.nor s.freeCount i st) } }

/-- Erase a range of the NOR. -/
def norErase (nor : Mem) (a n : Nat) : Mem := nor.filter fun c => decide (c.1 < a) || decide (a + n ≤ c.1)

/-! ### The activation journal (R430, R431) -/

/-- Address of journal place `k`, 0…4095: 2048 to a sector. -/
def journalAt (k : Nat) : Nat := 0x20000 + 32 * k

def JournalEntry.bytes (e : JournalEntry) : List Byte :=
  let b := leBytes 2 0x5241 ++ leBytes 1 e.kind ++ leBytes 1 0 ++ leBytes 4 e.sequence ++ leBytes 1 e.active ++ leBytes 1 e.previous ++
    leBytes 1 e.probation ++ leBytes 1 0 ++ leBytes 4 e.activeVersion ++ leBytes 4 e.previousVersion ++ leBytes 4 e.progress ++ leBytes 4 e.barred
  b ++ leBytes 4 (crc32c b)

/-- The entry at a place, when its magic and CRC are good. -/
def journalEntry (nor : Mem) (k : Nat) : Option JournalEntry :=
  let a := journalAt k
  let f (o n : Nat) : Nat := norLe nor (a + o) n
  if f 0 2 = 0x5241 ∧ crcGood (norBytes nor a 32) then
    some ⟨f 2 1, f 4 4, f 8 1, f 9 1, f 10 1, f 12 4, f 16 4, f 20 4, f 24 4⟩
  else none

/-- The entry in force and its place: the valid one with the highest sequence. -/
def journalInForce (nor : Mem) : Option (Nat × JournalEntry) :=
  (List.range 4096).foldl (fun best k =>
    match journalEntry nor k, best with
    | some e, none => some (k, e)
    | some e, some b => if b.2.sequence < e.sequence then some (k, e) else some b
    | none, b => b) none

/-- The first place of a sector after `k` with nothing written from there on. -/
def journalFree (nor : Mem) (k : Nat) : Option Nat :=
  let last := (k / 2048 + 1) * 2048
  ((List.range' k (last - k)).find? fun j => nor.all fun c => decide (c.1 < journalAt j) || decide (journalAt last ≤ c.1))

/-- Write an entry at a place. -/
def State.putJournal (k : Nat) (e : JournalEntry) (s : State) : State :=
  let s := { s with plug := { s.plug with nor := memSetBytes norDefault s.plug.nor (journalAt k) e.bytes } }
  s.modCfg fun c => { c with entry := some e, cntJournal := satInc 255 c.cntJournal }

/-- Append an entry with the next sequence number; a full sector is carried over (R431). Without a plug that is a write error, and the flag is false. The code of E255 comes with it. -/
def State.writeJournal (e : JournalEntry) (s : State) : State × Bool × Option Nat :=
  if !s.plug.present then (s, false, some 3)
  else
    match journalInForce s.plug.nor with
    | none => (s.putJournal ((journalFree s.plug.nor 0).getD 0) { e with sequence := Config.freeNat 52 s.freeCount % 2 ^ 31 }, true, none)
    | some (k, old) =>
      match journalFree s.plug.nor (k + 1 - (if k % 2048 = 2047 then 1 else 0)) with
      | some j => (s.putJournal j { e with sequence := old.sequence + 1 }, true, none)
      | none =>
        let sector := 1 - k / 2048
        let s := { s with plug := { s.plug with nor := norErase s.plug.nor (0x20000 + sector * 0x10000) 0x10000 } }
        let s := s.putJournal (sector * 2048) { old with kind := 6, sequence := old.sequence + 1 }
        (s.putJournal (sector * 2048 + 1) { e with sequence := old.sequence + 2 }, true, some 5)

/-- Append an entry, with E255 at once. -/
def State.appendJournal (e : JournalEntry) (s : State) : State × Bool :=
  let r := s.writeJournal e
  (match r.2.2 with | some c => r.1.cfgEvent 3 c | none => r.1, r.2.1)

/-! ### The load (R442 to R447) -/

/-- The owner anchor of the generation in force (R457). -/
def State.ownerKey (s : State) : Option Anchor := s.mss.owners.getLast?

/-- A slot of a plug that is fitted cannot be read. -/
def State.readError (slot : Nat) (s : State) : Bool := s.plug.present && s.plug.unreadable.any fun i => decide (i.val = slot)

/-- The write or erase of a slot has not ended: the directory in force names state 1 or 3 (R429). -/
def State.slotCut (slot : Nat) (s : State) : Bool :=
  (dirInForce s.plug.nor).isSome && (decide (s.slotState slot = 1) || decide (s.slotState slot = 3))

/-- The checks of R437 on a slot. One whose write or erase was cut fails check 1, 2 or 4 whatever its bytes (R429, R449, log entry 169). -/
def State.checkSlot (rule : VersionRule) (slot : Nat) (s : State) : Option Finding :=
  let r := checkBundle s.small (s.plug.present && decide (slot < 4) && !s.readError slot) s.ownerKey rule s.plug.nor slot
  if s.plug.present && s.slotCut slot && !(r.any fun f => decide (f.code = 1 ∨ f.code = 2 ∨ f.code = 4)) then
    some ⟨match Config.freeNat 73 s.freeCount % 3 with | 0 => 1 | 1 => 2 | _ => 4, 0, 0⟩
  else r

/-- Keep a failing check in CFG_RESULT. -/
def Cfg.result (f : Finding) (attempt : Nat) (c : Cfg) : Cfg := { c with code := f.code, attempt := attempt, section_ := f.section_, offset := f.offset }

/-- The entry that a fallback load during probation calls for (R446), or a return (R441): the previous slot becomes active. -/
def JournalEntry.back (kind : Nat) (e : JournalEntry) : JournalEntry :=
  { e with kind := kind, active := e.previous, previous := 0xFF, activeVersion := e.previousVersion, previousVersion := 0,
           barred := e.activeVersion, probation := if e.probation = 1 then 3 else e.probation }

/-- The loader keeps what it has verified of a slot until the handover (R24). -/
def State.loadSlot (i : Nat) (s : State) : State :=
  let nor := s.plug.nor
  let b := slotBase i
  s.modCfg fun c => { c with loaded := some (slotParams nor i, norLe nor (b + 8) 4, norBytes nor (b + 32) 64) }

/-- LOADER_RUN (R442, R446, R447): the loader runs to its verdict, which takes effect at the handover. -/
def State.loaderRun (s : State) : State :=
  if s.start.stage ≠ .booted then s
  else
    let entry := if s.plug.present then (journalInForce s.plug.nor).map (·.2) else none
    let s := (s.modStart fun x => { x with stage := .loading }).modCfg fun c =>
      { c with state := 1, entry := entry, startAt := s.now, code := 0, attempt := 0, section_ := 0, offset := 0,
               loadEvents := if s.plug.present then [] else [(3, 1)] }
    let fail (slot : Nat) (k : Finding) (attempt : Nat) (s : State) : State :=
      s.modCfg fun c => { c.result k attempt with loadEvents := c.loadEvents ++ (if s.readError slot then [(3, 2)] else []) ++ [(1, k.code)] }
    let unconfigured (s : State) : State := s.modCfg fun c => { c with outcome := 4, loadEvents := c.loadEvents ++ [(0, 2)] }
    match entry with
    | none => unconfigured (if s.plug.present then s else fail 4 ⟨1, 0, 0⟩ 1 s)
    | some e =>
      match s.checkSlot (.expected e.activeVersion) e.active with
      | none => (s.loadSlot e.active).modCfg fun c => { c with outcome := 2, slot := e.active }
      | some f =>
        let s := fail e.active f 1 s
        if 4 ≤ e.previous then unconfigured s
        else
          match s.checkSlot (.expected e.previousVersion) e.previous with
          | some g => unconfigured (fail e.previous g 2 s)
          | none =>
            let s := (s.loadSlot e.previous).modCfg fun c => { c with outcome := 3, slot := e.previous, loadEvents := c.loadEvents ++ [(0, 1)] }
            if e.probation = 1 then
              let r := s.writeJournal (e.back 5)
              r.1.modCfg fun c => { c with
                returnPending := r.2.1
                loadEvents := c.loadEvents ++ (match r.2.2 with | some k => [(3, k)] | none => []) ++ (if r.2.1 then [(2, 3)] else []) }
            else s

/-- What a failed probation does with the module (R445): the holder of a pair that can hand over resigns at the swap condition and restarts once it no longer drives, a standby restarts at once whatever its twin reports (log entry 138), and a module alone runs on. -/
def State.scheduleReturn (s : State) : State :=
  if !s.twinPresent then s
  else if s.drives then
    (match s.twinRec with
    | some r => if r.synchronised && r.healthy then (s.modCfg fun c => { c with resignDue := true }).modMss fun m => { m with restartDue := true } else s
    | none => s)
  else s.modMss fun m => { m with restartDue := true }

/-- E254 at the handover: probation started, or the returned version runs (R444, R445). -/
def State.tellEntry (s : State) : State :=
  match s.cfg.entry with
  | none => s
  | some e =>
    if s.cfg.outcome = 2 ∧ s.cfg.told ≠ some e.sequence then
      if e.kind = 1 ∧ e.probation = 1 then (s.modCfg fun c => { c with told := some e.sequence }).cfgEvent 2 1
      else if e.kind = 5 then (s.modCfg fun c => { c with told := some e.sequence }).cfgEvent 2 4
      else s
    else s

/-- The loader's side of the handover: CFG registers, and the events of the load (R447). -/
def State.cfgHandover (s : State) : State :=
  let events := s.cfg.loadEvents
  let got : Mem × Nat × List Byte := if s.cfg.outcome = 4 then ([], 0, []) else s.cfg.loaded.getD ([], 0, [])
  let s := { s with params := got.1 }
  let s := s.modCfg fun c => { c with
    state := c.outcome
    version := got.2.1
    digest := got.2.2
    thermal := if c.outcome = 4 then 0 else ((dissipation got.1) * 100).floor.toNat
    loaded := none
    resignDue := false
    healthLost := false
    loadMs := min 65535 ((s.now - c.startAt) / 1000000)
    progress := match c.entry with | some e => e.progress | none => 0
    probAt := s.now
    progressAt := s.now
    loadEvents := [] }
  let s := { s with dq := { s.dq with causes := 0 }, mq := { s.mq with causes := 0 }, slices := s.slices.map fun (x : Slice) => { x with iq := { x.iq with causes := 0 } } }
  let s := s.tellEntry
  let s : State := events.foldl (fun (s : State) x => s.cfgEvent x.1 x.2) s
  if s.cfg.returnPending && decide (s.cfg.outcome = 3) then s.scheduleReturn else s

/-! ### Probation (R444 to R446) -/

/-- Sum of the enabled portals' door_cycles. -/
def State.doorCycles (s : State) : Nat := (s.enabled.map fun i => s.slices[i].portal.doorCycles).foldl (· + ·) 0

/-- The version on probation runs. -/
def State.onProbation (s : State) : Bool :=
  s.configured && decide (s.cfg.state = 2) && !s.cfg.returnPending && !s.cfg.activationPending && s.cfg.entry.any fun e => decide (e.probation = 1)

/-- Door cycles count while this module holds the Hitch. -/
def State.probationCount (s : State) : State :=
  let n := s.doorCycles
  s.modCfg fun c => { c with
    progress := if s.onProbation && decide (cfgRoleProbationMode s.params = 1) && s.twn.hitch then c.progress + (n - c.cyclesSeen) else c.progress
    cyclesSeen := n }

/-- What has been counted: door cycles, or hours since the start beside those of the last progress entry; nothing more once probation has ended (R444). -/
def State.probationValue (s : State) : Nat :=
  if cfgRoleProbationMode s.params = 2 ∧ s.onProbation = true then s.cfg.progress + (s.now - s.cfg.probAt) / 3600000000000 else s.cfg.progress

/-- PROBATION_PROGRESS: a progress entry at each sixteenth, at most one an hour; at the limit, passed. -/
def State.probationProgress (s : State) : State :=
  if !s.mssUp || !s.onProbation then s
  else
    let s := s.probationCount
    let lim := cfgRoleProbationLimit s.params
    let v := min lim s.probationValue
    match s.cfg.entry with
    | none => s
    | some e =>
      if lim ≤ v then
        let r := s.appendJournal { e with kind := 4, probation := 2, progress := v }
        if r.2 then (r.1.modCfg fun c => { c with passedAt := some s.now, progress := v }).cfgEvent 2 2 else r.1
      else if e.progress * 16 / lim < v * 16 / lim ∧ (e.kind ≠ 3 ∨ s.cfg.progressAt + 3600000000000 ≤ s.now) then
        let r := s.appendJournal { e with kind := 3, progress := v }
        if r.2 then r.1.modCfg fun c => { c with progressAt := s.now } else r.1
      else s

/-- A trigger fails the probation while it runs, and still in the cycle in which its limit was reached: the trigger decides (R449, log entry 137). -/
def State.failsProbation (s : State) : Bool :=
  s.onProbation || (s.configured && decide (s.cfg.state = 2) && !s.cfg.returnPending && !s.cfg.activationPending && s.cfg.passedAt.any fun t => decide (s.lastSync ≤ t))

/-- A cause of R445 has come since the handover. -/
def State.hasCause (k : Fin 6) (s : State) : Bool :=
  if k = 2 then s.cfg.healthLost else s.dq.causes.testBit k.val || s.mq.causes.testBit k.val || s.slices.any fun (x : Slice) => x.iq.causes.testBit k.val

/-- PROBATION_FAILURE (R445): a cause that has come and is enabled in probation_triggers. Without a previous slot there is nothing to return to (R441). -/
def State.probationFailure (cause : Fin 6) (s : State) : State :=
  if !s.mssUp || !s.failsProbation || !s.hasCause cause || !(cfgRoleProbationTriggers s.params).testBit cause.val then s
  else
    match s.cfg.entry with
    | none => s
    | some e =>
      if e.previous = 0xFF then s
      else
        let r := s.appendJournal ({ e with probation := 1, progress := s.probationValue }.back 5)
        if r.2 then ((r.1.modCfg fun c => { c with returnPending := true, progress := s.probationValue }).cfgEvent 2 3).scheduleReturn else r.1

/-! ### Commands of the CFG block -/

/-- Commands are taken after the handover (R449), while the MSS runs and no earlier one is busy. -/
def State.cfgReady (s : State) : Bool := s.mssUp && decide (2 ≤ s.cfg.state) && decide (s.cfg.busy = .none)

def State.cfgDone (s : State) : State := s.modCfg fun c => { c with cmdState := 2, cmdCode := 0, cmdSection := 0 }

/-- A refusal with its code (CFG_CMD_STATUS). -/
def State.cfgRefuse (code : Nat) (s : State) : State :=
  s.modCfg fun c => { c with cmdState := 3, cmdCode := code, cmdSection := 0, cntRefusals := satInc 255 c.cntRefusals }

/-- A command that failed for a reason without a code. -/
def State.cfgFailed (s : State) : State := s.cfgRefuse (Config.freeNat 53 s.freeCount % 32)

def State.slotInfo (i : Fin 4) (f : SlotInfo → SlotInfo) (s : State) : State := s.modCfg fun c => { c with slots := c.slots.set i (f c.slots[i]) }

/-- The slot field of CFG_COMMAND, as written. -/
def State.slotCommand (i : Fin 4) (s : State) : State := if s.mssUp then s.modCfg fun c => { c with commandSlot := i.val } else s

/-- CFG_CHECK_SLOT (code 1). -/
def State.cfgCheckSlot (i : Fin 4) (s : State) : State :=
  if s.cfgReady then s.modCfg fun c => { c with busy := .checkSlot i.val, cmdState := 1, cmdCode := 0, cmdSection := 0 } else s

/-- Check 8 for a slot that is checked on command: the version the entry in force names for the active and the previous slot, else the rules of activation (R440). -/
def State.slotRule (i : Nat) (s : State) : VersionRule :=
  match s.cfg.entry with
  | none => .staged none none
  | some e =>
    if i = e.active then .expected e.activeVersion
    else if i = e.previous then .expected e.previousVersion
    else .staged (if e.active = 0xFF then none else some e.activeVersion) (if e.barred = 0 then none else some e.barred)

/-- SLOT_CHECK_COMPLETE (R437). -/
def State.slotCheckComplete (s : State) : State :=
  match s.cfg.busy with
  | .checkSlot n =>
    if h : n < 4 then
      let i : Fin 4 := ⟨n, h⟩
      let s := s.modCfg fun c => { c with busy := .none }
      let version := norLe s.plug.nor (slotBase n + 8) 4
      match s.checkSlot (s.slotRule n) n with
      | none => (s.slotInfo i fun _ => ⟨true, 0, version⟩).cfgDone
      | some f =>
        let s := if s.readError n then s.cfgEvent 3 2 else s
        let s := s.slotInfo i fun x => ⟨false, f.code, if s.plug.present && !s.readError n then version else x.version⟩
        let s := s.modCfg fun c => { c with cmdState := 3, cmdCode := f.code, cmdSection := f.section_, cntFailed := satInc 255 c.cntFailed }
        s.cfgEvent 1 f.code
    else s
  | _ => s

/-- CFG_ACTIVATE_SLOT (code 2, R440). -/
def State.cfgActivateSlot (i : Fin 4) (s : State) : State :=
  if !s.cfgReady then s
  else
    let version := norLe s.plug.nor (slotBase i.val + 8) 4
    let previous := norLe s.plug.nor (slotBase i.val + 12) 4
    let probation := if u8 (slotParams s.plug.nor i.val) 0x01 4 = 0 then 0 else 1
    let write (e : JournalEntry) (s : State) : State :=
      let r := s.appendJournal e
      if r.2 then (r.1.modCfg fun c => { c with activationPending := true, returnPending := false }).cfgDone else r.1.cfgFailed
    match s.cfg.entry with
    | none => if !s.cfg.slots[i].checked then s.cfgRefuse 20 else write ⟨1, 0, i.val, 0xFF, probation, version, 0, 0, 0⟩ s
    | some e =>
      if e.probation = 1 then s.cfgRefuse 22
      else if !s.cfg.slots[i].checked then s.cfgRefuse 20
      else if version ≤ e.activeVersion ∨ previous ≠ e.activeVersion ∨ (e.barred ≠ 0 ∧ version = e.barred) then s.cfgRefuse 21
      else write { e with kind := 1, active := i.val, previous := e.active, probation := probation, activeVersion := version, previousVersion := e.activeVersion, progress := 0 } s

/-- CFG_RETURN_TO_PREVIOUS (code 3, R441). -/
def State.cfgReturn (s : State) : State :=
  if !s.cfgReady then s
  else if s.cfg.returnPending then s.cfgRefuse 24
  else
    match s.cfg.entry with
    | none => s.cfgRefuse 23
    | some e =>
      if e.previous = 0xFF then s.cfgRefuse 23
      else
        let r := s.appendJournal (e.back 2)
        if r.2 then (r.1.modCfg fun c => { c with returnPending := true, activationPending := false, progress := s.probationValue }).cfgDone else r.1.cfgFailed

/-- CFG_END_PROBATION (code 4, R446). -/
def State.cfgEndProbation (s : State) : State :=
  if !s.cfgReady then s
  else
    match s.cfg.entry with
    | none => s.cfgFailed
    | some e =>
      if e.probation ≠ 1 then s.cfgFailed
      else
        let r := s.appendJournal { e with kind := 4, probation := 2, progress := s.probationValue }
        if r.2 then ((r.1.modCfg fun c => { c with progress := s.probationValue }).cfgEvent 2 2).cfgDone else r.1.cfgFailed

/-- CFG_ERASE_SLOT (code 5). -/
def State.cfgEraseSlot (i : Fin 4) (s : State) : State :=
  if !s.cfgReady then s
  else if s.cfg.entry.any (fun e => decide (i.val = e.active ∨ i.val = e.previous)) then s.cfgRefuse 25
  else if !s.plug.present then (s.cfgEvent 3 3).cfgFailed
  else ((s.setSlotState i.val 3).slotInfo i fun x => { x with checked := false }).modCfg fun c =>
    { c with busy := .eraseSlot i.val, cmdState := 1, cmdCode := 0, cmdSection := 0 }

/-- SLOT_ERASE_COMPLETE (R429). -/
def State.slotEraseComplete (s : State) : State :=
  match s.cfg.busy with
  | .eraseSlot n =>
    let s := s.modCfg fun c => { c with busy := .none }
    if !s.plug.present then (s.cfgEvent 3 3).cfgFailed
    else ({ s with plug := { s.plug with nor := norErase s.plug.nor (slotBase n) 0x800000, unreadable := s.plug.unreadable.filter fun i => decide (i.val ≠ n) } }.setSlotState n 0).cfgDone
  | _ => s

/-- A write to CFG_COMMAND; other codes are ignored. -/
def State.cfgCommand (v : Nat) (s : State) : State :=
  let i : Fin 4 := ⟨v / 16 % 4, Nat.mod_lt _ (by decide)⟩
  let s := s.slotCommand i
  match v % 16 with
  | 1 => s.cfgCheckSlot i
  | 2 => s.cfgActivateSlot i
  | 3 => s.cfgReturn
  | 4 => s.cfgEndProbation
  | 5 => s.cfgEraseSlot i
  | _ => s

/-! ### The plug after the handover (R448, R547) -/

/-- PLUG_FAULT. A removal is one with the plug still counted present; a slot that cannot be read fails the loader's check too (R437). -/
def State.plugFault (f : PlugError) (s : State) : State :=
  let s := match f with
    | .slot i => if s.plug.present && !s.readError i.val then { s with plug := { s.plug with unreadable := i :: s.plug.unreadable } } else s
    | _ => s
  if !s.mssUp || s.cfg.state < 2 then s
  else
    match f with
    | .removed => if s.plug.present then ({ s with plug := { s.plug with present := false } }).cfgEvent 3 4 else s
    | .read | .slot _ => s.cfgEvent 3 2
    | .write => s.cfgEvent 3 3

/-- PLUG_PRESENCE_CHANGE: pin 7 has changed for 10 ms. A plug that is fitted brings its own contents. -/
def State.plugPresence (present : Bool) (image : List (Nat × Byte)) (s : State) : State :=
  if present = s.plug.present then s
  else if present then
    let nor : Mem := image.foldl (fun (m : Mem) (c : Nat × Byte) => if c.1 < 0x4000000 then memSet norDefault m c.1 c.2 else m) []
    ({ s with plug := ⟨true, nor, []⟩ } : State).modCfg fun c => { c with slots := c.slots.map fun (x : SlotInfo) => { x with checked := false } }
  else if s.mssUp && decide (2 ≤ s.cfg.state) then s.plugFault .removed
  else { s with plug := { s.plug with present := false } }

end Sys2Proof.Machine
end

