-- ==== Sys2Proof/Machine/Mss.lean ====
section
/-! DEFINITION. The management subsystem (file 14): firmware banks, trust anchors, attestation, sensors, calendar, staging, and the access policy. -/

namespace Sys2Proof.Machine

/-! ### Firmware banks (R453 to R456) -/

/-- Byte address 0 of a bank holds its bundle. -/
def State.bank (b : Bool) (s : State) : Bank8 := if b then s.mss.bankB else s.mss.bankA
def State.modBank (b : Bool) (f : Bank8 → Bank8) (s : State) : State :=
  s.modMss fun m => if b then { m with bankB := f m.bankB } else { m with bankA := f m.bankA }

/-- The vendor sets that still verify (R457). -/
def State.vendorSets (s : State) : List Anchor := (if s.mss.retired0 then [] else [s.mss.vendor[0]]) ++ [s.mss.vendor[1]]

/-- How a firmware bundle fails R455, as MSS_CMD_STATUS.reason names it: 3 signature, 6 epoch, and a free value where no reason is named. -/
def State.bankFault (nor : Mem) (s : State) : Option Nat :=
  let length := norLe nor 24 4
  let image := norLe nor 28 4
  let epoch := norLe nor 6 2
  let zero (a n : Nat) : Bool := (norBytes nor a n).all fun x => decide (x = 0)
  let block := 128 + image
  let msg := norBytes nor 0 128
  let other := Config.freeNat 54 s.freeCount % 64
  if norBytes nor 0 4 ≠ [0x48, 0x56, 0x46, 0x57] ∨ norLe nor 4 2 ≠ 1 ∨ ¬ zero 12 4 ∨ ¬ zero 97 31 ∨ 2 ≤ norLe nor 96 1 ∨
      length ≠ 3568 + image ∨ 8388608 < length ∨ image % 8 ≠ 0 ∨ 64 ≤ epoch ∨ norLe nor 8 4 = 0 then some other
  else if Config.sha512 (norBytes nor 128 image) ≠ norBytes nor 32 64 then some other
  else
    match s.vendorSets.find? fun k => decide (norBytes nor (block + 3376) 32 = Config.sha256 k.ed ∧ norBytes nor (block + 3408) 32 = Config.sha256 k.ml) with
    | none => some 3
    | some k =>
      if !Config.ed25519Valid k.ed msg (norBytes nor block 64) || !Config.mldsaValid k.ml msg (norBytes nor (block + 64) 3309) then some 3
      else if epoch < s.mss.minEpoch then some 6
      else none

def State.bankGood (b : Bool) (s : State) : Bool := (s.bankFault (s.bank b).nor).isNone

/-- The boot ROM runs a bank, on trial when the boot record names it so (R456, R508). -/
def State.runBank (b trial : Bool) (s : State) : State :=
  let nor := (s.bank b).nor
  (s.modMss fun m => { m with runBank := b, trial := trial, fwVersion := norLe nor 8 4, epoch := norLe nor 6 2, recovery := false,
                              confirmFrom := none, trialOver := false }).modStart fun x => { x with stage := .booted }

/-- BOOT_BANK_SELECT (R508, R509). -/
def State.bootBankSelect (s : State) : State :=
  if s.start.stage ≠ .qualified then s
  else
    let r := s.mss.boot
    let fresh := r.trialNamed && !r.trialStarted
    let abandoned := r.trialNamed && r.trialStarted
    let b := if fresh then r.trialBank else r.running
    let s := s.modMss fun m => { m with boot :=
      if fresh then { r with trialStarted := true } else { r with trialNamed := false, trialStarted := false } }
    let s := if abandoned then s.mssEvent 3 6 0 else s
    if s.bankGood b then s.runBank b fresh
    else if s.bankGood (!b) then s.runBank (!b) false
    else (s.modMss fun m => { m with recovery := true }).modStart fun x => { x with stage := .recovery }

/-- The trial runs without interruption while the node is configured and, with a twin, synchronised or driving (R456). -/
def State.trialRuns (s : State) : Bool :=
  s.mssUp && s.mss.trial && !s.mss.trialOver && s.configured && (!s.twinPresent || s.twn.synchronised || s.gate)

def State.trialWatch (s : State) : State :=
  s.modMss fun m => { m with confirmFrom := if s.trialRuns then some (m.confirmFrom.getD s.now) else none }

/-- FIRMWARE_CONFIRM (R456). -/
def State.firmwareConfirm (s : State) : State :=
  match s.mss.confirmFrom with
  | some t =>
    if s.trialRuns then
      let nor := (s.bank s.mss.runBank).nor
      ((s.advance (t + cfgSecFwConfirmS s.params * 1000000000)).modMss fun m => { m with
        boot := ⟨m.runBank, false, m.boot.trialBank, false⟩
        trial := false
        confirmFrom := none
        minEpoch := max m.minEpoch m.epoch
        retired0 := m.retired0 || decide (norLe nor 96 1 % 2 = 1) }).mssEvent 3 5 0
    else s
  | none => s

/-! ### MSS_COMMAND -/

def State.mssBegin (code : Nat) (s : State) : State := s.modMss fun m => { m with cmdState := 1, reason := 0, lastCode := code }
def State.mssDone (code : Nat) (s : State) : State := s.modMss fun m => { m with busy := .none, cmdState := 2, reason := 0, lastCode := code }

/-- A command that fails without being refused. -/
def State.mssFail (code reason : Nat) (s : State) : State := s.modMss fun m => { m with busy := .none, cmdState := 3, reason := reason, lastCode := code }

/-- A refusal: E251 code 7. -/
def State.mssRefuse (code reason : Nat) (s : State) : State :=
  (s.modMss fun m => { m with cmdState := 3, reason := reason, lastCode := code }).mssEvent 3 7 0

/-- The reason of a refusal that MSS_CMD_STATUS names no code for. -/
def State.noReason (s : State) : Nat := Config.freeNat 54 s.freeCount % 64

/-- A command is taken when the MSS runs; in recovery codes 1 to 5 alone (R509); one that comes while another is busy is refused. -/
def State.mssTake (code : Nat) (f : State → State) (s : State) : State :=
  if !s.mssUp then s
  else if (s.mss.recovery && decide (5 < code)) || decide (s.mss.busy ≠ .none) then s.mssRefuse code s.noReason
  else f s

/-- MSS_COMMAND.argument keeps what was last written with a command (R11); a command row writes 0 in it but for code 1. -/
def State.mssArgument (v : Nat) (s : State) : State := if s.mssUp then s.modMss fun m => { m with argument := v } else s

/-! ### Staging (R467) -/

/-- MSS_STAGE_CONTROL.target, as written. -/
def State.stageSelect (target : Nat) (s : State) : State := if s.mssUp then s.modMss fun m => { m with stageTarget := target } else s

/-- A load runs: from the boot of the firmware to the handover (R447). -/
def State.loads (s : State) : Bool := decide (s.start.stage = .booted) || decide (s.start.stage = .loading)

/-- MSS_STAGE_OPEN; no session on a slot while a load runs (R449). A refusal shows in MSS_CMD_STATUS with last_code 0 (DESIGN CHOICE, log entry 43). -/
def State.stageOpen (target : Nat) (s : State) : State :=
  if !s.mssUp ∨ (2 ≤ target ∧ s.loads = true) then s
  else if s.mss.staging.open_ ∨ target = 0 ∨ 6 ≤ target then s.mssRefuse 0 s.noReason
  else if target = 1 then
    if s.mss.trial then s.mssRefuse 0 8
    else (s.modBank (!s.mss.runBank) fun b => { b with checked := false, version := 0 }).modMss fun m => { m with staging := ⟨1, true, 1, 0, 0⟩ }
  else
    let i := target - 2
    if s.cfg.entry.any fun e => decide (i = e.active ∨ i = e.previous) then s.mssRefuse 0 11
    else if !s.plug.present then (s.cfgEvent 3 3).modMss fun m => { m with staging := ⟨target, true, 3, 0, 0⟩ }
    else
      let s := (s.setSlotState i 1).modMss fun m => { m with staging := ⟨target, true, 1, 0, 0⟩ }
      if h : i < 4 then s.slotInfo ⟨i, h⟩ fun x => { x with checked := false } else s

/-- MSS_COMMIT (code 1); a slot is not written while a load runs (R449). -/
def State.mssCommit (bytes : Nat) (s : State) : State :=
  if 2 ≤ s.mss.staging.target ∧ s.loads = true then s
  else s.mssTake 1 (fun s =>
    if !s.mss.staging.open_ ∨ bytes = 0 ∨ 65536 < bytes then s.mssRefuse 1 s.noReason
    else (s.mssBegin 1).modMss fun m => { m with busy := .commit bytes, staging := { m.staging with state := 2, offset := m.stageOffset } })

/-- MSS_COMMIT_COMPLETE: the chunk is programmed; outside the target, or without a plug, the session is in error. -/
def State.commitComplete (s : State) : State :=
  match s.mss.busy with
  | .commit n =>
    let st := s.mss.staging
    let data := memGetBytes ramDefault s.mss.window 0 n
    let failed (s : State) : State := (s.mssFail 1 s.noReason).modMss fun m => { m with staging := { m.staging with state := 3 } }
    let done (s : State) : State := (s.mssDone 1).modMss fun m => { m with staging := { m.staging with state := 1, bytes := m.staging.bytes + n } }
    if st.offset % 65536 ≠ 0 ∨ 8388608 < st.offset + n then failed s
    else if st.target = 1 then
      done (s.modBank (!s.mss.runBank) fun b => { b with nor := memSetBytes norDefault b.nor st.offset data, checked := false, version := 0 })
    else if !s.plug.present then failed (s.cfgEvent 3 3)
    else
      let i := st.target - 2
      let s := { s with plug := { s.plug with nor := memSetBytes norDefault s.plug.nor (slotBase i + st.offset) data } }
      done (if h : i < 4 then s.slotInfo ⟨i, h⟩ fun x => { x with checked := false } else s)
  | _ => s

/-- MSS_CLOSE_SESSION (code 2). -/
def State.mssClose (s : State) : State :=
  s.mssTake 2 (fun s =>
    if !s.mss.staging.open_ then s.mssRefuse 2 s.noReason
    else
      let t := s.mss.staging.target
      let s := s.modMss fun m => { m with staging := { m.staging with open_ := false, state := 0 } }
      let s := if t = 1 then s else if s.plug.present then s.setSlotState (t - 2) 2 else s.cfgEvent 3 3
      s.mssDone 2)

/-- MSS_CHECK_INACTIVE_BANK (code 3). -/
def State.mssCheckBank (s : State) : State := s.mssTake 3 (fun s => (s.mssBegin 3).modMss fun m => { m with busy := .checkBank })

/-- BANK_CHECK_COMPLETE (R455). -/
def State.bankCheckComplete (s : State) : State :=
  match s.mss.busy with
  | .checkBank =>
    let b := !s.mss.runBank
    let nor := (s.bank b).nor
    match s.bankFault nor with
    | none => (s.modBank b fun x => { x with checked := true, version := norLe nor 8 4 }).mssDone 3
    | some r => ((s.modBank b fun x => { x with checked := false, version := 0 }).mssFail 3 r).mssEvent 3 4 0
  | _ => s

/-- MSS_ACTIVATE_BANK (code 4): the record names the bank that runs, and the other as trial (R453, R456). -/
def State.mssActivate (s : State) : State :=
  s.mssTake 4 (fun s =>
    let b := !s.mss.runBank
    if !(s.bank b).checked then s.mssRefuse 4 7
    else ((s.modMss fun m => { m with boot := { running := if m.trial then m.boot.running else m.runBank, trialNamed := true, trialBank := b, trialStarted := false } }).mssDone 4).mssEvent 3 3 0)

/-! ### Restart (R468, R513) -/

/-- The module may restart: it does not drive, or it has no twin and stands safely. -/
def State.mayRestart (s : State) : Bool :=
  !s.gate || (!s.twinPresent && s.nodeZeroSpeed && s.enabled.all fun i =>
    decide (s.slices[i].portal.st = .locked) || decide (s.slices[i].portal.st = .isolated))

/-- A commanded restart begins: the recorder flushes, then the order of R505 runs from 52 ms. -/
def State.beginRestart (s : State) : State :=
  ((s.modStart fun x => { x with commanded := true }).modMss fun m => { m with restartDue := false }).flushTrigger 6

/-- MSS_RESTART (code 5). -/
def State.mssRestart (s : State) : State :=
  s.mssTake 5 (fun s => if s.mayRestart then (s.mssDone 5).beginRestart else s.mssRefuse 5 9)

/-- A restart that R445 scheduled, once the module no longer drives. -/
def State.dueRestart (s : State) : State := if s.mss.restartDue && s.mssUp && s.mayRestart then s.beginRestart else s

/-! ### Owner commands and attestation (R458 to R461) -/

def State.windowBytes (a n : Nat) (s : State) : List Byte := memGetBytes ramDefault s.mss.window a n
def State.putWindow (a : Nat) (b : List Byte) (s : State) : State := s.modMss fun m => { m with window := memSetBytes ramDefault m.window a b }

/-- The attestation public keys at window offsets 0 and 32. -/
def State.putAttestKeys (seed : Nat) (s : State) : State :=
  (s.putWindow 0 ((Config.edPublic seed).take 32)).putWindow 32 ((Config.mldsaPublic seed).take 1952)

/-- What an accepted owner command does (R460). -/
def State.ownerOp (op seed : Nat) (payload : List Byte) (s : State) : State :=
  match op with
  | 1 => s.modMss fun m => { m with owners := m.owners ++ [⟨payload.take 32, (payload.drop 32).take 1952⟩] }
  | 2 => s.modMss fun m => { m with attest := none, certificate := none }
  | 3 => s.modMss fun m => { m with attest := some seed, certificate := none }
  | _ => s.modMss fun m => { m with certificate := some payload }

/-- MSS_OWNER_COMMAND (code 6, R459, R460). `seed` is what the entropy source gives for op 3. -/
def State.mssOwner (seed : Nat) (s : State) : State :=
  s.mssTake 6 (fun s =>
    let op := leNat (s.windowBytes 4 1)
    let gen := leNat (s.windowBytes 5 1)
    let len := leNat (s.windowBytes 6 2)
    let body := s.windowBytes 0 (40 + len)
    let block := 40 + (len + 7) / 8 * 8
    let nonce := s.mss.nonce
    let s := s.modMss fun m => { m with nonce := none }
    match s.ownerKey with
    | none => s.mssRefuse 6 5
    | some k =>
      if s.windowBytes 0 4 ≠ [0x48, 0x56, 0x4F, 0x43] ∨ 8192 < len ∨ op = 0 ∨ 4 < op then s.mssRefuse 6 s.noReason
      else if gen + 1 ≠ s.mss.owners.length then s.mssRefuse 6 5
      else if !Config.ed25519Valid k.ed body (s.windowBytes block 64) || !Config.mldsaValid k.ml body (s.windowBytes (block + 64) 3309) then s.mssRefuse 6 3
      else if !(nonce.any fun x => decide (x.1 = s.windowBytes 8 32) && decide (s.now ≤ x.2 + 300000000000)) then s.mssRefuse 6 4
      else if op = 1 ∧ 5 ≤ s.mss.owners.length then s.mssRefuse 6 5
      else ((s.ownerOp op seed (s.windowBytes 40 len)).mssDone 6).mssEvent 3 2 0)

/-- MSS_ATTEST (code 7). -/
def State.mssAttest (s : State) : State :=
  s.mssTake 7 (fun s =>
    if s.mss.attest.isNone ∨ ¬ (cfgSecPolicyFlags s.params).testBit 3 then s.mssRefuse 7 10
    else (s.mssBegin 7).modMss fun m => { m with busy := .attest (s.windowBytes 0 32) })

/-- Operating time of the module, ns: what MRAM holds and the time since it was switched on (R462). -/
def State.operatedNs (s : State) : Nat := s.mss.operated + (match s.mss.onFrom with | some t => s.now - t | none => 0)

/-- Operating hours (R462). -/
def State.hours (s : State) : Nat := s.operatedNs / 3600000000000

/-- Bytes 0…255 of the attestation report (R461). -/
def State.report (challenge : List Byte) (s : State) : List Byte :=
  let cal := s.mss.cal.nsAt s.now / 1000000000
  [0x48, 0x56, 0x41, 0x52] ++ leBytes 2 1 ++ leBytes 1 (s.mss.owners.length - 1) ++
  leBytes 1 (b2n s.mss.cal.invalid + 2 * b2n (s.cfg.state = 3) + 4 * b2n (s.cfg.state = 4) + 8 * b2n s.mss.trial) ++ challenge ++
  norBytes (s.bank s.mss.runBank).nor 32 64 ++ leBytes 4 s.mss.fwVersion ++ leBytes 2 s.mss.epoch ++ leBytes 2 s.mss.minEpoch ++
  leBytes 4 (if s.configured then s.cfg.version else 0) ++ leBytes 4 s.start.starts ++
  (if s.configured then s.cfg.digest else List.replicate 64 0) ++ leBytes 8 (cal % 2 ^ 48) ++ leBytes 4 s.hours ++ leBytes 4 s.doorCycles ++
  leBytes 4 s.ina.generation ++ leBytes 1 s.hws.position ++ leBytes 1 s.ina.car ++ leBytes 1 (b2n s.roleS) ++ List.replicate 49 0

/-- ATTESTATION_COMPLETE: the report with its signatures. -/
def State.attestationComplete (s : State) : State :=
  match s.mss.busy, s.mss.attest with
  | .attest ch, some k =>
    let r := s.report ch
    (s.putWindow 0 (r ++ (Config.ed25519Sign k r).take 64 ++ (Config.mldsaSign k r).take 3309 ++ List.replicate 3 0)).mssDone 7
  | _, _ => s

/-- MSS_ENROL (code 8). -/
def State.mssEnrol (o : Option Origin) (s : State) : State :=
  s.mssTake 8 (fun s =>
    if s.mss.owners ≠ [] then s.mssRefuse 8 1
    else
      match o with
      | some (.udp _ _) => (s.mssBegin 8).modMss fun m => { m with busy := .enrol (s.windowBytes 0 1984) }
      | _ => s.mssRefuse 8 2)

/-- ENROLMENT_COMPLETE. -/
def State.enrolmentComplete (seed : Nat) (s : State) : State :=
  match s.mss.busy with
  | .enrol k =>
    let s := s.modMss fun m => { m with owners := [⟨k.take 32, k.drop 32⟩], attest := some seed }
    ((s.putAttestKeys seed).mssDone 8).mssEvent 3 1 0
  | _ => s

/-- MSS_ISSUE_NONCE (code 9): 32 fresh bytes. -/
def State.mssNonce (fresh : List Byte) (s : State) : State :=
  s.mssTake 9 (fun s =>
    let n := (fresh ++ List.replicate 32 0).take 32
    ((s.putWindow 0 n).modMss fun m => { m with nonce := some (n, s.now) }).mssDone 9)

/-- NONCE_EXPIRY: 300 s after it was issued. -/
def State.nonceExpiry (s : State) : State :=
  match s.mss.nonce with
  | some x => (s.advance (x.2 + 300000000000)).modMss fun m => { m with nonce := none }
  | none => s

/-- MSS_EXPORT_ATTESTATION_KEYS (code 10). -/
def State.mssExport (s : State) : State :=
  s.mssTake 10 (fun s =>
    match s.mss.attest with
    | none => s.mssRefuse 10 10
    | some k =>
      let c := s.mss.certificate.getD []
      ((s.putAttestKeys k).putWindow 2044 (leBytes 4 c.length ++ c)).mssDone 10)

/-- A write to MSS_COMMAND by an initiator: code in bits 7…0, argument above; other codes are ignored. Entropy comes as free values. -/
def State.mssCommand (o : Option Origin) (v : Nat) (s : State) : State :=
  match v % 256 with
  | 1 => s.mssCommit (v / 256)
  | 2 => s.mssClose
  | 3 => s.mssCheckBank
  | 4 => s.mssActivate
  | 5 => s.mssRestart
  | 6 => s.mssOwner (Config.freeNat 55 s.freeCount)
  | 7 => s.mssAttest
  | 8 => s.mssEnrol o
  | 9 => s.mssNonce ((List.range 32).map fun k => Config.freeByte s.freeCount k)
  | 10 => s.mssExport
  | _ => s

/-! ### Sensors (R462, R463) -/

/-- A point or rail that the part does not have (R462). -/
def State.noTemp (k : Nat) (s : State) : Bool := s.small && (decide (8 ≤ k ∧ k ≤ 15) || decide (k = 17))
def State.noRail (k : Nat) (s : State) : Bool := s.small && (decide (k = 3) || decide (k = 4))

/-- Nominal values of rails 5…10 in 0.01 V (R462). -/
def railNominal (r : Nat) : Int :=
  if r = 5 then 500 else if r = 6 then 330 else if r = 7 then 180 else 90

def railBad (r : Nat) (v : Int) : Bool := decide (railNominal r < (v - railNominal r).natAbs * 20)

/-- The magnitude of an acceleration, squared, in (0.01 g)². -/
def accSquare (a : Vector Int 3) : Nat := (a[0] * a[0] + a[1] * a[1] + a[2] * a[2]).natAbs

/-- A case point that has risen above 85 °C. -/
def State.casePoint (x : Readings) (s : State) (k : Fin 24) : State :=
  if 850 < x.temps[k] ∧ s.mss.temps[k] ≤ 850 then s.mssEvent 1 1 k.val else s

/-- The two case points, each once per crossing. -/
def State.caseLimit (x : Readings) (s : State) : State :=
  ([22, 23].foldl (State.casePoint x) s).modMss fun m => { m with caseHigh := decide (850 < x.temps[22]) || decide (850 < x.temps[23]) }

/-- The highest value since the start, of the values measured. -/
def peakOf (sampled : Bool) (old new : Int) : Int := if sampled then max old new else new

def State.railLimit (x : Readings) (r : Fin 12) (s : State) : State :=
  if r.val < 5 ∨ 10 < r.val then s
  else if !railBad r.val x.rails[r] then s.modMss fun m => { m with railOut := m.railOut.set r none, railRaised := m.railRaised.set r false }
  else
    let t := (s.mss.railOut.get r).getD s.now
    let due := decide (t + 10000000 ≤ s.now) && !s.mss.railRaised.get r
    let s := s.modMss fun m => { m with railOut := m.railOut.set r (some t), railRaised := m.railRaised.set r (m.railRaised.get r || due) }
    if due then s.mssEvent 1 2 (32 + r.val) else s

def State.humidityLimit (x : Readings) (s : State) : State :=
  let high := decide ((cfgSecHumidityWarn s.params * 10 : Nat) < x.humidity) && s.configured
  let was := s.mss.humHigh
  let s := s.modMss fun m => { m with humHigh := high }
  if high && !was then s.mssEvent 1 3 48 else s

/-- The axis of the largest component. -/
def largestAxis (a : Vector Int 3) : Nat :=
  if a[1].natAbs ≤ a[0].natAbs ∧ a[2].natAbs ≤ a[0].natAbs then 0 else if a[2].natAbs ≤ a[1].natAbs then 1 else 2

/-- Peak magnitude of an impact, 0.1 g. -/
def ImpactRun.peak (r : ImpactRun) : Nat := (reportR (Config.sqrtR (r.square : Nat) / 10)).toNat

/-- An impact with one more sample: the largest magnitude, the largest component of each axis, the time above threshold. -/
def ImpactRun.sample (x : Readings) (r : ImpactRun) : ImpactRun :=
  { r with
    square := max r.square (accSquare x.acc)
    axes := Vector.ofFn fun k : Fin 3 => if r.axes[k].natAbs < x.acc[k].natAbs then x.acc[k] else r.axes[k]
    ms := max r.ms x.impactMs }

/-- MSS_IMPACT shows the impact so far. -/
def Mss.showImpact (r : ImpactRun) (m : Mss) : Mss := { m with impact := ⟨r.peak, largestAxis r.axes, r.ms⟩ }

/-- The impact record, the payload of E249 code 4 (R463, R486). -/
def ImpactRun.record (r : ImpactRun) : List Nat :=
  payBytes 2 r.peak ++ payBytes 2 (ofInt16 r.axes[0]) ++ payBytes 2 (ofInt16 r.axes[1]) ++ payBytes 2 (ofInt16 r.axes[2]) ++ payBytes 4 r.ms

/-- An impact (R463): E249 code 4 at the crossing; while it lasts MSS_IMPACT follows its peaks; at its end the impact record goes to Logline with the time of the crossing (log entry 171). -/
def State.impactLimit (x : Readings) (s : State) : State :=
  let above : Bool := s.configured && decide ((cfgSecImpactThreshold s.params * 10) ^ 2 < accSquare x.acc)
  let d (a : Vector Int 3) : Nat := 49 + largestAxis a
  match s.mss.impactRun, above with
  | none, false => s
  | none, true =>
    let r : ImpactRun := ⟨s.mssCommon, accSquare x.acc, x.acc, x.impactMs⟩
    let s := s.modMss fun m => { m.showImpact r with
      impactNow := true, impactRun := some r, faultEvent := 1, faultCode := 4, faultDetail := d x.acc, cntImpacts := satInc 255 m.cntImpacts }
    { s with mq := s.mq.announce s.mssCommon 249 4 (d x.acc) (s.nodeMasked 249) }
  | some r, true => let r := r.sample x; s.modMss fun m => { m.showImpact r with impactNow := true, impactRun := some r }
  | some r, false =>
    let r := { r with ms := max r.ms x.impactMs }
    let s := s.modMss fun m => { m.showImpact r with impactRun := none }
    { s with mq := s.mq.offer ⟨1, 249, 4, d r.axes, r.at_, s.nodeMasked 249, 0, r.record, none⟩ }

/-- SENSOR_SAMPLE. -/
def State.sensorSample (x : Readings) (s : State) : State :=
  if !s.mssUp then s
  else
    let s := (List.finRange 12).foldl (fun s r => s.railLimit x r) ((s.caseLimit x).humidityLimit x)
    let s := s.impactLimit x
    s.modMss fun m => { m with
      temps := x.temps, rails := x.rails, humidity := x.humidity, acc := x.acc,
      accSum := Vector.ofFn (fun k : Fin 3 => m.accSum[k] + x.acc[k]), accCount := m.accCount + 1,
      cal := { m.cal with supercap := (x.rails[11] * 10).toNat }
      tempPeaks := Vector.ofFn (fun k : Fin 24 => peakOf m.sampled m.tempPeaks[k] x.temps[k]),
      railPeaks := Vector.ofFn (fun k : Fin 12 => peakOf m.sampled m.railPeaks[k] x.rails[k]),
      humidityPeak := peakOf m.sampled m.humidityPeak x.humidity,
      accPeaks := Vector.ofFn (fun k : Fin 3 => peakOf m.sampled m.accPeaks[k] x.acc[k]),
      sampled := true }

/-! ### Calendar and the MSS region (R462, R464 to R466) -/

/-- MSS_TIME_SET with go set, by an initiator; an initiator whose class policy_flags do not permit is refused (R466). Where a beacon has stepped the calendar in the cycle, the beacon decides on a node that is not master (R474). -/
def State.timeSet (o : Option Origin) (v : Nat) (s : State) : State :=
  if !s.mssUp then s
  else
    let s := s.modMss fun m => { m with timeSet := v % 2 ^ 31 }
    if !v.testBit 31 then s
    else
      let f := cfgSecPolicyFlags s.params
      let ok := match o with
        | some (.udp _ _) => f.testBit 1
        | some (.hawser _) => f.testBit 2
        | none => true
      if !ok then s.mssEvent 3 8 (match o with | some (.hawser p) => p | _ => 0)
      else if !s.calendarChannel then s
      else if s.mss.stepped && !s.isMaster then s.mssEvent 2 3 0
      else
        let tai := s.mss.timeSetLo + v % 65536 * 2 ^ 32
        let u := fieldOf v 16 15
        let utc : Int := if u < 16384 then u else (u : Int) - 32768
        (s.modMss fun m => { m with cal := { (m.cal.setNs s.now (tai * 1000000000)) with utc := utc, invalid := false } }).mssEvent 2 3 0

/-- SUPERCAPACITOR_EXHAUSTED (R464): the clock loses its time and the last-word store its contents. -/
def State.supercapExhausted (s : State) : State :=
  (s.modMss fun m => { m with cal := { m.cal with invalid := true, lost := true } }).modLog fun l => { l with lastWord := none }

/-- E250 code 1 at the start after the time was lost. -/
def State.tellTimeLost (s : State) : State :=
  if s.mss.cal.lost then (s.modMss fun m => { m with cal := { m.cal with lost := false } }).mssEvent 2 1 0 else s

/-- sensor_flags[5]: the spec gives no figure below which the supercapacitor is low, so the flag is a free value of its voltage. -/
def supercapLow (v : Int) : Bool := Config.freeNat 56 v.toNat % 2 = 1

/-- The mean of an axis over the cycle, the last sample where the cycle brought none (R462). -/
def Mss.meanAcc (k : Fin 3) (m : Mss) : Int := if m.accCount = 0 then m.acc[k] else reportR ((m.accSum[k] : Rat) / m.accCount)

/-- The MSS region at a sync point (R462), and the clock registers with it. -/
def State.mssRegionWrite (s : State) : State :=
  if !s.mssUp then s
  else
    let m := s.mss
    let ns := m.cal.nsAt s.now
    let flags := b2n m.caseHigh + 2 * b2n (m.railRaised.toList.any id) + 4 * b2n m.humHigh + 8 * b2n m.impactNow + 16 * b2n m.cal.invalid +
      32 * b2n (supercapLow m.rails[11])
    let temps := (List.finRange 24).flatMap fun k => leBytes 2 (if s.noTemp k.val then 0x8000 else ofInt16 m.temps[k])
    let rails := (List.finRange 12).flatMap fun k => leBytes 2 (if s.noRail k.val then 0x8000 else ofInt16 m.rails[k])
    let b := leBytes 4 flags ++ leBytes 4 0 ++ leBytes 8 (ns / 1000000000 % 2 ^ 48) ++ leBytes 4 (ns % 1000000000) ++ leBytes 2 (ofInt16 m.cal.utc) ++
      List.replicate 10 0 ++ temps ++ rails ++ leBytes 2 (ofInt16 m.humidity) ++ ((List.finRange 3).flatMap fun k => leBytes 2 (ofInt16 (m.meanAcc k))) ++ leBytes 4 s.hours
    let s := { s with mssRegion := { (s.mssRegion.write 0 b) with completed := true } }
    s.modMss fun m => { m with impactNow := m.impactRun.isSome, accSum := Vector.replicate 3 0, accCount := 0, stepped := false, taiLatched := ns / 1000000000 % 2 ^ 48 + 2 ^ 48 * b2n m.cal.invalid }

/-! ### Access policy (R469 to R472) -/

/-- The rule of section 0x0060 that decides a request, by its rights. -/
def State.ruleRights (o : Origin) (a n : Nat) (s : State) : Nat :=
  let p := s.params
  let classed (j : Nat) : Bool :=
    match o with
    | .udp _ _ => decide (cfgSecClass p j = 1)
    | .hawser q => decide (cfgSecClass p j = 2) || (decide (cfgSecClass p j = 3) && decide (cfgSecPosition p j = q))
  match (List.range (min 32 (cfgSecRuleCount p))).find? fun j => classed j && decide (cfgSecBase p j ≤ a ∧ a + n ≤ cfgSecBase p j + cfgSecSize p j) with
  | some j => cfgSecRights p j
  | none => 0

def insideBlock (base a n : Nat) : Bool := decide (base ≤ a ∧ a + n ≤ base + 0x100000)

/-- A remote request is allowed. -/
def State.allowed (o : Origin) (a n : Nat) (write : Bool) (s : State) : Bool :=
  let mssBlock := insideBlock 0x02000000 a n
  if s.mss.recovery then (match o with | .udp _ _ => mssBlock | .hawser _ => false)
  else if !s.configured || s.mss.paramFallback then
    match o with
    | .udp _ _ => !write || mssBlock || insideBlock 0x02200000 a n
    | .hawser _ => false
  else
    let quiet := match o with
      | .udp _ _ => write && (cfgSecPolicyFlags s.params).testBit 0 && !s.nodeZeroSpeed
      | .hawser _ => false
    !quiet && (s.ruleRights o a n).testBit (b2n write)

/-- A refused access: E251 code 8 once per second (R469). -/
def State.refuseAccess (o : Origin) (s : State) : State :=
  let p := match o with | .hawser q => q | .udp _ _ => 0
  if s.mss.e251At.all fun t => decide (t + 1000000000 ≤ s.now) then (s.modMss fun m => { m with e251At := some s.now }).mssEvent 3 8 p
  else s.modMss fun m => { m with cntRefusals := satInc 255 m.cntRefusals }

/-! ### Resets of the MSS island (R451, R452) -/

/-- The MSS side of its island's reset: what it was doing is lost; sessions and stores stay (R474). -/
def State.mssLost (s : State) : State :=
  let s := s.modMss fun m => { Mss.reset with
    boot := m.boot, bankA := { m.bankA with checked := false, version := 0 }, bankB := { m.bankB with checked := false, version := 0 }, runBank := m.runBank, trial := m.trial, fwVersion := m.fwVersion, epoch := m.epoch,
    recovery := m.recovery, vendor := m.vendor, retired0 := m.retired0, owners := m.owners, minEpoch := m.minEpoch, attest := m.attest,
    certificate := m.certificate, staging := { m.staging with state := if m.staging.open_ then 1 else 0 },
    stageTarget := if m.staging.open_ then m.staging.target else 0, trialOver := m.trialOver || m.trial,
    operated := m.operated, onFrom := m.onFrom, relayA := m.relayA, relayB := m.relayB, cal := { m.cal with supercap := 0 }, paramFallback := m.paramFallback }
  let s := s.modCfg fun c => { c with
    busy := .none, cmdState := 0, cmdCode := 0, cmdSection := 0, slotSelect := 0, commandSlot := 0, slots := Vector.replicate 4 ⟨false, 0, 0⟩, eventMask := 0, faultEvent := 0, faultCode := 0,
    cntFailed := 0, cntRefusals := 0, cntPlug := 0, cntJournal := 0 }
  s.recorderLost

/-- ECC_ERROR: a single-bit error is corrected and counted; a double-bit one resets the island (see islandReset). -/
def State.eccCorrected (s : State) : State := if s.mssUp then s.modMss fun m => { m with cntEcc := satInc 255 m.cntEcc } else s

end Sys2Proof.Machine
end

