-- ==== Sys2Proof/Machine/Start.lean ====
section
/-! DEFINITION. Starts and resets (file 16), the configuration handover (R24), and the islands' clocks (R36 to R41). -/

namespace Sys2Proof.Machine

/-! ### Common time (R37, R38, R41) -/

def State.islandOf (k : Fin 17) : Fin 34 := if h : k.val < 16 then ⟨k.val, by omega⟩ else 33

/-- The process image region an island writes. -/
def clockRegion (k : Fin 17) : RegionId := if h : k.val < 16 then .slice ⟨k.val, h⟩ else .mss

/-- The handshake channel between the Hawser island and an island that keeps time is not marked stalled at either end (R36). -/
def State.timeChannel (k : Fin 17) (s : State) : Bool :=
  let far : Fin 35 := ⟨(State.islandOf k).val, by omega⟩
  !s.channelStands .hawser far && !s.channelStands (if h : k.val < 16 then .slice ⟨k.val, h⟩ else .mss) 32

/-- TIME_TRANSFER: stamps in 1/65536 ns. The adjustment is added to the rate held, as R275 adds its own (log entry 103). -/
def State.timeTransfer (k : Fin 17) (t1 t2 t3 t4 : Int) (s : State) : State :=
  if !s.hawserUp || !s.islands[(State.islandOf k).val].running || !s.timeChannel k then s
  else
    let off : Rat := ((t2 - t1) - (t4 - t3) : Int) / 2
    let s := s.modClock k fun (c : Clock) =>
      let c := { c with missed := 0, transferred := true, holdover := false }
      if 1000 * 65536 < off ∨ off < -(1000 * 65536) then { c with pendingStep := some (reportR (-off)), stepReady := false }
      else { c with counter := c.counter.slew s.now (clampInt (-rateLimit) rateLimit (c.counter.rate + reportR (-off / 65536 / (s.tcyc : Rat) * 1000000000))) }
    s.modRegion (clockRegion k) fun r => { r with holdover := false }

/-- After a step, the multiple nearest to the new reading is the sync point that has just been taken (R38, R40). -/
def State.anchor (k : Fin 17) (s : State) : State :=
  let m := s.ownMultiple k s.now
  let s := s.modClock k fun (c : Clock) => { c with lastMultiple := c.lastMultiple.map fun _ => m }
  if h : k.val < 16 then s.modSlice ⟨k.val, h⟩ fun sl => { sl with evalAt := sl.evalAt.map fun _ => m } else s

/-- CLOCK_STEP_APPLY; island 17 is the Hawser island. A step takes effect in the tick that follows a sync point of its island: 2.5 ns, or 5 ns in the MSS island (R33, R38). -/
def State.clockStep (k : Fin 18) (s : State) : State :=
  if h : k.val < 17 then
    let c : Clock := s.clocks[k.val]
    match c.pendingStep with
    | some d =>
      if c.stepReady && decide (s.now ≤ max s.lastSync c.syncAt + (if k.val < 16 then 3 else 5)) then
        (s.modClock ⟨k.val, h⟩ fun (c : Clock) => { c with counter := c.counter.step d, pendingStep := none, stepReady := false }) |>.anchor ⟨k.val, h⟩
      else s
    | none => s
  else s.applyHwsStep

/-- HOLDOVER_ENTRY: after 4 consecutive cycles without a transfer. -/
def State.holdoverEntry (k : Fin 17) (s : State) : State :=
  if s.islands[(State.islandOf k).val].running && decide (4 ≤ s.clocks[k].missed) then
    (s.modClock k fun (c : Clock) => { c with holdover := true }).modRegion (clockRegion k) fun r => { r with holdover := true }
  else s

/-- An island's own sync point (R40): counted as a cycle without a transfer if none came, and a step that waits is due in the next tick. -/
def Clock.atSync (m : Int) (c : Clock) : Clock :=
  { c with missed := if c.transferred then 0 else c.missed + 1, transferred := false, syncAt := c.counter.reaches m, lastMultiple := some m, stepReady := c.pendingStep.isSome }

/-- The sync points of every island that keeps time, each from its own counter (R40); a step that waits is due in the next tick. -/
def State.markSync (due : Vector (List Int) 17) (s : State) : State :=
  { s with
    lastSync := s.now
    hws := { s.hws with stepReady := s.hws.pendingStep.isSome }
    node := if s.hawserUp then { s.node with syncTime := s.common, syncHeld := s.hws.holdover } else s.node
    clocks := Vector.ofFn fun k : Fin 17 => if s.islands[(State.islandOf k).val].running then due[k].foldl (fun c m => c.atSync m) s.clocks[k] else s.clocks[k] }

/-- HANDSHAKE_CHANNEL_STALLED (R36): the waiter marks its channel stalled and raises its event; nothing where it stands itself, or is the other end, or where that is a power island, which has no channel. -/
def State.channelStalled (w : Waiter) (k : Fin 35) (s : State) : State :=
  if decide ((waiterIsland w).val = k.val) || decide (16 ≤ k.val ∧ k.val < 32) || !s.islands[waiterIsland w].running then s
  else
    let s := if s.channelStands w k then s else { s with stalled := s.stalled ++ [⟨w, k⟩] }
    match w with
    | .slice i => s.modSlice i fun sl => sl.switchEvent (s.env i) 10 10 0
    | .hawser => s.hwsEvent 12 0 0 0
    | .splice => s.splEvent 7 0 0 0
    | .logline => s.logEvent 7 0 0
    | .mss => s.mssEvent 0 5 0

/-! ### Islands (R506, R513 to R515) -/

def State.hasIsland (k : Fin 34) (s : State) : Bool := !s.small || !(decide (8 ≤ k.val ∧ k.val < 16) || decide (24 ≤ k.val ∧ k.val < 32))

/-- An island runs again: the channels that end at it are used again (log entry 142), and its first sync point is the next that its time counter, which has run on, takes (log entry 143). -/
def State.release (k : Fin 34) (s : State) : State :=
  if s.hasIsland k then
    let s := { s with clocks := s.clocks.mapIdx fun j (c : Clock) => if j < 16 ∧ j = k.val ∨ j = 16 ∧ k.val = 33 then { c with lastMultiple := none } else c }
    let s := s.modIsland k fun (x : Island) => { x with running := true, downAt := none }
    { s with stalled := s.stalled.filter fun (c : Handshake) => decide (c.island.val ≠ k.val) && decide (waiterIsland c.waiter ≠ k) }
  else s

/-- The engine side of a slice after its reset (R514): registers at their reset values; what the power island holds, the region, the door-cycle count, reopen_count, teach results and envelopes stay (R223, R224, R515). -/
def Slice.engineLost (sl : Slice) : Slice :=
  let sl := sl.islandHolds
  let sl := forAxes (fun a sl => (sl.modM a fun _ => Motion.reset).modD a fun d =>
    { Drive.reset with mode := sl.sw.tether.axes[a].mode, isolators := d.isolators, readback := d.readback, freedAt := d.freedAt, current := d.current, teach := d.teach, teachValid := d.teachValid,
                       rUseA := d.rUseA, rUseB := d.rUseB, env := d.env, frozenCmd := d.frozenCmd }) sl
  let sl := forChannels (fun k sl => sl.modCh k fun c => { c with decided := false, commanded := false, cntTrips := 0, cntLatch := 0, cntLimit := 0, cntDiag := 0 }) sl
  { sl with
    portal := { Portal.reset with doorCycles := sl.held.doorCycles, reopenCount := sl.held.reopenCount, contacts := sl.portal.contacts, contactVolts := sl.portal.contactVolts }
    inp := Inputs.reset
    sw := { sl.sw with
      faultCode := 0, faultChannel := 0, eventMask := 0, command := 0, commandChannel := 0
      tether := { sl.sw.tether with resumed := false, testRunning := false, testPassed := false, alive := 0, seqToEngine := 0, missing := 0, strobe := false, steps := [], sentAlive := 0, toEngine := TetherIn.reset,
                                    posSet := Vector.replicate 3 none,
                                    cntErrors := 0, cntTimeouts := 0, cntRefused := 0 } }
    can := CanBus.reset
    axisMask := 0
    driveMask := 0
    estAt := 0
    cycleT := 0
    evalAt := none
    heldNext := none
    heldSent := false
    teach := none
    waitsResume := true }

/-- What the region holds of the sequencer at the last completed sync point (R224): its state's counts, limits and fault; timers are not among them. -/
def Portal.fromHeld (h q : Portal) : Portal :=
  { q with reopenCount := h.reopenCount, doorCycles := h.doorCycles, crew := h.crew, restricted := h.restricted, sources := h.sources, prevS1 := h.prevS1, openStops := h.openStops,
           reopenTarget := h.reopenTarget, reopenShort := h.reopenShort, cause11 := h.cause11, faultCause := h.faultCause,
           stateAtFault := h.stateAtFault, emergFreed := h.emergFreed, lockDecided := h.lockDecided, acc := h.acc }

/-- The sequencer of a restarted engine (R224): from the region in the module that drives; a standby stands as the region shows it until the twin mirror tells more (R77). -/
def Slice.resumeHeld (e : Env) (sl : Slice) : Slice :=
  let sl := sl.modPortal sl.held.fromHeld
  if e.active then sl.resumeFrom e sl.held.st
  else sl.modPortal fun q => { q with st := sl.held.st, phase := sl.held.phase, tState := e.cyc }

/-- ENGINE_RESUME (R223, R224): the engine reads back the power island and repeats what it finds; when that has reset too, nothing is read back, the outputs start from its hardware defaults and a portal with an enabled axis homes. -/
def State.engineResume (i : Fin 16) (s : State) : State :=
  if !(s.configured && s.engineUp i && s.slices[i].waitsResume) then s
  else
    s.modSlice i fun sl =>
      let e := s.env i
      let t := sl.sw.tether
      let sl := { sl with waitsResume := false }
      let sl := sl.canHandover e
      let sl := if e.gate then (sl.canEnableGain e).setExcitation e true else sl.refreshHeld e
      if t.storedValid then
        let sl := (sl.tetherResume e sl.heldHomed).modTether fun t => { t with resumed := true }
        sl.hearPower.resumeHeld e
      else if e.active && (List.finRange 3).any fun a => e.enabledAxis a then (sl.modPortal sl.held.fromHeld).enterHoming e true
      else sl.resumeHeld e

/-- The Hawser island stops (R28, R514): its time counter runs on at its own pace (log entry 143), its blocks take their reset values; the AUTH logic, the relays' contacts and what the slices know of the orientation stay, and AUTH commands lapse after their time (R409). -/
def State.hawserLost (s : State) : State :=
  let relays := s.hws.relays.map fun (r : Relay) => if r.drive then r.stopDrive s.now else r
  let t := s.twn
  { s with
    hws := { Hawser.reset with relays := relays, clock := s.hws.clock.slew s.now 0 }
    ina := { Inaug.reset with orientation := s.ina.orientation }
    spl := Splice.reset
    twn := { Twin.reset with auth := t.auth, gate := t.gate, gateAt := t.gateAt, hitch := t.hitch, layer := t.layer, holder := if t.hitch then 1 else 0 }
    node := NodeEvents.reset }

/-- The Hawser engine with its parameters, before admission (R292). -/
def State.hawserStart (s : State) : State :=
  ((s.modIna fun x => { x with handoverAt := some s.now }).modSpl fun x => { x with passDone := true }).modTwn fun t => { t with completedAt := Vector.replicate 16 s.common }

/-- E248's code for a cause of NODE_RESET_DATA (R451, R475). -/
def mssResetCode (cause : Nat) : Option Nat := if cause = 2 then some 1 else if cause = 3 then some 2 else if cause = 4 then some 3 else none

/-- One island is reset with a cause of NODE_RESET_DATA; before the handover the whole start repeats from the boot ROM (R516), and an MSS so reset has its E248 at once (R451). -/
def State.islandReset (k : Fin 34) (cause : Nat) (s : State) : State :=
  if !s.islands[k.val].running then s
  else
    let code := s.tcycCode
    let early := decide (s.start.stage = .booted) || decide (s.start.stage = .loading)
    let s := s.modIsland k fun (x : Island) => { x with running := false, cause := cause, resets := satInc 255 x.resets, downAt := some s.now }
    let s := if h : k.val < 16 then s.modSlice ⟨k.val, h⟩ (·.engineLost)
      else if h : k.val < 32 then s.modSlice ⟨k.val - 16, by omega⟩ fun sl => sl.powerReset (s.env ⟨k.val - 16, by omega⟩)
      else if k.val = 32 then { s.hawserLost with heldTcyc := code }
      else match mssResetCode cause with
        | some c => if early then s.mssLost.mssEvent 0 c 0 else s.mssLost
        | none => s.mssLost
    if early then
      let s := s.modStart fun x => { x with stage := .qualified }
      let s := s.modCfg fun c => { c with state := 0, outcome := 0, loadEvents := [] }
      { s with islands := s.islands.mapIdx fun j (x : Island) => if j < 16 ∨ j = 32 then { x with running := false } else if j = 33 then { x with running := true } else x }
    else s

/-- ISLAND_RESTART (R451, R452, R515): the island holds its parameters again, or stays stopped when its retained area fails its CRC; the MSS then runs under the fallback policy. -/
def State.islandRestart (k : Fin 34) (crcOk : Bool) (s : State) : State :=
  let x : Island := s.islands[k.val]
  if x.running || x.downAt.isNone || decide (s.start.stage = .off) then s
  else if k.val = 33 then
    let s := (s.release k).modMss fun m => { m with paramFallback := m.paramFallback || !crcOk }
    let s := match mssResetCode x.cause with | some c => s.mssEvent 0 c 0 | none => s
    if crcOk then s else s.mssEvent 0 4 0
  else if 16 ≤ k.val ∧ k.val < 32 then s.release k
  else if crcOk then
    let s := s.release k
    if k.val = 32 then s.hawserStart else s
  else s.modIsland k fun (x : Island) => { x with cause := 5, downAt := none }

/-! ### The start (R507, R508) -/

/-- The islands that start with the firmware: slice engines and Hawser. -/
def State.releaseFirmware (s : State) : State :=
  (List.finRange 34).foldl (fun s k => if k.val < 16 ∨ k.val = 32 then s.release k else s) s

/-- BOOT_BANK_SELECT with what follows it (R507): the islands run, and the MSS firmware tells what the calendar has lost. -/
def State.boot (s : State) : State :=
  let t := s.bootBankSelect
  if s.start.stage = .qualified ∧ t.start.stage = .booted then t.releaseFirmware.tellTimeLost else t

/-- The islands that run from X1 qualified on: power islands and MSS. -/
def State.releaseFirst (s : State) : State :=
  let s := (List.finRange 34).foldl (fun s k => if 16 ≤ k.val ∧ k.val ≠ 32 then s.release k else s) s
  ((s.modStart fun x => { x with stage := .qualified, starts := x.starts + 1 }).modMss fun m => { m with onFrom := some s.now }).modLoop fun l => { l with startAt := s.now }

/-- X1_QUALIFIED: 10 ms at 16.8 V or more; from a module in reset it is a start, and clears a loop cell latch (R503, R507, R514). -/
def State.x1Qualified (dv : Nat) (s : State) : State :=
  if dv < 168 ∨ s.start.stage ≠ .off then s
  else
    ((s.modStart fun x => { x with x1 := dv, qualified := true }).modLoop fun l => { l with latched := false, latchCause := 0 }).releaseFirst

/-- The slices' part of the handover: parameters to the power island, teach results and envelopes from the recorder's store (R154), door cycles from the control area, the state of the portal (R511), the car bus. -/
def State.sliceHandover (i : Fin 16) (s : State) : State :=
  if !s.engineUp i then s
  else
    let l := s.log
    s.modSlice i fun sl =>
      let e := s.env i
      let sl := forAxes (fun a sl =>
        match (if l.journalFailed then none else l.teachCopy ⟨3 * i.val + a.val, by omega⟩) with
        | some (_, r) => sl.modD a fun d => { d with teach := r.teach, teachValid := r.teachValid, teachResult := r.result, env := r.env, rUseA := r.teach.rA, rUseB := r.teach.rB }
        | none => sl) sl
      let sl := sl.modPortal fun q => { q with doorCycles := if l.journalFailed || !l.control.valid then 0 else l.control.doorCycles[i] }
      let sl := sl.establish e
      let sl := if s.powerUp i then sl.tetherHandover e else sl
      ((sl.refreshHeld e).canHandover e).keepHeld

/-- CONFIGURATION_HANDOVER (R24, R447): with a bundle that passed, every block gets its parameters; without one the node stays unconfigured (R443). -/
def State.handover (s : State) : State :=
  if s.start.stage ≠ .loading then s
  else
    let s := s.cfgHandover
    if s.cfg.state = 4 then s.modStart fun x => { x with stage := .unconfigured }
    else
      let s := s.modStart fun x => { x with stage := .running }
      let s := s.belayHandover.hawserStart
      let s := s.modTwn fun t => { t with handoverAt := some s.now, firstHold := true }
      let s := s.eachSlice fun i s => s.sliceHandover i
      (s.modCfg fun c => { c with cyclesSeen := s.doorCycles }).settleLoop (decide (Config.freeNat 63 s.freeCount % 2 = 1)) 0

/-! ### Loss of the control supply (R504, R505) -/

/-- POWER_FAIL_WARNING. -/
def State.powerFailWarning (dv : Nat) (s : State) : State :=
  if !s.start.qualified || s.start.warning || decide (168 ≤ dv) then s
  else
    let s := s.modStart fun x => { x with x1 := dv, warning := true, warningAt := s.now }
    if s.mssUp && s.log.recording then s.recorderWarning else s

/-- POWER_FAIL_WARNING_WITHDRAWN. -/
def State.warningWithdrawn (dv : Nat) (s : State) : State :=
  if !s.start.warning || s.start.lost || decide (dv < 168) then s
  else
    let s := s.modStart fun x => { x with x1 := dv, warning := false }
    if s.mssUp && s.log.recording then s.recorderResume else s

/-- What a power-on, power-fail or commanded reset leaves (R513, R514): the plug, OTP, banks, MRAM, Ledger, calendar and last-word store; and, through a commanded restart, the loop cell latch. The time counters start again. -/
def State.moduleReset (s : State) : State :=
  let commanded := s.start.commanded
  let m := s.mss
  let l := s.log
  { State.reset with
    now := s.now
    lastSync := s.now
    hws := { Hawser.reset with clock := ⟨0, s.now, 0⟩ }
    clocks := Vector.replicate 17 { Clock.reset with counter := ⟨0, s.now, 0⟩, syncAt := s.now }
    small := s.small
    loop := { LoopCell.reset with latched := commanded && s.loop.latched, latchCause := if commanded then s.loop.latchCause else 0, startAt := s.now }
    plug := s.plug
    cfg := { Cfg.reset with told := s.cfg.told }
    mss := { Mss.reset with
      boot := m.boot, bankA := { m.bankA with checked := false, version := 0 }, bankB := { m.bankB with checked := false, version := 0 }, vendor := m.vendor, retired0 := m.retired0,
      owners := m.owners, minEpoch := m.minEpoch, attest := m.attest, certificate := m.certificate, operated := s.operatedNs, relayA := m.relayA,
      relayB := m.relayB, cal := { m.cal with supercap := 0 } }
    log := { Logline.reset with
      ledger := l.ledger, journal := l.journal, badBlocks := l.badBlocks, controls := l.controls, tail := l.tail, teach := l.teach,
      s := l.s, next := max 1 (max l.s l.written + 1), ledgerFull := l.ledgerFull, ledger90 := l.ledger90, journalFull := l.journalFull, lastWord := l.lastWord }
    start := { Start.reset with x1 := s.start.x1, starts := s.start.starts, kind := if commanded then 3 else 2, qualified := commanded && s.start.qualified }
    access := s.access
    freeCount := s.freeCount
    pending := s.pending }

/-- SUPPLY_LOST: 11 ms after the warning (R505); before the handover the module resets at once (R516). -/
def State.supplyLost (s : State) : State :=
  if !s.start.warning || s.start.lost then s
  else
    let s := s.advance (s.start.warningAt + ms 11)
    let s := s.modStart fun x => { x with lost := true, qualified := false }
    if s.start.stage = .running ∨ s.start.stage = .unconfigured then
      let s := s.settleLoop (decide (Config.freeNat 63 s.freeCount % 2 = 1)) 0
      if s.hawserRuns then s.modTwn fun t => { t with resign := true } else s
    else s.moduleReset

/-- A restart waits for its flush (R479). -/
def State.flushed (s : State) : Bool := !s.log.recording || (s.log.flush.isNone && s.log.flushNext.isNone)

/-- SHUTDOWN_RELEASE: 52 ms after the warning, or in a commanded restart once its flush is complete. -/
def State.shutdownRelease (s : State) : State :=
  if s.start.released || !(s.start.lost || (s.start.commanded && s.flushed)) then s
  else
    let s := if s.start.lost then s.advance (s.start.warningAt + ms 52) else s
    let s := s.stopRelays.authCommand false
    let s := s.modTwn fun t => { t with hitch := false, layer := 0 }
    s.modStart fun x => { x with released := true, releasedAt := s.now }

/-- POWER_FAIL_RESET: 3 ms later every island but the calendar domain is reset; a commanded restart goes on from 10 ms of R507. -/
def State.powerFailReset (s : State) : State :=
  if !s.start.released then s
  else
    let s := s.advance (s.start.releasedAt + ms 3)
    let commanded := s.start.commanded && !s.start.lost
    let t := (s.modStart fun x => { x with commanded := commanded }).moduleReset
    if commanded then t.releaseFirst else t

end Sys2Proof.Machine
end

