-- ==== Sys2Proof/Machine/RegSlice.lean ====
section
/-! DEFINITION. What the registers of a slice window read (R518 and the register tables of files 02 to 06 and 10), and its action page. -/

namespace Sys2Proof.Machine

/-- A field of `w` bits at bit `lo` of a register (R6). -/
def bits (lo w v : Nat) : Nat := v % 2 ^ w * 2 ^ lo

/-- One bit of a register. -/
def bit1 (lo : Nat) (b : Bool) : Nat := if b then 2 ^ lo else 0

/-- Bits of a vector, bit i for element i. -/
def maskOf (n : Nat) (f : Nat → Bool) : Nat := (List.range n).foldl (fun x i => x + bit1 i (f i)) 0

/-! ### PRT -/

/-- The running timer of a portal: its number and the cycle time at which it expires (PRT_TIMER, R52, R65). -/
def Slice.timer (e : Env) (sl : Slice) : Nat × Int :=
  let q := sl.portal
  let t (id len : Nat) : Nat × Int := (id, q.tState + ms len)
  match q.st, q.phase with
  | .homing, .warn => t 1 (cfgPrtWarnTime e.p e.i)
  | .closing, .warn => t 1 (cfgPrtWarnTime e.p e.i)
  | .locking, _ => t 2 (cfgPrtLockConfirmMs e.p e.i)
  | .unlocking, _ => t 3 (cfgPrtUnlockConfirmMs e.p e.i)
  | .opening, _ => match q.stopPause with
    | some p => (7, p + ms (cfgPrtReclosePauseMs e.p e.i))
    | none => t 4 (cfgPrtOpenTimeout e.p e.i)
  | .closing, _ => t 5 (cfgPrtCloseTimeout e.p e.i)
  | .closedUnlocked, _ => t 6 (cfgPrtStepStowTimeout e.p e.i)
  | .reopening, .pause => t 7 (cfgPrtReclosePauseMs e.p e.i)
  | .open_, _ => if cfgPrtAutoClose e.p e.i = 0 then (0, 0) else t 8 (cfgPrtAutoClose e.p e.i * 100)
  | .emergency, _ => if q.emergFreed || sl.zeroSpeed then (0, 0) else t 9 (cfgPrtEgressHoldMs e.p e.i)
  | _, _ => (0, 0)

/-- PRT registers. -/
def Slice.readPrt (e : Env) (p1 p2 : Bool) (off : Nat) (sl : Slice) : Nat :=
  let q := sl.portal
  if off = 0x000 then
    bits 0 4 q.st.code + bits 4 2 (if q.st = .closing ∨ q.st = .reopening then q.phase.code else 0) + bits 8 8 q.reopenCount + bits 16 7 (q.status % 128) + bit1 23 p1 + bit1 24 p2 + bit1 25 (q.status.testBit 9) +
      bit1 26 e.holdover + bit1 27 e.tracks
  else if off = 0x004 then bits 0 8 q.faultCause + bits 8 4 q.stateAtFault
  else if off = 0x008 then
    let (id, at_) := sl.timer e
    if id = 0 then 0 else min 65535 (reportR (((at_ - e.cyc).toNat : Rat) / 1000000)).toNat + bits 16 4 id
  else if off = 0x00C then q.doorCycles % 2 ^ 32
  else if off = 0x010 then bits 0 4 q.command
  else if off = 0x014 then bits 0 3 q.eventMask
  else 0

/-! ### AX -/

/-- AX_STATUS.state. A fault hold goes before homing, that before stopping, gearing and moving. -/
def Slice.axisState (e : Env) (a : Fin 3) (sl : Slice) : Nat :=
  let m := sl.axes[a].m
  if sl.faulted a || m.gearHold then 5
  else if m.home.isSome then 3
  else if m.stopping then 4
  else if e.geared a && e.enabledAxis a && m.homed then 2
  else if m.running || decide (m.v ≠ 0) || m.rev.isSome then 1
  else 0

/-- Force as AX_FORCE shows it, 0.1 N: force_f, or the most the clamped field can give (R150). -/
def Slice.shownForce (e : Env) (a : Fin 3) (sl : Slice) : Int :=
  let s := sl.axes[a].d.est
  if s.clamp then reportR ((cfgDrvFPerA e.p e.i a : Rat) / 65536 * (s.amp / 1000) * Config.sinMicro (4 * (cfgDrvClampAngle e.p e.i a : Rat)) * 10)
  else reportR (s.forceF * 10)

/-- AX motion and drive registers of axis `a`; the two event masks stand in AX0 only. -/
def Slice.readAx (e : Env) (a : Fin 3) (off : Nat) (sl : Slice) : Nat :=
  let m := sl.axes[a].m
  let d := sl.axes[a].d
  let x := sl.gearMaster e a
  let gear := e.geared a && e.enabledAxis a
  let env := sl.envNow e a
  if off = 0x000 then
    bits 0 3 (sl.axisState e a) + bit1 3 m.dirPos + bits 4 4 m.queue.length + bits 8 2 m.profile + bits 10 2 m.stage + bit1 12 m.homed + bit1 13 m.atSoftLimit +
      bit1 14 m.rev.isSome + (if gear then bits 15 3 (e.gearSegment a x) else 0)
  else if off = 0x004 then ofInt32 m.pos
  else if off = 0x008 then ofInt32 (reportR (((if m.dirPos then (sl.speedOf e a : Int) else -(sl.speedOf e a : Int)) : Rat) / 65536))
  else if off = 0x00C then ofInt32 (if gear then e.gearDemand a x else m.target)
  else if off = 0x010 then bits 0 24 m.interval + bits 24 2 m.stage
  else if off = 0x014 then ofInt32 m.homeLatch
  else if off = 0x018 then ofInt32 m.homeStall
  else if off = 0x01C then bits 0 3 m.homeCode + bits 3 3 m.relatches
  else if off = 0x020 then (if gear then ofInt32 (e.gearDemand a x - m.pos) else 0)
  else if off = 0x024 then bits 0 4 m.faultCause
  else if off = 0x028 then bits 0 2 m.command
  else if off = 0x02C then ofInt32 m.testTarget
  else if off = 0x030 then (if a = 0 then bits 0 1 sl.axisMask else 0)
  else if off = 0x040 then
    bits 0 3 d.mode.code + bit1 3 d.readback + bit1 4 d.est.valid + bit1 5 d.est.clamp + bit1 6 d.teachValid + bit1 7 (sl.frozen e a) + bit1 8 d.boostActive +
      bit1 9 d.changeDeferred + bits 10 6 (e.bin a m.pos) + bit1 16 env.isSome
  else if off = 0x044 then ((reportR d.est.lambda) % 256).toNat + bits 16 16 (reportR (d.est.mag * 100)).toNat
  else if off = 0x048 then ofInt16 (sl.shownForce e a) + bits 16 15 (env.getD 0) + bit1 31 d.est.clamp
  else if off = 0x04C then bits 0 16 (reportR d.est.amp).toNat + ofInt16 (reportR d.est.iq) * 65536
  else if off = 0x050 then ofInt32 d.est.slip
  else if off = 0x054 then bits 0 16 d.rUseA + bits 16 16 d.rUseB
  else if off = 0x058 then bits 0 16 d.teach.lA + bits 16 16 d.teach.lB
  else if off = 0x05C then bits 0 16 d.teach.c + bits 16 4 d.teachResult + bits 20 5 d.teachDone + bit1 25 d.teachRunning
  else if off = 0x060 then bits 0 16 d.teach.ke + bits 16 16 d.teach.noise
  else if off = 0x064 then bits 0 3 d.obsSource + bits 3 6 d.obsBin + bit1 9 d.obsOpening + bit1 10 d.obsRecorded + ofInt16 d.obsForce * 65536
  else if off = 0x068 then bits 0 4 d.fault
  else if off = 0x06C then bits 0 3 d.command
  else if off = 0x070 then bits 0 7 d.envSelect
  else if off = 0x074 then
    let b := d.env[envIndex (d.envSelect.testBit 6) (d.envSelect % 64)]
    bits 0 15 (b.value.getD 0) + bit1 15 b.atCeiling + bits 16 6 b.hist.length
  else if off = 0x078 then (if a = 0 then bits 0 3 sl.driveMask else 0)
  else 0

/-! ### INP -/

def Inputs.dig? (x : Inputs) (f : Dig → Bool) (i : Nat) : Bool := if h : i < 16 then f x.dig[i] else false

/-- INP registers. -/
def Inputs.read (off : Nat) (x : Inputs) : Nat :=
  if off = 0x000 then maskOf 16 (x.dig? (·.raw))
  else if off = 0x004 then maskOf 16 (x.dig? (·.delivered)) + maskOf 5 (fun l => if h : l < 5 then x.lines[l].deb else false) * 65536
  else if off = 0x008 then maskOf 16 (x.dig? (·.stuck)) + maskOf 16 (x.dig? (·.chatter)) * 65536
  else if off = 0x00C then maskOf 16 (x.dig? (·.diff))
  else if h : off % 4 = 0 ∧ 0x010 ≤ off ∧ off < 0x020 then
    let k := x.an[(off - 0x010) / 4]
    bits 0 16 k.value + bits 16 3 k.cls + bit1 19 k.held + bit1 20 k.exciting
  else if h : off % 4 = 0 ∧ 0x020 ≤ off ∧ off < 0x02C then ofInt32 x.enc[(off - 0x020) / 4].count
  else if h : off % 4 = 0 ∧ 0x02C ≤ off ∧ off < 0x038 then ofInt32 x.enc[(off - 0x02C) / 4].index
  else if off = 0x038 then
    bits 0 4 x.enc[0].fault + bits 4 4 x.enc[1].fault + bits 8 4 x.enc[2].fault + bit1 12 x.enc[0].seen + bit1 13 x.enc[1].seen + bit1 14 x.enc[2].seen + bit1 15 x.supplyLimit
  else if off = 0x03C then bits 0 3 x.faultCode + bits 8 4 x.faultSource
  else if off = 0x040 then bits 0 1 x.eventMask
  else 0

/-! ### LSW -/

def ChState.code : ChState → Nat
  | .off => 0 | .on => 1 | .waiting => 2 | .thermalOff => 3 | .latchedOff => 4 | .noSupply => 5 | .disabled => 6

def TetherState.code : TetherState → Nat
  | .refreshed => 0 | .holding => 1 | .failsafe => 2 | .lost => 3

/-- LSW registers. What the power island knows shows as its last valid frame said (R214). -/
def Switches.read (off : Nat) (x : Switches) : Nat :=
  if h : off % 4 = 0 ∧ off < 0x018 then
    let c := x.tether.toEngine.ch[off / 4]
    bits 0 3 c.st.code + bit1 3 c.failsafe + bit1 4 x.ch[off / 4].commanded + bit1 5 c.outputHigh + bit1 6 c.limiting + bit1 7 c.openLoad + bit1 8 c.short + bit1 9 c.under +
      bits 10 5 c.trips + bits 16 16 c.current
  else if h : off % 4 = 0 ∧ 0x018 ≤ off ∧ off < 0x030 then min 255 x.tether.toEngine.ch[(off - 0x018) / 4].deltaT + (x.caseT % 256).toNat * 256
  else if h : off % 4 = 0 ∧ 0x030 ≤ off ∧ off < 0x048 then
    let c := x.tether.toEngine.ch[(off - 0x030) / 4]
    bits 0 16 c.clampEnergy + bits 16 16 c.overLimit
  else if off = 0x048 then
    let t := x.tether
    bits 0 2 (if t.st = .lost then t.st else t.toEngine.st).code + bit1 2 t.resumed + bit1 3 t.toEngine.storedValid + bit1 4 t.testRunning + bit1 5 t.testPassed + bits 8 8 t.lastAlive + bits 16 16 t.stored.timeoutMs
  else if off = 0x04C then bits 0 4 x.command + bits 4 3 x.commandChannel
  else if off = 0x050 then bits 0 3 x.eventMask
  else if off = 0x054 then bits 0 4 x.faultCode + bits 4 3 x.faultChannel
  else 0

/-! ### CBS -/

/-- CBS registers. CBS_MATRIX_DATA reads the cell or column start of the selection. -/
def CanBus.read (e : Env) (off : Nat) (c : CanBus) : Nat :=
  let pending := maskOf 16 fun t => if h : t < 16 then c.tx[t].pending.isSome else false
  if off = 0x000 then
    bits 0 3 c.mode.code + bits 3 2 c.errState + bit1 5 (c.ttRunning && !c.ttHeld) + bits 6 6 c.basicCycle + bit1 12 c.activeBank + bit1 13 c.switchAt.isSome + bit1 14 c.transceiverFault + bit1 15 c.refLate
  else if off = 0x004 then bits 0 9 c.tec + bits 16 8 (min 255 c.rec_) + bits 24 3 c.lastError + bit1 27 c.dataPhase
  else if off = 0x008 then bits 0 8 c.remaining + bits 8 8 (min 255 (c.busOffAt.filter fun t => decide (e.now < t + ms 60000)).length) + bits 16 16 c.busOffTotal
  else if off = 0x00C then pending
  else if h : off % 4 = 0 ∧ 0x010 ≤ off ∧ off < 0x050 then
    let t := c.tx[(off - 0x010) / 4]
    bits 0 3 t.result + bit1 3 t.aged + bits 16 16 t.ageMs
  else if off = 0x050 then pending
  else if off = 0x058 then bits 0 6 c.selectColumn + bits 6 6 c.selectCycle + bit1 12 c.selectBank
  else if off = 0x05C then
    let k := c.bank c.selectBank
    if c.selectColumn < 32 then bits 0 16 (k.cell c.selectCycle c.selectColumn) else bits 0 16 (k.col (c.selectColumn - 32))
  else if off = 0x064 then bits 0 3 c.bankResult + bits 8 6 c.failCycle + bits 14 6 c.failColumn + bits 20 12 c.refusedWrites
  else if off = 0x06C then bits 0 1 c.eventMask
  else if off = 0x070 then bits 0 4 c.faultCode + bits 4 4 c.faultObject
  else if off = 0x074 then c.refSof % 2 ^ 32
  else 0

/-! ### The slice window (R518) -/

/-- A register of the slice window outside its action page. -/
def State.readSlice (i : Fin 16) (off : Nat) (s : State) : Nat :=
  let sl : Slice := s.slices[i]
  let e := s.env i
  let o := off % 0x1000
  match off / 0x1000 with
  | 0 => sl.readPrt e (s.provenIn 0 i && s.portalOn i) (s.provenIn 1 i && s.portalOn i) o
  | 1 => sl.readAx e 0 o
  | 2 => sl.readAx e 1 o
  | 3 => sl.readAx e 2 o
  | 4 => sl.inp.read o
  | 5 => sl.sw.read o
  | 6 => sl.can.read e o
  | _ => 0

/-- An RC register of the slice's action page: its value, and the slice once it has been read (R12, R15). -/
def Slice.readCounts (off : Nat) (sl : Slice) : Nat × Slice :=
  let q := sl.portal
  if off = 0xF000 then
    (bits 0 8 q.cntReopens + bits 8 8 q.cntOpenStops + bits 16 8 q.cntDiscrep + bits 24 8 q.cntEmergency,
      sl.modPortal fun q => { q with cntReopens := 0, cntOpenStops := 0, cntDiscrep := 0, cntEmergency := 0 })
  else if h : off % 4 = 0 ∧ 0xF010 ≤ off ∧ off < 0xF01C then
    let a : Fin 3 := ⟨(off - 0xF010) / 4, by omega⟩
    let m := sl.axes[a].m
    (bits 0 8 m.cntReversals + bits 8 8 m.cntRefusals + bits 16 8 m.cntRateCaps + bits 24 8 m.cntLagFaults,
      sl.modM a fun m => { m with cntReversals := 0, cntRefusals := 0, cntRateCaps := 0, cntLagFaults := 0 })
  else if h : off % 4 = 0 ∧ 0xF020 ≤ off ∧ off < 0xF02C then
    let a : Fin 3 := ⟨(off - 0xF020) / 4, by omega⟩
    let d := sl.axes[a].d
    (bits 0 8 d.cntObstacles + bits 8 8 d.cntClamps + bits 16 8 d.cntBoost + bits 24 8 d.cntRefusals,
      sl.modD a fun d => { d with cntObstacles := 0, cntClamps := 0, cntBoost := 0, cntRefusals := 0 })
  else if off = 0xF030 then
    (bits 0 8 sl.inp.cntStuck + bits 8 8 sl.inp.cntChatter + bits 16 8 sl.inp.cntAnalogue + bits 24 8 sl.inp.cntEncoder,
      sl.modInp fun x => { x with cntStuck := 0, cntChatter := 0, cntAnalogue := 0, cntEncoder := 0 })
  else if h : off % 4 = 0 ∧ 0xF040 ≤ off ∧ off < 0xF058 then
    let k : Fin 6 := ⟨(off - 0xF040) / 4, by omega⟩
    let c := sl.sw.ch[k]
    (bits 0 8 c.cntTrips + bits 8 8 c.cntLatch + bits 16 8 c.cntLimit + bits 24 8 c.cntDiag,
      sl.modCh k fun c => { c with cntTrips := 0, cntLatch := 0, cntLimit := 0, cntDiag := 0 })
  else if off = 0xF058 then
    let t := sl.sw.tether
    (bits 0 16 t.cntErrors + bits 16 8 t.cntTimeouts + bits 24 8 t.cntRefused,
      sl.modTether fun t => { t with cntErrors := 0, cntTimeouts := 0, cntRefused := 0 })
  else if off = 0xF060 then
    let c := sl.can
    (bits 0 8 c.cntOverwrites + bits 8 8 c.cntMisses + bits 16 8 c.cntUnmatched + bits 24 8 c.cntConflicts,
      sl.modCan fun c => { c with cntOverwrites := 0, cntMisses := 0, cntUnmatched := 0, cntConflicts := 0 })
  else if off = 0xF064 then
    (bits 0 16 sl.can.cntTransmitted + bits 16 16 sl.can.cntReceived, sl.modCan fun c => { c with cntTransmitted := 0, cntReceived := 0 })
  else (0, sl)

/-- A write to a register of the slice window; RO fields and reserved bits ignore it (R11, R13). The flag tells a refused matrix write (R348). -/
def State.writeSlice (i : Fin 16) (off v : Nat) (s : State) : State × Bool :=
  let o := off % 0x1000
  let ax (a : Fin 3) : State :=
    if o = 0x028 then s.modSlice i fun sl => sl.modM a fun m => { m with command := v % 4 }
    else if o = 0x02C then s.modSlice i fun sl => sl.modM a fun m => { m with testTarget := toInt32 v }
    else if o = 0x030 ∧ a = 0 then s.modSlice i fun sl => { sl with axisMask := v % 2 }
    else if o = 0x06C then s.modSlice i fun sl => sl.modD a fun d => { d with command := v % 8 }
    else if o = 0x070 then s.modSlice i fun sl => sl.modD a fun d => { d with envSelect := v % 128 }
    else if o = 0x078 ∧ a = 0 then s.modSlice i fun sl => { sl with driveMask := v % 8 }
    else s
  match off / 0x1000 with
  | 0 =>
    (if o = 0x010 then s.modSlice i fun sl => sl.modPortal fun q => { q with command := v % 16 }
     else if o = 0x014 then s.modSlice i fun sl => sl.modPortal fun q => { q with eventMask := v % 8 }
     else s, false)
  | 1 => (ax 0, false)
  | 2 => (ax 1, false)
  | 3 => (ax 2, false)
  | 4 => (if o = 0x040 then s.modSlice i fun sl => sl.modInp fun x => { x with eventMask := v % 2 } else s, false)
  | 5 =>
    (if o = 0x04C then s.modSlice i fun sl => sl.modSw fun x => { x with command := v % 16, commandChannel := v / 16 % 8 }
     else if o = 0x050 then s.modSlice i fun sl => sl.modSw fun x => { x with eventMask := v % 8 }
     else s, false)
  | 6 =>
    if o = 0x050 then (s.onSlice i fun e sl => sl.canRequest e s.tcyc (s.payloads i) (v % 65536), false)
    else if o = 0x054 then (s.onSlice i fun _ sl => sl.canCancel (v % 65536) (decide (Config.freeNat 61 s.freeCount % 2 = 1)), false)
    else if o = 0x058 then
      (s.modSlice i fun sl => sl.modCan fun c => { c with selectColumn := v % 64, selectCycle := v / 64 % 64, selectBank := v.testBit 12 }, false)
    else if o = 0x05C then
      let r := s.slices[i].matrixWrite v
      (s.modSlice i fun _ => r.1, r.2)
    else if o = 0x060 then
      (if v % 4 = 1 then s.onSlice i fun e sl => sl.bankSwitch e (shortestCycle s.params)
       else if v % 4 = 2 then s.onSlice i fun _ sl => sl.bankCopy
       else s, false)
    else if o = 0x068 then (if v % 16 = 1 then s.onSlice i fun e sl => sl.recoveryStart e else s, false)
    else if o = 0x06C then (s.modSlice i fun sl => sl.modCan fun c => { c with eventMask := v % 2 }, false)
    else (s, false)
  | _ => (s, false)

end Sys2Proof.Machine
end

