-- ==== Sys2Proof/Machine/RegNode.lean ====
section
/-! DEFINITION. What the registers of the node's other blocks read: NODE, HWS, TWN, SPL, BLY, MSS, LOG and CFG (the register tables of files 07 to 09, 11 to 15 and 17), and their action pages. -/

namespace Sys2Proof.Machine

/-! ### NODE -/

/-- Minutes since the last passed test of a switch (NODE_LOOP_TEST_AGE). -/
def testAge (now : Nat) (t : Option Nat) : Nat := match t with | some t => min 65535 ((now - t) / 60000000000) | none => 65535

/-- Bits of the slices whose portal is proven in a channel. -/
def State.provenMask (c : Fin 2) (s : State) : Nat :=
  maskOf 16 fun i => if h : i < 16 then s.portalOn ⟨i, h⟩ && s.provenIn c ⟨i, h⟩ else false

def msgLo (m : EventMsg) : Nat := bits 0 8 m.number + bits 8 8 m.code + bits 16 16 m.detail
def msgHi (m : EventMsg) : Nat := m.at_ % 2 ^ 32

def State.readNode (off : Nat) (s : State) : Nat :=
  let l := s.loop
  let n := s.node
  if off = 0x000 then (if s.small then 0x08 else 0x10) + bits 8 8 1 + bits 16 8 1
  else if off = 0x004 then bits 0 3 s.start.kind + bit1 3 (decide (s.cfg.state = 3)) + bit1 4 s.log.unclean
  else if off = 0x008 then s.start.starts % 2 ^ 32
  else if off = 0x00C then bits 0 6 n.resetSelect
  else if off = 0x010 then
    if h : n.resetSelect < 34 then
      let x : Island := s.islands[n.resetSelect]
      if s.hasIsland ⟨n.resetSelect, h⟩ then bits 0 4 x.cause + bits 8 8 x.resets + bit1 16 x.running + bit1 17 (s.stalled.any fun c => decide (c.island.val = n.resetSelect) || decide ((waiterIsland c.waiter).val = n.resetSelect)) else 0
    else 0
  else if off = 0x014 then n.syncTime % 2 ^ 32
  else if off = 0x018 then n.syncTime / 2 ^ 32 % 65536 + bit1 16 n.syncHeld
  else if off = 0x01C then bits 0 16 s.start.x1 + bit1 16 s.start.qualified + bit1 17 s.start.warning
  else if off = 0x020 then
    bit1 0 l.ch1 + bit1 1 l.ch2 + bit1 2 l.sw1 + bit1 3 l.sw2 + bit1 4 l.conducting + bit1 5 l.latched + bits 6 2 l.latchCause + bits 8 2 l.test1 + bits 10 2 l.test2 +
      bit1 12 l.overdue1 + bit1 13 l.overdue2 + bit1 14 s.twinCellClosed + bit1 15 (s.configured && !s.twinCellClosed) + bits 16 4 l.discrepantSlice
  else if off = 0x024 then s.provenMask 0 + s.provenMask 1 * 65536
  else if off = 0x028 then testAge s.now l.passed1 + testAge s.now l.passed2 * 65536
  else if off = 0x02C then bits 0 2 l.command
  else if off = 0x030 then bits 0 2 n.mask
  else if off = 0x034 then bits 0 7 n.local_.length + bit1 7 n.localLostFlag + bits 8 7 n.remote.length + bit1 15 n.remoteLostFlag
  else if off = 0x038 then (match n.local_ with | m :: _ => msgLo m | [] => 0)
  else if off = 0x03C then (match n.local_ with | m :: _ => msgHi m | [] => 0)
  else if off = 0x040 then (match n.remote with | x :: _ => bits 0 8 x.position + bits 8 8 x.generation | [] => 0)
  else if off = 0x044 then (match n.remote with | x :: _ => msgLo x.msg | [] => 0)
  else if off = 0x048 then (match n.remote with | x :: _ => msgHi x.msg | [] => 0)
  else if h : off % 4 = 0 ∧ 0x080 ≤ off ∧ off < 0x0A0 then n.pending[(off - 0x080) / 4]
  else if h : off % 4 = 0 ∧ 0x0A0 ≤ off ∧ off < 0x0C0 then n.subscribe[(off - 0x0A0) / 4]
  else 0

/-! ### HWS (files 08 and 09) -/

/-- entry_flags of a directory entry (R307). -/
def entryFlags (d : DirEntry) : Nat :=
  b2n d.orientation + 2 * b2n d.unitReversed + 4 * b2n d.reserved + 8 * b2n d.roleS + 16 * b2n d.coldStart + 32 * b2n d.cabActive + 64 * b2n d.end_

def State.readHws (off : Nat) (s : State) : Nat :=
  let h := s.hws
  let x := s.ina
  let most (f : DirEntry → Nat) : Nat := x.dir.foldl (fun n d => max n (f d)) 0
  if off = 0x000 then
    bit1 0 s.isMaster + bit1 1 h.inSchedule[0] + bit1 2 h.inSchedule[1] + bit1 3 h.holdover + bit1 4 h.relays[0].open_ + bit1 5 h.relays[1].open_ +
      bit1 6 h.degraded[0] + bit1 7 h.degraded[1] + bit1 8 h.switchPending
  else if off = 0x004 then h.cycle % 2 ^ 32
  else if off = 0x008 then bits 0 3 h.mode + bits 3 3 h.pendingMode + bits 6 2 s.tcycCode + bits 8 24 h.switchCycle
  else if off = 0x00C then bits 0 8 h.position + bits 8 8 h.master + bits 16 8 h.n + (if h.position = 0 then 0 else bits 24 8 s.ownIndex)
  else if off = 0x010 then bits 0 16 (reportR ((h.ringTime[0] : Rat) / 10)).toNat + bits 16 16 (reportR ((h.ringTime[1] : Rat) / 10)).toNat
  else if off = 0x014 then h.health % 2 ^ 32
  else if off = 0x018 then bits 0 16 (reportR ((h.d[0] : Rat) / 655360)).toNat + bits 16 16 (reportR ((h.d[1] : Rat) / 655360)).toNat
  else if hp : off % 4 = 0 ∧ 0x020 ≤ off ∧ off < 0x030 then
    let p : HPort := h.ports[(off - 0x020) / 4]
    bit1 0 p.linkUp + bit1 1 p.phyMaster + bit1 2 p.folded + bit1 3 p.lost + bit1 4 p.egress + bits 5 7 (ones p.hist) + bits 16 16 (reportR ((p.delay : Rat) * 10 / 65536)).toNat
  else if off = 0x030 then ofInt32 (reportR ((h.offset : Rat) * 10 / 65536))
  else if off = 0x034 then ofInt32 h.clock.rate
  else if off = 0x038 then bits 0 3 h.modeRequest + bit1 3 h.requestGo
  else if off = 0x03C then bits 0 4 h.command + bits 4 2 h.commandPort
  else if off = 0x040 then bits 0 16 h.eventMask
  else if off = 0x044 then bits 0 4 h.faultEvent + bits 4 2 h.faultPort + bits 6 1 h.faultChannel + bits 8 8 h.faultPosition
  else if off = 0x100 then
    bits 0 3 x.st.code + bits 3 3 x.phase.code + bit1 6 x.leader + bit1 7 x.tookOver + bit1 8 x.admitted[0] + bit1 9 x.admitted[1] + bit1 10 x.pendingDir.isSome + bits 11 4 x.trigger
  else if off = 0x104 then x.generation % 2 ^ 32
  else if off = 0x108 then bits 0 8 x.car + bits 8 5 x.unit + bits 13 3 x.consist + bit1 16 (x.orientation.getD false) + bit1 17 x.unitReversed
  else if off = 0x10C then
    bits 0 8 h.master + bits 8 8 (x.dir.filter fun d => !d.reserved).length + bits 16 7 (most (·.car)) + bits 23 5 (most (·.unit)) + bits 28 3 (most (·.consist))
  else if off = 0x110 then x.nonce % 2 ^ 32
  else if off = 0x114 then x.nonce / 2 ^ 32 % 2 ^ 32
  else if off = 0x118 then bits 0 16 x.duration
  else if off = 0x11C then bits 0 3 x.stepA.code + bits 3 3 x.stepB.code + bit1 6 x.announced
  else if off = 0x120 then bits 0 8 x.barrierId + bit1 8 x.barrierArrive + bits 16 8 x.barrierDone
  else if off = 0x124 then bits 0 4 x.command
  else if off = 0x128 then bits 0 8 x.dirSelect
  else if off = 0x12C then
    match s.entryAt x.dirSelect with
    | some d => bits 0 8 d.car + bits 8 5 d.unit + bits 13 3 d.consist + bits 16 8 (entryFlags d)
    | none => 0
  else if off = 0x130 then bits 0 8 x.eventMask
  else if off = 0x134 then bits 0 3 x.faultEvent + bits 4 4 x.faultCode + bits 8 8 x.faultPosition
  else 0

/-! ### TWN (file 12) -/

def State.readTwn (off : Nat) (s : State) : Nat :=
  let t := s.twn
  let last := s.twinLast
  if off = 0x000 then
    bit1 0 s.gate + bit1 1 t.hitch + bit1 2 t.auth.readback + bit1 3 t.auth.inp + bits 4 3 t.layer + bit1 7 t.link + bit1 8 t.synchronised + bit1 9 t.foreign +
      bit1 10 t.healthy + bit1 11 last.healthy + bit1 12 last.driving + bit1 13 t.resign + bit1 14 t.takeback + bit1 15 t.testMode + bits 16 8 (min 255 t.mirrorAge)
  else if off = 0x004 then bits 0 8 t.lowPosition + bits 8 8 t.highPosition + bits 16 2 t.nomLow + bits 18 2 t.nomHigh + bits 20 4 (min 15 t.sinceRef)
  else if off = 0x008 then bits 0 8 t.low.car + bits 8 2 t.low.holder + bits 16 8 t.high.car + bits 24 2 t.high.holder
  else if off = 0x00C then bits 0 2 t.verdict + bit1 2 t.silent + bits 8 8 (leNat ((authBytes last).take 1))
  else if off = 0x010 then bits 0 8 t.sizeKib + bits 8 8 t.slowAxis + bits 16 16 (min 65535 t.slowPasses)
  else if off = 0x014 then bits 0 16 t.handovers + bits 16 3 t.lastCode + bits 20 12 (min 4095 t.gapUs)
  else if off = 0x018 then bits 0 4 t.command
  else if off = 0x01C then bits 0 8 t.eventMask
  else if off = 0x020 then bits 0 3 t.faultEvent + bits 4 4 t.faultCode
  else 0

/-! ### SPL (file 11) -/

def BufState.code : BufState → Nat
  | .free => 0 | .fetching => 1 | .ready => 2 | .prefetched => 3

def State.readSpl (off : Nat) (s : State) : Nat :=
  let x := s.spl
  let buf : ReadBuf := x.bufs.get ⟨x.bufSelect % 16, Nat.mod_lt _ (by decide)⟩
  let err := x.perr[x.perrSelect]?
  if off = 0x000 then
    bit1 0 x.linkUp + bits 1 5 (x.bufs.toList.filter fun b => decide (b.st ≠ .free)).length + bits 6 6 x.relays.length + bit1 12 x.regionLate + bit1 13 (!x.stale.isEmpty)
  else if off = 0x004 then bits 0 14 (s.entries.filter fun m => decide (m.2.kind ≠ 0)).length + bits 14 14 x.stale.length
  else if off = 0x008 then bits 0 16 x.mapLast + bits 16 16 x.mapMax
  else if off = 0x00C then bits 0 4 x.bufSelect
  else if off = 0x010 then
    bits 0 2 buf.st.code + bit1 2 buf.effect + bit1 3 (match buf.origin with | .hawser p => decide (p ≠ 0) | .udp _ _ => false) + bits 4 12 (min 4095 ((s.now - buf.since) / 1000000)) +
      bits 16 16 buf.tag
  else if off = 0x014 then buf.address % 2 ^ 32
  else if off = 0x018 then bits 0 4 x.perrSelect
  else if off = 0x01C then (match err with | some e => e.address % 2 ^ 32 | none => 0)
  else if off = 0x020 then (match err with | some e => bits 0 16 e.tag + bits 16 4 e.status + bits 20 8 e.target + 2 ^ 28 | none => 0)
  else if off = 0x024 then bits 0 5 x.perr.length + bits 8 8 x.perrOverflow
  else if off = 0x028 then bits 0 7 (x.events.length + x.eventsNew.length) + bits 8 16 x.eventsLost
  else if off = 0x030 then bits 0 8 x.eventMask
  else if off = 0x034 then bits 0 3 x.faultEvent + bits 8 8 x.faultPosition + bits 16 14 x.faultEntry
  else if off = 0x038 then x.faultAddr % 2 ^ 32
  else 0

/-! ### BLY (file 07) -/

/-- Bits of requesters in a list, by their index. -/
def State.requesterMask (l : List Requester) (s : State) : Nat := l.foldl (fun n r => n + 2 ^ s.requesterIndex r) 0

def State.readBly (g : Fin 2) (off : Nat) (s : State) : Nat :=
  let x : Group := s.groups[g]
  if off = 0x000 then
    bit1 0 (decide (24 < (s.requesters g).length)) + bit1 1 (s.unarbitrated g) + bit1 2 x.warning + bit1 3 x.loadOut + bit1 4 x.motorOut + bit1 5 x.overTemp +
      bits 8 6 (s.requesters g).length + bits 14 6 (s.granted g).length + bits 20 6 (s.waiting g).length
  else if off = 0x004 then bits 0 16 (cfgBlyBudget s.params g.val) + bits 16 16 (s.allocated g)
  else if off = 0x008 then bits 0 16 x.loadV + bits 16 16 x.motorV
  else if off = 0x00C then bits 0 16 x.loadI + bits 16 16 x.motorI
  else if off = 0x010 then s.requesterMask (s.granted g) % 2 ^ 32
  else if off = 0x014 then s.requesterMask (s.granted g) / 2 ^ 32
  else if off = 0x018 then s.requesterMask (s.waiting g) % 2 ^ 32
  else if off = 0x01C then s.requesterMask (s.waiting g) / 2 ^ 32
  else if off = 0x020 then bits 0 6 x.reqSelect
  else if off = 0x024 then
    match (s.requesters g)[x.reqSelect]? with
    | none => 0
    | some r =>
      let q := s.req r
      let st := if q.isWaiting then 1 else if q.isGranted then 2 else 0
      bits 0 4 r.1.val + bits 4 4 r.2.val + bits 8 3 (cfgBlyClass s.params r.1 r.2) + bits 11 2 st +
        bits 16 16 (min 65535 ((s.now - (if st = 0 then x.idleAt[(r.1.val % 8) * 9 + r.2.val]'(by omega) else q.since)) / 1000000))
  else if off = 0x028 then bits 0 3 x.faultEvent + bits 3 1 x.faultInput + bits 4 6 x.faultIndex
  else if off = 0x02C then x.lfsr % 2 ^ 32
  else if off = 0x030 then (if g = 0 then bits 0 6 s.blyMask else 0)
  else 0

/-! ### MSS (file 14) -/

/-- A sensor item of MSS_SENSOR_SELECT: value and peak; an item the part does not have reads 0x8000 (R462). -/
def State.sensorItem (k : Nat) (s : State) : Nat × Nat :=
  let m := s.mss
  let pair (v p : Int) : Nat × Nat := (ofInt16 v, ofInt16 p)
  if h : k < 24 then (if s.noTemp k then (0x8000, 0x8000) else pair m.temps[k] m.tempPeaks[k])
  else if h : 32 ≤ k ∧ k < 44 then (if s.noRail (k - 32) then (0x8000, 0x8000) else pair m.rails[k - 32] m.railPeaks[k - 32])
  else if k = 48 then pair m.humidity m.humidityPeak
  else if h : 49 ≤ k ∧ k < 52 then pair m.acc[k - 49] m.accPeaks[k - 49]
  else (0, 0)

def State.readMss (off : Nat) (s : State) : Nat :=
  let m := s.mss
  if off = 0x000 then
    bit1 0 m.runBank + bit1 1 m.trial + bit1 2 (!m.owners.isEmpty) + bits 3 3 (m.owners.length - 1) + bit1 6 m.attest.isSome + bit1 7 m.certificate.isSome +
      bit1 8 (!m.cal.invalid) + bit1 9 m.retired0 + bit1 10 m.paramFallback
  else if off = 0x004 then m.fwVersion % 2 ^ 32
  else if off = 0x008 then bits 0 16 m.epoch + bits 16 16 m.minEpoch
  else if off = 0x00C then m.bankA.version % 2 ^ 32
  else if off = 0x010 then m.bankB.version % 2 ^ 32
  else if off = 0x014 then m.taiLatched % 2 ^ 32
  else if off = 0x018 then m.taiLatched / 2 ^ 32 % 2 ^ 17
  else if off = 0x01C then ofInt16 m.cal.utc + bits 16 16 m.cal.supercap
  else if off = 0x020 then m.timeSetLo % 2 ^ 32
  else if off = 0x024 then m.timeSet % 2 ^ 31
  else if off = 0x028 then bits 0 6 m.sensorSelect
  else if off = 0x02C then let v := s.sensorItem m.sensorSelect; v.1 + v.2 * 65536
  else if off = 0x030 then bits 0 12 m.impact.peak + bits 12 2 m.impact.axis + bits 16 16 m.impact.duration
  else if off = 0x034 then s.hours % 2 ^ 32
  else if off = 0x038 then m.relayA % 2 ^ 32
  else if off = 0x03C then m.relayB % 2 ^ 32
  else if off = 0x040 then bits 0 3 m.stageTarget + bit1 3 m.staging.open_
  else if off = 0x044 then m.stageOffset % 2 ^ 32
  else if off = 0x048 then bits 0 2 m.staging.state + bits 8 24 (m.staging.bytes / 1024)
  else if off = 0x04C then bits 8 24 m.argument
  else if off = 0x050 then bits 0 2 m.cmdState + bits 2 6 m.reason + bits 8 8 m.lastCode
  else if off = 0x054 then bits 0 4 m.eventMask
  else if off = 0x058 then bits 0 2 m.faultEvent + bits 4 4 m.faultCode + bits 8 8 m.faultDetail
  else if off % 4 = 0 ∧ 0x10000 ≤ off ∧ off < 0x20000 then memGetLe ramDefault m.window (off - 0x10000) 4
  else 0

/-! ### LOG (file 15) -/

/-- A little-endian word in a list of bytes. -/
def wordAt (b : List Byte) (off : Nat) : Nat := leNat ((b.drop off).take 4)

def State.readLog (off : Nat) (s : State) : Nat :=
  let l := s.log
  let started (n : Nat) : Nat := if l.recording then n else 0
  if off = 0x000 then
    bit1 0 s.takes + bit1 1 (l.recording && l.ledgerFailed) + bit1 2 (l.recording && l.journalFailed) + bit1 3 (l.recording && l.ledgerFull) + bit1 4 (l.recording && l.journalFull) +
      bit1 5 l.lastWord.isSome + bit1 6 (l.recording && l.unclean) + bit1 7 l.flush.isSome +
      bit1 8 (l.recording && (l.ledgerFailed || l.journalFailed || (cfgLogLogFlags s.params).testBit 0)) + bits 9 7 (reportR ((l.fill : Rat) * 100 / (bufferSize : Rat))).toNat
  else if off = 0x004 then started l.s % 2 ^ 32
  else if off = 0x008 then started l.next % 2 ^ 32
  else if off = 0x00C then started l.ledger.length % 2 ^ 32
  else if off = 0x010 then started l.journal.length % 2 ^ 32
  else if off = 0x014 then started (l.ledgerCapacity - l.ledger.length) % 2 ^ 32
  else if off = 0x018 then bits 0 16 l.flushTook + bits 16 3 l.flushTrigger
  else if off = 0x01C then bits 0 18 (started l.badBlocks)
  else if h : 0x040 ≤ off ∧ off < 0x080 then
    let x : Handle := l.handles[(off - 0x040) / 0x10]
    match off % 0x10 with
    | 0 => bit1 2 x.open_
    | 4 => x.s % 2 ^ 32
    | 8 => x.ledger % 2 ^ 32
    | 12 => x.journal % 2 ^ 32
    | _ => 0
  else if h : 0x080 ≤ off ∧ off < 0x0A0 then
    let x : Handle := l.handles[(off - 0x080) / 8]
    match off % 8 with
    | 0 => bits 0 29 x.select
    | 4 => bit1 0 x.ready + bit1 1 x.outside + bit1 2 x.readError + bit1 3 x.crcBad
    | _ => 0
  else if off = 0x0A4 then bits 0 8 l.eventMask
  else if off = 0x0A8 then bits 0 3 l.faultEvent + bits 4 4 l.faultCode + bits 8 8 l.faultDetail
  else if off % 4 = 0 ∧ 0x800 ≤ off ∧ off < 0x900 then (match l.lastWord with | some b => wordAt b (off - 0x800) | none => 0)
  else if h : off % 4 = 0 ∧ 0x1000 ≤ off ∧ off < 0x1400 then wordAt l.handles[(off - 0x1000) / 0x100].window (off % 0x100)
  else 0

/-! ### CFG (file 13) -/

def State.readCfg (off : Nat) (s : State) : Nat :=
  let c := s.cfg
  let slot : SlotInfo := c.slots.get ⟨c.slotSelect % 4, Nat.mod_lt _ (by decide)⟩
  if off = 0x000 then
    bits 0 3 c.state + bits 3 2 c.slot + (match c.entry with
      | some e => (if e.previous = 0xFF then 0 else bits 5 2 e.previous + 2 ^ 7) + bits 9 2 e.probation
      | none => 0) + bit1 8 s.plug.present + bit1 11 c.returnPending + bit1 12 c.activationPending
  else if off = 0x004 then c.version % 2 ^ 32
  else if off = 0x008 then (match c.entry with | some e => e.previousVersion % 2 ^ 32 | none => 0)
  else if off = 0x00C then bits 0 5 c.code + bits 5 3 c.attempt + bits 8 16 c.section_
  else if off = 0x010 then c.offset % 2 ^ 32
  else if off = 0x014 then bits 0 16 (min 65535 c.loadMs) + bits 16 16 c.thermal
  else if off % 4 = 0 ∧ 0x018 ≤ off ∧ off < 0x028 then wordAt c.digest (off - 0x018)
  else if off = 0x028 then bit1 0 s.roleS + bits 16 16 (cfgRoleCarType s.params)
  else if off = 0x02C then bits 0 2 (cfgRoleProbationMode s.params) + bits 8 24 (min 0xFFFFFF s.probationValue)
  else if off = 0x030 then bits 0 2 c.slotSelect
  else if off = 0x034 then (if c.state < 2 then 0 else bits 0 3 (s.slotState (c.slotSelect % 4))) + bit1 3 slot.checked + bits 4 5 slot.lastCode
  else if off = 0x038 then slot.version % 2 ^ 32
  else if off = 0x03C then bits 4 2 c.commandSlot
  else if off = 0x040 then bits 0 2 c.cmdState + bits 2 5 c.cmdCode + bits 8 16 c.cmdSection
  else if off = 0x044 then bits 0 4 c.eventMask
  else if off = 0x048 then bits 0 2 c.faultEvent + bits 4 5 c.faultCode
  else 0

/-! ### Action pages (R12, R15, R528) -/

/-- NODE_EVENT_POP_RC. -/
def State.popLocal (s : State) : Nat × State :=
  let q := s.node.local_
  (bits 0 7 q.length + bit1 7 (!q.isEmpty), s.modNode fun n => { n with local_ := n.local_.drop 1 })

/-- NODE_REMOTE_POP_RC. -/
def State.popRemote (s : State) : Nat × State :=
  let q := s.node.remote
  (bits 0 7 q.length + bit1 7 (!q.isEmpty) + (match q with | x :: _ => bits 8 8 x.position | [] => 0), s.modNode fun n => { n with remote := n.remote.drop 1 })

def State.countsNode (off : Nat) (s : State) : Nat × State :=
  if off = 0xFF000 then s.popLocal
  else if off = 0xFF004 then s.popRemote
  else if off = 0xFF008 then
    (bits 0 8 s.node.cntLocal + bits 8 8 s.node.cntRemote + bits 16 8 s.loop.cntAborted + bits 24 8 s.loop.cntRefused,
      (s.modNode fun n => { n with cntLocal := 0, cntRemote := 0 }).modLoop fun l => { l with cntAborted := 0, cntRefused := 0 })
  else (0, s)

def State.countsHws (off : Nat) (s : State) : Nat × State :=
  let h := s.hws
  let x := s.ina
  if off = 0xFF000 then
    (bits 0 8 h.cntBeacons + bits 8 8 h.cntOwnLost + bits 16 8 h.cntRefused + bits 24 8 h.cntBacklog,
      s.modHws fun h => { h with cntBeacons := 0, cntOwnLost := 0, cntRefused := 0, cntBacklog := 0 })
  else if hp : off % 4 = 0 ∧ 0xFF004 ≤ off ∧ off < 0xFF014 then
    let i : Fin 4 := ⟨(off - 0xFF004) / 4, by omega⟩
    let p : HPort := h.ports[i]
    (bits 0 16 p.blocked + bits 16 16 p.truncated, s.modPort i fun p => { p with blocked := 0, truncated := 0 })
  else if off = 0xFF020 then
    (bits 0 8 x.cntInaug + bits 8 8 x.cntRetries + bits 16 8 x.cntCuts + bits 24 8 x.cntRefusals,
      s.modIna fun x => { x with cntInaug := 0, cntRetries := 0, cntCuts := 0, cntRefusals := 0 })
  else (0, s)

def State.countsTwn (off : Nat) (s : State) : Nat × State :=
  let t := s.twn
  if off = 0xFF000 then
    (bits 0 8 t.cntDiscarded + bits 8 8 t.cntLinkLosses + bits 16 8 t.cntCollisions + bits 24 8 t.cntDisagreements,
      s.modTwn fun t => { t with cntDiscarded := 0, cntLinkLosses := 0, cntCollisions := 0, cntDisagreements := 0 })
  else (0, s)

def State.countsSpl (off : Nat) (s : State) : Nat × State :=
  let x := s.spl
  if off = 0xFF000 then
    (bits 0 8 x.cntRetries + bits 8 8 x.cntNoBuffer + bits 16 8 x.cntRefused + bits 24 8 x.cntExpired,
      s.modSpl fun x => { x with cntRetries := 0, cntNoBuffer := 0, cntRefused := 0, cntExpired := 0 })
  else if off = 0xFF004 then (bits 0 16 x.cntWrites + bits 16 16 x.cntReads, s.modSpl fun x => { x with cntWrites := 0, cntReads := 0 })
  else if off = 0xFF008 then (bits 0 16 x.cntHits + bits 16 16 x.cntDiscarded, s.modSpl fun x => { x with cntHits := 0, cntDiscarded := 0 })
  else (0, s)

def State.countsBly (g : Fin 2) (off : Nat) (s : State) : Nat × State :=
  let x : Group := s.groups[g]
  if off = 0x7000 then
    (bits 0 16 x.cntGrants + bits 16 8 x.cntMisses + bits 24 4 x.cntBites + bits 28 4 x.cntWarnings,
      s.modGroup g fun x => { x with cntGrants := 0, cntMisses := 0, cntBites := 0, cntWarnings := 0 })
  else if off = 0x7004 then (bits 0 16 x.maxWait + bits 16 16 x.maxHold, s.modGroup g fun x => { x with maxWait := 0, maxHold := 0 })
  else (0, s)

def State.countsMss (off : Nat) (s : State) : Nat × State :=
  let m := s.mss
  if off = 0xFF000 then
    (bits 0 8 m.cntEcc + bits 8 8 m.cntResets + bits 16 8 m.cntRefusals + bits 24 8 m.cntImpacts,
      s.modMss fun m => { m with cntEcc := 0, cntResets := 0, cntRefusals := 0, cntImpacts := 0 })
  else (0, s)

def State.countsLog (off : Nat) (s : State) : Nat × State :=
  let l := s.log
  if off = 0xFF000 then
    (bits 0 8 l.cntFlushes + bits 8 8 l.cntBad + bits 16 8 l.cntReadErrors + bits 24 8 l.cntMirrorLost,
      s.modLog fun l => { l with cntFlushes := 0, cntBad := 0, cntReadErrors := 0, cntMirrorLost := 0 })
  else if off = 0xFF004 then (bits 0 16 l.cntLosses + bits 16 5 l.lastLossQueue, s.modLog fun l => { l with cntLosses := 0, lastLossQueue := 0 })
  else (0, s)

def State.countsCfg (off : Nat) (s : State) : Nat × State :=
  let c := s.cfg
  if off = 0xFF000 then
    (bits 0 8 c.cntFailed + bits 8 8 c.cntRefusals + bits 16 8 c.cntPlug + bits 24 8 c.cntJournal,
      s.modCfg fun c => { c with cntFailed := 0, cntRefusals := 0, cntPlug := 0, cntJournal := 0 })
  else (0, s)

end Sys2Proof.Machine
end

