-- ==== Sys2Proof/Machine/Fabric.lean ====
section
/-! DEFINITION. The internal fabric (R517 to R522): windows, reads and writes with their responses, process image writes (R19), and the delivery of events (R526 to R532). -/

namespace Sys2Proof.Machine

/-! ### Windows (R517) -/

/-- The blocks behind the windows. -/
inductive Block where
  | node | hws | twn | spl | bly (g : Fin 2) | mss | log | cfg | pim | slice (i : Fin 16)
deriving DecidableEq, Repr

/-- The window an address lies in and its offset there; none outside every window, and for windows the part does not have (R520). -/
def State.window (a : Nat) (s : State) : Option (Block × Nat) :=
  if a < 0x00100000 then some (.node, a)
  else if 0x01000000 ≤ a ∧ a < 0x01100000 then some (.hws, a - 0x01000000)
  else if 0x01100000 ≤ a ∧ a < 0x01200000 then some (.twn, a - 0x01100000)
  else if 0x01200000 ≤ a ∧ a < 0x01300000 then some (.spl, a - 0x01200000)
  else if 0x01300000 ≤ a ∧ a < 0x01308000 then some (.bly 0, a - 0x01300000)
  else if 0x01308000 ≤ a ∧ a < 0x01310000 then (if s.small then none else some (.bly 1, a - 0x01308000))
  else if 0x02000000 ≤ a ∧ a < 0x02100000 then some (.mss, a - 0x02000000)
  else if 0x02100000 ≤ a ∧ a < 0x02200000 then some (.log, a - 0x02100000)
  else if 0x02200000 ≤ a ∧ a < 0x02300000 then some (.cfg, a - 0x02200000)
  else if 0x03000000 ≤ a ∧ a < 0x03040000 then some (.pim, a - 0x03000000)
  else if h : 0x04000000 ≤ a ∧ a < 0x04100000 then
    let i : Fin 16 := ⟨(a - 0x04000000) / 0x10000, by omega⟩
    if i.val < s.sliceCount then some (.slice i, a % 0x10000) else none
  else none

/-- An offset in the action page of its window, the last 4 KiB (R517). -/
def Block.action (w : Block) (off : Nat) : Bool :=
  match w with
  | .pim => false
  | .slice _ => decide (0xF000 ≤ off)
  | .bly _ => decide (0x7000 ≤ off)
  | _ => decide (0xFF000 ≤ off)

/-- The island that serves a window; the process image and the arbiters are served by none that can stall. -/
def Block.island (w : Block) : Option (Fin 34) :=
  match w with
  | .node | .hws | .twn | .spl => some 32
  | .mss | .log | .cfg => some 33
  | .slice i => some ⟨i.val, by omega⟩
  | .bly _ | .pim => none

/-- The waiter that an initiator of the fabric is. -/
def hostWaiter (g : HostAgent) : Waiter :=
  match g with
  | .splice => .splice
  | .mss => .mss

/-- The initiator's channel to the block's island is stalled (R36, R521): marked so, or that island stands. -/
def State.windowStalled (g : HostAgent) (w : Block) (s : State) : Bool :=
  match w.island with
  | some k => s.channelStands (hostWaiter g) ⟨k.val, by omega⟩ || !s.islands[k].running
  | none => false

/-! ### Reading -/

/-- A word outside the action pages; an address that holds nothing reads 0 (R520). -/
def State.readPlain (w : Block) (off : Nat) (s : State) : Nat :=
  match w with
  | .node => s.readNode off
  | .hws => s.readHws off
  | .twn => s.readTwn off
  | .spl => s.readSpl off
  | .bly g => s.readBly g off
  | .mss => s.readMss off
  | .log => s.readLog off
  | .cfg => s.readCfg off
  | .pim => leNat (s.pimBytes off 4)
  | .slice i => s.readSlice i off

/-- A word of an action page, and the state once it has been read (R12). -/
def State.readAction (w : Block) (off : Nat) (s : State) : Nat × State :=
  match w with
  | .node => s.countsNode off
  | .hws => s.countsHws off
  | .twn => s.countsTwn off
  | .spl => s.countsSpl off
  | .bly g => s.countsBly g off
  | .mss => s.countsMss off
  | .log => s.countsLog off
  | .cfg => s.countsCfg off
  | .pim => (0, s)
  | .slice i => let r := s.slices[i].readCounts off; (r.1, s.modSlice i fun _ => r.2)

/-- The response of an access, kept for its sender (R521). -/
def State.respond (r : Response) (v : Nat) (effect : Bool) (s : State) : State := { s with access := ⟨r, v, effect⟩ }

/-- A 32-bit read by Splice or the MSS (R519 to R521). It carries the read-effect flag when it changed state (R380). -/
def State.fabricRead (g : HostAgent) (a : Nat) (s : State) : State :=
  if a % 4 ≠ 0 then s.respond .alignment 0 false
  else match s.window a with
    | none => s.respond .noTarget 0 false
    | some (w, off) =>
      if s.windowStalled g w then s.respond .stalled 0 false
      else if w.action off then
        let r := s.readAction w off
        r.2.respond .done r.1 (decide (r.1 ≠ 0))
      else s.respond .done (s.readPlain w off) false

/-! ### Writing -/

/-- Clear the bits that a W1C write names (R11, R14). -/
def clearBits (old v : Nat) : Nat := old - (old &&& v)

def State.writeNode (off v : Nat) (s : State) : State :=
  if off = 0x00C then s.modNode fun n => { n with resetSelect := v % 64 }
  else if off = 0x02C then s.modLoop fun l => { l with command := v % 4 }
  else if off = 0x030 then s.modNode fun n => { n with mask := v % 4 }
  else if off = 0x034 then s.modNode fun n => { n with localLostFlag := n.localLostFlag && !v.testBit 7, remoteLostFlag := n.remoteLostFlag && !v.testBit 15 }
  else if h : off % 4 = 0 ∧ 0x080 ≤ off ∧ off < 0x0A0 then
    s.modNode fun n => { n with pending := n.pending.set ((off - 0x080) / 4) (clearBits n.pending[(off - 0x080) / 4] v) }
  else if h : off % 4 = 0 ∧ 0x0A0 ≤ off ∧ off < 0x0C0 then s.modNode fun n => { n with subscribe := n.subscribe.set ((off - 0x0A0) / 4) v }
  else s

def State.writeHws (off v : Nat) (s : State) : State :=
  if off = 0x038 then s.modHws fun h => { h with modeRequest := v % 8, requestGo := v.testBit 3 }
  else if off = 0x03C then s.modHws fun h => { h with command := v % 16, commandPort := v / 16 % 4 }
  else if off = 0x040 then s.modHws fun h => { h with eventMask := v % 65536 }
  else if off = 0x120 then s.modIna fun x => { x with barrierId := v % 256, barrierArrive := x.barrierArrive || v.testBit 8 }
  else if off = 0x124 then s.modIna fun x => { x with command := v % 16 }
  else if off = 0x128 then s.modIna fun x => { x with dirSelect := v % 256 }
  else if off = 0x130 then s.modIna fun x => { x with eventMask := v % 256 }
  else s

def State.writeTwn (off v : Nat) (s : State) : State :=
  if off = 0x018 then s.modTwn fun t => { t with command := v % 16 }
  else if off = 0x01C then s.modTwn fun t => { t with eventMask := v % 256 }
  else s

/-- SPL_COMMAND code 1: clear the posted-error log (R384). -/
def State.clearPosted (s : State) : State := if s.hawserUp then s.modSpl fun x => { x with perr := [], perrOverflow := 0 } else s

/-- SPL_COMMAND code 2: free all read buffers (R379). -/
def State.freeBuffers (s : State) : State := if s.hawserUp then s.modSpl fun x => { x with bufs := Vector.replicate 16 ReadBuf.reset } else s

def State.writeSpl (off v : Nat) (s : State) : State :=
  if off = 0x00C then s.modSpl fun x => { x with bufSelect := v % 16 }
  else if off = 0x018 then s.modSpl fun x => { x with perrSelect := v % 16 }
  else if off = 0x02C then (if v % 16 = 1 then s.clearPosted else if v % 16 = 2 then s.freeBuffers else s)
  else if off = 0x030 then s.modSpl fun x => { x with eventMask := v % 256 }
  else s

def State.writeBly (g : Fin 2) (off v : Nat) (s : State) : State :=
  if off = 0x020 then s.modGroup g fun x => { x with reqSelect := v % 64 }
  else if off = 0x030 ∧ g = 0 then { s with blyMask := v % 64 }
  else s

/-- A commit in progress holds the staging window (R467). -/
def State.commitHolds (off : Nat) (s : State) : Bool :=
  decide (0x10000 ≤ off ∧ off < 0x20000) && match s.mss.busy with
    | .commit _ => true
    | _ => false

/-- A write to the MSS block by an initiator; the staging window is memory (R467). -/
def State.writeMss (o : Option Origin) (off v : Nat) (s : State) : State :=
  if off = 0x020 then s.modMss fun m => { m with timeSetLo := v }
  else if off = 0x024 then s.timeSet o v
  else if off = 0x028 then s.modMss fun m => { m with sensorSelect := v % 64 }
  else if off = 0x040 then
    let s := s.stageSelect (v % 8)
    if v.testBit 3 then s.stageOpen (v % 8) else s
  else if off = 0x044 then s.modMss fun m => { m with stageOffset := v }
  else if off = 0x04C then (s.modMss fun m => { m with argument := v / 256 }).mssCommand o v
  else if off = 0x054 then s.modMss fun m => { m with eventMask := v % 16 }
  else if off % 4 = 0 ∧ 0x10000 ≤ off ∧ off < 0x20000 then s.modMss fun m => { m with window := memSetLe ramDefault m.window (off - 0x10000) 4 v }
  else s

def State.writeLog (off v : Nat) (s : State) : State :=
  if h : 0x040 ≤ off ∧ off < 0x080 then
    let k : Fin 4 := ⟨(off - 0x040) / 0x10, by omega⟩
    if off % 0x10 = 0 then (if v % 4 = 1 then s.snapshotOpen k else if v % 4 = 2 then s.snapshotClose k else s) else s
  else if h : 0x080 ≤ off ∧ off < 0x0A0 then
    let k : Fin 4 := ⟨(off - 0x080) / 8, by omega⟩
    if off % 8 = 0 then s.readSelect k v else s
  else if off = 0x0A0 then (if v % 16 = 1 then s.logFlushNow else if v % 16 = 2 then s.logClearLastWord else s)
  else if off = 0x0A4 then s.modLog fun l => { l with eventMask := v % 256 }
  else s

def State.writeCfg (off v : Nat) (s : State) : State :=
  if off = 0x030 then s.modCfg fun c => { c with slotSelect := v % 4 }
  else if off = 0x03C then s.cfgCommand v
  else if off = 0x044 then s.modCfg fun c => { c with eventMask := v % 16 }
  else s

/-- Whether an agent may write a place of the process image: its region's only writer (R19, R20), or a remote initiator in the host area (R360, R376). -/
def Agent.mayWrite (g : Agent) (r : RegionId) (off : Nat) : Bool :=
  match g, r with
  | .slice i, .slice j => i = j
  | .hawser, .hawser => true
  | .splice, .splice => true
  | .mss, .mss => true
  | .remote, .splice => decide (0x2000 ≤ off ∧ off < 0x4000)
  | _, _ => false

/-- PIM_WRITE (R19, R22): a word into the shadow copy of a region by its writer, or "not owner". -/
def State.pimWrite (g : Agent) (off v : Nat) (s : State) : State :=
  if off % 4 ≠ 0 then s.respond .alignment 0 false
  else if 0x40000 ≤ off then s.respond .noTarget 0 false
  else
    let (r, k) := s.regionOf off
    if Agent.mayWrite g r k then (s.modRegion r fun x => x.write k (leBytes 4 v)).respond .done 0 false
    else s.respond .notOwner 0 false

/-- The agent that an initiator of a fabric write is: a remote one through Splice, or the MSS. -/
def agentOf (o : Option Origin) : Agent := match o with | some _ => .remote | none => .mss

/-- A 32-bit write by Splice, for a remote initiator or itself, or the MSS (R11, R13, R519 to R521). -/
def State.fabricWrite (g : HostAgent) (o : Option Origin) (a v : Nat) (s : State) : State :=
  let v := v % 2 ^ 32
  if a % 4 ≠ 0 then s.respond .alignment 0 false
  else match s.window a with
    | none => s.respond .noTarget 0 false
    | some (w, off) =>
      if s.windowStalled g w then s.respond .stalled 0 false
      else if w.action off then s.respond .done 0 false
      else match w with
        | .node => (s.writeNode off v).respond .done 0 false
        | .hws => (s.writeHws off v).respond .done 0 false
        | .twn => (s.writeTwn off v).respond .done 0 false
        | .spl => (s.writeSpl off v).respond .done 0 false
        | .bly g => (s.writeBly g off v).respond .done 0 false
        | .mss => if s.commitHolds off then s.respond .notOwner 0 false else (s.writeMss o off v).respond .done 0 false
        | .log => (s.writeLog off v).respond .done 0 false
        | .cfg => (s.writeCfg off v).respond .done 0 false
        | .pim => s.pimWrite (agentOf o) off v
        | .slice i =>
          let r := s.writeSlice i off v
          r.1.respond (if r.2 then .bankActive else .done) 0 false

/-! ### Event delivery (R527 to R529) -/

/-- An event message enters the Splice event queue, or is lost with E228 once per second (R383). -/
def State.offerMessage (m : EventMsg) (s : State) : State :=
  if s.spl.events.length + s.spl.eventsNew.length < 64 then s.modSpl fun x => { x with eventsNew := x.eventsNew ++ [m] }
  else
    let due := s.spl.e228At.all fun t => decide (t + 1000000000 ≤ s.now)
    let s := s.modSpl fun x => { x with eventsLost := satInc 65535 x.eventsLost }
    if due then (s.modSpl fun x => { x with e228At := some s.now }).splEvent 4 0 0 0 else s

/-- Delivery of one event: its pending bit, the local queue of 64, and Hawser where it is subscribed. -/
def State.deliver (x : Ev) (s : State) : State :=
  let m : EventMsg := ⟨x.src, x.code, x.detail, x.at_⟩
  let k : Fin 8 := ⟨x.src / 32 % 8, Nat.mod_lt _ (by decide)⟩
  let s := s.modNode fun (n : NodeEvents) =>
    let n : NodeEvents := { n with pending := n.pending.set k (setBit n.pending[k] (x.src % 32)) }
    if n.local_.length < 64 then { n with local_ := n.local_ ++ [m] } else { n with localLostFlag := true, cntLocal := satInc 255 n.cntLocal }
  if (s.node.subscribe.get k).testBit (x.src % 32) then s.offerMessage m else s

/-- The island whose blocks raise events into an intake queue. -/
def queueIsland (q : Fin 18) : Fin 34 := if h : q.val < 16 then ⟨q.val, by omega⟩ else if q.val = 16 then 32 else 33

/-- The channel by which a queue's events reach the Hawser island is not marked stalled at either end (R36, R532). -/
def State.eventChannel (q : Fin 18) (s : State) : Bool :=
  !s.channelStands .hawser ⟨(queueIsland q).val, by omega⟩ &&
    !(if h : q.val < 16 then s.channelStands (.slice ⟨q.val, h⟩) 32 else decide (q.val = 17) && s.channelStands .mss 32)

/-- EVENT_DELIVERY (R527): the oldest undelivered event of a queue's blocks; none is delivered over a stalled channel or without the Hawser island (R532). -/
def State.eventDelivery (q : Fin 18) (s : State) : State :=
  match (s.intake q).undelivered with
  | [] => s
  | x :: rest =>
    let s := s.setIntake q { s.intake q with undelivered := rest }
    if s.hawserUp && s.eventChannel q then s.deliver x else s

/-- Insert by sender position, after what has the same one. -/
def insertRemote (x : RemoteEv) : List RemoteEv → List RemoteEv
  | [] => [x]
  | y :: t => if x.position < y.position then x :: y :: t else y :: insertRemote x t

/-- The messages received in the cycle enter the remote queue at the sync point (R530): in order of sender position, each once. -/
def State.deliverRemote (s : State) : State :=
  let msgs := s.node.arriving.foldl (fun l x => insertRemote x l) []
  let s := s.modNode fun n => { n with arriving := [] }
  msgs.foldl (fun s x =>
    let key := (x.msg.number, x.position, x.msg.at_)
    if key ∈ s.node.seen then s
    else
      s.modNode fun (n : NodeEvents) =>
        let n : NodeEvents := { n with seen := (key :: n.seen).take 256 }
        if n.remote.length < 64 then { n with remote := n.remote ++ [x] } else { n with remoteLostFlag := true, cntRemote := satInc 255 n.cntRemote }) s

end Sys2Proof.Machine
end

