-- ==== Sys2Proof/Machine/Splice.lean ====
section
/-! DEFINITION. Splice: remote writes and reads, read buffers and prefetch, posted errors, relaying, and the service port (file 11, R370 to R388). -/

namespace Sys2Proof.Machine

/-- Splice answers: with the Hawser island, or in recovery with the MSS alone (R509). -/
def State.spliceUp (s : State) : Bool := s.hawserUp || (s.mss.recovery && s.mssUp)

/-- The status code Splice carries for a fabric response (R521). -/
def Response.status : Response → Nat
  | .done => 0 | .noTarget => 3 | .notOwner => 4 | .bankActive => 5 | .alignment => 6 | .stalled => 11


/-- The channel splice frames take (R373), and the longest one it carries; none where the mode gives no containers. -/
def State.spliceRoom (s : State) : Option Nat :=
  let a := s.chanMode 0
  let b := s.chanMode 1
  if b.containers ≠ 0 then some b.contLen else if a.containers ≠ 0 then some a.contLen else none

/-- Bytes of a splice frame (R370). -/
def spliceSize (f : SpliceFrame) : Nat := 16 + (if f.op = 1 then f.length else f.data.length)

/-! ### Answers -/

/-- An answer to a request: op, status, address, buffer and data. -/
def spliceAnswer (f : SpliceFrame) (op status address buffer : Nat) (data : List Byte) : SpliceFrame :=
  { f with op := op, status := status, address := address, buffer := buffer, data := data, exclusive := false }

/-- Send an answer to where its request came from (R372, R373); none goes out of a service port without a link. One too long for a container goes with status 6 and without data. -/
def State.answer (o : Origin) (f : SpliceFrame) (s : State) : State :=
  match o with
  | .udp a p => if s.spl.linkUp then s.send ⟨.service a p, 0, (s.header 0 false false 0 0), .splice f⟩ else s
  | .hawser p =>
    let long : Bool := match s.spliceRoom with | some n => decide (n < spliceSize f) | none => false
    s.queueAsync p (.splice (if long then { f with status := 6, data := [] } else f))

/-- Count an answer by its status (SPL_COUNTS_RC, SPL_TRAFFIC_RC). -/
def State.countStatus (st : Nat) (s : State) : State :=
  s.modSpl fun x => { x with
    cntRetries := if st = 1 then satInc 255 x.cntRetries else x.cntRetries
    cntNoBuffer := if st = 2 then satInc 255 x.cntNoBuffer else x.cntNoBuffer
    cntRefused := if st = 6 ∨ st = 7 ∨ st = 8 ∨ st = 10 ∨ st = 12 then satInc 255 x.cntRefused else x.cntRefused }

/-- Record a write error in the posted-error log of 16 and raise E224 (R384). -/
def State.postError (address tag status target : Nat) (s : State) : State :=
  (s.modSpl fun x => { x with
    perr := (⟨address, tag, status, target⟩ :: x.perr).take 16
    perrOverflow := if x.perr.length = 16 then satInc 255 x.perrOverflow else x.perrOverflow }).splEvent 0 target 0 address

/-- A write that failed: an error to its initiator; one from the service port is logged here (R375, R384). -/
def State.writeFails (o : Origin) (f : SpliceFrame) (status address target : Nat) (s : State) : State :=
  let s := (s.countStatus status).answer o (spliceAnswer f 0x81 status address 0xFF [])
  match o with
  | .udp _ _ => s.postError address f.tag status target
  | .hawser _ => s

def State.readFails (o : Origin) (f : SpliceFrame) (status : Nat) (s : State) : State :=
  (s.countStatus status).answer o (spliceAnswer f 0x82 status f.address 0xFF [])

def State.fails (o : Origin) (f : SpliceFrame) (status target : Nat) (s : State) : State :=
  if f.op = 2 then s.readFails o f status else s.writeFails o f status f.address target

/-! ### Read buffers and prefetch (R379, R380, R385) -/

def State.modBuf (b : Fin 16) (g : ReadBuf → ReadBuf) (s : State) : State := s.modSpl fun x => { x with bufs := x.bufs.set b (g x.bufs[b]) }
def State.freeBuf (b : Fin 16) (s : State) : State := s.modBuf b fun _ => ReadBuf.reset

def State.findBuf (q : ReadBuf → Bool) (s : State) : Option (Fin 16) := (List.finRange 16).find? fun b => q (s.spl.bufs.get b)

def originPosition : Origin → Nat
  | .hawser p => p
  | .udp _ _ => 0

/-- A prefetch is discarded; E226 when its response had carried the read-effect flag. -/
def State.discardPrefetch (b : Fin 16) (s : State) : State :=
  let x : ReadBuf := s.spl.bufs[b]
  let s := (s.freeBuf b).modSpl fun y => { y with cntDiscarded := satInc 65535 y.cntDiscarded }
  if x.effect then s.splEvent 2 (originPosition x.origin) 0 x.address else s

/-- Discard every prefetch that satisfies a condition. -/
def State.discardWhere (q : ReadBuf → Bool) (s : State) : State :=
  (List.finRange 16).foldl (fun s b => if decide ((s.spl.bufs.get b).st = .prefetched) && q (s.spl.bufs.get b) then s.discardPrefetch b else s) s

def ReadBuf.overlaps (x : ReadBuf) (a n : Nat) : Bool := decide (x.address < a + n ∧ a < x.address + x.length)
def ReadBuf.holds (x : ReadBuf) (a n : Nat) : Bool := decide (x.address ≤ a ∧ a + n ≤ x.address + x.length)

/-- Words of the local fabric from an address: the bytes, whether a read had an effect, and the first response that is not "done". -/
def State.fetchWords : Nat → Nat → State → State × List Byte × Bool × Nat
  | 0, _, s => (s, [], false, 0)
  | n + 1, a, s =>
    let s := s.fabricRead .splice a
    if s.access.response = .done then
      let w := s.access
      let r := State.fetchWords n (a + 4) s
      (r.1, leBytes 4 w.data ++ r.2.1, w.effect || r.2.2.1, r.2.2.2)
    else (s, [], false, s.access.response.status)

/-- The end of the prefetchable area a read lies in wholly: the process image or a declared window (R385, R523). -/
def State.prefetchEnd (a n : Nat) (s : State) : Option Nat :=
  if 0x03000000 ≤ a ∧ a + n ≤ 0x03040000 then some 0x03040000
  else
    match (List.range 4).find? fun w => decide (cfgSplPfBase s.params w ≠ 0) && decide (cfgSplPfBase s.params w ≤ a ∧ a + n ≤ cfgSplPfBase s.params w + cfgSplPfSize s.params w) with
    | some w => if s.configured then some (cfgSplPfBase s.params w + cfgSplPfSize s.params w) else none
    | none => none

/-- Some word of a range lies in an action page. -/
def State.touchesAction (a n : Nat) (s : State) : Bool :=
  (List.range ((n + 3) / 4)).any fun k => match s.window (a + 4 * k) with | some (w, off) => w.action off | none => false

/-- A write of an initiator waits for the next sync point. -/
def State.holdsFor (o : Origin) (s : State) : Bool := s.spl.held.any fun h => decide (h.origin = o)

/-- After a prefetchable read is collected, the next 64 B go into a free buffer, cut at the 4 KiB boundary and at the end of the window (R385); none while a write of the initiator is held, which a read never passes (R381, R382). -/
def State.prefetch (o : Origin) (tag a n : Nat) (s : State) : State :=
  match s.prefetchEnd a n with
  | none => s
  | some stop =>
    let b := a + n
    let len := min (min 64 (4096 - b % 4096)) (stop - b)
    if len = 0 || s.touchesAction b len || s.holdsFor o then s
    else match s.findBuf fun x => decide (x.st = .free) with
      | none => s
      | some k =>
        let r := s.fetchWords (len / 4) b
        if r.2.2.2 = 0 then r.1.modBuf k fun _ => ⟨.prefetched, o, tag, b, len, r.2.1, 0, r.2.2.1, s.now⟩ else r.1

/-- A read answered with its data. -/
def State.collect (o : Origin) (f : SpliceFrame) (b : Fin 16) (data : List Byte) (s : State) : State :=
  let s := (s.freeBuf b).modSpl fun x => { x with cntReads := satInc 65535 x.cntReads }
  (s.answer o (spliceAnswer f 0x82 0 f.address b.val data)).prefetch o f.tag f.address f.length

/-- A new read: prefetches of its initiator that it does not lie in go; then a buffer begins to fetch, or there is none (R379). -/
def State.newRead (o : Origin) (f : SpliceFrame) (s : State) : State :=
  let s := s.discardWhere fun x => decide (x.origin = o)
  match s.findBuf fun x => decide (x.st = .free) with
  | some b =>
    let s := s.modBuf b fun _ => ⟨.fetching, o, f.tag, f.address, f.length, [], 0, false, s.now⟩
    (s.countStatus 1).answer o (spliceAnswer f 0x82 1 f.address b.val [])
  | none =>
    let due := s.spl.e225At.all fun t => decide (t + 1000000000 ≤ s.now)
    let s := s.readFails o f 2
    if due then (s.modSpl fun x => { x with e225At := some s.now }).splEvent 1 (originPosition o) 0 0 else s

/-- BUFFER_HOLD_EXPIRY (R380, R385): not collected within buffer_hold; the buffer is freed. -/
def State.bufferExpiry (b : Fin 16) (s : State) : State :=
  let x : ReadBuf := s.spl.bufs[b]
  if s.spliceUp && s.configured && (decide (x.st = .ready) || decide (x.st = .prefetched)) then
    let s := (s.advance (x.since + ms (cfgSplBufferHold s.params))).modSpl fun y => { y with cntExpired := satInc 255 y.cntExpired }
    if x.st = .prefetched then s.discardPrefetch b
    else
      let s := s.freeBuf b
      if x.effect then s.splEvent 3 (originPosition x.origin) 0 x.address else s
  else s

/-- Buffers whose hold ends now are freed before a read that comes in the same tick is served (R388). -/
def State.expireBufs (s : State) : State :=
  (List.finRange 16).foldl (fun s b => if (s.spl.bufs.get b).since + ms (cfgSplBufferHold s.params) ≤ s.now then s.bufferExpiry b else s) s

/-- The table of R379 for a read that is accepted. A prefetch never serves a read behind a write of its initiator that is held (R381, R382). -/
def State.serveRead (o : Origin) (f : SpliceFrame) (s : State) : State :=
  let s := s.expireBufs
  let key (x : ReadBuf) : Bool := decide (x.origin = o) && decide (x.tag = f.tag) && decide (x.address = f.address) && decide (x.length = f.length)
  match s.findBuf fun x => key x && decide (x.st = .ready) with
  | some b =>
    let x : ReadBuf := s.spl.bufs.get b
    if x.status = 0 then s.collect o f b x.data else (s.freeBuf b).readFails o f x.status
  | none =>
    match s.findBuf fun x => key x && decide (x.st = .fetching) with
    | some b => (s.countStatus 1).answer o (spliceAnswer f 0x82 1 f.address b.val [])
    | none =>
      match s.findBuf fun x => decide (x.st = .prefetched) && decide (x.origin = o) && x.holds f.address f.length && !s.holdsFor o with
      | some b =>
        let x : ReadBuf := s.spl.bufs.get b
        let s := s.discardWhere fun y => decide (y.origin = o) && !y.holds f.address f.length
        (s.modSpl fun y => { y with cntHits := satInc 65535 y.cntHits }).collect o f b ((x.data.drop (f.address - x.address)).take f.length)
      | none =>
        match s.findBuf fun x => (decide (x.st = .ready) || decide (x.st = .fetching)) && decide (x.origin = o) && decide (x.tag = f.tag) with
        | some b => (s.freeBuf b).newRead o f
        | none => s.newRead o f

/-- FETCH_COMPLETE (R380 to R382): a fetching buffer takes the words as they read now; a fetch never passes a write of its initiator that is held. -/
def State.fetchComplete (b : Fin 16) (s : State) : State :=
  let x : ReadBuf := s.spl.bufs[b]
  if s.spliceUp && decide (x.st = .fetching) && !s.holdsFor x.origin then
    let r := s.fetchWords (x.length / 4) x.address
    r.1.modBuf b fun x => { x with st := .ready, data := r.2.1, effect := r.2.2.1, status := r.2.2.2, since := s.now }
  else s

/-! ### Host ports (R31) -/

/-- A write to a slice's registers is performed, not refused as stalled or misaligned: the prefetches it overlaps are discarded (R385). -/
def State.hostOverlaps (g : HostAgent) (i : Fin 16) (a : Nat) (s : State) : State :=
  if a % 4 = 0 ∧ i.val < s.sliceCount ∧ s.windowStalled g (.slice i) = false then s.discardWhere fun x => x.overlaps a 4 else s

/-- One 32-bit access of Splice or the MSS to a slice's registers through its host port: the answer stands for its sender, and the port has served it last. -/
def State.hostServe (g : HostAgent) (i : Fin 16) (x : HostAccess) (s : State) : State :=
  let a := 0x04000000 + i.val * 0x10000 + x.offset % 0x10000
  let s := match x.write with
    | some v => (s.hostOverlaps g i a).fabricWrite g none a v
    | none => s.fabricRead g a
  let p : HostPort := s.hostPorts[i]
  let p : HostPort := match g with
    | .splice => { p with splice := s.access }
    | .mss => { p with mss := s.access }
  { s with hostPorts := s.hostPorts.set i { p with last := some g } }

/-- HOST_PORT_ACCESS (R31): what waits at a slice's host port is served; where both wait, the one not served last goes first, at first Splice (log entry 13). -/
def State.hostPort (i : Fin 16) (splice mss : Option HostAccess) (s : State) : State :=
  let serve (g : HostAgent) (x : Option HostAccess) (s : State) : State := match x with
    | some x => s.hostServe g i x
    | none => s
  let splice := if s.hawserUp then splice else none
  let mss := if s.mssUp then mss else none
  if decide (s.hostPorts[i].last = some .splice) then serve .splice splice (serve .mss mss s) else serve .mss mss (serve .splice splice s)

/-! ### Writes (R375 to R377) -/

/-- The words of one burst in ascending order, to the first that fails. -/
def State.burstWords (o : Origin) : Nat → Nat → List Byte → State → State
  | 0, _, _, s => s
  | n + 1, a, b, s =>
    let s := s.fabricWrite .splice (some o) a (leNat (b.take 4))
    if s.access.response = .done then State.burstWords o n (a + 4) (b.drop 4) s else s

/-- Bytes of the next burst: at most 64, never across a 4 KiB boundary (R377). -/
def burstLen (a n : Nat) : Nat := min (min 64 n) (4096 - a % 4096)

/-- A write cut into bursts; the address and status of the burst that failed. -/
def State.bursts (o : Origin) : Nat → Nat → Nat → List Byte → State → State × Option (Nat × Nat)
  | 0, _, _, _, s => (s, none)
  | k + 1, a, n, b, s =>
    if n = 0 then (s, none)
    else
      let m := burstLen a n
      let s := s.burstWords o (m / 4) a b
      if s.access.response = .done then State.bursts o k (a + m) (n - m) (b.drop m) s else (s, some (a, s.access.response.status))

/-- Perform an accepted write (R375, R377); prefetches it overlaps go first (R385). -/
def State.performWrite (o : Origin) (f : SpliceFrame) (s : State) : State :=
  let s := s.discardWhere fun x => x.overlaps f.address f.length
  let r := s.bursts o 256 f.address f.length f.data
  match r.2 with
  | none => r.1.modSpl fun x => { x with cntWrites := satInc 65535 x.cntWrites }
  | some (a, st) => r.1.writeFails o f st a 0

/-- A write to the host area within 20 µs before a sync point waits for it (R376), and so does every write behind one that waits (R382). -/
def State.mustHold (o : Origin) (f : SpliceFrame) (s : State) : Bool :=
  s.holdsFor o || (decide (0x03032000 ≤ f.address ∧ f.address < 0x03034000) && decide (s.nextSync ≤ s.now + 20000))

/-- Held writes are performed after the sync point. -/
def State.releaseHeld (s : State) : State :=
  let hs := s.spl.held
  hs.foldl (fun s h => s.performWrite h.origin h.frame) (s.modSpl fun x => { x with held := [] })

/-! ### Requests (R370 to R374, R378, R386) -/

/-- A request on the service port for another position (R386): relayed in a container with a relay entry. -/
def State.relay (address port : Nat) (f : SpliceFrame) (s : State) : State :=
  let o : Origin := .udp address port
  if !(cfgSplSplFlags s.params).testBit 0 || !s.configured || !s.present f.target then s.fails o f 9 f.target
  else if (match s.spliceRoom with | some n => decide (n < spliceSize f) | none => false) then s.fails o f 6 f.target
  else if 32 ≤ s.spl.relays.length then s.fails o f 12 f.target
  else
    (s.modSpl fun x => { x with relays := x.relays ++ [(⟨address, port, f.tag, f.target, decide (f.op = 2), s.now⟩ : RelayEntry)] }).queueAsync f.target
      (.splice { f with initiator := s.hws.position, relayed := true })

/-- Address and length of a request fit (R370). -/
def frameFits (f : SpliceFrame) : Bool :=
  decide (f.address % 4 = 0) && decide (f.length % 4 = 0) && decide (4 ≤ f.length) && decide (f.length ≤ if f.op = 2 then 256 else 1024) &&
    (decide (f.op = 2) || decide (f.data.length = f.length))

/-- A request is this node's own, or relayed, or refused with its status; `serve` performs one that passes. -/
def State.request (o : Origin) (f : SpliceFrame) (serve : State → State) (s : State) : State :=
  if !s.spliceUp ∨ f.version ≠ 1 then s
  else
    let here : State :=
      if f.op ≠ 1 ∧ f.op ≠ 2 then s.fails o f 10 0
      else if f.exclusive then s.fails o f 7 0
      else if !frameFits f then s.fails o f 6 0
      else if !s.allowed o f.address f.length (decide (f.op = 1)) then (if s.mssUp then s.refuseAccess o else s).fails o f 8 0
      else serve s
    match o with
    | .udp a p => if !s.spl.linkUp then s else if f.target = 0 ∨ f.target = s.hws.position then here else s.relay a p f
    | .hawser _ => here

/-- SPLICE_WRITE (R375). A frame that is a read or an answer is none. -/
def State.spliceWrite (o : Origin) (f : SpliceFrame) (s : State) : State :=
  if f.op = 2 ∨ f.op = 0x81 ∨ f.op = 0x82 then s
  else s.request o f (fun s =>
    if s.mustHold o f then (s.discardWhere fun x => x.overlaps f.address f.length).modSpl fun x => { x with held := x.held ++ [⟨o, f⟩] } else s.performWrite o f)

/-- SPLICE_READ (R379). -/
def State.spliceRead (o : Origin) (f : SpliceFrame) (s : State) : State :=
  if f.op = 2 then s.request o f (fun s => s.serveRead o f) else s

/-! ### Answers that return (R384, R386, R387) -/

def RelayEntry.matches_ (f : SpliceFrame) (r : RelayEntry) : Bool := decide (r.tag = f.tag) && decide (r.target = f.target)

/-- READ_RESPONSE_RECEIVE (R386): to the tool, and the entry closes; one of another version is discarded (R370). -/
def State.readResponse (f : SpliceFrame) (s : State) : State :=
  if !s.hawserRuns ∨ f.version ≠ 1 then s
  else match s.spl.relays.findIdx? fun r => r.isRead && r.matches_ f with
    | none => s
    | some i =>
      let r := s.spl.relays[i]?
      let s := s.modSpl fun x => { x with relays := x.relays.eraseIdx i }
      match r with
      | some r => s.answer (.udp r.address r.port) f
      | none => s

/-- WRITE_ERROR_RECEIVE (R384): logged, and to the tool while its entry is open; one of another version is discarded (R370). -/
def State.writeErrorReceive (f : SpliceFrame) (s : State) : State :=
  if !s.hawserRuns ∨ f.version ≠ 1 then s
  else
    let s := s.postError f.address f.tag f.status f.target
    match s.spl.relays.find? fun r => !r.isRead && r.matches_ f with
    | some r => s.answer (.udp r.address r.port) f
    | none => s

/-- A relay entry ends without its answer: status 9 to the tool of a read. -/
def State.closeRelay (r : RelayEntry) (s : State) : State :=
  if r.isRead then s.answer (.udp r.address r.port) ⟨1, 0x82, r.tag, r.target, 0, false, true, 9, 0, 0, 0xFF, []⟩ else s

/-- RELAY_TIMEOUT (R386): relay_timeout for a read, with E230; 1 s for a write. -/
def State.relayTimeout (i : Nat) (s : State) : State :=
  if !s.hawserRuns then s
  else match s.spl.relays[i]? with
    | none => s
    | some r =>
      let s := s.advance (r.at_ + (if r.isRead then ms (cfgSplRelayTimeout s.params) else 1000000000))
      let s := (s.modSpl fun x => { x with relays := x.relays.eraseIdx i }).closeRelay r
      if r.isRead then s.splEvent 6 r.target 0 0 else s

/-- A numbering takes force (R387): buffers of Hawser initiators and all relay entries close. -/
def State.spliceRenumbered (s : State) : State :=
  let rs := s.spl.relays
  let s := s.modSpl fun x => { x with
    relays := []
    bufs := x.bufs.map fun (b : ReadBuf) => (match b.origin with | .hawser _ => ReadBuf.reset | .udp _ _ => b) }
  rs.foldl (fun s r => s.closeRelay r) s

/-! ### Service port (R372) -/

/-- The splice frame a datagram holds (R370); none where it is shorter than a header. A read carries no data. -/
def spliceOf (b : List Byte) : Option SpliceFrame :=
  let at_ (k n : Nat) : Nat := leNat ((b.drop k).take n)
  if b.length < 16 then none
  else some ⟨at_ 0 1, at_ 1 1, at_ 2 2, at_ 4 1, at_ 5 1, (at_ 6 1).testBit 0, (at_ 6 1).testBit 1, at_ 7 1, at_ 8 4, at_ 12 2, at_ 14 1, if at_ 1 1 = 2 then [] else b.drop 16⟩

/-- SERVICE_PORT_PACKET: ARP and ICMP echo for the own address are answered; fragments, datagrams to other ports and those with a wrong checksum, 0 being none, are discarded; the splice frame of any other is a write or a read. -/
def State.servicePacket (p : Packet) (s : State) : State :=
  let reply (to_ : Nat) (s : State) : State := s.send ⟨.service to_ 0, 0, (s.header 0 false false 0 0), .packet p⟩
  if !s.spliceUp || !s.spl.linkUp then s
  else match p with
    | .arp a from_ => if a = s.ipAddress then reply from_ s else s
    | .icmpEcho a from_ fragment _ => if a = s.ipAddress ∧ fragment = false then reply from_ s else s
    | .udp a from_ sport dport fragment sum content =>
      if a = s.ipAddress ∧ dport = s.udpPort ∧ fragment = false ∧ (sum = 0 ∨ sum = udpChecksum from_ a sport dport content) then
        match spliceOf content with
        | some f => if f.op = 2 then s.spliceRead (.udp from_ sport) f else s.spliceWrite (.udp from_ sport) f
        | none => s
      else s
    | .other => s

/-- SERVICE_PORT_LINK_CHANGE. -/
def State.serviceLink (up : Bool) (s : State) : State := if s.spliceUp then s.modSpl fun x => { x with linkUp := up } else s

end Sys2Proof.Machine
end

