-- ==== Sys2Proof/Machine/Sync.lean ====
section
/-! DEFINITION. One sync point of the node (R21, R40, R51, R366): regions, slices, backbone, twin, loop cell and MSS. -/

namespace Sys2Proof.Machine

/-! ### The slice regions (R20, R337) -/

/-- What a slice has written in the cycle that ends: its receive objects, with their ages, and completion (R224, R337). -/
def State.sliceCycleEnd (i : Fin 16) (s : State) : State :=
  if s.sliceRuns i then
    let s := s.modSlice i fun sl =>
      let e := s.env i
      sl.regionDone.modCan fun c => { c with rx := Vector.ofFn fun r : Fin 32 => if cfgBusRxMask e.p e.i r.val = 0 then c.rx[r] else c.rx[r].atSync }
    let c := s.slices[i].can
    s.modRegion (.slice i) fun x =>
      let x := (List.finRange 32).foldl (fun (x : Region) r =>
        if cfgBusRxMask s.params i.val r.val = 0 then x else x.write (0x1000 + r.val * 0x50) (c.rx[r]).bytes) x
      { x with completed := true }
  else s

/-- The lowest supply voltages of the running door cycle (R484). -/
def CycleAcc.noteSupply (motor load : Nat) (c : CycleAcc) : CycleAcc :=
  if c.running then { c with minMotor := some (min motor (c.minMotor.getD motor)), minLoad := some (min load (c.minLoad.getD load)) } else c

/-- The car bus at a sync point: the basic cycle and a recovery count on, changed payloads are requested (R339, R341). -/
def Slice.canSync (e : Env) (tcyc hawserCycle : Nat) (pay : Fin 16 → List Byte) (sl : Slice) : Slice :=
  (((sl.countCycle e hawserCycle).countRecessive e).requestChanged e pay).tryStart e tcyc pay

/-- Where a slice writes its portal, axis, input, switch and car bus data in its region (R20): the place of each run of status words, its first register in the slice's window, and how many. The first word of all is PRT_STATE (R54); the rest of the layout is the model's (DESIGN CHOICE, log entry 44). -/
def sliceData : List (Nat × Nat × Nat) :=
  [(0x000, 0x0000, 4)] ++
  ([1, 2, 3].flatMap fun a => [(a * 0x100, a * 0x1000, 10), (a * 0x100 + 0x40, a * 0x1000 + 0x40, 11)]) ++
  [(0x400, 0x4000, 16), (0x500, 0x5000, 19), (0x554, 0x5054, 1), (0x600, 0x6000, 20), (0x664, 0x6064, 1), (0x670, 0x6070, 2)]

/-- The bytes of a run of status words as they read now. -/
def State.sliceRun (i : Fin 16) (base n : Nat) (s : State) : List Byte := (List.range n).flatMap fun k => leBytes 4 (s.readSlice i (base + 4 * k))

/-- A slice's data go into the shadow copy of its region (R20). -/
def State.writeSliceData (i : Fin 16) (s : State) : State :=
  s.modRegion (.slice i) fun x => sliceData.foldl (fun (x : Region) r => x.write r.1 (s.sliceRun i r.2.1 r.2.2)) x

/-- The sequencer of a slice has evaluated for an own sync point (R51). -/
def State.evaluated (i : Fin 16) (m : Int) (s : State) : Bool :=
  match s.slices[i].evalAt with
  | some l => decide (m ≤ l)
  | none => false

/-- A slice's own sync point, the multiple `m` of its time counter (R40, R51): its evaluation, unless the expiry of one of its timers has made it already (R52), and what it leaves for the next one. -/
def State.sliceAt (i : Fin 16) (m : Int) (s : State) : State :=
  if s.sliceRuns i then
    let g : Group := s.groups[groupOf i]
    let pay := s.payloads i
    let seen := s.evaluated i m
    let s := if seen then s else s.openCycle i m (s.cyclesSince i m * s.tcyc)
    (s.modSlice i fun sl =>
      let e := s.envAt (s.clocks[i.val].counter.reaches m) i
      let sl := if seen then sl else if e.active then sl.syncActive e else sl.syncStandby e
      let sl := sl.modPortal fun q => { q with acc := q.acc.noteSupply g.motorV g.loadV }
      ((sl.tetherHolds e s.tcyc).canSync e s.tcyc (s.hws.cycle + 1) pay).offerHeld).writeSliceData i
  else s

/-- The sync points of a slice that fall to the node's (R40). -/
def State.sliceSync (i : Fin 16) (due : List Int) (s : State) : State := due.foldl (fun s m => s.sliceAt i m) s

/-! ### The regions switch (R21, R23) -/

/-- All completed shadow copies become visible together; the others age. -/
def State.switchRegions (s : State) : State :=
  { s with
    sliceRegions := s.sliceRegions.map Region.atSync
    hwsRegion := s.hwsRegion.atSync
    splRegion := s.splRegion.atSync
    mssRegion := s.mssRegion.atSync }

/-- Splice at the sync point: a kind 3 pass that has not ended gives E205 (R287, R388); prefetches of the process image go (R385); the kind 3 pass runs and held host writes follow (R366, R376). -/
def State.spliceSync (s : State) : State :=
  if s.hawserUp then
    let late := s.hawserRuns && !s.spl.passDone
    let s := s.modSpl fun x => { x with regionLate := late, passDone := false }
    let s := if late then s.hwsEvent 13 0 0 0 else s
    let s := s.discardWhere fun x => x.overlaps 0x03000000 0x40000
    let s := if s.configured then s.mappingPass else s
    s.releaseHeld
  else s

/-! ### The sync point -/

/-- What the ending cycle leaves before the regions switch. -/
def State.cycleEnd (s : State) : State :=
  let s := s.hwsCycleEnd.barrierCheck
  let s := if s.hawserRuns then s.staleEntries else s
  (s.eachSlice fun i s => s.sliceCycleEnd i).mssRegionWrite

/-- What the opening cycle begins with, after the slices. -/
def State.cycleStart (s : State) : State :=
  let s := if s.hawserRuns then s.deliverRemote else s
  let s := s.hwsCycleStart.inaugAtSync
  let s := if s.hawserRuns then s.takeModeRequest.takeHwsCommand else s
  let s := s.trialWatch.probationCount.dueRestart.refreshLastWord
  s.twinSend

/-- SYNC_POINT: the next multiple of T_CYC in common time. The operands are what the loop cell's pulse gives, if one is made, and the level of AUTH_IN. -/
def State.syncPoint (p : Pulse) (authIn : Bool) (s : State) : State :=
  let n := s.leaderPasses
  let s := s.advance s.nextSync
  let s := s.cycleEnd.switchRegions
  let due := Vector.ofFn fun k : Fin 17 => s.ownDue k n s.now
  let s := s.markSync due
  let s := s.twinAtSync authIn
  let s := (s.eachSlice fun i s => s.sliceSync i due[clockOf i]).hitchCommand
  let s := (s.loopAtSync p).spliceSync
  s.cycleStart

end Sys2Proof.Machine
end

