-- ==== Sys2Proof/Machine/Commands.lean ====
section
/-! DEFINITION. What the meanings of the commands share: their outcome, the instants at which timers fall due, register writes with a row of their own, and the switch to a new directory. -/

namespace Sys2Proof.Machine

/-- What a command answers. -/
abbrev Result := Host.Outcome State Fault Refusal

/-- Every command ends in a next state, and the free values of the next command are fresh. -/
def State.complete (s : State) : Result := .next s.draw

/-! ### Commands that a timer gives -/

/-- Do something in a slice at the instant that a timer names; nothing where no such timer runs. -/
def State.onSliceAt (i : Fin 16) (due : Env → Slice → Option Nat) (f : Env → Slice → Slice) (s : State) : State :=
  match due (s.env i) s.slices[i] with
  | some t => if s.sliceRuns i then (s.advance t).onSlice i f else s
  | none => s

/-- The same in a power island. -/
def State.onPowerAt (i : Fin 16) (due : Env → Slice → Option Nat) (f : Env → Slice → Slice) (s : State) : State :=
  match due (s.env i) s.slices[i] with
  | some t => if s.powerUp i then (s.advance t).onPower i f else s
  | none => s

/-! ### Timers of the sequencer (R52, R65) -/

/-- A slice's own sync points from its last one to the first at which its cycle time has reached `due` (R52): so many cycles. -/
def State.cyclesTo (i : Fin 16) (due : Int) (s : State) : Nat := ((due - s.slices[i].cycleT + s.tcyc - 1) / s.tcyc).toNat

/-- That sync point, as a count of the slice's time counter (R40). -/
def State.multipleAt (i : Fin 16) (due : Int) (s : State) : Int :=
  let q := periodQ s.tcyc
  multipleBelow q (s.slices[i].evalAt.getD (multipleBelow q (s.clocks[i.val].counter.read s.now)) + s.cyclesTo i due * q)

/-- The module at that sync point: the instant, and the slice's cycles counted on (R40, R52). -/
def State.atSyncFrom (i : Fin 16) (due : Int) (s : State) : State :=
  let m := s.multipleAt i due
  (s.advance (s.clocks[i.val].counter.reaches m)).openCycle i m (s.cyclesTo i due * s.tcyc)

/-- A timer of the sequencer can act: the slice runs, the module drives, and no evaluation has seen the timer expired (R52). -/
def State.timerActs (i : Fin 16) (due : Int) (s : State) : Bool := s.sliceRuns i && s.active && decide ((s.slices[i].cycleT : Int) < due)

/-- The surroundings of a slice at its sync point before the other islands have taken it: Splice's region as it stands once the shadow copies have become visible (R21). -/
def State.envAhead (i : Fin 16) (s : State) : Env := { s with splRegion := s.splRegion.atSync }.env i

/-- The expiry of a timer of an active portal: at the first sync point at which its time has elapsed, the slice's evaluation takes it (R52). A timer that an evaluation has already seen expired has no effect of its own, and there is one evaluation to a sync point (R51). -/
def State.portalExpiry (i : Fin 16) (due : Env → Slice → Option Int) (s : State) : State :=
  match due (s.env i) s.slices[i] with
  | some t =>
    if s.timerActs i t then
      let s := s.atSyncFrom i t
      s.modSlice i fun sl => sl.syncActive (s.envAhead i)
    else s
  | none => s

/-- The timer that PRT_TIMER shows, where it has number `n`. -/
def Slice.timerDue (n : Nat) (e : Env) (sl : Slice) : Option Int := if (sl.timer e).1 = n then some (sl.timer e).2 else none

/-- open_timeout runs through the pauses of OPENING as well. -/
def Slice.openDue (e : Env) (sl : Slice) : Option Int := if sl.portal.st = .opening then some (sl.portal.tState + ms (cfgPrtOpenTimeout e.p e.i)) else none

/-- lock_pull_ms of a latching lock (R69). -/
def Slice.lockPullDue (e : Env) (sl : Slice) : Option Int := if sl.portal.st = .locking then some (sl.portal.tState + ms (cfgPrtLockPullMs e.p e.i)) else none

/-- unlock_pulse_ms (R69). -/
def Slice.unlockPulseDue (e : Env) (sl : Slice) : Option Int :=
  if sl.portal.st = .unlocking ∧ e.heldLock = false then some (sl.portal.tState + ms (cfgPrtUnlockPulseMs e.p e.i)) else none

/-- S2 alone for longer than lock_confirm_ms (R70). -/
def Slice.s2AloneDue (e : Env) (sl : Slice) : Option Int := sl.portal.s2Alone.map fun t => t + ms (cfgPrtLockConfirmMs e.p e.i) + 1

/-! ### Timers of axes and inputs -/

/-- End of the chatter window of a homing run (R130). -/
def Slice.chatterDue (e : Env) (a : Fin 3) (sl : Slice) : Option Nat := (sl.axes[a].m.home.bind fun h => h.chatterAt).map fun t => t + ms (cfgAxHomeChatterMs e.p e.i a.val)

/-- 20 ms after the stall of a homing run (R130). -/
def Slice.homeWaitDue (a : Fin 3) (sl : Slice) : Option Nat := (sl.axes[a].m.home.bind fun h => h.stallAt).map fun t => t + ms 20

/-- reclose_pause_ms after an auxiliary axis was stopped (R164). -/
def Slice.reissueDue (e : Env) (a : Fin 3) (sl : Slice) : Option Nat := sl.axes[a].m.interrupted.map fun x => x.2 + ms (cfgPrtReclosePauseMs e.p e.i)

/-- stuck_timeout of an input (R180). -/
def Slice.stuckTime (e : Env) (k : Fin 16) (sl : Slice) : Option Nat :=
  let d := sl.inp.dig[k]
  if decide (cfgInpStuckTimeout e.p e.i k.val ≠ 0) && d.deb && !d.stuck then some (d.activeAt + ms (cfgInpStuckTimeout e.p e.i k.val * 1000)) else none

/-- chatter_quiet of a flagged input (R181). -/
def Slice.quietTime (e : Env) (k : Fin 16) (sl : Slice) : Option Nat :=
  let d := sl.inp.dig[k]
  if d.chatter then some (d.changeAt + ms (cfgInpChatterQuiet e.p e.i k.val)) else none

/-- twin_compare_ms of an input that differs (R183). -/
def Slice.twinDiffTime (e : Env) (k : Fin 16) (sl : Slice) : Option Nat := sl.inp.dig[k].diffAt.map fun t => t + ms (cfgInpTwinCompareMs e.p e.i)

/-- The instant of an axis's next step edge in half ns: the expiry of its interval timer, or now while that does not run (R97, R111); not within 1 µs of the last one (R99, R124), nor before the first PWM edge (R137). -/
def State.edgeBase (i : Fin 16) (a : Fin 3) (s : State) : Nat :=
  let x := s.slices[i].axes[a]
  max (x.m.edgeAt.getD (max (2 * s.now) ((x.m.lastEdge.map fun t => t + 2000).getD 0))) (2 * x.d.pwmFrom)

/-- A step edge of a driven axis, at the expiry of its interval timer (R98, R100). -/
def State.edgeTick (i : Fin 16) (a : Fin 3) (s : State) : State :=
  if s.slices[i].axes[a].d.mode.driven && s.sliceRuns i then
    let t := s.edgeBase i a
    (s.advance ((t + 1) / 2)).onSlice i fun e sl => sl.timedEdge e a t
  else s

/-- One estimator period, at the slice's next multiple of 25 µs (R143). -/
def State.estimatorTick (i : Fin 16) (x0 x1 x2 : PhaseAvg) (s : State) : State :=
  if s.sliceRuns i then
    let t := s.clocks[i.val].counter.nextMultiple 25000 s.slices[i].estAt s.now
    let s := s.advance t
    s.modSlice i fun sl => { sl.estimatorPeriod (s.env i) x0 x1 x2 with estAt := t }
  else s

/-- One sample of the inputs, at the slice's next multiple of 100 µs (R176). -/
def State.sampleTick (i : Fin 16) (pins : Vector Int 16) (lines : Vector Int 5) (s : State) : State :=
  if s.sliceRuns i then
    let t := s.clocks[i.val].counter.nextMultiple 100000 s.slices[i].inp.sampleAt s.now
    (s.advance t).onSlice i fun e sl => sl.inputSample e t pins lines
  else s

/-! ### Timers of switches and tether -/

/-- retry_delay after a trip (R205). -/
def Slice.retryDue (k : Fin 6) (sl : Slice) : Option Nat := if sl.sw.ch[k].st = .thermalOff then some (sl.sw.ch[k].tripAt + ms sl.sw.tether.stored.retryDelay[k]) else none

/-- retry_reset since the channel came on, or since its command turned off (R205). -/
def Slice.tripDue (k : Fin 6) (sl : Slice) : Option Nat :=
  let c := sl.sw.ch[k]
  let t := ms (sl.sw.tether.stored.retryReset[k] * 1000)
  if c.st = .on then some (c.onAt + t) else if c.cmd then none else some (c.cmdOffAt + t)

/-- 100 ms after the channel went off, and a second after its last test (R211). -/
def Slice.diagDue (k : Fin 6) (sl : Slice) : Option Nat :=
  let c := sl.sw.ch[k]
  if c.st = .off then some (max (c.offAt + ms 100) ((c.testedAt.map fun t => t + ms 1000).getD 0)) else none

/-- 100 ms after the channel came on, or after its current came to its side of min_current (R212). -/
def Slice.underDue (k : Fin 6) (sl : Slice) : Option Nat :=
  let c := sl.sw.ch[k]
  if c.st = .on then some ((if c.side.isSome then c.sideAt else c.onAt) + ms 100) else none

/-- The earliest instant of R216; that of the refresh before, where one has just arrived (R226). -/
def Slice.tetherDue (now : Nat) (sl : Slice) : Option Nat :=
  let t := sl.sw.tether
  if t.storedValid then some ((if t.lastRefresh = now then t.prevRefresh else t.lastRefresh) + t.stored.timeoutMs * 950000) else none

/-- The basic cycle of a slice that is due starts ref_offset after the slice's own sync point (R341). -/
def State.basicCycleDue (i : Fin 16) (s : State) : Option Nat :=
  if s.slices[i].can.armed then some (s.clocks[i.val].syncAt + cfgBusRefOffset s.params i * 1000) else none

/-- A reference message that waits is late tx_enable nominal bits after the start of its window (R343). -/
def Slice.referenceDue (e : Env) (sl : Slice) : Option Nat :=
  if sl.can.refWaits then some (sl.can.bcAt + (((cfgBusTxEnable e.p e.i : Nat) : Rat) * e.nominalBit).ceil.toNat) else none

/-- The earliest end of a recovery: 128 sequences of 11 recessive bits after its begin (R352). -/
def Slice.recoveryDue (e : Env) (sl : Slice) : Option Nat := if sl.can.mode = .busOff then some (sl.can.recoverAt + e.recessiveTime 128) else none

/-- Start of a column after its basic cycle's, ns (R344). -/
def State.columnOffset (i : Fin 16) (j : Nat) (s : State) : Nat := let c := s.slices[i].can; (c.bank c.activeBank).col j * 1000

/-! ### Registers with a row of their own -/

/-- A write to a register of a slice; none while its engine stands. -/
def State.sliceRegister (i : Fin 16) (off v : Nat) (s : State) : State := if s.engineUp i then (s.writeSlice i off v).1 else s

/-- A write to a register of the Hawser island. -/
def State.hawserRegister (f : State → State) (s : State) : State := if s.hawserUp then f s else s

/-- An access by the MSS over the fabric; none while it stands. Remote initiators access by Splice's own commands (log entry 2). -/
def State.mssAccess (f : State → State) (s : State) : State := if s.mssUp then f s else s

/-- Offset of an axis' block in its slice's window. -/
def axisOffset (a : Fin 3) : Nat := 0x1000 * (a.val + 1)

/-- A write to the selected cell of the matrix, answered "bank active" where it is refused (R348). -/
def State.matrixWrite (i : Fin 16) (v : Nat) (s : State) : State :=
  if s.engineUp i then
    let r := s.writeSlice i 0x605C v
    r.1.respond (if r.2 then .bankActive else .done) 0 false
  else s

/-- The island of an agent runs. -/
def State.agentUp (g : Agent) (s : State) : Bool :=
  match g with
  | .slice i => s.engineUp i
  | .hawser | .splice | .remote => s.hawserUp
  | .mss => s.mssUp

/-! ### A new numbering -/

/-- DIRECTORY_SWITCH (R310): the directory takes force with what R387, R405 and R324 join to it. -/
def State.directorySwitch (s : State) : State :=
  match s.ina.pendingDir with
  | some d =>
    if s.switchDue d then
      let old := if s.hws.position = 0 then none else some ((s.carAt (s.nearBelow s.twinPosition)).map (·.1), (s.carAt (s.nearAbove s.twinPosition)).map (·.1))
      (((s.takeDirectory d).refereeRenumbered old).spliceRenumbered).dueFallback
    else s
  | none => s

end Sys2Proof.Machine
end

