-- ==== Sys2Proof/Machine/AxisCommands.lean ====
section
/-! DEFINITION. Commands of the axes and their drives (files 03 and 04). -/

namespace Sys2Proof.Machine

/-- STEP_EDGE (R100): the interval timer expires; one microstep and what follows from it. -/
def execStepEdge (i : Fin 16) (a : Fin 3) (s : State) : Result :=
  State.complete (s.edgeTick i a)

/-- AX_STOP (R120): AX_COMMAND code 1, taken at the next sync point. -/
def execAxStop (i : Fin 16) (a : Fin 3) (s : State) : Result :=
  State.complete (s.sliceRegister i (axisOffset a + 0x028) 1)

/-- AX_TEST_MOVE (R110): AX_COMMAND code 2, taken at the next sync point. -/
def execAxTestMove (i : Fin 16) (a : Fin 3) (s : State) : Result :=
  State.complete (s.sliceRegister i (axisOffset a + 0x028) 2)

/-- HOME_CONFIRM_EDGE (R130): the confirmation input of a homing axis. -/
def execHomeConfirmEdge (i : Fin 16) (a : Fin 3) (active : Bool) (s : State) : Result :=
  State.complete (s.onSlice i fun e sl => sl.homeConfirmEdge e a active)

/-- HOME_CHATTER_WINDOW_END (R130): an inactive input discards the latch. -/
def execHomeChatterWindowEnd (i : Fin 16) (a : Fin 3) (s : State) : Result :=
  State.complete (s.onSliceAt i (fun e sl => sl.chatterDue e a) fun e sl => sl.homeChatterEnd e a)

/-- HOME_CONFIRM_WAIT_EXPIRY (R130): homing fails with code 3. -/
def execHomeConfirmWaitExpiry (i : Fin 16) (a : Fin 3) (s : State) : Result :=
  State.complete (s.onSliceAt i (fun _ sl => sl.homeWaitDue a) fun e sl => sl.homeWaitEnd e a)

/-- ESTIMATOR_PERIOD (R143): one PWM period of the three axes. -/
def execEstimatorPeriod (i : Fin 16) (x0 x1 x2 : PhaseAvg) (s : State) : Result :=
  State.complete (s.estimatorTick i x0 x1 x2)

/-- AUXILIARY_MOVE_REISSUE (R164): the interrupted move again. -/
def execAuxiliaryMoveReissue (i : Fin 16) (a : Fin 3) (s : State) : Result :=
  State.complete (s.onSliceAt i (fun e sl => sl.reissueDue e a) fun e sl => sl.reissueAux e a)

/-- BRIDGE_OVERCURRENT_TRIP (R135): drive fault 1. -/
def execBridgeOvercurrentTrip (i : Fin 16) (a : Fin 3) (s : State) : Result :=
  State.complete (s.onSlice i fun e sl => if sl.axes[a].d.mode = .free then sl else sl.driveFault e a 1 false)

/-- ISOLATOR_CONFIRMED (R137): the bridges are enabled, or drive fault 3. -/
def execIsolatorConfirmed (i : Fin 16) (a : Fin 3) (short : Bool) (s : State) : Result :=
  State.complete (s.onSlice i fun e sl => sl.isolatorConfirmed e a short)

/-- RESISTANCE_TRACKING_WINDOW (R153): 200 ms of hold. -/
def execResistanceTrackingWindow (i : Fin 16) (a : Fin 3) (ua ia ub ib : Nat) (s : State) : Result :=
  State.complete (s.onSlice i fun e sl => sl.trackResistance e a ua ia ub ib)

/-- TEACH_CYCLE (R151): AX_DRIVE_COMMAND code 1 of A0, taken at the next sync point. -/
def execTeachCycle (i : Fin 16) (s : State) : Result :=
  State.complete (s.sliceRegister i 0x106C 1)

/-- TEACH_CYCLE_END (R152): what the cycle measured on one axis: resistance and inductance of both phases, capacitance, back-EMF constant and noise. -/
def execTeachCycleEnd (i : Fin 16) (a : Fin 3) (r l : Nat × Nat) (c ke noise : Nat) (s : State) : Result :=
  State.complete (s.onSlice i fun e sl => sl.teachEnd e a ⟨r.1, r.2, l.1, l.2, c, ke, noise⟩)

/-- ENVELOPE_RESET (R161): AX_DRIVE_COMMAND code 2, taken at the next sync point. -/
def execEnvelopeReset (i : Fin 16) (a : Fin 3) (s : State) : Result :=
  State.complete (s.sliceRegister i (axisOffset a + 0x06C) 2)

/-- ENVELOPE_FREEZE (R160): AX_DRIVE_COMMAND code 3, taken at the next sync point. -/
def execEnvelopeFreeze (i : Fin 16) (a : Fin 3) (s : State) : Result :=
  State.complete (s.sliceRegister i (axisOffset a + 0x06C) 3)

/-- ENVELOPE_END_FREEZE (R160): AX_DRIVE_COMMAND code 4, taken at the next sync point. -/
def execEnvelopeEndFreeze (i : Fin 16) (a : Fin 3) (s : State) : Result :=
  State.complete (s.sliceRegister i (axisOffset a + 0x06C) 4)

end Sys2Proof.Machine
end

