-- ==== Sys2Proof/Machine/BecketCommands.lean ====
section
/-! DEFINITION. Commands of the configuration loader (file 13). -/

namespace Sys2Proof.Machine

/-- LOADER_RUN (R447): the bundle is read and checked. -/
def execLoaderRun (s : State) : Result :=
  State.complete (s.loaderRun)

/-- CFG_CHECK_SLOT (R437): CFG_COMMAND code 1. -/
def execCfgCheckSlot (slot : Fin 4) (s : State) : Result :=
  State.complete ((s.slotCommand slot).cfgCheckSlot slot)

/-- CFG_ACTIVATE_SLOT (R440): CFG_COMMAND code 2. -/
def execCfgActivateSlot (slot : Fin 4) (s : State) : Result :=
  State.complete ((s.slotCommand slot).cfgActivateSlot slot)

/-- CFG_RETURN_TO_PREVIOUS (R441): CFG_COMMAND code 3. -/
def execCfgReturnToPrevious (s : State) : Result :=
  State.complete (s.cfgReturn)

/-- CFG_END_PROBATION (R446): CFG_COMMAND code 4. -/
def execCfgEndProbation (s : State) : Result :=
  State.complete (s.cfgEndProbation)

/-- CFG_ERASE_SLOT (R427): CFG_COMMAND code 5. -/
def execCfgEraseSlot (slot : Fin 4) (s : State) : Result :=
  State.complete ((s.slotCommand slot).cfgEraseSlot slot)

/-- PROBATION_PROGRESS (R444): an entry of the journal. -/
def execProbationProgress (s : State) : Result :=
  State.complete (s.probationProgress)

/-- PROBATION_FAILURE (R445): rolled back. -/
def execProbationFailure (cause : Fin 6) (s : State) : Result :=
  State.complete (s.probationFailure cause)

/-- PLUG_FAULT (R448): E255. -/
def execPlugFault (f : PlugError) (s : State) : Result :=
  State.complete (s.plugFault f)

/-- SLOT_CHECK_COMPLETE (R437): CFG_CMD_STATUS. -/
def execSlotCheckComplete (s : State) : Result :=
  State.complete (s.slotCheckComplete)

/-- SLOT_ERASE_COMPLETE (R429): state 0. -/
def execSlotEraseComplete (s : State) : Result :=
  State.complete (s.slotEraseComplete)

/-- PLUG_PRESENCE_CHANGE (R547): pin 7 of X8. -/
def execPlugPresenceChange (present : Bool) (image : List (Nat × Byte)) (s : State) : Result :=
  State.complete (s.plugPresence present image)

end Sys2Proof.Machine
end

