-- ==== Sys2Proof/Machine/CarBusCommands.lean ====
section
/-! DEFINITION. Commands of the car buses (file 10). -/

namespace Sys2Proof.Machine

/-- CAN_FRAME_RECEIVE (R336): filtered into its object. -/
def execCanFrameReceive (i : Fin 16) (f : CanFrame) (s : State) : Result :=
  State.complete (s.onSlice i fun e sl => ((sl.canReceive e f).settleErrors e).tryStart e s.tcyc (s.payloads i))

/-- CAN_FRAME_END (R338): sent, or arbitration lost. -/
def execCanFrameEnd (i : Fin 16) (sent : Bool) (sof : Nat) (s : State) : Result :=
  State.complete (s.onSlice i fun e sl => (sl.canFrameEnd e s.tcyc (s.payloads i) sent sof).settleErrors e)

/-- BASIC_CYCLE_START (R341): the reference window. -/
def execBasicCycleStart (i : Fin 16) (idle : Bool) (s : State) : Result :=
  State.complete (s.onSliceAt i (fun _ _ => s.basicCycleDue i) fun e sl => sl.basicCycleStart e idle)

/-- COLUMN_START (R344): its window type decides. -/
def execColumnStart (i : Fin 16) (j : Nat) (idle : Bool) (s : State) : Result :=
  State.complete ((s.advance (s.slices[i].can.bcAt + s.columnOffset i j)).onSlice i fun e sl => sl.columnStart e s.tcyc (s.payloads i) j idle)

/-- REFERENCE_LATE (R343): counted and raised. -/
def execReferenceLate (i : Fin 16) (s : State) : Result :=
  State.complete (s.onSliceAt i Slice.referenceDue fun e sl => sl.referenceLate e)

/-- CBS_TX_REQUEST (R340): CBS_TX_REQUEST. -/
def execCbsTxRequest (i : Fin 16) (bits : Nat) (s : State) : Result :=
  State.complete (s.sliceRegister i 0x6050 bits)

/-- CBS_TX_CANCEL (R355): CBS_TX_CANCEL. -/
def execCbsTxCancel (i : Fin 16) (bits : Nat) (won : Bool) (s : State) : Result :=
  State.complete (s.onSlice i fun _ sl => sl.canCancel bits won)

/-- CBS_MATRIX_WRITE (R348): CBS_MATRIX_DATA. -/
def execCbsMatrixWrite (i : Fin 16) (value : Nat) (s : State) : Result :=
  State.complete (s.matrixWrite i value)

/-- CBS_BANK_SWITCH (R349): CBS_BANK_COMMAND code 1. -/
def execCbsBankSwitch (i : Fin 16) (s : State) : Result :=
  State.complete (s.sliceRegister i 0x6060 1)

/-- CBS_BANK_COPY (R349): CBS_BANK_COMMAND code 2. -/
def execCbsBankCopy (i : Fin 16) (s : State) : Result :=
  State.complete (s.sliceRegister i 0x6060 2)

/-- CAN_ERROR (R351): the error counters. -/
def execCanError (i : Fin 16) (kind : Nat) (dataPhase transmitter heavy : Bool) (s : State) : Result :=
  State.complete (s.onSlice i fun e sl => (sl.canError e kind dataPhase transmitter heavy).tryStart e s.tcyc (s.payloads i))

/-- BUS_OFF_RECOVERY_COMPLETE (R352): 128 × 11 recessive bits have been seen since the counting began. -/
def execBusOffRecoveryComplete (i : Fin 16) (s : State) : Result :=
  State.complete (s.onSliceAt i Slice.recoveryDue fun e sl => sl.busRecovered e s.tcyc (s.payloads i))

/-- CBS_RECOVERY_START (R352): CBS_COMMAND code 1. -/
def execCbsRecoveryStart (i : Fin 16) (s : State) : Result :=
  State.complete (s.sliceRegister i 0x6068 1)

/-- TRANSCEIVER_FAULT (R354): raised once. -/
def execTransceiverFault (i : Fin 16) (present : Bool) (s : State) : Result :=
  State.complete (s.onSlice i fun e sl => sl.transceiverFault e present)

end Sys2Proof.Machine
end

