-- ==== Sys2Proof/Machine/HawserCommands.lean ====
section
/-! DEFINITION. Commands of the Hawser cycle (file 08). -/

namespace Sys2Proof.Machine

/-- LINK_UP (R252): E192 and a hello. -/
def execLinkUp (port : Fin 4) (phyMaster : Bool) (s : State) : Result :=
  State.complete (s.linkUp port phyMaster)

/-- LINK_DOWN (R255): folded, and checked for a cut. -/
def execLinkDown (port : Fin 4) (s : State) : Result :=
  State.complete (s.linkDown port)

/-- LINK_DELAY_MEASUREMENT (R254): four stamps in 1/65536 ns. -/
def execLinkDelayMeasurement (port : Fin 4) (t1 t2 t3 t4 : Int) (s : State) : Result :=
  State.complete (s.measureLink port t1 t2 t3 t4)

/-- FRAME_INSERTION (R263): at its place in the schedule. -/
def execFrameInsertion (c : Fin 2) (what : Slotted) (s : State) : Result :=
  State.complete (s.insertFrame c what)

/-- BEACON_RECEIVE (R275): clock, d, guardian windows, calendar. -/
def execBeaconReceive (port : Fin 4) (h : HwsHeader) (b : Beacon) (rx : Nat) (s : State) : Result :=
  State.complete (s.beaconReceive port h b rx)

/-- HAWSER_FRAME_RECEIVE (R272): through the guardian, then copied. -/
def execHawserFrameReceive (port : Fin 4) (h : HwsHeader) (body : Body) (arrival : Arrival) (startAt endAt : Nat) (s : State) : Result :=
  State.complete (s.hawserFrame port h body arrival startAt endAt)

/-- OWN_FRAME_REMOVAL (R256): back at its insertion point. -/
def execOwnFrameRemoval (c : Fin 2) (what : Slotted) (ok : Bool) (ringNs : Nat) (s : State) : Result :=
  State.complete (s.ownRemoval c what ok ringNs)

/-- LEFT_SCHEDULE (R281): no more insertion on the channel, E196. -/
def execLeftSchedule (c : Fin 2) (s : State) : Result :=
  State.complete (s.leftSchedule c)

/-- POLL_FRAME_RECEIVE (R266): response slots of the next cycle. -/
def execPollFrameReceive (c : Fin 2) (slots : List PollSlot) (s : State) : Result :=
  State.complete (s.pollReceive c slots)

/-- CONTAINER_PASS (R267): filled within the quota. -/
def execContainerPass (c : Fin 2) (index : Nat) (empty : Bool) (s : State) : Result :=
  State.complete (s.containerPass c index empty)

/-- ASYNC_BACKLOG (R267): E206. -/
def execAsyncBacklog (c : Fin 2) (s : State) : Result :=
  State.complete (s.asyncBacklog c)

/-- HWS_MODE_REQUEST (R270): HWS_MODE_REQUEST, taken at the next sync point. -/
def execHwsModeRequest (mode : Nat) (s : State) : Result :=
  State.complete (s.hawserRegister fun s => s.writeHws 0x038 (mode % 8 + 8))

/-- MODE_SWITCH (R269): the announced mode takes force, E198. -/
def execModeSwitch (s : State) : Result :=
  State.complete (s.modeSwitch)

/-- CHANNEL_DEGRADED (R271): E199 and the fallback. -/
def execChannelDegraded (c : Fin 2) (s : State) : Result :=
  State.complete (s.channelDegraded c)

/-- AUTO_RETURN (R271): the mode left is announced. -/
def execAutoReturn (s : State) : Result :=
  State.complete (s.autoReturn)

/-- SLOT_STALE (R273): E200. -/
def execSlotStale (position : Fin 128) (c : Fin 2) (s : State) : Result :=
  State.complete (s.slotStale position c)

/-- BEACON_LOST (R278): E195. -/
def execBeaconLost (s : State) : Result :=
  State.complete (s.beaconLost)

/-- HWS_UNFOLD_PORT (R280): HWS_COMMAND code 1, taken at the next sync point. -/
def execHwsUnfoldPort (port : Fin 4) (s : State) : Result :=
  State.complete (s.hawserRegister fun s => s.writeHws 0x03C (1 + 16 * port.val))

/-- RELAY_DRIVE_STOP (R257): the relay closes. -/
def execRelayDriveStop (c : Fin 2) (s : State) : Result :=
  State.complete (s.relayDriveStop c)

/-- BYPASS_RELAY_MISMATCH (R257): E203, or the end of the mismatch. -/
def execBypassRelayMismatch (x : RelayReadback) (s : State) : Result :=
  State.complete (s.relayMismatch x.channel x.open_)

end Sys2Proof.Machine
end

