-- ==== Sys2Proof/Machine/InaugurationCommands.lean ====
section
/-! DEFINITION. Commands of the inauguration (file 09). -/

namespace Sys2Proof.Machine

/-- TWIN_STATE_WAIT_END (R292): behind the twin, or admitted. -/
def execTwinStateWaitEnd (s : State) : Result :=
  State.complete (s.twinWaitEnd)

/-- CHANNEL_B_ADMISSION (R292): 200 ms after channel A. -/
def execChannelBAdmission (s : State) : Result :=
  State.complete (s.admitB)

/-- LISTEN_WINDOW_END (R294): into the contest. -/
def execListenWindowEnd (nonce : Nat) (s : State) : Result :=
  State.complete (s.listenEnd nonce)

/-- COLD_START_FRAME_SEND (R294): one each millisecond. -/
def execColdStartFrameSend (s : State) : Result :=
  State.complete (s.coldSend)

/-- COLD_START_FRAME_RECEIVE (R295): compared and relayed. -/
def execColdStartFrameReceive (aft : Bool) (nonce : Nat) (digest : List Byte) (r : Nat) (s : State) : Result :=
  State.complete (s.coldReceive aft nonce digest r)

/-- CONTEST_TIMEOUT (R295): won: the count starts. -/
def execContestTimeout (s : State) : Result :=
  State.complete (s.contestTimeout)

/-- COUNT_RECEIVE (R296): reported and passed on. -/
def execCountReceive (aft : Bool) (nonce generation hop side : Nat) (s : State) : Result :=
  State.complete (s.countReceive aft nonce generation hop side)

/-- REPORT_RECEIVE (R296): collected or passed on. -/
def execReportReceive (aft : Bool) (rs : List Report) (s : State) : Result :=
  State.complete (s.reportReceive aft rs)

/-- COUNT_TIMEOUT (R297): numbered without those that are missing. -/
def execCountTimeout (s : State) : Result :=
  State.complete (s.countTimeout)

/-- DIRECTORY_RECEIVE (R308): taken up and accepted. -/
def execDirectoryReceive (aft : Bool) (container : Bool) (d : Directory) (s : State) : Result :=
  State.complete (s.directoryReceive aft container d)

/-- ACCEPTANCE_CHECK (R309): one cycle before the switch. -/
def execAcceptanceCheck (s : State) : Result :=
  State.complete (s.acceptanceCheck)

/-- DIRECTORY_SWITCH (R310): the numbering takes force. -/
def execDirectorySwitch (s : State) : Result :=
  State.complete (s.directorySwitch)

/-- CANCEL_OR_RESET_RECEIVE (R290): a cancelled directory or a reset. -/
def execCancelOrResetReceive (generation code resetCycle : Nat) (s : State) : Result :=
  State.complete (s.cancelOrReset generation code resetCycle)

/-- HELLO_RECEIVE (R313): from the next node. -/
def execHelloReceive (port : Fin 4) (cycle : Nat) (h : Hello) (s : State) : Result :=
  State.complete (s.helloReceive port cycle h)

/-- HELLO_REPEAT (R313): each 100 ms. -/
def execHelloRepeat (port : Fin 4) (s : State) : Result :=
  State.complete (s.helloRepeat port)

/-- MERGE_START (R314): two segments become one. -/
def execMergeStart (far : Bool) (partner generation : Nat) (reports : List (Nat × Report)) (timeOffset : Int) (fresh : Nat) (s : State) : Result :=
  State.complete (s.mergeStart far partner generation reports timeOffset fresh)

/-- JOINING_SEGMENT_TIME_STEP (R314): onto the other segment's time. -/
def execJoiningSegmentTimeStep (s : State) : Result :=
  State.complete (s.joinTimeStep)

/-- RING_REPAIR_COLLECT_END (R313): numbered again. -/
def execRingRepairCollectEnd (s : State) : Result :=
  State.complete (s.repairEnd)

/-- DEPUTY_TAKEOVER (R316): the master is missed. -/
def execDeputyTakeover (nonce : Nat) (s : State) : Result :=
  State.complete (s.deputyTakeover nonce)

/-- SPLIT_CONFIRM_EXPIRY (R317): the cut stands. -/
def execSplitConfirmExpiry (s : State) : Result :=
  State.complete (s.splitConfirm)

/-- INSERTION_REQUEST (R318): granted, passed on or refused. -/
def execInsertionRequest (position : Nat) (r : InaRequest) (s : State) : Result :=
  State.complete (s.leaderRequest position r)

/-- GRANT_RECEIVE (R318): for this node or another. -/
def execGrantReceive (position channel switchCycle : Nat) (s : State) : Result :=
  State.complete (s.grantReceive position channel switchCycle)

/-- REINTEGRATION (R321): into the schedule again. -/
def execReintegration (s : State) : Result :=
  State.complete (s.reintegrate)

/-- HWS_BARRIER_ARRIVE (R322): HWS_BARRIER. -/
def execHwsBarrierArrive (id : Nat) (s : State) : Result :=
  State.complete (s.hawserRegister fun s => s.writeHws 0x120 (id % 256 + 256))

/-- TRAIN_WIDE_RESET (R323): HWS_INAUG_COMMAND code 1, taken at the next sync point. -/
def execTrainWideReset (s : State) : Result :=
  State.complete (s.hawserRegister fun s => s.writeHws 0x124 1)

/-- RESET_CYCLE (R323): every node stops inserting. -/
def execResetCycle (s : State) : Result :=
  State.complete (s.resetCycleDue)

/-- LISTEN_START (R293): on channel A. -/
def execListenStart (r : Nat) (s : State) : Result :=
  State.complete (s.listenStart r)

/-- RELAYED_REQUEST_RECEIVE (R318): the twin's request goes to the leader. -/
def execRelayedRequestReceive (r : InaRequest) (s : State) : Result :=
  State.complete (s.relayRequest r)

end Sys2Proof.Machine
end

