-- ==== Sys2Proof/Machine/InputCommands.lean ====
section
/-! DEFINITION. Commands of the portal inputs (file 05). -/

namespace Sys2Proof.Machine

/-- INPUT_SAMPLE (R177): every input and train line, in 0.1 V. -/
def execInputSample (i : Fin 16) (pins : Vector Int 16) (lines : Vector Int 5) (s : State) : Result :=
  State.complete (s.sampleTick i pins lines)

/-- STUCK_TIMEOUT_EXPIRY (R180): the stuck flag sets. -/
def execStuckTimeoutExpiry (i : Fin 16) (k : Fin 16) (s : State) : Result :=
  State.complete (s.onSliceAt i (fun e sl => sl.stuckTime e k) fun e sl => if e.stuckDue k.val e.now sl.inp.dig[k] then sl.setStuck e k else sl)

/-- CHATTER_QUIET_EXPIRY (R181): the chatter flag clears. -/
def execChatterQuietExpiry (i : Fin 16) (k : Fin 16) (s : State) : Result :=
  State.complete (s.onSliceAt i (fun e sl => sl.quietTime e k) fun e sl => if e.quietDue k.val e.now sl.inp.dig[k] then sl.modDig k fun d => { d with chatter := false } else sl)

/-- INPUT_EDGE (R179): the edge is time-stamped. -/
def execInputEdge (i : Fin 16) (k : Fin 16) (level : Bool) (s : State) : Result :=
  State.complete (s.onSlice i fun e sl => sl.inputEdge e k level)

/-- TWIN_COMPARE_TIMEOUT (R183): the difference is flagged. -/
def execTwinCompareTimeout (i : Fin 16) (k : Fin 16) (s : State) : Result :=
  State.complete (s.onSliceAt i (fun e sl => sl.twinDiffTime e k) fun e sl => sl.twinCompare e k)

/-- ANALOGUE_SAMPLE (R186): one analogue input. -/
def execAnalogueSample (i : Fin 16) (k : Fin 4) (millivolts : Nat) (s : State) : Result :=
  State.complete (s.onSlice i fun e sl => sl.analogueSample e k millivolts)

/-- EXCITATION_HOLD_END (R187): the held classes are released. -/
def execExcitationHoldEnd (i : Fin 16) (s : State) : Result :=
  State.complete (s.onSliceAt i (fun _ sl => sl.inp.settleAt.map fun t => t + ms 1) fun e sl => sl.excitationHoldEnd e)

/-- ENCODER_EDGE (R190): a quadrature edge. -/
def execEncoderEdge (i : Fin 16) (k : Fin 3) (a b z : Bool) (gapNs : Nat) (s : State) : Result :=
  State.complete (s.onSlice i fun e sl => sl.encoderEdge e k a b z gapNs)

/-- ENCODER_LINE_BREAK (R192): encoder fault 1. -/
def execEncoderLineBreak (i : Fin 16) (k : Fin 3) (x : LineBreak) (s : State) : Result :=
  State.complete (s.onSlice i fun e sl => sl.encoderLineBreak e k x.channel x.broken)

/-- ENCODER_SUPPLY_LIMIT (R192): encoder fault 5. -/
def execEncoderSupplyLimit (i : Fin 16) (limit : Bool) (s : State) : Result :=
  State.complete (s.onSlice i fun e sl => sl.encoderSupply e limit)

end Sys2Proof.Machine
end

