-- ==== Sys2Proof/Machine/LoglineCommands.lean ====
section
/-! DEFINITION. Commands of the recorder (file 15). -/

namespace Sys2Proof.Machine

/-- RECORD_TAKE (R476): the next entry in rotating order. -/
def execRecordTake (s : State) : Result :=
  State.complete (s.recordTake)

/-- FLUSH_START (R479): every buffered record. -/
def execFlushStart (s : State) : Result :=
  State.complete (s.flushStart)

/-- FLUSH_INTERVAL_EXPIRY (R479): a flush is due. -/
def execFlushIntervalExpiry (s : State) : Result :=
  State.complete (s.flushInterval)

/-- FLUSH_COMPLETE (R480): and the control area. -/
def execFlushComplete (bad : Nat) (s : State) : Result :=
  State.complete (s.flushComplete bad)

/-- RECORDER_TAKING_STOP (R481): 20 ms after the warning. -/
def execRecorderTakingStop (s : State) : Result :=
  State.complete (s.recorderStop)

/-- LOG_FLUSH_NOW (R479): LOG_COMMAND code 1. -/
def execLogFlushNow (s : State) : Result :=
  State.complete (s.logFlushNow)

/-- LOG_CLEAR_LAST_WORD (R496): LOG_COMMAND code 2. -/
def execLogClearLastWord (s : State) : Result :=
  State.complete (s.logClearLastWord)

/-- LOG_SNAPSHOT_OPEN (R491): LOG_SNAP_CONTROL code 1. -/
def execLogSnapshotOpen (h : Fin 4) (s : State) : Result :=
  State.complete (s.snapshotOpen h)

/-- LOG_SNAPSHOT_CLOSE (R491): LOG_SNAP_CONTROL code 2. -/
def execLogSnapshotClose (h : Fin 4) (s : State) : Result :=
  State.complete (s.snapshotClose h)

/-- LOG_READ_SELECT (R492): LOG_READ_SELECT. -/
def execLogReadSelect (h : Fin 4) (value : Nat) (s : State) : Result :=
  State.complete (s.readSelect h value)

/-- READ_WINDOW_READY (R492): the record and its status. -/
def execReadWindowReady (h : Fin 4) (uncorrectable : Bool) (s : State) : Result :=
  State.complete (s.readReady h uncorrectable)

/-- STORE_FAILURE (R493): E240. -/
def execStoreFailure (journal : Bool) (cause : Nat) (s : State) : Result :=
  State.complete (s.storeFailure journal cause)

/-- JOURNAL_MIRROR_RECEIVE (R495): into the own Journal. -/
def execJournalMirrorReceive (records : List (List Byte)) (s : State) : Result :=
  State.complete (s.journalMirrorReceive records)

/-- MSS_ISLAND_RESTART_RECOVERY (R482): flushed or discarded. -/
def execMssIslandRestartRecovery (failed : List Nat) (s : State) : Result :=
  State.complete (s.restartRecovery failed)

/-- RECORDER_START (R498): S, pointers, unclean start. -/
def execRecorderStart (s : State) : Result :=
  State.complete (s.recorderStart)

end Sys2Proof.Machine
end

