-- ==== Sys2Proof/Machine/MssCommands.lean ====
section
/-! DEFINITION. Commands of the management subsystem (file 14). -/

namespace Sys2Proof.Machine

/-- LOCKSTEP_MISMATCH (R451): the MSS island is reset. -/
def execLockstepMismatch (s : State) : Result :=
  State.complete (s.islandReset 33 2)

/-- ECC_ERROR (R451): corrected, or the MSS island is reset. -/
def execEccError (double : Bool) (s : State) : Result :=
  State.complete (if double then s.islandReset 33 4 else s.eccCorrected)

/-- MSS_WATCHDOG_EXPIRY (R451): the MSS island is reset. -/
def execMssWatchdogExpiry (s : State) : Result :=
  State.complete (s.islandReset 33 3)

/-- MSS_STAGE_OPEN (R467): MSS_STAGE_CONTROL. -/
def execMssStageOpen (target : Nat) (s : State) : Result :=
  State.complete ((s.stageSelect target).stageOpen target)

/-- MSS_COMMIT (R467): MSS_COMMAND code 1. -/
def execMssCommit (bytes : Nat) (s : State) : Result :=
  State.complete ((s.mssArgument (bytes % 2 ^ 24)).mssCommit bytes)

/-- MSS_CLOSE_SESSION (R467): MSS_COMMAND code 2. -/
def execMssCloseSession (s : State) : Result :=
  State.complete ((s.mssArgument 0).mssClose)

/-- MSS_CHECK_INACTIVE_BANK (R455): MSS_COMMAND code 3. -/
def execMssCheckInactiveBank (s : State) : Result :=
  State.complete ((s.mssArgument 0).mssCheckBank)

/-- MSS_ACTIVATE_BANK (R456): MSS_COMMAND code 4. -/
def execMssActivateBank (s : State) : Result :=
  State.complete ((s.mssArgument 0).mssActivate)

/-- MSS_RESTART (R468): MSS_COMMAND code 5. -/
def execMssRestart (s : State) : Result :=
  State.complete ((s.mssArgument 0).mssRestart)

/-- MSS_OWNER_COMMAND (R460): MSS_COMMAND code 6. -/
def execMssOwnerCommand (seed : Nat) (s : State) : Result :=
  State.complete ((s.mssArgument 0).mssOwner seed)

/-- MSS_ATTEST (R461): MSS_COMMAND code 7. -/
def execMssAttest (s : State) : Result :=
  State.complete ((s.mssArgument 0).mssAttest)

/-- MSS_ENROL (R458): MSS_COMMAND code 8. -/
def execMssEnrol (o : Origin) (s : State) : Result :=
  State.complete ((s.mssArgument 0).mssEnrol (some o))

/-- MSS_ISSUE_NONCE (R459): MSS_COMMAND code 9. -/
def execMssIssueNonce (fresh : List Byte) (s : State) : Result :=
  State.complete ((s.mssArgument 0).mssNonce fresh)

/-- MSS_EXPORT_ATTESTATION_KEYS (R461): MSS_COMMAND code 10. -/
def execMssExportAttestationKeys (s : State) : Result :=
  State.complete ((s.mssArgument 0).mssExport)

/-- NONCE_EXPIRY (R459): 300 s. -/
def execNonceExpiry (s : State) : Result :=
  State.complete (s.nonceExpiry)

/-- FIRMWARE_CONFIRM (R456): the trial is over. -/
def execFirmwareConfirm (s : State) : Result :=
  State.complete (s.firmwareConfirm)

/-- SENSOR_SAMPLE (R462): and the limits of R463. -/
def execSensorSample (x : Readings) (s : State) : Result :=
  State.complete (s.sensorSample x)

/-- MSS_TIME_SET (R466): MSS_TIME_SET. -/
def execMssTimeSet (o : Origin) (value : Nat) (s : State) : Result :=
  State.complete (s.timeSet (some o) (value % 2 ^ 31 + 2 ^ 31))

/-- SUPERCAPACITOR_EXHAUSTED (R464): time invalid, last word lost. -/
def execSupercapacitorExhausted (s : State) : Result :=
  State.complete (s.supercapExhausted)

/-- MSS_COMMIT_COMPLETE (R467): the chunk is programmed. -/
def execMssCommitComplete (s : State) : Result :=
  State.complete (s.commitComplete)

/-- BANK_CHECK_COMPLETE (R455): passed, or E251 code 4. -/
def execBankCheckComplete (s : State) : Result :=
  State.complete (s.bankCheckComplete)

/-- ENROLMENT_COMPLETE (R458): generation 0. -/
def execEnrolmentComplete (seed : Nat) (s : State) : Result :=
  State.complete (s.enrolmentComplete seed)

/-- ATTESTATION_COMPLETE (R461): the report. -/
def execAttestationComplete (s : State) : Result :=
  State.complete (s.attestationComplete)

end Sys2Proof.Machine
end

