-- ==== Sys2Proof/Machine/NodeCommands.lean ====
section
/-! DEFINITION. Commands of the node as a whole (file 01): sync point, process image, host ports, clocks, channels, intake queues, handover. -/

namespace Sys2Proof.Machine

/-- SYNC_POINT (R21): the node's next sync point. -/
def execSyncPoint (pulse : Pulse) (authIn : Bool) (s : State) : Result :=
  State.complete (s.syncPoint pulse authIn)

/-- PIM_WRITE (R19): a write by an agent whose island runs. -/
def execPimWrite (agent : Agent) (offset value : Nat) (s : State) : Result :=
  State.complete (if s.agentUp agent then s.pimWrite agent offset value else s)

/-- HOST_PORT_ACCESS (R31): what an agent has waiting at a slice's host port, and what the other agent has waiting there beside it. -/
def execHostPortAccess (agent : HostAgent) (i : Fin 16) (x : HostAccess) (other : Option HostAccess) (s : State) : Result :=
  State.complete (match agent with | .splice => s.hostPort i (some x) other | .mss => s.hostPort i other (some x))

/-- TIME_TRANSFER (R37): four stamps in 1/65536 ns. -/
def execTimeTransfer (island : Fin 17) (t1 t2 t3 t4 : Int) (s : State) : Result :=
  State.complete (s.timeTransfer island t1 t2 t3 t4)

/-- CLOCK_STEP_APPLY (R38): a scheduled step takes effect. -/
def execClockStepApply (island : Fin 18) (s : State) : Result :=
  State.complete (s.clockStep island)

/-- HOLDOVER_ENTRY (R41): after 4 cycles without a transfer. -/
def execHoldoverEntry (island : Fin 17) (s : State) : Result :=
  State.complete (s.holdoverEntry island)

/-- HANDSHAKE_CHANNEL_STALLED (R36): 10 µs without an answer. -/
def execHandshakeChannelStalled (waiter : Waiter) (island : Fin 35) (s : State) : Result :=
  State.complete (s.channelStalled waiter island)

/-- INTAKE_OFFER (R26): taken, or lost and counted. -/
def execIntakeOffer (queue : Fin 18) (x : Intake) (s : State) : Result :=
  State.complete (s.intakeOffer queue x)

/-- CONFIGURATION_HANDOVER (R24): every block gets its parameters. -/
def execConfigurationHandover (s : State) : Result :=
  State.complete (s.handover)

end Sys2Proof.Machine
end

