-- ==== Sys2Proof/Machine/PortalCommands.lean ====
section
/-! DEFINITION. Commands of the portals and of the door-loop cell (file 02). -/

namespace Sys2Proof.Machine

/-- WARN_TIME_EXPIRY (R65): the warn phase ends. -/
def execWarnTimeExpiry (i : Fin 16) (s : State) : Result :=
  State.complete (s.portalExpiry i (Slice.timerDue 1))

/-- LOCK_PULL_EXPIRY (R69): the latching lock is latched off. -/
def execLockPullExpiry (i : Fin 16) (s : State) : Result :=
  State.complete (s.portalExpiry i Slice.lockPullDue)

/-- LOCK_CONFIRM_TIMEOUT (R65): fault cause 5 without S2. -/
def execLockConfirmTimeout (i : Fin 16) (s : State) : Result :=
  State.complete (s.portalExpiry i (Slice.timerDue 2))

/-- S2_WITHOUT_S1_TIMEOUT (R70): fault cause 7. -/
def execS2WithoutS1Timeout (i : Fin 16) (s : State) : Result :=
  State.complete (s.portalExpiry i Slice.s2AloneDue)

/-- UNLOCK_CONFIRM_TIMEOUT (R65): fault cause 2 with S2. -/
def execUnlockConfirmTimeout (i : Fin 16) (s : State) : Result :=
  State.complete (s.portalExpiry i (Slice.timerDue 3))

/-- UNLOCK_PULSE_EXPIRY (R69): the unlock output turns off. -/
def execUnlockPulseExpiry (i : Fin 16) (s : State) : Result :=
  State.complete (s.portalExpiry i Slice.unlockPulseDue)

/-- OPEN_TIMEOUT_EXPIRY (R65): fault cause 3. -/
def execOpenTimeoutExpiry (i : Fin 16) (s : State) : Result :=
  State.complete (s.portalExpiry i (Slice.openDue))

/-- CLOSE_TIMEOUT_EXPIRY (R65): fault cause 4. -/
def execCloseTimeoutExpiry (i : Fin 16) (s : State) : Result :=
  State.complete (s.portalExpiry i (Slice.timerDue 5))

/-- STEP_STOW_TIMEOUT_EXPIRY (R65): fault cause 8. -/
def execStepStowTimeoutExpiry (i : Fin 16) (s : State) : Result :=
  State.complete (s.portalExpiry i (Slice.timerDue 6))

/-- RECLOSE_PAUSE_EXPIRY (R65): reclose, reopen further, go to OPEN, or resume OPENING. -/
def execReclosePauseExpiry (i : Fin 16) (s : State) : Result :=
  State.complete (s.portalExpiry i (Slice.timerDue 7))

/-- AUTO_CLOSE_EXPIRY (R66): the auto-close timer counts as a close cause. -/
def execAutoCloseExpiry (i : Fin 16) (s : State) : Result :=
  State.complete (s.portalExpiry i (Slice.timerDue 8))

/-- EGRESS_HOLD_EXPIRY (R71): the held leaves are freed. -/
def execEgressHoldExpiry (i : Fin 16) (s : State) : Result :=
  State.complete (s.portalExpiry i (Slice.timerDue 9))

/-- PRT_FAULT_RESET (R75): PRT_COMMAND code 1, taken at the next sync point. -/
def execPrtFaultReset (i : Fin 16) (s : State) : Result :=
  State.complete (s.sliceRegister i 0x0010 1)

/-- PRT_EMERGENCY_STAFF_RESET (R72): PRT_COMMAND code 2, taken at the next sync point. -/
def execPrtEmergencyStaffReset (i : Fin 16) (s : State) : Result :=
  State.complete (s.sliceRegister i 0x0010 2)

/-- PRT_REHOME (R67): PRT_COMMAND code 3, taken at the next sync point. -/
def execPrtRehome (i : Fin 16) (s : State) : Result :=
  State.complete (s.sliceRegister i 0x0010 3)

/-- LOOP_CONTACT_CHANGE (R78): the channels and switches follow the contact. -/
def execLoopContactChange (i : Fin 16) (channel : Fin 2) (contact : Fin 3) (decivolts : Int) (held : Bool) (milliamps : Nat) (s : State) : Result :=
  State.complete (s.loopContact i channel contact decivolts held milliamps)

/-- LOOP_DISCREPANCY_TIMEOUT (R83): the cell opens and latches. -/
def execLoopDiscrepancyTimeout (i : Fin 16) (s : State) : Result :=
  State.complete (s.loopDiscrepancy i)

/-- LOOP_TEST_DUE (R84): the pulses follow at the next sync points that allow them. -/
def execLoopTestDue (s : State) : Result :=
  State.complete (s.loopTestDue)

/-- LOOP_TEST_OVERDUE (R86): flagged, E239 code 3. -/
def execLoopTestOverdue (second : Bool) (s : State) : Result :=
  State.complete (s.loopOverdue second)

/-- NODE_LOOP_TEST_COMMAND (R84): NODE_LOOP_COMMAND code 1, taken at the next sync point. -/
def execNodeLoopTestCommand (s : State) : Result :=
  State.complete (s.hawserRegister fun s => s.writeNode 0x02C 1)

end Sys2Proof.Machine
end

