-- ==== Sys2Proof/Machine/SpliceCommands.lean ====
section
/-! DEFINITION. Commands of Splice (file 11). -/

namespace Sys2Proof.Machine

/-- SPLICE_WRITE (R375): performed, held, relayed or refused. -/
def execSpliceWrite (o : Origin) (f : SpliceFrame) (s : State) : Result :=
  State.complete (s.spliceWrite o f)

/-- SPLICE_READ (R379): answered, fetched or told to retry. -/
def execSpliceRead (o : Origin) (f : SpliceFrame) (s : State) : Result :=
  State.complete (s.spliceRead o f)

/-- FETCH_COMPLETE (R380): the buffer is ready. -/
def execFetchComplete (b : Fin 16) (s : State) : Result :=
  State.complete (s.fetchComplete b)

/-- BUFFER_HOLD_EXPIRY (R380): freed, with E226 or E227 on a read effect. -/
def execBufferHoldExpiry (b : Fin 16) (s : State) : Result :=
  State.complete (s.bufferExpiry b)

/-- READ_RESPONSE_RECEIVE (R386): to the tool. -/
def execReadResponseReceive (f : SpliceFrame) (s : State) : Result :=
  State.complete (s.readResponse f)

/-- WRITE_ERROR_RECEIVE (R384): logged, and to the tool. -/
def execWriteErrorReceive (f : SpliceFrame) (s : State) : Result :=
  State.complete (s.writeErrorReceive f)

/-- RELAY_TIMEOUT (R386): status 9 and E230. -/
def execRelayTimeout (k : Nat) (s : State) : Result :=
  State.complete (s.relayTimeout k)

/-- SERVICE_PORT_PACKET (R372): ARP, ICMP echo and datagrams. -/
def execServicePortPacket (p : Packet) (s : State) : Result :=
  State.complete (s.servicePacket p)

/-- SPL_CLEAR_POSTED_ERRORS (R384): SPL_COMMAND code 1. -/
def execSplClearPostedErrors (s : State) : Result :=
  State.complete (s.clearPosted)

/-- SPL_FREE_READ_BUFFERS (R379): SPL_COMMAND code 2. -/
def execSplFreeReadBuffers (s : State) : Result :=
  State.complete (s.freeBuffers)

/-- SERVICE_PORT_LINK_CHANGE (R372): SPL_STATUS.link_up. -/
def execServicePortLinkChange (up : Bool) (s : State) : Result :=
  State.complete (s.serviceLink up)

end Sys2Proof.Machine
end

