-- ==== Sys2Proof/Machine/StartCommands.lean ====
section
/-! DEFINITION. Commands of the supply, the starts and resets (file 16), and of registers and events (file 17). -/

namespace Sys2Proof.Machine

/-- X1_QUALIFIED (R503): a start. -/
def execX1Qualified (decivolts : Nat) (s : State) : Result :=
  State.complete (s.x1Qualified decivolts)

/-- POWER_FAIL_WARNING (R504): and the power-fail flush. -/
def execPowerFailWarning (decivolts : Nat) (s : State) : Result :=
  State.complete (s.powerFailWarning decivolts)

/-- POWER_FAIL_WARNING_WITHDRAWN (R504): recording resumes. -/
def execPowerFailWarningWithdrawn (decivolts : Nat) (s : State) : Result :=
  State.complete (s.warningWithdrawn decivolts)

/-- SUPPLY_LOST (R505): the loop cell opens. -/
def execSupplyLost (s : State) : Result :=
  State.complete (s.supplyLost)

/-- SHUTDOWN_RELEASE (R505): all outputs go off. -/
def execShutdownRelease (s : State) : Result :=
  State.complete (s.shutdownRelease)

/-- POWER_FAIL_RESET (R505): every island but the calendar. -/
def execPowerFailReset (s : State) : Result :=
  State.complete (s.powerFailReset)

/-- ISLAND_BROWN_OUT (R506): that island alone. -/
def execIslandBrownOut (island : Fin 34) (s : State) : Result :=
  State.complete (s.islandReset island 1)

/-- BOOT_BANK_SELECT (R508): the firmware bank, or recovery. -/
def execBootBankSelect (s : State) : Result :=
  State.complete (s.boot)

/-- ISLAND_RESTART (R515): with its parameters, or stopped. -/
def execIslandRestart (island : Fin 34) (crcOk : Bool) (s : State) : Result :=
  State.complete (s.islandRestart island crcOk)

/-- EVENT_DELIVERY (R527): the oldest event of a queue. -/
def execEventDelivery (queue : Fin 18) (s : State) : Result :=
  State.complete (s.eventDelivery queue)

/-- NODE_EVENT_POP (R528): NODE_EVENT_POP_RC. -/
def execNodeEventPop (s : State) : Result :=
  State.complete (s.mssAccess (·.fabricRead .mss 0xFF000))

/-- NODE_REMOTE_POP (R528): NODE_REMOTE_POP_RC. -/
def execNodeRemotePop (s : State) : Result :=
  State.complete (s.mssAccess (·.fabricRead .mss 0xFF004))

/-- COUNTER_READ_CLEAR (R12): a 32-bit read. -/
def execCounterReadClear (address : Nat) (s : State) : Result :=
  State.complete (s.mssAccess (·.fabricRead .mss address))

/-- REGISTER_WRITE (R11): a 32-bit write. -/
def execRegisterWrite (address value : Nat) (s : State) : Result :=
  State.complete (s.mssAccess (·.fabricWrite .mss none address value))

/-- ISLAND_SUPERVISOR_RESET (R513): lockstep or watchdog. -/
def execIslandSupervisorReset (island : Fin 34) (s : State) : Result :=
  State.complete (if island.val < 16 ∨ island.val = 32 then s.islandReset island (if island.val = 32 then 2 else 3) else s)

end Sys2Proof.Machine
end

