-- ==== Sys2Proof/Machine/SwitchCommands.lean ====
section
/-! DEFINITION. Commands of the load switches and the tether (file 06), and of the power groups and their arbiters (file 07). -/

namespace Sys2Proof.Machine

/-- CURRENT_LIMIT_ENTRY (R203): counted. -/
def execCurrentLimitEntry (i : Fin 16) (k : Fin 6) (s : State) : Result :=
  State.complete (s.onPower i fun _ sl => sl.limitEntry k)

/-- THERMAL_TRIP (R204): off, with a retry or latched. -/
def execThermalTrip (i : Fin 16) (k : Fin 6) (dt : Nat) (s : State) : Result :=
  State.complete (s.onPower i fun e sl => sl.thermalTrip e k dt)

/-- RETRY_WAIT_END (R205): on again, where it has cooled. -/
def execRetryWaitEnd (i : Fin 16) (k : Fin 6) (dt : Nat) (s : State) : Result :=
  State.complete (s.onPowerAt i (fun _ sl => sl.retryDue k) fun e sl => sl.retryEnd e k dt)

/-- TRIP_COUNT_RESET (R205): trips return to 0. -/
def execTripCountReset (i : Fin 16) (k : Fin 6) (s : State) : Result :=
  State.complete (s.onPowerAt i (fun _ sl => sl.tripDue k) fun e sl => sl.tripReset e k)

/-- LSW_CLEAR_LATCH_OFF (R206): LSW_COMMAND code 1, taken at the next sync point. -/
def execLswClearLatchOff (i : Fin 16) (k : Fin 6) (s : State) : Result :=
  State.complete (s.sliceRegister i 0x504C (1 + 16 * k.val))

/-- CLAMP_PULSE_END (R210): its energy is taken. -/
def execClampPulseEnd (i : Fin 16) (k : Fin 6) (millijoules : Nat) (s : State) : Result :=
  State.complete (s.onPower i fun e sl => sl.clampEnd e k millijoules)

/-- OFF_STATE_DIAGNOSTIC_TEST (R211): the two steps of the test. -/
def execOffStateDiagnosticTest (i : Fin 16) (k : Fin 6) (high1 high2 : Bool) (s : State) : Result :=
  State.complete (s.onPowerAt i (fun _ sl => sl.diagDue k) fun e sl => sl.offTest e k high1 high2)

/-- UNDERCURRENT_TIMEOUT (R212): 100 ms on. -/
def execUndercurrentTimeout (i : Fin 16) (k : Fin 6) (milliamps : Nat) (s : State) : Result :=
  State.complete (s.onPowerAt i (fun _ sl => sl.underDue k) fun e sl => sl.underCurrent e k milliamps)

/-- TETHER_FRAME (R214): a frame in one direction. A restarted engine sends none before it has read the power island's last one (R223). -/
def execTetherFrame (i : Fin 16) (f : TetherFrame) (s : State) : Result :=
  State.complete (
  match f with
  | .toPower crcOk seq => if s.engineUp i && !s.slices[i].waitsResume then s.modSlice i fun sl => (if s.powerUp i then sl.tetherToPower (s.env i) crcOk seq else sl).frameSent else s
  | .toEngine crcOk seq ma dt high caseT => if s.powerUp i then s.onSlice i fun e sl => sl.tetherToEngine e crcOk seq ma dt high caseT else s)

/-- TETHER_TIMEOUT (R216): the stored fail-safe states. -/
def execTetherTimeout (i : Fin 16) (s : State) : Result :=
  State.complete (s.onPowerAt i (fun e sl => sl.tetherDue e.now) fun e sl => sl.tetherTimeout e)

/-- POWER_ISLAND_LOST (R222): 4 periods without a valid frame. -/
def execPowerIslandLost (i : Fin 16) (s : State) : Result :=
  State.complete ((s.advance (s.now + (4 - s.slices[i].sw.tether.missing) * 25000)).onSlice i fun e sl => sl.powerLost e)

/-- TETHER_HANDOVER_REPEAT (R222): the parameters again. -/
def execTetherHandoverRepeat (i : Fin 16) (s : State) : Result :=
  State.complete (if s.powerUp i then s.onSlice i fun e sl => sl.tetherRepeat e else s)

/-- ENGINE_RESUME (R223): from the power island and the region. -/
def execEngineResume (i : Fin 16) (s : State) : Result :=
  State.complete (s.engineResume i)

/-- LSW_TETHER_TEST (R225): LSW_COMMAND code 2, taken at the next sync point. -/
def execLswTetherTest (i : Fin 16) (s : State) : Result :=
  State.complete (s.sliceRegister i 0x504C 2)

/-- GROUP_SUPPLY_RANGE_CHANGE (R231): E234, R208 and drive fault 4. -/
def execGroupSupplyRangeChange (g : Fin 2) (motor out : Bool) (decivolts : Nat) (s : State) : Result :=
  State.complete (s.supplyRange g motor out decivolts)

/-- GROUP_CURRENT_WARNING (R232): set or cleared. -/
def execGroupCurrentWarning (g : Fin 2) (set : Bool) (loadDa motorDa : Nat) (s : State) : Result :=
  State.complete (s.currentWarning g set loadDa motorDa)

/-- GROUP_OVER_TEMPERATURE (R233): E237, or cleared. -/
def execGroupOverTemperature (g : Fin 2) (deciC : Int) (s : State) : Result :=
  State.complete (s.overTemperature g deciC)

/-- ARBITRATION_ROUND (R240): grants in rank order. -/
def execArbitrationRound (x : GroupRound) (s : State) : Result :=
  State.complete (s.arbitrate x.group x.inputs)

/-- BELAY_GRANT_ARRIVAL (R236): a waiting switch turns on. -/
def execBelayGrantArrival (i : Fin 16) (item : Fin 9) (s : State) : Result :=
  State.complete (s.grantArrival i item)

/-- INRUSH_TIME_EXPIRY (R236): the request ends. -/
def execInrushTimeExpiry (i : Fin 16) (item : Fin 9) (s : State) : Result :=
  State.complete (s.inrushExpiry i item)

/-- DEADLINE_MISSED (R243): E235, once. -/
def execDeadlineMissed (i : Fin 16) (item : Fin 9) (s : State) : Result :=
  State.complete (s.deadlineMissed i item)

/-- BELAY_WATCHDOG_BITE (R244): every grant is revoked. -/
def execBelayWatchdogBite (g : Fin 2) (s : State) : Result :=
  State.complete (s.watchdogBite g)

/-- ARBITER_FRAME_LOSS (R246): unarbitrated, E236. -/
def execArbiterFrameLoss (i : Fin 16) (s : State) : Result :=
  State.complete (s.arbiterLost i)

/-- ARBITRATION_RESUME (R246): no grants held. -/
def execArbitrationResume (i : Fin 16) (s : State) : Result :=
  State.complete (s.arbiterBack i)

end Sys2Proof.Machine
end

