-- ==== Sys2Proof/Machine/TwinCommands.lean ====
section
/-! DEFINITION. Commands of the twin pair (file 12). -/

namespace Sys2Proof.Machine

/-- HEARTBEAT_RECEIVE (R397): the twin's record. -/
def execHeartbeatReceive (cycle : Nat) (h : Heartbeat) (s : State) : Result :=
  State.complete (s.heartbeatReceive cycle h)

/-- TWIN_LINK_CHANGE (R396): E218. -/
def execTwinLinkChange (up : Bool) (s : State) : Result :=
  State.complete (s.twinLinkChange up)

/-- MIRROR_RECEIVE (R398): taken whole or discarded. -/
def execMirrorReceive (complete : Bool) (m : Mirror) (s : State) : Result :=
  State.complete (s.mirrorReceive complete m)

/-- SLOW_RECORD_APPLY (R400): teach results and envelopes of one axis. -/
def execSlowRecordApply (r : AxisRecord) (s : State) : Result :=
  State.complete (s.slowApply r)

/-- AUTH_ASSERT (R409): the power gates open. -/
def execAuthAssert (s : State) : Result :=
  State.complete (s.authAssert)

/-- AUTH_COMMAND_LAPSE (R409): AUTH_OUT lapses. -/
def execAuthCommandLapse (s : State) : Result :=
  State.complete (s.authLapse)

/-- AUTH_COLLISION (R410): both gates close. -/
def execAuthCollision (s : State) : Result :=
  State.complete (s.authCollision)

/-- AUTH_SELF_ASSERT (R411): without commands. -/
def execAuthSelfAssert (s : State) : Result :=
  State.complete (s.authSelf)

/-- AUTH_READBACK_MISMATCH (R413): E221 code 1. -/
def execAuthReadbackMismatch (readback : Bool) (s : State) : Result :=
  State.complete (s.authReadback readback)

/-- AUTH_IN_DISAGREEMENT (R413): E221 code 3 or 4. -/
def execAuthInDisagreement (s : State) : Result :=
  State.complete (s.authDisagree)

/-- CATCH_IN_FLIGHT (R416): at the angle measured in the 200 µs since the isolators were confirmed. -/
def execCatchInFlight (i : Fin 16) (a : Fin 3) (valid : Bool) (angle : Nat) (s : State) : Result :=
  State.complete (if s.slices[i].catchReady (s.env i) a then (s.advance s.slices[i].axes[a].d.pwmFrom).onSlice i fun e sl => sl.catchInFlight e a valid angle else s)

/-- TWN_SWAP (R422): TWN_COMMAND code 1, taken at the next sync point. -/
def execTwnSwap (s : State) : Result :=
  State.complete (s.hawserRegister fun s => s.writeTwn 0x018 1)

/-- TWN_WITHDRAW_SWAP (R423): TWN_COMMAND code 2, taken at the next sync point. -/
def execTwnWithdrawSwap (s : State) : Result :=
  State.complete (s.hawserRegister fun s => s.writeTwn 0x018 2)

/-- TWN_ENTER_TEST_MODE (R420): TWN_COMMAND code 3, taken at the next sync point. -/
def execTwnEnterTestMode (s : State) : Result :=
  State.complete (s.hawserRegister fun s => s.writeTwn 0x018 3)

/-- TWN_LEAVE_TEST_MODE (R420): TWN_COMMAND code 4, taken at the next sync point. -/
def execTwnLeaveTestMode (s : State) : Result :=
  State.complete (s.hawserRegister fun s => s.writeTwn 0x018 4)

/-- SWAP_TIMEOUT (R423): E223 code 3. -/
def execSwapTimeout (s : State) : Result :=
  State.complete (s.swapTimeout)

end Sys2Proof.Machine
end

