-- ==== Sys2Proof/Machine/Dispatch.lean ====
section
/-! DEFINITION. One arm per command, in the order of the operation table. -/

namespace Sys2Proof.Machine

def exec (i : Instr) (s : State) : Host.Outcome State Fault Refusal :=
  match i with
  | .syncPoint pulse authIn => Sys2Proof.Machine.execSyncPoint pulse authIn s
  | .pimWrite agent offset value => Sys2Proof.Machine.execPimWrite agent offset value s
  | .hostPortAccess agent slice x other => Sys2Proof.Machine.execHostPortAccess agent slice x other s
  | .timeTransfer island t1 t2 t3 t4 => Sys2Proof.Machine.execTimeTransfer island t1 t2 t3 t4 s
  | .clockStepApply island => Sys2Proof.Machine.execClockStepApply island s
  | .holdoverEntry island => Sys2Proof.Machine.execHoldoverEntry island s
  | .handshakeChannelStalled waiter island => Sys2Proof.Machine.execHandshakeChannelStalled waiter island s
  | .intakeOffer queue x => Sys2Proof.Machine.execIntakeOffer queue x s
  | .configurationHandover => Sys2Proof.Machine.execConfigurationHandover s
  | .warnTimeExpiry slice => Sys2Proof.Machine.execWarnTimeExpiry slice s
  | .lockPullExpiry slice => Sys2Proof.Machine.execLockPullExpiry slice s
  | .lockConfirmTimeout slice => Sys2Proof.Machine.execLockConfirmTimeout slice s
  | .s2WithoutS1Timeout slice => Sys2Proof.Machine.execS2WithoutS1Timeout slice s
  | .unlockConfirmTimeout slice => Sys2Proof.Machine.execUnlockConfirmTimeout slice s
  | .unlockPulseExpiry slice => Sys2Proof.Machine.execUnlockPulseExpiry slice s
  | .openTimeoutExpiry slice => Sys2Proof.Machine.execOpenTimeoutExpiry slice s
  | .closeTimeoutExpiry slice => Sys2Proof.Machine.execCloseTimeoutExpiry slice s
  | .stepStowTimeoutExpiry slice => Sys2Proof.Machine.execStepStowTimeoutExpiry slice s
  | .reclosePauseExpiry slice => Sys2Proof.Machine.execReclosePauseExpiry slice s
  | .autoCloseExpiry slice => Sys2Proof.Machine.execAutoCloseExpiry slice s
  | .egressHoldExpiry slice => Sys2Proof.Machine.execEgressHoldExpiry slice s
  | .prtFaultReset slice => Sys2Proof.Machine.execPrtFaultReset slice s
  | .prtEmergencyStaffReset slice => Sys2Proof.Machine.execPrtEmergencyStaffReset slice s
  | .prtRehome slice => Sys2Proof.Machine.execPrtRehome slice s
  | .loopContactChange slice channel contact decivolts held milliamps => Sys2Proof.Machine.execLoopContactChange slice channel contact decivolts held milliamps s
  | .loopDiscrepancyTimeout slice => Sys2Proof.Machine.execLoopDiscrepancyTimeout slice s
  | .loopTestDue => Sys2Proof.Machine.execLoopTestDue s
  | .loopTestOverdue second => Sys2Proof.Machine.execLoopTestOverdue second s
  | .nodeLoopTestCommand => Sys2Proof.Machine.execNodeLoopTestCommand s
  | .stepEdge slice a => Sys2Proof.Machine.execStepEdge slice a s
  | .axStop slice a => Sys2Proof.Machine.execAxStop slice a s
  | .axTestMove slice a => Sys2Proof.Machine.execAxTestMove slice a s
  | .homeConfirmEdge slice a active => Sys2Proof.Machine.execHomeConfirmEdge slice a active s
  | .homeChatterWindowEnd slice a => Sys2Proof.Machine.execHomeChatterWindowEnd slice a s
  | .homeConfirmWaitExpiry slice a => Sys2Proof.Machine.execHomeConfirmWaitExpiry slice a s
  | .estimatorPeriod slice x0 x1 x2 => Sys2Proof.Machine.execEstimatorPeriod slice x0 x1 x2 s
  | .auxiliaryMoveReissue slice a => Sys2Proof.Machine.execAuxiliaryMoveReissue slice a s
  | .bridgeOvercurrentTrip slice a => Sys2Proof.Machine.execBridgeOvercurrentTrip slice a s
  | .isolatorConfirmed slice a short => Sys2Proof.Machine.execIsolatorConfirmed slice a short s
  | .resistanceTrackingWindow slice a ua ia ub ib => Sys2Proof.Machine.execResistanceTrackingWindow slice a ua ia ub ib s
  | .teachCycle slice => Sys2Proof.Machine.execTeachCycle slice s
  | .teachCycleEnd slice a r l c ke noise => Sys2Proof.Machine.execTeachCycleEnd slice a r l c ke noise s
  | .envelopeReset slice a => Sys2Proof.Machine.execEnvelopeReset slice a s
  | .envelopeFreeze slice a => Sys2Proof.Machine.execEnvelopeFreeze slice a s
  | .envelopeEndFreeze slice a => Sys2Proof.Machine.execEnvelopeEndFreeze slice a s
  | .inputSample slice pins lines => Sys2Proof.Machine.execInputSample slice pins lines s
  | .stuckTimeoutExpiry slice k => Sys2Proof.Machine.execStuckTimeoutExpiry slice k s
  | .chatterQuietExpiry slice k => Sys2Proof.Machine.execChatterQuietExpiry slice k s
  | .inputEdge slice k level => Sys2Proof.Machine.execInputEdge slice k level s
  | .twinCompareTimeout slice k => Sys2Proof.Machine.execTwinCompareTimeout slice k s
  | .analogueSample slice k millivolts => Sys2Proof.Machine.execAnalogueSample slice k millivolts s
  | .excitationHoldEnd slice => Sys2Proof.Machine.execExcitationHoldEnd slice s
  | .encoderEdge slice k a b z gapNs => Sys2Proof.Machine.execEncoderEdge slice k a b z gapNs s
  | .encoderLineBreak slice k x => Sys2Proof.Machine.execEncoderLineBreak slice k x s
  | .encoderSupplyLimit slice limit => Sys2Proof.Machine.execEncoderSupplyLimit slice limit s
  | .currentLimitEntry slice k => Sys2Proof.Machine.execCurrentLimitEntry slice k s
  | .thermalTrip slice k dt => Sys2Proof.Machine.execThermalTrip slice k dt s
  | .retryWaitEnd slice k dt => Sys2Proof.Machine.execRetryWaitEnd slice k dt s
  | .tripCountReset slice k => Sys2Proof.Machine.execTripCountReset slice k s
  | .lswClearLatchOff slice k => Sys2Proof.Machine.execLswClearLatchOff slice k s
  | .clampPulseEnd slice k millijoules => Sys2Proof.Machine.execClampPulseEnd slice k millijoules s
  | .offStateDiagnosticTest slice k high1 high2 => Sys2Proof.Machine.execOffStateDiagnosticTest slice k high1 high2 s
  | .undercurrentTimeout slice k milliamps => Sys2Proof.Machine.execUndercurrentTimeout slice k milliamps s
  | .tetherFrame slice f => Sys2Proof.Machine.execTetherFrame slice f s
  | .tetherTimeout slice => Sys2Proof.Machine.execTetherTimeout slice s
  | .powerIslandLost slice => Sys2Proof.Machine.execPowerIslandLost slice s
  | .tetherHandoverRepeat slice => Sys2Proof.Machine.execTetherHandoverRepeat slice s
  | .engineResume slice => Sys2Proof.Machine.execEngineResume slice s
  | .lswTetherTest slice => Sys2Proof.Machine.execLswTetherTest slice s
  | .groupSupplyRangeChange g motor out decivolts => Sys2Proof.Machine.execGroupSupplyRangeChange g motor out decivolts s
  | .groupCurrentWarning g set loadDa motorDa => Sys2Proof.Machine.execGroupCurrentWarning g set loadDa motorDa s
  | .groupOverTemperature g deciC => Sys2Proof.Machine.execGroupOverTemperature g deciC s
  | .arbitrationRound x => Sys2Proof.Machine.execArbitrationRound x s
  | .belayGrantArrival slice item => Sys2Proof.Machine.execBelayGrantArrival slice item s
  | .inrushTimeExpiry slice item => Sys2Proof.Machine.execInrushTimeExpiry slice item s
  | .deadlineMissed slice item => Sys2Proof.Machine.execDeadlineMissed slice item s
  | .belayWatchdogBite g => Sys2Proof.Machine.execBelayWatchdogBite g s
  | .arbiterFrameLoss slice => Sys2Proof.Machine.execArbiterFrameLoss slice s
  | .arbitrationResume slice => Sys2Proof.Machine.execArbitrationResume slice s
  | .linkUp port phyMaster => Sys2Proof.Machine.execLinkUp port phyMaster s
  | .linkDown port => Sys2Proof.Machine.execLinkDown port s
  | .linkDelayMeasurement port t1 t2 t3 t4 => Sys2Proof.Machine.execLinkDelayMeasurement port t1 t2 t3 t4 s
  | .frameInsertion c what => Sys2Proof.Machine.execFrameInsertion c what s
  | .beaconReceive port h b rx => Sys2Proof.Machine.execBeaconReceive port h b rx s
  | .hawserFrameReceive port h body arrival startAt endAt => Sys2Proof.Machine.execHawserFrameReceive port h body arrival startAt endAt s
  | .ownFrameRemoval c what ok ringNs => Sys2Proof.Machine.execOwnFrameRemoval c what ok ringNs s
  | .leftSchedule c => Sys2Proof.Machine.execLeftSchedule c s
  | .pollFrameReceive c slots => Sys2Proof.Machine.execPollFrameReceive c slots s
  | .containerPass c index empty => Sys2Proof.Machine.execContainerPass c index empty s
  | .asyncBacklog c => Sys2Proof.Machine.execAsyncBacklog c s
  | .hwsModeRequest mode => Sys2Proof.Machine.execHwsModeRequest mode s
  | .modeSwitch => Sys2Proof.Machine.execModeSwitch s
  | .channelDegraded c => Sys2Proof.Machine.execChannelDegraded c s
  | .autoReturn => Sys2Proof.Machine.execAutoReturn s
  | .slotStale position c => Sys2Proof.Machine.execSlotStale position c s
  | .beaconLost => Sys2Proof.Machine.execBeaconLost s
  | .hwsUnfoldPort port => Sys2Proof.Machine.execHwsUnfoldPort port s
  | .relayDriveStop c => Sys2Proof.Machine.execRelayDriveStop c s
  | .bypassRelayMismatch x => Sys2Proof.Machine.execBypassRelayMismatch x s
  | .twinStateWaitEnd => Sys2Proof.Machine.execTwinStateWaitEnd s
  | .channelBAdmission => Sys2Proof.Machine.execChannelBAdmission s
  | .listenWindowEnd nonce => Sys2Proof.Machine.execListenWindowEnd nonce s
  | .coldStartFrameSend => Sys2Proof.Machine.execColdStartFrameSend s
  | .coldStartFrameReceive aft nonce digest r => Sys2Proof.Machine.execColdStartFrameReceive aft nonce digest r s
  | .contestTimeout => Sys2Proof.Machine.execContestTimeout s
  | .countReceive aft nonce generation hop side => Sys2Proof.Machine.execCountReceive aft nonce generation hop side s
  | .reportReceive aft rs => Sys2Proof.Machine.execReportReceive aft rs s
  | .countTimeout => Sys2Proof.Machine.execCountTimeout s
  | .directoryReceive aft container d => Sys2Proof.Machine.execDirectoryReceive aft container d s
  | .acceptanceCheck => Sys2Proof.Machine.execAcceptanceCheck s
  | .directorySwitch => Sys2Proof.Machine.execDirectorySwitch s
  | .cancelOrResetReceive generation code resetCycle => Sys2Proof.Machine.execCancelOrResetReceive generation code resetCycle s
  | .helloReceive port cycle h => Sys2Proof.Machine.execHelloReceive port cycle h s
  | .helloRepeat port => Sys2Proof.Machine.execHelloRepeat port s
  | .mergeStart far partner generation reports timeOffset fresh => Sys2Proof.Machine.execMergeStart far partner generation reports timeOffset fresh s
  | .joiningSegmentTimeStep => Sys2Proof.Machine.execJoiningSegmentTimeStep s
  | .ringRepairCollectEnd => Sys2Proof.Machine.execRingRepairCollectEnd s
  | .deputyTakeover nonce => Sys2Proof.Machine.execDeputyTakeover nonce s
  | .splitConfirmExpiry => Sys2Proof.Machine.execSplitConfirmExpiry s
  | .insertionRequest position r => Sys2Proof.Machine.execInsertionRequest position r s
  | .grantReceive position channel switchCycle => Sys2Proof.Machine.execGrantReceive position channel switchCycle s
  | .reintegration => Sys2Proof.Machine.execReintegration s
  | .hwsBarrierArrive id => Sys2Proof.Machine.execHwsBarrierArrive id s
  | .trainWideReset => Sys2Proof.Machine.execTrainWideReset s
  | .resetCycle => Sys2Proof.Machine.execResetCycle s
  | .canFrameReceive slice f => Sys2Proof.Machine.execCanFrameReceive slice f s
  | .canFrameEnd slice sent sof => Sys2Proof.Machine.execCanFrameEnd slice sent sof s
  | .basicCycleStart slice idle => Sys2Proof.Machine.execBasicCycleStart slice idle s
  | .columnStart slice j idle => Sys2Proof.Machine.execColumnStart slice j idle s
  | .referenceLate slice => Sys2Proof.Machine.execReferenceLate slice s
  | .cbsTxRequest slice bits => Sys2Proof.Machine.execCbsTxRequest slice bits s
  | .cbsTxCancel slice bits won => Sys2Proof.Machine.execCbsTxCancel slice bits won s
  | .cbsMatrixWrite slice value => Sys2Proof.Machine.execCbsMatrixWrite slice value s
  | .cbsBankSwitch slice => Sys2Proof.Machine.execCbsBankSwitch slice s
  | .cbsBankCopy slice => Sys2Proof.Machine.execCbsBankCopy slice s
  | .canError slice kind dataPhase transmitter heavy => Sys2Proof.Machine.execCanError slice kind dataPhase transmitter heavy s
  | .busOffRecoveryComplete slice => Sys2Proof.Machine.execBusOffRecoveryComplete slice s
  | .cbsRecoveryStart slice => Sys2Proof.Machine.execCbsRecoveryStart slice s
  | .transceiverFault slice present => Sys2Proof.Machine.execTransceiverFault slice present s
  | .spliceWrite o f => Sys2Proof.Machine.execSpliceWrite o f s
  | .spliceRead o f => Sys2Proof.Machine.execSpliceRead o f s
  | .fetchComplete b => Sys2Proof.Machine.execFetchComplete b s
  | .bufferHoldExpiry b => Sys2Proof.Machine.execBufferHoldExpiry b s
  | .readResponseReceive f => Sys2Proof.Machine.execReadResponseReceive f s
  | .writeErrorReceive f => Sys2Proof.Machine.execWriteErrorReceive f s
  | .relayTimeout k => Sys2Proof.Machine.execRelayTimeout k s
  | .servicePortPacket p => Sys2Proof.Machine.execServicePortPacket p s
  | .splClearPostedErrors => Sys2Proof.Machine.execSplClearPostedErrors s
  | .splFreeReadBuffers => Sys2Proof.Machine.execSplFreeReadBuffers s
  | .heartbeatReceive cycle h => Sys2Proof.Machine.execHeartbeatReceive cycle h s
  | .twinLinkChange up => Sys2Proof.Machine.execTwinLinkChange up s
  | .mirrorReceive complete m => Sys2Proof.Machine.execMirrorReceive complete m s
  | .slowRecordApply r => Sys2Proof.Machine.execSlowRecordApply r s
  | .authAssert => Sys2Proof.Machine.execAuthAssert s
  | .authCommandLapse => Sys2Proof.Machine.execAuthCommandLapse s
  | .authCollision => Sys2Proof.Machine.execAuthCollision s
  | .authSelfAssert => Sys2Proof.Machine.execAuthSelfAssert s
  | .authReadbackMismatch readback => Sys2Proof.Machine.execAuthReadbackMismatch readback s
  | .authInDisagreement => Sys2Proof.Machine.execAuthInDisagreement s
  | .catchInFlight slice a valid angle => Sys2Proof.Machine.execCatchInFlight slice a valid angle s
  | .twnSwap => Sys2Proof.Machine.execTwnSwap s
  | .twnWithdrawSwap => Sys2Proof.Machine.execTwnWithdrawSwap s
  | .twnEnterTestMode => Sys2Proof.Machine.execTwnEnterTestMode s
  | .twnLeaveTestMode => Sys2Proof.Machine.execTwnLeaveTestMode s
  | .swapTimeout => Sys2Proof.Machine.execSwapTimeout s
  | .loaderRun => Sys2Proof.Machine.execLoaderRun s
  | .cfgCheckSlot slot => Sys2Proof.Machine.execCfgCheckSlot slot s
  | .cfgActivateSlot slot => Sys2Proof.Machine.execCfgActivateSlot slot s
  | .cfgReturnToPrevious => Sys2Proof.Machine.execCfgReturnToPrevious s
  | .cfgEndProbation => Sys2Proof.Machine.execCfgEndProbation s
  | .cfgEraseSlot slot => Sys2Proof.Machine.execCfgEraseSlot slot s
  | .probationProgress => Sys2Proof.Machine.execProbationProgress s
  | .probationFailure cause => Sys2Proof.Machine.execProbationFailure cause s
  | .plugFault f => Sys2Proof.Machine.execPlugFault f s
  | .lockstepMismatch => Sys2Proof.Machine.execLockstepMismatch s
  | .eccError double => Sys2Proof.Machine.execEccError double s
  | .mssWatchdogExpiry => Sys2Proof.Machine.execMssWatchdogExpiry s
  | .mssStageOpen target => Sys2Proof.Machine.execMssStageOpen target s
  | .mssCommit bytes => Sys2Proof.Machine.execMssCommit bytes s
  | .mssCloseSession => Sys2Proof.Machine.execMssCloseSession s
  | .mssCheckInactiveBank => Sys2Proof.Machine.execMssCheckInactiveBank s
  | .mssActivateBank => Sys2Proof.Machine.execMssActivateBank s
  | .mssRestart => Sys2Proof.Machine.execMssRestart s
  | .mssOwnerCommand seed => Sys2Proof.Machine.execMssOwnerCommand seed s
  | .mssAttest => Sys2Proof.Machine.execMssAttest s
  | .mssEnrol o => Sys2Proof.Machine.execMssEnrol o s
  | .mssIssueNonce fresh => Sys2Proof.Machine.execMssIssueNonce fresh s
  | .mssExportAttestationKeys => Sys2Proof.Machine.execMssExportAttestationKeys s
  | .nonceExpiry => Sys2Proof.Machine.execNonceExpiry s
  | .firmwareConfirm => Sys2Proof.Machine.execFirmwareConfirm s
  | .sensorSample x => Sys2Proof.Machine.execSensorSample x s
  | .mssTimeSet o value => Sys2Proof.Machine.execMssTimeSet o value s
  | .recordTake => Sys2Proof.Machine.execRecordTake s
  | .flushStart => Sys2Proof.Machine.execFlushStart s
  | .flushIntervalExpiry => Sys2Proof.Machine.execFlushIntervalExpiry s
  | .flushComplete bad => Sys2Proof.Machine.execFlushComplete bad s
  | .recorderTakingStop => Sys2Proof.Machine.execRecorderTakingStop s
  | .logFlushNow => Sys2Proof.Machine.execLogFlushNow s
  | .logClearLastWord => Sys2Proof.Machine.execLogClearLastWord s
  | .logSnapshotOpen h => Sys2Proof.Machine.execLogSnapshotOpen h s
  | .logSnapshotClose h => Sys2Proof.Machine.execLogSnapshotClose h s
  | .logReadSelect h value => Sys2Proof.Machine.execLogReadSelect h value s
  | .readWindowReady h uncorrectable => Sys2Proof.Machine.execReadWindowReady h uncorrectable s
  | .storeFailure journal cause => Sys2Proof.Machine.execStoreFailure journal cause s
  | .journalMirrorReceive records => Sys2Proof.Machine.execJournalMirrorReceive records s
  | .mssIslandRestartRecovery failed => Sys2Proof.Machine.execMssIslandRestartRecovery failed s
  | .recorderStart => Sys2Proof.Machine.execRecorderStart s
  | .x1Qualified decivolts => Sys2Proof.Machine.execX1Qualified decivolts s
  | .powerFailWarning decivolts => Sys2Proof.Machine.execPowerFailWarning decivolts s
  | .powerFailWarningWithdrawn decivolts => Sys2Proof.Machine.execPowerFailWarningWithdrawn decivolts s
  | .supplyLost => Sys2Proof.Machine.execSupplyLost s
  | .shutdownRelease => Sys2Proof.Machine.execShutdownRelease s
  | .powerFailReset => Sys2Proof.Machine.execPowerFailReset s
  | .islandBrownOut island => Sys2Proof.Machine.execIslandBrownOut island s
  | .bootBankSelect => Sys2Proof.Machine.execBootBankSelect s
  | .islandRestart island crcOk => Sys2Proof.Machine.execIslandRestart island crcOk s
  | .plugPresenceChange present image => Sys2Proof.Machine.execPlugPresenceChange present image s
  | .eventDelivery queue => Sys2Proof.Machine.execEventDelivery queue s
  | .nodeEventPop => Sys2Proof.Machine.execNodeEventPop s
  | .nodeRemotePop => Sys2Proof.Machine.execNodeRemotePop s
  | .counterReadClear address => Sys2Proof.Machine.execCounterReadClear address s
  | .registerWrite address value => Sys2Proof.Machine.execRegisterWrite address value s
  | .islandSupervisorReset island => Sys2Proof.Machine.execIslandSupervisorReset island s
  | .listenStart r => Sys2Proof.Machine.execListenStart r s
  | .relayedRequestReceive r => Sys2Proof.Machine.execRelayedRequestReceive r s
  | .servicePortLinkChange up => Sys2Proof.Machine.execServicePortLinkChange up s
  | .supercapacitorExhausted => Sys2Proof.Machine.execSupercapacitorExhausted s
  | .mssCommitComplete => Sys2Proof.Machine.execMssCommitComplete s
  | .slotCheckComplete => Sys2Proof.Machine.execSlotCheckComplete s
  | .bankCheckComplete => Sys2Proof.Machine.execBankCheckComplete s
  | .enrolmentComplete seed => Sys2Proof.Machine.execEnrolmentComplete seed s
  | .attestationComplete => Sys2Proof.Machine.execAttestationComplete s
  | .slotEraseComplete => Sys2Proof.Machine.execSlotEraseComplete s

end Sys2Proof.Machine
end

