-- ==== Sys2Proof/Machine/Step.lean ====
section
/-! DEFINITION. One step of the module: the waiting command at the front, or one tick of time where none waits. -/

namespace Sys2Proof.Machine

/-- One tick of the 200 MHz islands, two of the 400 MHz islands (R33), in ns: how far an idle module moves the time. -/
def tickNs : Nat := 5

/-- An idle module lets a tick pass; nothing but the time changes (log entry 7). -/
def State.idle (s : State) : State := { s with now := s.now + tickNs }

/-- The command at the front of the queue acts on the module with the queue's rest. -/
def step (s : State) : Host.Outcome State Fault Refusal :=
  match s.pending with
  | [] => .next s.idle
  | c :: rest => exec c { s with pending := rest }

/-- The module with the command that a word spells put at the front of its queue. -/
def State.withFetchWord (s : State) (nbits w : Nat) : State :=
  match decodeTableWord nbits w with
  | some c => { s with pending := c :: s.pending }
  | none => s

end Sys2Proof.Machine
end

