-- ==== Sys2Proof/Safety.lean ====
section
/-! DEFINITION. What counts as a safe module: the properties that claims are stated in. -/

namespace Sys2Proof.Machine

/-! ### The evaluation that the expiry of a portal's timer brings (R52, R76) -/

/-- What the evaluation of slice `i` finds at the sync point at which a timer has run out: inputs delivered, the last decisions latched. -/
def State.found (i : Fin 16) (due : Int) (s : State) : Slice := (s.atSyncFrom i due).slices[i].prepared ((s.atSyncFrom i due).envAhead i)

/-- Nothing that ranks above the present state's own rows stands (R76): no emergency handle, no confirmed isolation, no obstacle, no fault cause. -/
def Slice.quiet (e : Env) (p : Slice) : Bool :=
  !p.handleEgress e && !p.handleAccess e && !p.isoConfirmed e && decide (p.portal.obs = .none) && !p.cause10 e && !p.portal.cause11 && !p.cause6 e && (!p.s2 e || p.s1 e)

/-! ### What a command of the train side leaves alone -/

/-- The car side of the module: slices, power groups, the door-loop cell, the parameters handed over, the plug and the part. -/
def State.carSide (s : State) : Vector Slice 16 × Vector Group 2 × LoopCell × Mem × Plug × Bool := (s.slices, s.groups, s.loop, s.params, s.plug, s.small)

/-! ### Requests to Splice (R371, R374, R378, R469) -/

/-- A request that Splice answers itself: it is up, the version is 1, and a datagram came over its link and names this node or none. -/
def State.ownRequest (o : Origin) (f : SpliceFrame) (s : State) : Bool :=
  s.spliceUp && decide (f.version = 1) && (match o with | .udp _ _ => s.spl.linkUp && decide (f.target = 0 ∨ f.target = s.hws.position) | .hawser _ => true)

/-- A request that is performed: one of this node's own, without the exclusive flag, that fits and that the access policy allows. -/
def State.passes (o : Origin) (f : SpliceFrame) (s : State) : Bool :=
  s.ownRequest o f && !f.exclusive && frameFits f && s.allowed o f.address f.length (decide (f.op = 1))

/-- No prefetched buffer overlaps a range. -/
def State.noPrefetch (a n : Nat) (s : State) : Prop := ∀ b : Fin 16, s.spl.bufs[b].st = .prefetched → s.spl.bufs[b].overlaps a n = false

/-! ### Invariants -/

/-- A latched door-loop cell stands open (R83, R86): neither switch closed, no current, no channel that commands its switch closed. -/
def State.loopSafe (s : State) : Prop :=
  s.loop.latched = true → s.loop.sw1 = false ∧ s.loop.sw2 = false ∧ s.loop.ch1 = false ∧ s.loop.ch2 = false ∧ s.loop.conducting = false

/-- The power gate stands as the AUTH lines command it (R48, R395): open only while the own AUTH_OUT reads asserted and AUTH_IN reads released. -/
def State.gateSafe (s : State) : Prop := s.twn.gate = (s.twn.auth.readback && !s.twn.auth.inp)

/-- Every time counter runs within ±200 ppm of its pace (R38), and so does the rate to which the preferred beacon of a cycle returns the Hawser counter (R275). -/
def State.ratesSafe (s : State) : Prop :=
  (∀ k : Fin 17, -rateLimit ≤ s.clocks[k].counter.rate ∧ s.clocks[k].counter.rate ≤ rateLimit) ∧
  (-rateLimit ≤ s.hws.clock.rate ∧ s.hws.clock.rate ≤ rateLimit) ∧
  (∀ v ∈ s.hws.servo, -rateLimit ≤ v.rate ∧ v.rate ≤ rateLimit)

/-- Both copies of a region of the process image are in canonical form. -/
def Region.wf (r : Region) : Bool := Memory.wf ramDefault r.visible && Memory.wf ramDefault r.shadow

/-- Memories that hold bytes are in canonical form: the process image, the handed-over parameters, the staging window, the firmware banks and the plug. -/
def State.memSafe (s : State) : Prop :=
  (∀ i : Fin 16, s.sliceRegions[i].wf = true) ∧ s.hwsRegion.wf = true ∧ s.splRegion.wf = true ∧ s.mssRegion.wf = true ∧
  Memory.wf ramDefault s.params = true ∧ Memory.wf ramDefault s.mss.window = true ∧ Memory.wf norDefault s.mss.bankA.nor = true ∧
  Memory.wf norDefault s.mss.bankB.nor = true ∧ Memory.wf norDefault s.plug.nor = true

end Sys2Proof.Machine
end

