-- ==== Sys2Proof/Certificates/Slice0/Obligations.lean ====
section
/-! DEFINITION. The statements for the provers, one Prop each. Every docstring gives the commands, the rules of spec/ the statement rests on, and its basis; OBLIGATIONS.json lists them. -/

section
open Sys2Proof Sys2Proof.Machine

/-- O1. A step takes the command at the front of the queue and runs exec on it with the rest; with an empty queue one 5 ns tick passes. Rules: R33 (derived). -/
def Obligations.StepTakesFrontCommand : Prop :=
  (∀ (c : Instr) (rest : List Instr) (s : State), step { s with pending := c :: rest } = exec c { s with pending := rest }) ∧
  (∀ s : State, s.pending = [] → step s = .next { s with now := s.now + 5 })

/-- O2. Every command, in every state and with every operand, answers a next state: no fault and no refusal. Rules: R11, R36, R520, R521 (derived). -/
def Obligations.EveryCommandAnswersNextState : Prop :=
  ∀ (c : Instr) (s : State), ∃ t, exec c s = .next t

/-- O3. What reset leaves in registers of the node and of a slice, read through the windows. Rules: R16, R20, R514, R518, R528 (derived). -/
def Obligations.ResetRegistersReadAsStated : Prop :=
  (∀ i : Fin 16, State.reset.slices[i].portal.st.code = 15 ∧ State.reset.readSlice i 0 % 16 = 15 ∧ (State.reset.readSlice i 0).testBit 25 = true) ∧
  (∀ (i : Fin 16) (a : Fin 3), State.reset.slices[i].axes[a].d.mode = .free ∧ State.reset.slices[i].axes[a].m.v = 0 ∧ State.reset.slices[i].axes[a].m.homed = false) ∧
  (∀ i : Fin 16, State.reset.sliceRegions[i].age = 255) ∧ State.reset.hwsRegion.age = 255 ∧ State.reset.splRegion.age = 255 ∧ State.reset.mssRegion.age = 255 ∧
  State.reset.hws.position = 0 ∧ State.reset.ina.st = .offline ∧ State.reset.twn.auth.out = false ∧ State.reset.twn.gate = false ∧
  State.reset.loop.sw1 = false ∧ State.reset.loop.sw2 = false ∧ State.reset.loop.latched = false ∧ State.reset.cfg.state = 0 ∧
  (∀ k : Fin 8, State.reset.node.subscribe[k] = 0xFFFFFFFF ∧ State.reset.node.pending[k] = 0) ∧
  (∀ k : Fin 34, State.reset.islands[k].running = false) ∧ State.reset.pending = []

/-- O4. The state after reset meets the four invariants: loop cell, power gate, canonical memories, clock rates. Rules: R38, R83, R395, R514 (derived). -/
def Obligations.ResetIsSafe : Prop :=
  State.reset.loopSafe ∧ State.reset.gateSafe ∧ State.reset.memSafe ∧ State.reset.ratesSafe

/-- O5. PIM_WRITE puts a word into the shadow copy of the writer's own region, and any other agent gets "not owner" and changes nothing. Rules: R19, R22 (stated). -/
def Obligations.ProcessImageWriteNeedsItsOwner : Prop :=
  (∀ (g : Agent) (off v : Nat) (r : RegionId) (k : Nat) (s : State), s.agentUp g = true → off % 4 = 0 → off < 0x40000 → s.regionOf off = (r, k) → Agent.mayWrite g r k = true →
    exec (.pimWrite g off v) s =
      .next { (s.modRegion r fun x => { x with shadow := memSetBytes 0 x.shadow k (leBytes 4 v) }) with access := ⟨.done, 0, false⟩, freeCount := s.freeCount + 1 }) ∧
  (∀ (g : Agent) (off v : Nat) (r : RegionId) (k : Nat) (s : State), s.agentUp g = true → off % 4 = 0 → off < 0x40000 → s.regionOf off = (r, k) → Agent.mayWrite g r k = false →
    exec (.pimWrite g off v) s = .next { s with access := ⟨.notOwner, 0, false⟩, freeCount := s.freeCount + 1 }) ∧
  (∀ (g : Agent) (off v : Nat) (s : State), s.agentUp g = true → off % 4 ≠ 0 → exec (.pimWrite g off v) s = .next { s with access := ⟨.alignment, 0, false⟩, freeCount := s.freeCount + 1 }) ∧
  (∀ (g : Agent) (off v : Nat) (s : State), s.agentUp g = true → off % 4 = 0 → 0x40000 ≤ off →
    exec (.pimWrite g off v) s = .next { s with access := ⟨.noTarget, 0, false⟩, freeCount := s.freeCount + 1 }) ∧
  (∀ (g : Agent) (off v : Nat) (s : State), s.agentUp g = false → exec (.pimWrite g off v) s = .next s.draw) ∧
  (∀ (r : RegionId) (g : Agent), r ≠ .reserved → ((∀ k, Agent.mayWrite g r k = true) ↔ g = (match r with | .slice i => .slice i | .hawser => .hawser | .splice => .splice | _ => .mss))) ∧
  (∀ (k v1 v2 : Nat) (x : Region), Memory.wf ramDefault x.shadow = true →
    memGetBytes ramDefault ({ (x.write k (leBytes 4 v1)).write k (leBytes 4 v2) with completed := true } : Region).atSync.visible k 4 = leBytes 4 v2)

/-- O6. Which region an offset of the process image lies in, and which agent writes it. Rules: R19, R20, R360, R376 (derived). -/
def Obligations.ProcessImageRegionsLieAsLaidOut : Prop :=
  (∀ (i : Fin 16) (k : Nat) (s : State), k < 0x2000 → i.val < s.sliceCount → s.regionOf (0x2000 * i.val + k) = (.slice i, k)) ∧
  (∀ (k : Nat) (s : State), k < 0x10000 → s.regionOf (0x20000 + k) = (.hawser, k)) ∧
  (∀ (k : Nat) (s : State), k < 0x8000 → s.regionOf (0x30000 + k) = (.splice, k)) ∧
  (∀ (k : Nat) (s : State), k < 0x4000 → s.regionOf (0x38000 + k) = (.mss, k)) ∧
  (∀ (i j : Fin 16) (k : Nat), Agent.mayWrite (.slice i) (.slice j) k = decide (i = j)) ∧
  (∀ k : Nat, Agent.mayWrite .hawser .hawser k = true ∧ Agent.mayWrite .splice .splice k = true ∧ Agent.mayWrite .mss .mss k = true) ∧
  (∀ (r : RegionId) (k : Nat), Agent.mayWrite .remote r k = true ↔ r = .splice ∧ 0x2000 ≤ k ∧ k < 0x4000)

/-- O7. HOST_PORT_ACCESS reads and writes the registers of a slice below its action page, answers "stalled" while the engine stands, and serves two waiting accesses in alternation. Rules: R31, R36, R518, R521 (derived). -/
def Obligations.HostPortReachesSliceRegisters : Prop :=
  let port (g : HostAgent) (i : Fin 16) (x : Access) (s : State) : State :=
    { s with access := x, hostPorts := s.hostPorts.set i (match g with
      | .splice => { s.hostPorts[i] with splice := x, last := some .splice }
      | .mss => { s.hostPorts[i] with mss := x, last := some .mss }), freeCount := s.freeCount + 1 }
  let up (g : HostAgent) (s : State) : Bool := match g with | .splice => s.hawserUp | .mss => s.mssUp
  let free (g : HostAgent) (i : Fin 16) (s : State) : Bool := !s.stalled.contains ⟨match g with | .splice => .splice | .mss => .mss, ⟨i.val, by omega⟩⟩
  let access (g : HostAgent) (i : Fin 16) (x : HostAccess) : Instr := .hostPortAccess g i x none
  (∀ (g : HostAgent) (i : Fin 16) (off : Nat) (s : State), up g s = true → s.engineUp i = true → free g i s = true → off < 0xF000 → off % 4 = 0 →
    exec (access g i ⟨off, none⟩) s = .next (port g i ⟨.done, s.readSlice i off, false⟩ s)) ∧
  (∀ (g : HostAgent) (i : Fin 16) (off v : Nat) (s : State), up g s = true → s.engineUp i = true → free g i s = true → off < 0xF000 → off % 4 = 0 →
    let s' := s.discardWhere fun x => x.overlaps (0x04000000 + i.val * 0x10000 + off) 4
    exec (access g i ⟨off, some v⟩) s =
      .next (port g i ⟨if (s'.writeSlice i off (v % 2 ^ 32)).2 then .bankActive else .done, 0, false⟩ (s'.writeSlice i off (v % 2 ^ 32)).1)) ∧
  (∀ (g : HostAgent) (i : Fin 16) (off : Nat) (w : Option Nat) (s : State), up g s = true → i.val < s.sliceCount → off < 0x10000 → off % 4 = 0 →
    (free g i s = false ∨ s.islands[i.val].running = false) →
    exec (access g i ⟨off, w⟩) s = .next (port g i ⟨.stalled, 0, false⟩ s)) ∧
  (∀ (i : Fin 16) (x y : HostAccess) (s : State), s.hawserUp = true → s.mssUp = true →
    let t := (if s.hostPorts[i].last = some .splice then (s.hostServe .mss i y).hostServe .splice i x else (s.hostServe .splice i x).hostServe .mss i y).draw
    exec (.hostPortAccess .splice i x (some y)) s = .next t ∧ exec (.hostPortAccess .mss i y (some x)) s = .next t) ∧
  (∀ (g : HostAgent) (i : Fin 16) (x : HostAccess) (s : State), (s.hostServe g i x).hostPorts[i].last = some g)

/-- O8. TIME_TRANSFER slews or schedules a step, CLOCK_STEP_APPLY applies it in the tick after a sync point, HOLDOVER_ENTRY flags the island and its region. Rules: R36, R37, R38, R41 (derived). -/
def Obligations.ClocksSlewStepAndHoldOver : Prop :=
  (∀ (k : Fin 17) (t1 t2 t3 t4 : Int) (s : State), s.hawserUp = true → s.islands[(State.islandOf k).val].running = true →
    (s.timeChannel k = false → exec (.timeTransfer k t1 t2 t3 t4) s = .next s.draw) ∧
    (s.timeChannel k = true →
    let off : Rat := ((t2 - t1) - (t4 - t3) : Int) / 2
    (-(1000 * 65536) ≤ off → off ≤ 1000 * 65536 →
      exec (.timeTransfer k t1 t2 t3 t4) s = .next ((s.modClock k fun c => { c with
        counter := ⟨c.counter.read s.now, s.now, max (-200000) (min 200000 (c.counter.rate + reportR (-off / 65536 / (s.tcyc : Rat) * 1000000000)))⟩,
        missed := 0, transferred := true, holdover := false }).modRegion (clockRegion k) fun r => { r with holdover := false }).draw) ∧
    (1000 * 65536 < off ∨ off < -(1000 * 65536) →
      exec (.timeTransfer k t1 t2 t3 t4) s = .next ((s.modClock k fun c => { c with missed := 0, transferred := true, holdover := false, pendingStep := some (reportR (-off)), stepReady := false }).modRegion (clockRegion k) fun r => { r with holdover := false }).draw))) ∧
  (∀ (k : Fin 18) (h : k.val < 17) (d : Int) (s : State), s.clocks[k.val].pendingStep = some d →
    let due : Bool := s.clocks[k.val].stepReady && decide (s.now ≤ max s.lastSync s.clocks[k.val].syncAt + (if k.val < 16 then 3 else 5))
    let m : Int := (s.clocks[k.val].counter.step d).nearest s.tcyc s.now
    (due = true → exec (.clockStepApply k) s = .next { s with
      clocks := s.clocks.set k.val { s.clocks[k.val] with counter := s.clocks[k.val].counter.step d, pendingStep := none, stepReady := false, lastMultiple := s.clocks[k.val].lastMultiple.map fun _ => m },
      slices := if hk : k.val < 16 then s.slices.set k.val { s.slices[k.val] with evalAt := s.slices[k.val].evalAt.map fun _ => m } else s.slices,
      freeCount := s.freeCount + 1 }) ∧
    (due = false → exec (.clockStepApply k) s = .next s.draw)) ∧
  (∀ (d : Int) (s : State), s.hawserUp = true → s.hws.pendingStep = some d → s.hws.stepReady = true → s.now ≤ s.lastSync + 3 →
    ∃ t, exec (.clockStepApply 17) s = .next t ∧ t.hws.clock = s.hws.clock.step d ∧ t.now = s.now ∧ t.hws.pendingStep = none ∧ t.hws.faultEvent = 9 ∧ t.slices = s.slices ∧ t.clocks = s.clocks) ∧
  (∀ (x : Counter) (d r : Int) (n : Nat), (x.step d).read n = x.read n + d ∧ (x.slew n r).read n = x.read n) ∧
  (∀ (k : Fin 17) (s : State), s.islands[(State.islandOf k).val].running = true → 4 ≤ s.clocks[k].missed →
    exec (.holdoverEntry k) s = .next ((s.modClock k fun c => { c with holdover := true }).modRegion (clockRegion k) fun r => { r with holdover := true }).draw)

/-- O9. HANDSHAKE_CHANNEL_STALLED marks the channel of the waiting block and the block raises its event. Rules: R36, R559 (derived). -/
def Obligations.StalledChannelIsMarkedAndRaised : Prop :=
  (∀ (w : Waiter) (k : Fin 35) (s : State), ((waiterIsland w).val = k.val ∨ (16 ≤ k.val ∧ k.val < 32) ∨ s.islands[waiterIsland w].running = false) →
    exec (.handshakeChannelStalled w k) s = .next s.draw) ∧
  (∀ (w : Waiter) (k : Fin 35) (s : State), (waiterIsland w).val ≠ k.val → (k.val < 16 ∨ 32 ≤ k.val) → s.islands[waiterIsland w].running = true →
    let m : State := { s with stalled := if ⟨w, k⟩ ∈ s.stalled then s.stalled else s.stalled ++ [⟨w, k⟩] }
    exec (.handshakeChannelStalled w k) s = .next (match w with
      | .slice i => (m.modSlice i fun sl => sl.switchEvent (m.env i) 10 10 0).draw
      | .hawser => (m.hwsEvent 12 0 0 0).draw
      | .splice => (m.splEvent 7 0 0 0).draw
      | .logline => (m.logEvent 7 0 0).draw
      | .mss => (m.mssEvent 0 5 0).draw)) ∧
  (∀ (j : Fin 34) (s : State) (c : Handshake), s.hasIsland j = true →
    (c ∈ (s.release j).stalled ↔ c ∈ s.stalled ∧ c.island.val ≠ j.val ∧ waiterIsland c.waiter ≠ j))

/-- O10. INTAKE_OFFER: a queue with room takes the entry with its loss count, a full one loses it and counts. Rules: R26 (stated). -/
def Obligations.IntakeQueueTakesOrCountsLoss : Prop :=
  (∀ (q : Fin 18) (x : Intake) (s : State), (q.val < 16 → q.val < s.sliceCount) → (s.intake q).entries.length < 32 → x.kind ≠ 3 →
    exec (.intakeOffer q x) s = .next (s.setIntake q { s.intake q with entries := (s.intake q).entries ++ [{ x with lost := (s.intake q).lost }], lost := 0 }).draw) ∧
  (∀ (q : Fin 18) (x : Intake) (s : State), (q.val < 16 → q.val < s.sliceCount) → 32 ≤ (s.intake q).entries.length →
    exec (.intakeOffer q x) s = .next (s.setIntake q { s.intake q with lost := (s.intake q).lost + 1 }).draw) ∧
  (∀ (q : Fin 18) (y : IntakeQ) (s : State), (s.setIntake q y).intake q = y ∧ ∀ p : Fin 18, p ≠ q → (s.setIntake q y).intake p = s.intake p)

/-- O11. The commands of portal, axis, drive and switches stand in their command register until the next sync point takes them, and change nothing else. Rules: R11, R67, R72, R75, R110, R120, R151, R160, R161, R206, R225 (derived). -/
def Obligations.SliceCommandsStandInTheirRegisters : Prop :=
  (∀ (i : Fin 16) (s : State), s.engineUp i = true → exec (.prtFaultReset i) s = .next (s.modSlice i fun sl => sl.modPortal fun q => { q with command := 1 }).draw) ∧
  (∀ (i : Fin 16) (s : State), s.engineUp i = true → exec (.prtEmergencyStaffReset i) s = .next (s.modSlice i fun sl => sl.modPortal fun q => { q with command := 2 }).draw) ∧
  (∀ (i : Fin 16) (s : State), s.engineUp i = true → exec (.prtRehome i) s = .next (s.modSlice i fun sl => sl.modPortal fun q => { q with command := 3 }).draw) ∧
  (∀ (i : Fin 16) (a : Fin 3) (s : State), s.engineUp i = true → exec (.axStop i a) s = .next (s.modSlice i fun sl => sl.modM a fun m => { m with command := 1 }).draw) ∧
  (∀ (i : Fin 16) (a : Fin 3) (s : State), s.engineUp i = true → exec (.axTestMove i a) s = .next (s.modSlice i fun sl => sl.modM a fun m => { m with command := 2 }).draw) ∧
  (∀ (i : Fin 16) (s : State), s.engineUp i = true → exec (.teachCycle i) s = .next (s.modSlice i fun sl => sl.modD 0 fun d => { d with command := 1 }).draw) ∧
  (∀ (i : Fin 16) (a : Fin 3) (s : State), s.engineUp i = true → exec (.envelopeReset i a) s = .next (s.modSlice i fun sl => sl.modD a fun d => { d with command := 2 }).draw) ∧
  (∀ (i : Fin 16) (a : Fin 3) (s : State), s.engineUp i = true → exec (.envelopeFreeze i a) s = .next (s.modSlice i fun sl => sl.modD a fun d => { d with command := 3 }).draw) ∧
  (∀ (i : Fin 16) (a : Fin 3) (s : State), s.engineUp i = true → exec (.envelopeEndFreeze i a) s = .next (s.modSlice i fun sl => sl.modD a fun d => { d with command := 4 }).draw) ∧
  (∀ (i : Fin 16) (k : Fin 6) (s : State), s.engineUp i = true → exec (.lswClearLatchOff i k) s = .next (s.modSlice i fun sl => sl.modSw fun x => { x with command := 1, commandChannel := k.val }).draw) ∧
  (∀ (i : Fin 16) (s : State), s.engineUp i = true → exec (.lswTetherTest i) s = .next (s.modSlice i fun sl => sl.modSw fun x => { x with command := 2, commandChannel := 0 }).draw) ∧
  (∀ (i : Fin 16) (a : Fin 3) (k : Fin 6) (s : State), s.engineUp i = false →
    exec (.prtFaultReset i) s = .next s.draw ∧ exec (.prtEmergencyStaffReset i) s = .next s.draw ∧ exec (.prtRehome i) s = .next s.draw ∧ exec (.axStop i a) s = .next s.draw ∧
    exec (.axTestMove i a) s = .next s.draw ∧ exec (.teachCycle i) s = .next s.draw ∧ exec (.envelopeReset i a) s = .next s.draw ∧ exec (.envelopeFreeze i a) s = .next s.draw ∧
    exec (.envelopeEndFreeze i a) s = .next s.draw ∧ exec (.lswClearLatchOff i k) s = .next s.draw ∧ exec (.lswTetherTest i) s = .next s.draw)

/-- O12. At the first sync point at which its timer has elapsed, a portal that nothing of a higher rank concerns goes to FAULT with the cause of that timer. Rules: R52, R65, R70, R74, R76 (derived). -/
def Obligations.ExpiredPortalTimersGiveTheirFault : Prop :=
  (∀ (i : Fin 16) (s : State), s.slices[i].portal.st = .locking →
    let due : Int := s.slices[i].portal.tState + ms (cfgPrtLockConfirmMs s.params i)
    let u := s.atSyncFrom i due
    let e := u.envAhead i
    let p := s.found i due
    s.timerActs i due = true → p.quiet e = true → p.s2 e = false →
    ∃ x : Slice, exec (.lockConfirmTimeout i) s = .next (u.modSlice i fun _ => x).draw ∧ due ≤ (e.cyc : Int) ∧ x.portal.st = .fault ∧ x.portal.faultCause = 5 ∧ x.portal.stateAtFault = 9) ∧
  (∀ (i : Fin 16) (s : State), s.slices[i].portal.st = .unlocking →
    let due : Int := s.slices[i].portal.tState + ms (cfgPrtUnlockConfirmMs s.params i)
    let u := s.atSyncFrom i due
    let e := u.envAhead i
    let p := s.found i due
    s.timerActs i due = true → p.quiet e = true → p.s2 e = true →
    ∃ x : Slice, exec (.unlockConfirmTimeout i) s = .next (u.modSlice i fun _ => x).draw ∧ due ≤ (e.cyc : Int) ∧ x.portal.st = .fault ∧ x.portal.faultCause = 2 ∧ x.portal.stateAtFault = 2) ∧
  (∀ (i : Fin 16) (s : State), s.slices[i].portal.st = .opening →
    let due : Int := s.slices[i].portal.tState + ms (cfgPrtOpenTimeout s.params i)
    let u := s.atSyncFrom i due
    let e := u.envAhead i
    let p := s.found i due
    s.timerActs i due = true → p.quiet e = true → 
    ∃ x : Slice, exec (.openTimeoutExpiry i) s = .next (u.modSlice i fun _ => x).draw ∧ due ≤ (e.cyc : Int) ∧ x.portal.st = .fault ∧ x.portal.faultCause = 3 ∧ x.portal.stateAtFault = 4) ∧
  (∀ (i : Fin 16) (s : State), s.slices[i].portal.st = .closing → s.slices[i].portal.phase = .move →
    let due : Int := s.slices[i].portal.tState + ms (cfgPrtCloseTimeout s.params i)
    let u := s.atSyncFrom i due
    let e := u.envAhead i
    let p := s.found i due
    s.timerActs i due = true → p.quiet e = true → 
    ∃ x : Slice, exec (.closeTimeoutExpiry i) s = .next (u.modSlice i fun _ => x).draw ∧ due ≤ (e.cyc : Int) ∧ x.portal.st = .fault ∧ x.portal.faultCause = 4 ∧ x.portal.stateAtFault = 6) ∧
  (∀ (i : Fin 16) (s : State), s.slices[i].portal.st = .closedUnlocked →
    let due : Int := s.slices[i].portal.tState + ms (cfgPrtStepStowTimeout s.params i)
    let u := s.atSyncFrom i due
    let e := u.envAhead i
    let p := s.found i due
    s.timerActs i due = true → p.quiet e = true → 
    ∃ x : Slice, exec (.stepStowTimeoutExpiry i) s = .next (u.modSlice i fun _ => x).draw ∧ due ≤ (e.cyc : Int) ∧ x.portal.st = .fault ∧ x.portal.faultCause = 8 ∧ x.portal.stateAtFault = 8) ∧
  (∀ (since : Int) (i : Fin 16) (s : State), s.slices[i].portal.s2Alone = some since → s.slices[i].portal.st.faultable = true →
    let due : Int := since + ms (cfgPrtLockConfirmMs s.params i) + 1
    let u := s.atSyncFrom i due
    let e := u.envAhead i
    let p := s.found i due
    s.timerActs i due = true → p.handleEgress e = false → p.handleAccess e = false → p.isoConfirmed e = false → p.portal.obs = .none → p.cause10 e = false → p.portal.cause11 = false → p.cause6 e = false → p.s2 e = true → p.s1 e = false →
    ∃ x : Slice, exec (.s2WithoutS1Timeout i) s = .next (u.modSlice i fun _ => x).draw ∧ due ≤ (e.cyc : Int) ∧ x.portal.st = .fault ∧ x.portal.faultCause = 7 ∧ x.portal.stateAtFault = s.slices[i].portal.st.code)

/-- O13. The portal timers that are no fault: warn phase, lock and unlock pulse, reclose pause, auto-close and egress hold at the sync point at which they have elapsed. Rules: R52, R63, R65, R66, R68, R69, R71, R76, R201 (derived). -/
def Obligations.ExpiredPortalTimersMoveThePortalOn : Prop :=
  (∀ (i : Fin 16) (s : State), (s.slices[i].portal.st = .closing ∨ s.slices[i].portal.st = .homing) → s.slices[i].portal.phase = .warn →
    let due : Int := s.slices[i].portal.tState + ms (cfgPrtWarnTime s.params i)
    let u := s.atSyncFrom i due
    let e := u.envAhead i
    let p := s.found i due
    s.timerActs i due = true → p.quiet e = true →
    ∃ x : Slice, exec (.warnTimeExpiry i) s = .next (u.modSlice i fun _ => x).draw ∧ due ≤ (e.cyc : Int) ∧ x.portal.st = s.slices[i].portal.st ∧ x.portal.phase = .move) ∧
  (∀ (i : Fin 16) (s : State), s.slices[i].portal.st = .locking →
    let due : Int := s.slices[i].portal.tState + ms (cfgPrtLockPullMs s.params i)
    let u := s.atSyncFrom i due
    let e := u.envAhead i
    let p := s.found i due
    s.timerActs i due = true → 
    ∃ x : Slice, exec (.lockPullExpiry i) s = .next (u.modSlice i fun _ => x).draw ∧ due ≤ (e.cyc : Int) ∧ 
      (e.heldLock = false → cfgLswChSource s.params i 0 = 1 → x.sw.ch[0].decided = false) ∧
      (p.quiet e = true → p.s2 e = true → x.portal.st = .locked)) ∧
  (∀ (i : Fin 16) (s : State), s.slices[i].portal.st = .unlocking → (s.env i).heldLock = false →
    let due : Int := s.slices[i].portal.tState + ms (cfgPrtUnlockPulseMs s.params i)
    let u := s.atSyncFrom i due
    let e := u.envAhead i
    let p := s.found i due
    s.timerActs i due = true → 
    ∃ x : Slice, exec (.unlockPulseExpiry i) s = .next (u.modSlice i fun _ => x).draw ∧ due ≤ (e.cyc : Int) ∧ 
      ∀ k : Fin 6, k ≠ 0 → k.val = cfgPrtUnlockChannel s.params i → cfgLswChSource s.params i k.val = 1 → x.sw.ch[k].decided = false) ∧
  (∀ (i : Fin 16) (s : State), s.slices[i].portal.st = .reopening → s.slices[i].portal.phase = .pause →
    let due : Int := s.slices[i].portal.tState + ms (cfgPrtReclosePauseMs s.params i)
    let u := s.atSyncFrom i due
    let e := u.envAhead i
    let p := s.found i due
    s.timerActs i due = true → p.quiet e = true →
    ∃ x : Slice, exec (.reclosePauseExpiry i) s = .next (u.modSlice i fun _ => x).draw ∧ due ≤ (e.cyc : Int) ∧ 
      (cfgPrtReopenLimit s.params i < s.slices[i].portal.reopenCount → x.portal.st = .open_ ∧ x.portal.restricted = true ∧ x.portal.faultCause = s.slices[i].portal.faultCause) ∧
      (s.slices[i].portal.reopenCount ≤ cfgPrtReopenLimit s.params i → p.closeSources e ≠ 0 → x.portal.st = .closing ∧ x.portal.phase = .warn) ∧
      (s.slices[i].portal.reopenCount ≤ cfgPrtReopenLimit s.params i → p.closeSources e = 0 → p.leavesOpen e = true → x.portal.st = .open_ ∧ x.portal.restricted = false) ∧
      (s.slices[i].portal.reopenCount ≤ cfgPrtReopenLimit s.params i → p.closeSources e = 0 → p.leavesOpen e = false → x.portal.st = .opening)) ∧
  (∀ (t0 : Int) (i : Fin 16) (s : State), s.slices[i].portal.st = .opening → s.slices[i].portal.stopPause = some t0 →
    let due : Int := t0 + ms (cfgPrtReclosePauseMs s.params i)
    let u := s.atSyncFrom i due
    let e := u.envAhead i
    let p := s.found i due
    s.timerActs i due = true → p.quiet e = true → (e.cyc : Int) < s.slices[i].portal.tState + ms (cfgPrtOpenTimeout s.params i) →
    p.closeSources e = 0 → (p.leavesOpen e = false ∨ p.deployed e = false ∨ p.portal.issued = false) →
    ∃ x : Slice, exec (.reclosePauseExpiry i) s = .next (u.modSlice i fun _ => x).draw ∧ due ≤ (e.cyc : Int) ∧ x.portal.st = .opening ∧ x.portal.stopPause = none) ∧
  (∀ (i : Fin 16) (s : State), s.slices[i].portal.st = .open_ → cfgPrtAutoClose s.params i ≠ 0 → (s.slices[i].portal.restricted = false ∨ s.slices[i].portal.sources.testBit 4 = false) →
    let due : Int := s.slices[i].portal.tState + ms (cfgPrtAutoClose s.params i * 100)
    let u := s.atSyncFrom i due
    let e := u.envAhead i
    let p := s.found i due
    s.timerActs i due = true → p.quiet e = true →
    ∃ x : Slice, exec (.autoCloseExpiry i) s = .next (u.modSlice i fun _ => x).draw ∧ due ≤ (e.cyc : Int) ∧ x.portal.st = .closing ∧ x.portal.phase = .warn) ∧
  (∀ (i : Fin 16) (s : State), s.slices[i].portal.st = .emergency → s.slices[i].portal.emergFreed = false → s.slices[i].zeroSpeed = false →
    let due : Int := s.slices[i].portal.tState + ms (cfgPrtEgressHoldMs s.params i)
    let u := s.atSyncFrom i due
    let e := u.envAhead i
    let p := s.found i due
    s.timerActs i due = true → p.handleEgress e = true → p.zeroSpeed = false →
    ∃ x : Slice, exec (.egressHoldExpiry i) s = .next (u.modSlice i fun _ => x).draw ∧ due ≤ (e.cyc : Int) ∧ x.portal.st = .emergency ∧ x.portal.emergFreed = true ∧
      ∀ a : Fin 3, e.role a = 1 → e.portalEnabled = true → x.axes[a].d.pendMode = some .free)

/-- O14. Each of the twelve portal timers, where it runs in a module that drives, is the evaluation of the first sync point at which it has elapsed; elsewhere its expiry changes nothing. Rules: R40, R51, R52, R77, R443 (derived). -/
def Obligations.PortalTimersActOnlyWhereTheyRun : Prop :=
  let acts (c : Fin 16 → Instr) (due : Env → Slice → Option Int) : Prop := ∀ (i : Fin 16) (s : State),
    (∀ t : Int, due (s.env i) s.slices[i] = some t → s.timerActs i t = true →
      exec (c i) s = .next ((s.atSyncFrom i t).modSlice i fun sl => sl.syncActive ((s.atSyncFrom i t).envAhead i)).draw ∧
      t ≤ ((s.atSyncFrom i t).slices[i].cycleT : Int) ∧ ∃ m, (s.atSyncFrom i t).slices[i].evalAt = some m) ∧
    ((∀ t : Int, due (s.env i) s.slices[i] = some t → s.timerActs i t = false) → exec (c i) s = .next s.draw)
  acts .warnTimeExpiry (Slice.timerDue 1) ∧
  acts .lockPullExpiry Slice.lockPullDue ∧
  acts .lockConfirmTimeout (Slice.timerDue 2) ∧
  acts .s2WithoutS1Timeout Slice.s2AloneDue ∧
  acts .unlockConfirmTimeout (Slice.timerDue 3) ∧
  acts .unlockPulseExpiry Slice.unlockPulseDue ∧
  acts .openTimeoutExpiry Slice.openDue ∧
  acts .closeTimeoutExpiry (Slice.timerDue 5) ∧
  acts .stepStowTimeoutExpiry (Slice.timerDue 6) ∧
  acts .reclosePauseExpiry (Slice.timerDue 7) ∧
  acts .autoCloseExpiry (Slice.timerDue 8) ∧
  acts .egressHoldExpiry (Slice.timerDue 9)

/-- O15. What the commands that stand in a slice's registers do when a sync point takes them. Rules: R67, R72, R75, R110, R120, R151, R152, R160, R161, R206, R225 (derived). -/
def Obligations.SyncPointTakesSlicesCommands : Prop :=
  (∀ (e : Env) (p : Slice), p.handleEgress e = false → p.handleAccess e = false → p.isoConfirmed e = false → p.portal.obs = .none → p.portal.st = .fault → p.portal.command = 1 →
    (p.evaluate e).portal.st = .homing ∧ (p.evaluate e).portal.phase = .warn) ∧
  (∀ (e : Env) (p : Slice), p.handleEgress e = false → p.handleAccess e = false → p.portal.st = .emergency → p.portal.command = 2 →
    (p.evaluate e).portal.st = .homing ∧ (p.evaluate e).portal.phase = .warn) ∧
  (∀ (e : Env) (p : Slice), p.quiet e = true → p.portal.st = .locked → p.portal.command = 3 →
    (p.evaluate e).portal.st = .homing ∧ (p.evaluate e).portal.phase = .warn) ∧
  (∀ (e : Env) (p : Slice), (p.evaluate e).portal.command = 0) ∧
  (∀ (e : Env) (a : Fin 3) (sl : Slice), sl.axes[a].m.command = 1 → sl.teach = none →
    sl.takeAxisCommand e a = sl.modM a fun m =>
      let m := { m with command := 0, queue := [], rev := none, caught := [], pending := [], learnable := false, req := .idle, needsGrant := false }
      if m.v = 0 ∧ m.home = none then { m with edgeAt := none, stopping := false } else { m with stopping := true, decel := true, freshStop := true }) ∧
  (∀ (e : Env) (a : Fin 3) (sl : Slice), sl.axes[a].m.command = 2 → sl.teach = none → sl.portal.st = .fault → sl.zeroSpeed = true → e.active = true → sl.axes[a].d.fault = 0 →
    (sl.takeAxisCommand e a).axes[a].m.pending = sl.axes[a].m.pending ++ [⟨sl.axes[a].m.testTarget, 0, false, false⟩] ∧ (sl.takeAxisCommand e a).axes[a].m.command = 0 ∧
    (sl.takeAxisCommand e a).axes[a].m.queue = sl.axes[a].m.queue) ∧
  (∀ (e : Env) (a : Fin 3) (sl : Slice), sl.axes[a].m.command = 2 → sl.teach = none → (sl.portal.st ≠ .fault ∨ sl.zeroSpeed = false ∨ e.active = false ∨ sl.axes[a].d.fault ≠ 0) →
    sl.takeAxisCommand e a = sl.modM a fun m => { m with command := 0 }) ∧
  (∀ (e : Env) (sl : Slice), sl.axes[0].d.command = 1 → sl.teachAllowed e = true →
    (∀ a : Fin 3, e.enabledAxis a = true → (sl.takeDriveCommand e 0).axes[a].d.teachRunning = true ∧ (sl.takeDriveCommand e 0).axes[a].d.teachDone = 0) ∧
    ∃ t, (sl.takeDriveCommand e 0).teach = some t ∧ t.step = 1 ∧ t.moves = 0 ∧ t.interrupted = false ∧ e.now ≤ t.measuredAt ∧ t.measuredAt ≤ e.now + 420000000) ∧
  (∀ (e : Env) (sl : Slice), sl.axes[0].d.command = 1 → sl.teach = none → sl.teachAllowed e = false →
    sl.takeDriveCommand e 0 = sl.modD 0 fun d => { d with command := 0, cntRefusals := satInc 255 d.cntRefusals }) ∧
  (∀ (e : Env) (a : Fin 3) (sl : Slice), sl.axes[a].d.command = 2 → sl.teach = none → sl.speedOf e a = 0 → ∀ b : Fin 128, (sl.takeDriveCommand e a).axes[a].d.env[b] = EnvBin.reset) ∧
  (∀ (e : Env) (a : Fin 3) (sl : Slice), sl.axes[a].d.command = 2 → sl.teach = none → sl.speedOf e a ≠ 0 →
    sl.takeDriveCommand e a = sl.modD a fun d => { d with command := 0, cntRefusals := satInc 255 d.cntRefusals }) ∧
  (∀ (e : Env) (a : Fin 3) (sl : Slice), sl.axes[a].d.command = 3 → sl.teach = none → sl.takeDriveCommand e a = sl.modD a fun d => { d with command := 0, frozenCmd := true }) ∧
  (∀ (e : Env) (a : Fin 3) (sl : Slice), sl.axes[a].d.command = 4 → sl.teach = none → sl.takeDriveCommand e a = sl.modD a fun d => { d with command := 0, frozenCmd := false }) ∧
  (∀ (e : Env) (k : Fin 6) (sl : Slice), sl.sw.command = 1 → sl.teach = none → sl.sw.commandChannel = k.val → sl.sw.ch[k].st = .latchedOff → sl.sw.ch[k].deltaT + 20 ≤ sl.sw.tether.stored.dtTrip[k] →
    sl.sw.ch[k].cmd = false → (sl.takeSwitchCommand e).sw.ch[k].st = .off ∧ (sl.takeSwitchCommand e).sw.ch[k].trips = 0 ∧ (sl.takeSwitchCommand e).sw.command = 0) ∧
  (∀ (e : Env) (k : Fin 6) (sl : Slice), sl.sw.command = 1 → sl.teach = none → sl.sw.commandChannel = k.val → sl.sw.ch[k].st = .latchedOff → sl.sw.tether.stored.dtTrip[k] < sl.sw.ch[k].deltaT + 20 →
    (sl.takeSwitchCommand e).sw.ch[k] = sl.sw.ch[k] ∧ (sl.takeSwitchCommand e).sw.tether.cntRefused = satInc 255 sl.sw.tether.cntRefused) ∧
  (∀ (e : Env) (sl : Slice), sl.sw.command = 2 → sl.teach = none → sl.portal.st = .fault → sl.zeroSpeed = true → e.active = true →
    (sl.takeSwitchCommand e).sw.tether.testRunning = true ∧ (sl.takeSwitchCommand e).sw.tether.testAt = e.now) ∧
  (∀ (e : Env) (a : Fin 3) (t : TeachRun) (sl : Slice), sl.teach = some t → t.step ≠ 6 →
    ((sl.axes[a].m.command = 1 ∨ sl.axes[a].m.command = 2) → (sl.takeAxisCommand e a).teach = some { t with step := 6, interrupted := true }) ∧
    ((sl.axes[a].d.command = 2 ∨ sl.axes[a].d.command = 3 ∨ sl.axes[a].d.command = 4) → (sl.takeDriveCommand e a).teach = some { t with step := 6, interrupted := true }) ∧
    ((sl.sw.command = 1 ∨ sl.sw.command = 2) → (sl.takeSwitchCommand e).teach = some { t with step := 6, interrupted := true }))

/-- O16. LOOP_CONTACT_CHANGE sets the contact its channel sees, opens the switch of a channel whose portals are not all proven, keeps a proven cell closed, and closes an open cell in alternating order with a midpoint check. Rules: R78, R79, R80, R81, R83, R85, R173 (derived). -/
def Obligations.LoopChannelsFollowTheContacts : Prop :=
  (∀ (i : Fin 16) (ch : Fin 2) (k : Fin 3) (dv : Int) (held : Bool) (ma : Nat) (s : State), s.configured = true → i.val < s.sliceCount →
    ∃ t, exec (.loopContactChange i ch k dv held ma) s = .next t ∧ t.now = s.now ∧ t.params = s.params ∧ t.hws = s.hws ∧ t.twn = s.twn ∧ t.groups = s.groups ∧
      (∀ j : Fin 16, j ≠ i → t.slices[j] = s.slices[j]) ∧ t.slices[i].axes = s.slices[i].axes ∧ t.slices[i].sw = s.slices[i].sw ∧ t.slices[i].inp = s.slices[i].inp ∧ t.slices[i].can = s.slices[i].can ∧
      t.slices[i].portal.st = s.slices[i].portal.st ∧
      t.slices[i].portal.contacts[3 * ch.val + k.val]! = s.contactLevel i ch k dv ∧
      (t.channelWants 0 = false → t.loop.ch1 = false ∧ t.loop.sw1 = false ∧ t.loop.conducting = false) ∧
      (t.channelWants 1 = false → t.loop.ch2 = false ∧ t.loop.sw2 = false ∧ t.loop.conducting = false) ∧
      (t.channelWants 0 = true → t.channelWants 1 = true → t.loop.sw1 = true ∧ t.loop.sw2 = true ∧ t.loop.ch1 = true ∧ t.loop.ch2 = true ∧ t.loop.conducting = decide (10 ≤ ma)) ∧
      (s.loop.sw1 = false → s.loop.sw2 = false → s.loop.latched = false → s.twinCellClosed = false → t.loop.sw1 = true → held = true ∧ t.loop.closures = s.loop.closures + 1) ∧
      (s.loop.latched = false → t.loop.latched = true → held = false ∧ t.loop.latchCause = 3)) ∧
  (∀ (i : Fin 16) (ch : Fin 2) (k : Fin 3) (dv : Int) (s : State), (if k = 0 then cfgPrtInS1 s.params i else if k = 1 then cfgPrtInS2 s.params i else cfgPrtInIsolation s.params i) < 16 →
    let n := if k = 0 then cfgPrtInS1 s.params i else if k = 1 then cfgPrtInS2 s.params i else cfgPrtInIsolation s.params i
    (classActive (cfgInpInFlags s.params i n % 8) ≤ dv → s.contactLevel i ch k dv = true) ∧ (dv ≤ classInactive (cfgInpInFlags s.params i n % 8) → s.contactLevel i ch k dv = false))

/-- O17. LOOP_DISCREPANCY_TIMEOUT opens and latches the cell, LOOP_TEST_DUE makes a test due, LOOP_TEST_OVERDUE flags a switch not tested for 24 h, NODE_LOOP_TEST_COMMAND stands in its register. Rules: R83, R84, R86 (derived). -/
def Obligations.LoopTimersOpenAndTestTheCell : Prop :=
  (∀ (i : Fin 16) (t0 : Nat) (s : State), s.loop.discrepant[i] = some t0 →
    ∃ t, exec (.loopDiscrepancyTimeout i) s = .next t ∧ t.now = max s.now (t0 + ms (cfgPrtLoopDiscrepancyTime s.params)) ∧ t.loop.latched = true ∧ t.loop.latchCause = 1 ∧ t.loop.discrepantSlice = i.val ∧
      t.loop.sw1 = false ∧ t.loop.sw2 = false ∧ t.loop.ch1 = false ∧ t.loop.ch2 = false ∧ t.loop.conducting = false ∧ t.slices[i].portal.cntDiscrep = satInc 255 s.slices[i].portal.cntDiscrep ∧
      (∀ j : Fin 16, j ≠ i → t.slices[j] = s.slices[j]) ∧ t.slices[i].portal.st = s.slices[i].portal.st ∧ t.slices[i].axes = s.slices[i].axes ∧ t.hws = s.hws ∧ t.twn = s.twn) ∧
  (∀ (i : Fin 16) (s : State), s.loop.discrepant[i] = none → exec (.loopDiscrepancyTimeout i) s = .next s.draw) ∧
  (∀ (t0 : Nat) (s : State), s.loop.lastTest = some t0 →
    exec .loopTestDue s = .next { s with now := max s.now (t0 + ms (cfgPrtLoopTestInterval s.params * 1000)), loop := { s.loop with commanded := true }, freeCount := s.freeCount + 1 }) ∧
  (∀ s : State, s.loop.lastTest = none → exec .loopTestDue s = .next s.draw) ∧
  (∀ s : State, s.loop.overdue1 = false →
    ∃ t, exec (.loopTestOverdue false) s = .next t ∧ t.now = max s.now (s.loop.passed1.getD s.loop.startAt + 24 * 3600 * 1000000000) ∧ t.loop = { s.loop with overdue1 := true } ∧ t.slices = s.slices ∧ t.hws = s.hws) ∧
  (∀ s : State, s.loop.overdue2 = false →
    ∃ t, exec (.loopTestOverdue true) s = .next t ∧ t.now = max s.now (s.loop.passed2.getD s.loop.startAt + 24 * 3600 * 1000000000) ∧ t.loop = { s.loop with overdue2 := true } ∧ t.slices = s.slices ∧ t.hws = s.hws) ∧
  (∀ s : State, s.hawserUp = true → exec .nodeLoopTestCommand s = .next { s with loop := { s.loop with command := 1 }, freeCount := s.freeCount + 1 })

/-- O18. STEP_EDGE moves a driven axis by exactly one microstep: towards the target of its running move, in the direction of its homing run, or towards its gear demand; an axis that is not driven does not move. Rules: R92, R97, R98, R100, R107, R112, R124, R128, R136 (derived). -/
def Obligations.StepEdgeMovesOneMicrostep : Prop :=
  (∀ (i : Fin 16) (a : Fin 3) (mv : Move) (rest : List Move) (s : State), s.sliceRuns i = true → s.slices[i].axes[a].d.mode.driven = true → s.slices[i].axes[a].m.home = none →
    (s.env i).geared a = false → s.slices[i].axes[a].m.stopping = false → s.slices[i].axes[a].m.rev = none → s.slices[i].axes[a].m.queue = mv :: rest →
    (s.slices[i].axes[a].m.running = false → mv.target ≠ s.slices[i].axes[a].m.pos) →
    ∃ x : Slice, exec (.stepEdge i a) s = .next ((s.advance ((s.edgeBase i a + 1) / 2)).modSlice i fun _ => x).draw ∧ x.portal.st = s.slices[i].portal.st ∧ x.portal.tState = s.slices[i].portal.tState ∧ x.can = s.slices[i].can ∧ x.sw.ch = s.slices[i].sw.ch ∧
      (s.slices[i].axes[a].m.running = true → x.axes[a].m.pos = s.slices[i].axes[a].m.pos + if s.slices[i].axes[a].m.dirPos then 1 else -1) ∧
      (s.slices[i].axes[a].m.running = false → x.axes[a].m.pos = s.slices[i].axes[a].m.pos + if s.slices[i].axes[a].m.pos < mv.target then 1 else -1) ∧
      (x.axes[a].m.pos = mv.target → rest = [] → x.axes[a].m.v = 0 ∧ x.axes[a].m.queue = [] ∧ x.axes[a].m.running = false) ∧
      (x.axes[a].m.v ≠ 0 → x.axes[a].m.edgeAt = some (s.edgeBase i a + x.axes[a].m.interval * stageDiv x.axes[a].m.stage * 5))) ∧
  (∀ (i : Fin 16) (a : Fin 3) (h : HomeRun) (s : State), s.sliceRuns i = true → s.slices[i].axes[a].d.mode.driven = true → s.slices[i].axes[a].m.home = some h → h.stallAt = none →
    ∃ x : Slice, exec (.stepEdge i a) s = .next ((s.advance ((s.edgeBase i a + 1) / 2)).modSlice i fun _ => x).draw ∧ x.portal.st = s.slices[i].portal.st ∧ x.portal.tState = s.slices[i].portal.tState ∧ x.can = s.slices[i].can ∧ x.sw.ch = s.slices[i].sw.ch ∧
      ((s.slices[i].axes[a].m.stopping = false ∨ s.slices[i].axes[a].m.v ≠ 0) → x.axes[a].m.pos = s.slices[i].axes[a].m.pos + if s.slices[i].axes[a].m.dirPos then 1 else -1) ∧
      (s.slices[i].axes[a].m.stopping = true → s.slices[i].axes[a].m.v = 0 → x.axes[a].m.pos = s.slices[i].axes[a].m.pos ∧ x.axes[a].m.home = none ∧ x.axes[a].m.homeCode = 1)) ∧
  (∀ (i : Fin 16) (a : Fin 3) (s : State), s.sliceRuns i = true → s.slices[i].axes[a].d.mode.driven = true → s.slices[i].axes[a].m.home = none → (s.env i).geared a = true →
    s.slices[i].axes[a].m.homed = true → s.slices[i].axes[a].m.gearHold = false →
    let dem := (s.env i).limitDemand a ((s.env i).gearDemand a (s.slices[i].gearMaster (s.env i) a))
    s.slices[i].axes[a].m.pos ≠ dem →
    ∃ x : Slice, exec (.stepEdge i a) s = .next ((s.advance ((s.edgeBase i a + 1) / 2)).modSlice i fun _ => x).draw ∧ x.portal.st = s.slices[i].portal.st ∧ x.portal.tState = s.slices[i].portal.tState ∧ x.can = s.slices[i].can ∧ x.sw.ch = s.slices[i].sw.ch ∧
      x.axes[a].m.pos = s.slices[i].axes[a].m.pos + if s.slices[i].axes[a].m.pos < dem then 1 else -1) ∧
  (∀ (i : Fin 16) (a : Fin 3) (s : State), s.slices[i].axes[a].d.mode.driven = false → exec (.stepEdge i a) s = .next s.draw)

/-- O19. HOME_CONFIRM_EDGE latches the position or completes homing, HOME_CHATTER_WINDOW_END discards a latch whose input is inactive, HOME_CONFIRM_WAIT_EXPIRY fails the run with code 3. Rules: R128, R129, R130, R131 (derived). -/
def Obligations.HomingConfirmsLatchesAndFails : Prop :=
  (∀ (i : Fin 16) (a : Fin 3) (h : HomeRun) (s : State), s.sliceRuns i = true → s.slices[i].axes[a].m.home = some h → cfgAxHomeConfirmInput s.params i a ≠ 0xFF → h.chatterAt = none → h.latch = none →
    h.stallAt = none →
    exec (.homeConfirmEdge i a true) s = .next (s.modSlice i fun sl => sl.modM a fun m => { m with homeLatch := m.pos, home := some { h with latch := some m.pos, chatterAt := some s.now } }).draw) ∧
  (∀ (i : Fin 16) (a : Fin 3) (h : HomeRun) (t0 : Nat) (s : State), s.sliceRuns i = true → s.slices[i].axes[a].m.home = some h → cfgAxHomeConfirmInput s.params i a ≠ 0xFF → h.chatterAt = none → h.latch = none →
    h.stallAt = some t0 →
    ∃ x : Slice, exec (.homeConfirmEdge i a true) s = .next (s.modSlice i fun _ => x).draw ∧ x.axes[a].m.homed = true ∧ x.axes[a].m.homeCode = 0 ∧ x.axes[a].m.home = none ∧
      x.axes[a].m.homeLatch = s.slices[i].axes[a].m.homeStall ∧ x.axes[a].m.pos = s.slices[i].axes[a].m.pos ∧ x.portal.st = s.slices[i].portal.st ∧ x.portal.tState = s.slices[i].portal.tState ∧ x.can = s.slices[i].can) ∧
  (∀ (i : Fin 16) (a : Fin 3) (h : HomeRun) (l : Int) (s : State), s.sliceRuns i = true → s.slices[i].axes[a].m.home = some h → cfgAxHomeConfirmInput s.params i a ≠ 0xFF → h.chatterAt = none → h.latch = some l →
    h.stallAt = none →
    ∃ x : Slice, exec (.homeConfirmEdge i a false) s = .next (s.modSlice i fun _ => x).draw ∧ x.axes[a].m.relatches = s.slices[i].axes[a].m.relatches + 1 ∧
      (s.slices[i].axes[a].m.relatches + 1 ≤ cfgAxHomeRelatchLimit s.params i a → x.axes[a].m.home = some { h with latch := none, chatterAt := none } ∧ x.portal = s.slices[i].portal) ∧
      (cfgAxHomeRelatchLimit s.params i a < s.slices[i].axes[a].m.relatches + 1 → x.axes[a].m.home = none ∧ x.axes[a].m.homeCode = 4 ∧ x.axes[a].m.homed = false ∧ x.axes[a].m.v = 0)) ∧
  (∀ (i : Fin 16) (a : Fin 3) (h : HomeRun) (t0 n : Nat) (hn : n < 16) (s : State), s.sliceRuns i = true → s.slices[i].axes[a].m.home = some h → h.chatterAt = some t0 → cfgAxHomeConfirmInput s.params i a = n →
    ∃ x : Slice, exec (.homeChatterWindowEnd i a) s = .next ((s.advance (t0 + ms (cfgAxHomeChatterMs s.params i a))).modSlice i fun _ => x).draw ∧
      ((s.slices[i].inp.dig[n].level != (cfgInpInFlags s.params i n).testBit 3) = true → x = s.slices[i].modM a fun m => { m with home := some { h with chatterAt := none } }) ∧
      ((s.slices[i].inp.dig[n].level != (cfgInpInFlags s.params i n).testBit 3) = false → x.axes[a].m.relatches = s.slices[i].axes[a].m.relatches + 1 ∧
        (s.slices[i].axes[a].m.relatches + 1 ≤ cfgAxHomeRelatchLimit s.params i a → x.axes[a].m.home = some { h with latch := none, chatterAt := none }))) ∧
  (∀ (i : Fin 16) (a : Fin 3) (h : HomeRun) (t0 : Nat) (s : State), s.sliceRuns i = true → s.slices[i].axes[a].m.home = some h → h.stallAt = some t0 →
    ∃ x : Slice, exec (.homeConfirmWaitExpiry i a) s = .next ((s.advance (t0 + 20000000)).modSlice i fun _ => x).draw ∧ x.axes[a].m.homeCode = 3 ∧ x.axes[a].m.homed = false ∧ x.axes[a].m.home = none ∧
      x.axes[a].m.v = 0 ∧ x.axes[a].m.queue = [] ∧ x.axes[a].m.faultCause = 3 ∧ x.portal = s.slices[i].portal ∧ x.can = s.slices[i].can)

/-- O20. BRIDGE_OVERCURRENT_TRIP frees the axis with drive fault 1, ISOLATOR_CONFIRMED enables the bridges or gives drive fault 3, RESISTANCE_TRACKING_WINDOW takes the measured resistances or gives drive fault 8, ESTIMATOR_PERIOD runs at the next multiple of 25 µs and a die at 150 °C or more gives drive fault 5. Rules: R135, R137, R141, R143, R153, R168, R416 (derived). -/
def Obligations.DriveFaultsIsolatorsAndEstimator : Prop :=
  (∀ (i : Fin 16) (a : Fin 3) (s : State), s.sliceRuns i = true → s.slices[i].axes[a].d.mode ≠ .free →
    ∃ x : Slice, exec (.bridgeOvercurrentTrip i a) s = .next (s.modSlice i fun _ => x).draw ∧ x.axes[a].d.fault = 1 ∧ x.axes[a].d.mode = .free ∧
      (s.slices[i].axes[a].d.isolators = true → s.slices[i].axes[a].d.freedAt = none → x.axes[a].d.freedAt = some s.now) ∧ x.axes[a].m.v = 0 ∧ x.axes[a].m.queue = [] ∧ x.axes[a].m.req = .idle ∧ x.axes[a].m.pos = s.slices[i].axes[a].m.pos ∧ x.portal.cause11 = true ∧ x.portal.st = s.slices[i].portal.st ∧ x.inp = s.slices[i].inp ∧ x.can = s.slices[i].can ∧
      x.sw.ch = s.slices[i].sw.ch ∧ ∀ b : Fin 3, b ≠ a → x.axes[b] = s.slices[i].axes[b]) ∧
  (∀ (i : Fin 16) (a : Fin 3) (s : State), s.slices[i].axes[a].d.mode = .free → exec (.bridgeOvercurrentTrip i a) s = .next s.draw) ∧
  (∀ (i : Fin 16) (a : Fin 3) (md : DriveMode) (s : State), s.sliceRuns i = true → s.slices[i].axes[a].d.wanted = some md → s.gate = true → md ≠ .free →
    ∃ x : Slice, exec (.isolatorConfirmed i a false) s = .next (s.modSlice i fun _ => x).draw ∧ x.axes[a].d.readback = true ∧ x.axes[a].d.pwmFrom = s.now + 200000 ∧
      (s.slices[i].axes[a].m.catching = none → x.axes[a].d.mode = md ∧ x.axes[a].d.isolators = true ∧ x.axes[a].d.wanted = none ∧
        x.axes[a].m = if s.slices[i].axes[a].m.startsLater then s.slices[i].axes[a].m else { s.slices[i].axes[a].m with firstAt := some s.now }) ∧
      (s.slices[i].axes[a].m.catching ≠ none → x.axes[a].d.mode = s.slices[i].axes[a].d.mode ∧ x.axes[a].d.wanted = some md ∧ x.axes[a].m = s.slices[i].axes[a].m) ∧ x.portal = s.slices[i].portal ∧ x.inp = s.slices[i].inp ∧ x.can = s.slices[i].can ∧ ∀ b : Fin 3, b ≠ a → x.axes[b] = s.slices[i].axes[b]) ∧
  (∀ (i : Fin 16) (a : Fin 3) (md : DriveMode) (s : State), s.sliceRuns i = true → s.slices[i].axes[a].d.wanted = some md → s.gate = true →
    ∃ x : Slice, exec (.isolatorConfirmed i a true) s = .next (s.modSlice i fun _ => x).draw ∧ x.axes[a].d.fault = 3 ∧ x.axes[a].d.mode = .free ∧ x.axes[a].d.wanted = none ∧
      x.portal.cause11 = true ∧ x.portal.st = s.slices[i].portal.st) ∧
  (∀ (i : Fin 16) (a : Fin 3) (ua ia ub ib : Nat) (s : State), s.sliceRuns i = true → s.slices[i].axes[a].d.mode = .hold → s.slices[i].speedOf (s.env i) a = 0 → 300 ≤ cfgDrvHoldCurrent s.params i a → ia ≠ 0 → ib ≠ 0 →
    let rA := (reportR ((ua : Rat) / ia * 1000)).toNat
    let rB := (reportR ((ub : Rat) / ib * 1000)).toNat
    let off := fun (x t : Nat) => x * 100 < t * 60 ∨ t * 140 < x * 100
    ∃ x : Slice, exec (.resistanceTrackingWindow i a ua ia ub ib) s = .next (s.modSlice i fun _ => x).draw ∧ x.axes[a].d.rUseA = rA ∧ x.axes[a].d.rUseB = rB ∧ x.axes[a].d.mode = .hold ∧
      (s.slices[i].axes[a].d.teachValid = true → s.slices[i].axes[a].d.fault = 0 → (off rA s.slices[i].axes[a].d.teach.rA ∨ off rB s.slices[i].axes[a].d.teach.rB) → x.axes[a].d.fault = 8 ∧ x.portal.cause11 = true) ∧
      ((s.slices[i].axes[a].d.teachValid = false ∨ ¬ (off rA s.slices[i].axes[a].d.teach.rA ∨ off rB s.slices[i].axes[a].d.teach.rB)) → x = s.slices[i].modD a fun d => { d with rUseA := rA, rUseB := rB, rTracked := true, standing := d.standing - d.standing / 256 % 2 * 256 + (if s.slices[i].axes[a].d.teachValid ∧ (off rA s.slices[i].axes[a].d.teach.rA ∨ off rB s.slices[i].axes[a].d.teach.rB) then 256 else 0) })) ∧
  (∀ (i : Fin 16) (x0 x1 x2 : PhaseAvg) (s : State), s.sliceRuns i = true →
    let tick := s.clocks[i.val].counter.nextMultiple 25000 s.slices[i].estAt s.now
    ∃ x : Slice, exec (.estimatorPeriod i x0 x1 x2) s = .next ((s.advance tick).modSlice i fun _ => x).draw ∧ x.estAt = tick ∧ x.portal.st = s.slices[i].portal.st ∧ x.portal.phase = s.slices[i].portal.phase ∧
      x.portal.tState = s.slices[i].portal.tState ∧ x.sw.ch = s.slices[i].sw.ch ∧ x.can = s.slices[i].can ∧ x.inp.dig = s.slices[i].inp.dig ∧ x.inp.an = s.slices[i].inp.an ∧
      (∀ a : Fin 3, (s.env i).enabledAxis a = false → x.axes[a].d = s.slices[i].axes[a].d) ∧
      (∀ a : Fin 3, (s.env i).enabledAxis a = true → (if a = 0 then x0 else if a = 1 then x1 else x2).dieHot = true → s.slices[i].axes[a].d.fault = 0 → s.slices[i].axes[a].d.cntOpen + 1 < 80 →
        s.slices[i].portal.obsLatch = none → x.axes[a].d.fault = 5 ∧ x.portal.cause11 = true ∧ (s.slices[i].axes[a].d.mode.driven = true → s.gate = true → x.axes[a].d.mode = .hold))) ∧
  (∀ (i : Fin 16) (x0 x1 x2 : PhaseAvg) (s : State), s.sliceRuns i = false → exec (.estimatorPeriod i x0 x1 x2) s = .next s.draw)

/-- O21. AUXILIARY_MOVE_REISSUE issues the interrupted move again after reclose_pause_ms, TEACH_CYCLE_END takes the results of a passed cycle and only the code of a failed one. Rules: R110, R151, R152, R154, R164, R237 (derived). -/
def Obligations.AuxiliaryReissueAndTeachEnd : Prop :=
  (∀ (i : Fin 16) (a : Fin 3) (mv : Move) (t0 : Nat) (s : State), s.sliceRuns i = true → s.slices[i].axes[a].m.interrupted = some (mv, t0) → s.slices[i].axes[a].m.v = 0 → mv.replace = false →
    let due := t0 + ms (cfgPrtReclosePauseMs s.params i)
    ∃ x : Slice, exec (.auxiliaryMoveReissue i a) s = .next ((s.advance due).modSlice i fun _ => x).draw ∧ x.axes[a].m.interrupted = none ∧ x.axes[a].m.pos = s.slices[i].axes[a].m.pos ∧
      x.inp = s.slices[i].inp ∧ x.sw = s.slices[i].sw ∧ x.can = s.slices[i].can ∧
      (((s.env i).enrolled (6 + a.val) && !s.slices[i].sw.unarbitrated) = true → x.axes[a].m.pending = s.slices[i].axes[a].m.pending ++ [mv] ∧ x.axes[a].m.needsGrant = true ∧ x.axes[a].m.queue = s.slices[i].axes[a].m.queue) ∧
      (((s.env i).enrolled (6 + a.val) && !s.slices[i].sw.unarbitrated) = false → (s.env i).refuses a mv s.slices[i].axes[a].m = false → s.slices[i].axes[a].m.replacedAt ≠ some (max s.now due) →
        s.slices[i].axes[a].m.queue = [] → mv.target ≠ s.slices[i].axes[a].m.pos → x.axes[a].m.queue = [mv] ∧ x.portal = s.slices[i].portal)) ∧
  (∀ (i : Fin 16) (a : Fin 3) (t : Teach) (r : TeachRun) (s : State), s.sliceRuns i = true → s.slices[i].axes[a].d.teachRunning = true → s.slices[i].teach = some r → r.step = 6 →
    let c := teachCode (s.env i) a t (!r.unhomed[a]) r.interrupted r.faulted[a]
    ∃ x : Slice, exec (.teachCycleEnd i a (t.rA, t.rB) (t.lA, t.lB) t.c t.ke t.noise) s = .next (s.modSlice i fun _ => x).draw ∧ x.axes[a].d.teachRunning = false ∧ x.axes[a].d.teachResult = c ∧
      x.portal = s.slices[i].portal ∧ x.axes[a].m = s.slices[i].axes[a].m ∧ x.inp = s.slices[i].inp ∧ x.sw = s.slices[i].sw ∧ x.can = s.slices[i].can ∧
      (c = 0 → x.axes[a].d.teach = t ∧ x.axes[a].d.teachValid = true ∧ x.axes[a].d.rUseA = t.rA ∧ x.axes[a].d.rUseB = t.rB) ∧
      (c ≠ 0 → x.axes[a].d.teach = s.slices[i].axes[a].d.teach ∧ x.axes[a].d.teachValid = s.slices[i].axes[a].d.teachValid ∧ x.iq = s.slices[i].iq) ∧
      ((∀ b : Fin 3, b ≠ a → s.slices[i].axes[b].d.teachRunning = false) → x.teach = none)) ∧
  (∀ (i : Fin 16) (a : Fin 3) (t : Teach) (s : State), (s.slices[i].axes[a].d.teachRunning = false ∨ s.slices[i].teach = none) → exec (.teachCycleEnd i a (t.rA, t.rB) (t.lA, t.lB) t.c t.ke t.noise) s = .next s.draw) ∧
  (∀ (i : Fin 16) (a : Fin 3) (t : Teach) (r : TeachRun) (s : State), s.slices[i].teach = some r → r.step ≠ 6 → exec (.teachCycleEnd i a (t.rA, t.rB) (t.lA, t.lB) t.c t.ke t.noise) s = .next s.draw)

/-- O22. INPUT_SAMPLE takes the next multiple of 100 µs of the slice's common time: comparator, inversion and integrating debounce of every input and train line, by the guaranteed class thresholds. Rules: R173, R175, R176, R177, R184 (derived). -/
def Obligations.InputSamplesAreDebounced : Prop :=
  ∀ (i : Fin 16) (pins : Vector Int 16) (lines : Vector Int 5) (s : State), s.sliceRuns i = true →
    let tick := s.clocks[i.val].counter.nextMultiple 100000 s.slices[i].inp.sampleAt s.now
    ∃ x : Slice, exec (.inputSample i pins lines) s = .next ((s.advance tick).modSlice i fun _ => x).draw ∧
      x.portal = s.slices[i].portal ∧ x.sw.ch = s.slices[i].sw.ch ∧ x.can = s.slices[i].can ∧
      (∀ k : Fin 16,
        let fl := cfgInpInFlags s.params i k
        let n := cfgInpDebounceMs s.params i k * 10
        let d := s.slices[i].inp.dig[k]
        x.inp.dig[k].volts = some pins[k] ∧ (classActive (fl % 8) ≤ pins[k] → x.inp.dig[k].raw = !fl.testBit 3) ∧ (pins[k] ≤ classInactive (fl % 8) → x.inp.dig[k].raw = fl.testBit 3) ∧
        (classInactive (fl % 8) < pins[k] → pins[k] < classActive (fl % 8) → d.volts = some pins[k] → x.inp.dig[k].raw = (d.level != fl.testBit 3)) ∧
        (n = 0 → x.inp.dig[k].deb = x.inp.dig[k].raw) ∧
        (n ≠ 0 → x.inp.dig[k].raw = true → x.inp.dig[k].cnt = (if d.cnt < n then d.cnt + 1 else d.cnt)) ∧
        (n ≠ 0 → x.inp.dig[k].raw = false → x.inp.dig[k].cnt = d.cnt - 1) ∧
        (n ≠ 0 → x.inp.dig[k].deb = if x.inp.dig[k].cnt = n then true else if x.inp.dig[k].cnt = 0 then false else d.deb)) ∧
      (∀ l : Fin 5, (classActive (cfgInpTrainLineClass s.params) ≤ lines[l] → x.inp.lines[l].level = true) ∧ (lines[l] ≤ classInactive (cfgInpTrainLineClass s.params) → x.inp.lines[l].level = false) ∧
        (x.inp.lines[l].deb, x.inp.lines[l].cnt) = debounce (cfgPrtTrainLineDebounce s.params * 10) x.inp.lines[l].level s.slices[i].inp.lines[l].deb s.slices[i].inp.lines[l].cnt)

/-- O23. STUCK_TIMEOUT_EXPIRY and CHATTER_QUIET_EXPIRY set and clear their flags, TWIN_COMPARE_TIMEOUT flags a lasting difference, INPUT_EDGE stamps an edge. Rules: R179, R180, R181, R182, R183 (derived). -/
def Obligations.InputSupervisionFlags : Prop :=
  (∀ (i k : Fin 16) (s : State), s.sliceRuns i = true → s.slices[i].inp.dig[k].deb = true → s.slices[i].inp.dig[k].stuck = false → cfgInpStuckTimeout s.params i k ≠ 0 →
    ∃ x : Slice, exec (.stuckTimeoutExpiry i k) s = .next ((s.advance (s.slices[i].inp.dig[k].activeAt + ms (cfgInpStuckTimeout s.params i k * 1000))).modSlice i fun _ => x).draw ∧ x.portal = s.slices[i].portal ∧ x.axes = s.slices[i].axes ∧ x.sw = s.slices[i].sw ∧ x.can = s.slices[i].can ∧
      x.inp.dig[k].stuck = true ∧ x.inp.dig[k].deb = true ∧ x.inp.cntStuck = satInc 255 s.slices[i].inp.cntStuck ∧ x.inp.faultCode = 1 ∧ x.inp.faultSource = k.val ∧ ∀ j : Fin 16, j ≠ k → x.inp.dig[j] = s.slices[i].inp.dig[j]) ∧
  (∀ (i k : Fin 16) (s : State), s.sliceRuns i = true → s.slices[i].inp.dig[k].chatter = true →
    exec (.chatterQuietExpiry i k) s = .next ((s.advance (s.slices[i].inp.dig[k].changeAt + ms (cfgInpChatterQuiet s.params i k))).modSlice i fun sl => sl.modDig k fun d => { d with chatter := false }).draw) ∧
  (∀ (i k : Fin 16) (t0 : Nat) (s : State), s.sliceRuns i = true → s.slices[i].inp.dig[k].diffAt = some t0 → s.slices[i].inp.dig[k].diff = false → cfgInpTwinCompareMs s.params i ≠ 0 →
    ∃ x : Slice, exec (.twinCompareTimeout i k) s = .next ((s.advance (t0 + ms (cfgInpTwinCompareMs s.params i))).modSlice i fun _ => x).draw ∧ x.portal = s.slices[i].portal ∧ x.axes = s.slices[i].axes ∧ x.sw = s.slices[i].sw ∧ x.can = s.slices[i].can ∧
      x.inp.dig[k].diff = true ∧ x.inp.faultCode = 4 ∧ x.inp.faultSource = k.val ∧ ∀ j : Fin 16, j ≠ k → x.inp.dig[j] = s.slices[i].inp.dig[j]) ∧
  (∀ (i k : Fin 16) (lev : Bool) (s : State), s.sliceRuns i = true →
    exec (.inputEdge i k lev) s = .next (s.modSlice i fun sl => sl.modDig k fun d => { d with level := lev, edgeAt := if d.level = lev then d.edgeAt else s.now }).draw)

/-- O24. ANALOGUE_SAMPLE, EXCITATION_HOLD_END, ENCODER_EDGE, ENCODER_LINE_BREAK and ENCODER_SUPPLY_LIMIT: values, held classes, counts and encoder faults. Rules: R185, R186, R187, R190, R192 (derived). -/
def Obligations.AnalogueAndEncoderInputs : Prop :=
  (∀ (i : Fin 16) (k : Fin 4) (mv : Nat) (s : State), s.sliceRuns i = true → cfgInpAnMode s.params i k = 2 →
    ∃ x : Slice, exec (.analogueSample i k mv) s = .next (s.modSlice i fun _ => x).draw ∧ x.portal = s.slices[i].portal ∧ x.axes = s.slices[i].axes ∧ x.sw = s.slices[i].sw ∧ x.can = s.slices[i].can ∧
      x.inp.an[k].value = mv ∧ x.inp.an[k].cls = 0 ∧ ∀ j : Fin 4, j ≠ k → x.inp.an[j] = s.slices[i].inp.an[j]) ∧
  (∀ (i : Fin 16) (k : Fin 4) (mv : Nat) (s : State), s.sliceRuns i = true → cfgInpAnMode s.params i k = 1 →
    ∃ x : Slice, exec (.analogueSample i k mv) s = .next (s.modSlice i fun _ => x).draw ∧ x.portal = s.slices[i].portal ∧ x.axes = s.slices[i].axes ∧ x.sw = s.slices[i].sw ∧ x.can = s.slices[i].can ∧
      x.inp.an[k].value = min mv 11000 ∧ x.inp.dig = s.slices[i].inp.dig ∧ (∀ j : Fin 4, j ≠ k → x.inp.an[j] = s.slices[i].inp.an[j]) ∧
      (((s.slices[i].inp.an[k].exciting = false ∧ s.twn.auth.inp = false) ∨ s.slices[i].inp.an[k].settling = true) → x.inp.an[k].cls = s.slices[i].inp.an[k].cls ∧ x.inp.an[k].held = true) ∧
      ((s.slices[i].inp.an[k].exciting = true ∨ s.twn.auth.inp = true) → s.slices[i].inp.an[k].settling = false →
        x.inp.an[k].held = false ∧ x.inp.an[k].band = (s.env i).anBand k (min mv 11000) ∧
        (x.inp.an[k].run < cfgInpAnConfirm s.params i k → x.inp.an[k].cls = s.slices[i].inp.an[k].cls) ∧ (cfgInpAnConfirm s.params i k ≤ x.inp.an[k].run → x.inp.an[k].cls = x.inp.an[k].band))) ∧
  (∀ (i : Fin 16) (t0 : Nat) (s : State), s.sliceRuns i = true → s.slices[i].inp.settleAt = some t0 →
    ∃ x : Slice, exec (.excitationHoldEnd i) s = .next ((s.advance (t0 + 1000000)).modSlice i fun _ => x).draw ∧ x.inp.settleAt = none ∧ x.portal = s.slices[i].portal ∧ x.axes = s.slices[i].axes ∧ x.sw = s.slices[i].sw ∧ x.inp.dig = s.slices[i].inp.dig ∧
      ∀ k : Fin 4, x.inp.an[k].settling = false ∧ x.inp.an[k].cls = s.slices[i].inp.an[k].cls ∧ x.inp.an[k].value = s.slices[i].inp.an[k].value ∧ (s.slices[i].inp.an[k].settling = true → x.inp.an[k].held = false)) ∧
  (∀ (i : Fin 16) (k : Fin 3) (a b z : Bool) (gap : Nat) (s : State), s.sliceRuns i = true → cfgInpEncMode s.params i k ≠ 0 →
    let y := s.slices[i].inp.enc[k]
    let d := (quadrature a b - quadrature y.a y.b) % 4
    let sign : Int := if (cfgInpEncFlags s.params i k).testBit 1 then -1 else 1
    ∃ x : Slice, exec (.encoderEdge i k a b z gap) s = .next (s.modSlice i fun _ => x).draw ∧ x.portal.st = s.slices[i].portal.st ∧ x.portal.tState = s.slices[i].portal.tState ∧ x.sw = s.slices[i].sw ∧ x.can = s.slices[i].can ∧
      x.inp.enc[k].a = a ∧ x.inp.enc[k].b = b ∧ x.inp.enc[k].count = wrap32 (y.count + if d = 1 then sign else if d = 3 then -sign else 0) ∧
      (z = true → x.inp.enc[k].index = x.inp.enc[k].count ∧ x.inp.enc[k].seen = true) ∧ (d = 2 → y.fault = 0 → x.inp.enc[k].fault = 2) ∧ (d ≠ 0 → d ≠ 2 → gap < 350 → y.fault = 0 → x.inp.enc[k].fault = 3) ∧
      (y.fault ≠ 0 → x.inp.enc[k].fault = y.fault) ∧ (∀ j : Fin 3, j ≠ k → x.inp.enc[j] = s.slices[i].inp.enc[j])) ∧
  (∀ (i : Fin 16) (k : Fin 3) (a b z : Bool) (gap : Nat) (s : State), cfgInpEncMode s.params i k = 0 → exec (.encoderEdge i k a b z gap) s = .next s.draw) ∧
  (∀ (i : Fin 16) (k c : Fin 3) (s : State), s.sliceRuns i = true → cfgInpEncMode s.params i k = 1 → s.slices[i].inp.enc[k].fault = 0 → (c.val ≤ 1 ∨ (cfgInpEncFlags s.params i k).testBit 3 = true) →
    ∃ x : Slice, exec (.encoderLineBreak i k ⟨c, true⟩) s = .next (s.modSlice i fun _ => x).draw ∧ x.inp.enc[k].fault = 1 ∧ x.inp.enc[k].lineBroken[c] = true ∧ x.inp.enc[k].count = s.slices[i].inp.enc[k].count ∧ x.inp.faultCode = 5 ∧
      x.portal.st = s.slices[i].portal.st ∧ x.sw = s.slices[i].sw ∧ x.can = s.slices[i].can) ∧
  (∀ (i : Fin 16) (k : Fin 3) (s : State), s.sliceRuns i = true → cfgInpEncMode s.params i k = 1 → (cfgInpEncFlags s.params i k).testBit 3 = false → s.slices[i].inp.enc[k].lineBroken[0] = false →
    s.slices[i].inp.enc[k].lineBroken[1] = false →
    exec (.encoderLineBreak i k ⟨2, true⟩) s = .next (s.modSlice i fun sl => sl.modInp fun y => { y with enc := y.enc.set k { y.enc[k] with lineBroken := y.enc[k].lineBroken.set 2 true } }).draw) ∧
  (∀ (i : Fin 16) (s : State), s.sliceRuns i = true → (cfgInpEncSupply s.params i = 1 ∨ cfgInpEncSupply s.params i = 2) →
    ∃ x : Slice, exec (.encoderSupplyLimit i true) s = .next (s.modSlice i fun _ => x).draw ∧ x.inp.supplyLimit = true ∧ x.portal.st = s.slices[i].portal.st ∧ x.sw = s.slices[i].sw ∧ x.can = s.slices[i].can ∧
      ∀ k : Fin 3, x.inp.enc[k].fault = if s.slices[i].inp.enc[k].fault = 0 then 5 else s.slices[i].inp.enc[k].fault)

/-- O25. CURRENT_LIMIT_ENTRY, THERMAL_TRIP, RETRY_WAIT_END, TRIP_COUNT_RESET, CLAMP_PULSE_END: what the protection of a load switch does. Rules: R203, R204, R205, R207, R208, R209, R210 (derived). -/
def Obligations.SwitchProtectionTripsAndRetries : Prop :=
  (∀ (i : Fin 16) (k : Fin 6) (s : State), s.powerUp i = true → s.slices[i].sw.ch[k].st = .on → s.slices[i].sw.ch[k].limiting = false →
    exec (.currentLimitEntry i k) s = .next (s.modSlice i fun sl => sl.modCh k fun c => { c with limiting := true, cntLimit := satInc 255 c.cntLimit }).draw) ∧
  (∀ (i : Fin 16) (k : Fin 6) (dt : Nat) (s : State), s.powerUp i = true → s.slices[i].sw.ch[k].st = .on → min (s.slices[i].sw.tether.stored.dtTrip[k] : Int) (175 - s.slices[i].sw.caseT) ≤ dt →
    ∃ x : Slice, exec (.thermalTrip i k dt) s = .next (s.modSlice i fun _ => x).draw ∧ x.sw.ch[k].trips = s.slices[i].sw.ch[k].trips + 1 ∧ x.sw.ch[k].req = .idle ∧ x.sw.ch[k].tripAt = s.now ∧
      x.sw.ch[k].st = (if s.slices[i].sw.tether.stored.retryLimit[k] < s.slices[i].sw.ch[k].trips + 1 then .latchedOff else .thermalOff) ∧ x.sw.faultCode = (if s.slices[i].sw.tether.stored.retryLimit[k] < s.slices[i].sw.ch[k].trips + 1 then 2 else 1) ∧
      (∀ j : Fin 6, j ≠ k → x.sw.ch[j] = s.slices[i].sw.ch[j]) ∧ x.portal = s.slices[i].portal ∧ x.axes = s.slices[i].axes ∧ x.inp = s.slices[i].inp ∧ x.can = s.slices[i].can) ∧
  (∀ (i : Fin 16) (k : Fin 6) (dt : Nat) (s : State), (dt : Int) < min (s.slices[i].sw.tether.stored.dtTrip[k] : Int) (175 - s.slices[i].sw.caseT) → exec (.thermalTrip i k dt) s = .next s.draw) ∧
  (∀ (i : Fin 16) (k : Fin 6) (dt : Nat) (s : State), s.powerUp i = true → s.slices[i].sw.ch[k].st = .thermalOff → dt + 20 ≤ s.slices[i].sw.tether.stored.dtTrip[k] →
    ∃ x : Slice, exec (.retryWaitEnd i k dt) s = .next ((s.advance (s.slices[i].sw.ch[k].tripAt + ms s.slices[i].sw.tether.stored.retryDelay[k])).modSlice i fun _ => x).draw ∧
      (s.slices[i].sw.ch[k].cmd = false ∨ s.slices[i].sw.enabled = false ∨ s.slices[i].sw.supply = false → x.sw.ch[k].st = .off) ∧
      (s.slices[i].sw.ch[k].cmd = true → s.slices[i].sw.enabled = true → s.slices[i].sw.supply = true → ((s.env i).enrolled k = false ∨ s.slices[i].sw.unarbitrated = true) → x.sw.ch[k].st = .on) ∧
      (s.slices[i].sw.ch[k].cmd = true → s.slices[i].sw.enabled = true → s.slices[i].sw.supply = true → (s.env i).enrolled k = true → s.slices[i].sw.unarbitrated = false → x.sw.ch[k].st = .waiting ∧ x.sw.ch[k].req.isWaiting = true) ∧
      x.sw.ch[k].cmd = s.slices[i].sw.ch[k].cmd ∧
      x.sw.ch[k].trips = s.slices[i].sw.ch[k].trips ∧ (∀ j : Fin 6, j ≠ k → x.sw.ch[j] = s.slices[i].sw.ch[j]) ∧ x.portal = s.slices[i].portal ∧ x.axes = s.slices[i].axes) ∧
  (∀ (i : Fin 16) (k : Fin 6) (s : State), s.powerUp i = true → s.slices[i].sw.ch[k].st = .on →
    exec (.tripCountReset i k) s = .next ((s.advance (s.slices[i].sw.ch[k].onAt + ms (s.slices[i].sw.tether.stored.retryReset[k] * 1000))).modSlice i fun sl => sl.modCh k fun c => { c with trips := 0 }).draw) ∧
  (∀ (i : Fin 16) (k : Fin 6) (s : State), s.powerUp i = true → s.slices[i].sw.ch[k].st ≠ .on → s.slices[i].sw.ch[k].cmd = false →
    exec (.tripCountReset i k) s = .next ((s.advance (s.slices[i].sw.ch[k].cmdOffAt + ms (s.slices[i].sw.tether.stored.retryReset[k] * 1000))).modSlice i fun sl => sl.modCh k fun c => { c with trips := 0 }).draw) ∧
  (∀ (i : Fin 16) (k : Fin 6) (mj : Nat) (s : State), s.powerUp i = true →
    let ovr := clampOver (decide (k.val < 2)) (s.slices[i].sw.ch[k].clampAt.map fun t => s.now - t) mj
    ∃ x : Slice, exec (.clampPulseEnd i k mj) s = .next (s.modSlice i fun _ => x).draw ∧ x.sw.ch[k].clampEnergy = min 65535 mj ∧ x.sw.ch[k].clampAt = some s.now ∧ x.sw.ch[k].st = s.slices[i].sw.ch[k].st ∧
      x.sw.ch[k].overLimit = (if ovr then satInc 65535 s.slices[i].sw.ch[k].overLimit else s.slices[i].sw.ch[k].overLimit) ∧ (ovr = true → x.sw.faultCode = 6 ∧ x.sw.faultChannel = k.val) ∧
      (∀ j : Fin 6, j ≠ k → x.sw.ch[j] = s.slices[i].sw.ch[j]) ∧ x.portal = s.slices[i].portal ∧ x.axes = s.slices[i].axes)

/-- O26. OFF_STATE_DIAGNOSTIC_TEST and UNDERCURRENT_TIMEOUT: three results in a row set or clear short and open load, 100 ms on one side of min_current set or clear the under-current flag. Rules: R211, R212, R213 (derived). -/
def Obligations.SwitchDiagnosticsFlag : Prop :=
  (∀ (i : Fin 16) (k : Fin 6) (h1 h2 : Bool) (s : State), s.powerUp i = true → s.slices[i].sw.ch[k].st = .off → s.slices[i].sw.ch[k].commanded = false → s.slices[i].sw.ch[k].cmd = false → (s.env i).diagOff k = true →
    s.slices[i].sw.enabled = true → s.slices[i].sw.supply = true →
    ∃ x : Slice, exec (.offStateDiagnosticTest i k h1 h2) s = .next ((s.advance (max (s.slices[i].sw.ch[k].offAt + 100000000) ((s.slices[i].sw.ch[k].testedAt.map fun t => t + 1000000000).getD 0))).modSlice i fun _ => x).draw ∧
      x.sw.ch[k].st = .off ∧ x.sw.ch[k].outputHigh = h1 ∧
      x.sw.ch[k].testedAt = some (max s.now (max (s.slices[i].sw.ch[k].offAt + 100000000) ((s.slices[i].sw.ch[k].testedAt.map fun t => t + 1000000000).getD 0))) ∧
      x.sw.ch[k].nShort = (if h1 then s.slices[i].sw.ch[k].nShort + 1 else 0) ∧ x.sw.ch[k].nOpen = (if h2 && !h1 then s.slices[i].sw.ch[k].nOpen + 1 else 0) ∧
      (h1 = true → 2 ≤ s.slices[i].sw.ch[k].nShort → x.sw.ch[k].short = true) ∧ (h1 = false → 2 ≤ s.slices[i].sw.ch[k].nNoShort → x.sw.ch[k].short = false) ∧
      ((h2 && !h1) = true → 2 ≤ s.slices[i].sw.ch[k].nOpen → x.sw.ch[k].openLoad = true) ∧ ((h2 && !h1) = false → 2 ≤ s.slices[i].sw.ch[k].nNoOpen → x.sw.ch[k].openLoad = false) ∧
      (∀ j : Fin 6, j ≠ k → x.sw.ch[j] = s.slices[i].sw.ch[j]) ∧ x.portal = s.slices[i].portal ∧ x.axes = s.slices[i].axes) ∧
  (∀ (i : Fin 16) (k : Fin 6) (ma : Nat) (s : State), s.powerUp i = true → s.slices[i].sw.ch[k].st = .on → s.slices[i].sw.ch[k].limiting = false → cfgLswMinCurrent s.params i k ≠ 0 →
    let c := s.slices[i].sw.ch[k]
    let below := decide (ma < cfgLswMinCurrent s.params i k)
    ∃ x : Slice, exec (.undercurrentTimeout i k ma) s = .next ((s.advance ((if c.side = none then c.onAt else c.sideAt) + 100000000)).modSlice i fun _ => x).draw ∧ x.sw.ch[k].st = .on ∧ x.sw.ch[k].current = min 65535 ma ∧
      x.sw.ch[k].side = some below ∧ (c.side = none ∨ c.side = some below → x.sw.ch[k].under = below) ∧
      (c.side = some (!below) → x.sw.ch[k].under = c.under ∧ x.sw.ch[k].sideAt = max s.now (c.sideAt + 100000000)) ∧
      (∀ j : Fin 6, j ≠ k → x.sw.ch[j] = s.slices[i].sw.ch[j]) ∧ x.portal = s.slices[i].portal ∧ x.axes = s.slices[i].axes)

/-- O27. TETHER_FRAME, TETHER_TIMEOUT, POWER_ISLAND_LOST, TETHER_HANDOVER_REPEAT: commands and refresh, fail-safe states, loss and handover of the parameters. Rules: R132, R202, R214, R215, R216, R217, R218, R220, R221, R222, R223 (derived). -/
def Obligations.TetherRefreshesAndFailsSafe : Prop :=
  (∀ (i : Fin 16) (seq : Nat) (s : State), s.powerUp i = true → s.engineUp i = true → s.slices[i].waitsResume = false → seqInOrder s.slices[i].sw.tether.seqToPower seq = true → s.slices[i].sw.tether.alive ≠ s.slices[i].sw.tether.lastAlive →
    s.slices[i].sw.tether.safe = false → s.slices[i].sw.tether.st ≠ .lost → s.now < s.slices[i].sw.tether.lastRefresh + s.slices[i].sw.tether.stored.timeoutMs * 1050000 + 50000 →
    let t := s.slices[i].sw.tether
    ∃ x : Slice, exec (.tetherFrame i (.toPower true seq)) s = .next (s.modSlice i fun _ => x).draw ∧ x.sw.tether.st = .refreshed ∧ x.sw.tether.lastRefresh = s.now ∧ x.sw.tether.prevRefresh = t.lastRefresh ∧ x.sw.tether.lastAlive = t.alive ∧
      x.sw.tether.seqToPower = seq % 16 ∧ x.sw.tether.steps = [] ∧ x.portal = s.slices[i].portal ∧ x.axes = s.slices[i].axes ∧ x.inp = s.slices[i].inp ∧ x.can = s.slices[i].can ∧
      (t.storedValid = false ∨ s.slices[i].sw.enabled = false → x.sw.ch = s.slices[i].sw.ch) ∧
      (t.storedValid = false → x.sw.tether.axes = t.axes) ∧
      (t.storedValid = true → ∀ a : Fin 3, x.sw.tether.axes[a].current = s.slices[i].axes[a].d.current ∧ x.sw.tether.axes[a].angle = s.slices[i].axes[a].d.est.thetaA ∧
        x.sw.tether.axes[a].pos = match t.posSet[a] with | some p => p | none => t.axes[a].pos + t.steps.foldl (fun (n : Int) y => if y.axis = a then n + y.by_ else n) 0) ∧
      (t.storedValid = true → s.slices[i].sw.enabled = true → ∀ k : Fin 6,
        let c := s.slices[i].sw.ch[k]
        x.sw.ch[k].cmd = c.commanded ∧ x.sw.ch[k].trips = c.trips ∧ x.sw.ch[k].failsafe = false ∧
        (c.st = .thermalOff ∨ c.st = .latchedOff → x.sw.ch[k].st = c.st) ∧
        (c.commanded = false → c.st ≠ .thermalOff → c.st ≠ .latchedOff → x.sw.ch[k].st = .off ∧ (c.st ≠ .off → x.sw.ch[k].req = .idle)) ∧
        (c.commanded = true → c.st = .on ∨ c.st = .waiting → x.sw.ch[k].st = c.st ∧ x.sw.ch[k].req = c.req) ∧
        (c.commanded = true → c.st = .off → s.slices[i].sw.supply = false → x.sw.ch[k].st = .off) ∧
        (c.commanded = true → c.st = .off → s.slices[i].sw.supply = true → ((s.env i).enrolled k = false ∨ s.slices[i].sw.unarbitrated = true) → x.sw.ch[k].st = .on ∧ x.sw.ch[k].onAt = s.now) ∧
        (c.commanded = true → c.st = .off → s.slices[i].sw.supply = true → (s.env i).enrolled k = true → s.slices[i].sw.unarbitrated = false → x.sw.ch[k].st = .waiting ∧ x.sw.ch[k].req.isWaiting = true))) ∧
  (∀ (i : Fin 16) (seq : Nat) (ma dt : Vector Nat 6) (high : Vector Bool 6) (ct : Int) (s : State), s.powerUp i = true → s.sliceRuns i = true → seqInOrder s.slices[i].sw.tether.seqToEngine seq = true →
    ∃ x : Slice, exec (.tetherFrame i (.toEngine true seq ma dt high ct)) s = .next (s.modSlice i fun _ => x).draw ∧ x.sw.caseT = ct ∧ x.sw.tether.missing = 0 ∧ x.portal = s.slices[i].portal ∧ x.axes = s.slices[i].axes ∧
      ∀ k : Fin 6, x.sw.ch[k].outputHigh = high[k] ∧ x.sw.ch[k].st = s.slices[i].sw.ch[k].st ∧ (s.slices[i].sw.enabled = true → x.sw.ch[k].current = min 65535 ma[k] ∧ x.sw.ch[k].deltaT = min 255 dt[k]) ∧
        (s.slices[i].sw.enabled = false → x.sw.ch[k].current = s.slices[i].sw.ch[k].current ∧ x.sw.ch[k].deltaT = s.slices[i].sw.ch[k].deltaT)) ∧
  (∀ (i : Fin 16) (seq : Nat) (ma dt : Vector Nat 6) (high : Vector Bool 6) (ct : Int) (s : State), s.powerUp i = true → s.sliceRuns i = true →
    (∃ x : Slice, exec (.tetherFrame i (.toPower false seq)) s = .next (s.modSlice i fun _ => x).draw ∧ x.sw.tether.cntErrors = satInc 65535 s.slices[i].sw.tether.cntErrors ∧ x.sw.tether.lastRefresh = s.slices[i].sw.tether.lastRefresh ∧
      x.sw.tether.lastAlive = s.slices[i].sw.tether.lastAlive ∧ x.sw.tether.axes = s.slices[i].sw.tether.axes ∧ x.sw.ch = s.slices[i].sw.ch ∧ x.portal = s.slices[i].portal ∧ x.axes = s.slices[i].axes) ∧
    exec (.tetherFrame i (.toEngine false seq ma dt high ct)) s = .next (s.modSlice i fun sl => sl.modTether fun t => { t with cntErrors := satInc 65535 t.cntErrors, missing := t.missing + 1 }).draw) ∧
  (∀ (i : Fin 16) (s : State), s.powerUp i = true → s.slices[i].sw.tether.storedValid = true → s.slices[i].sw.tether.safe = false → s.slices[i].sw.tether.st ≠ .lost → s.slices[i].sw.tether.testRunning = false →
    s.slices[i].sw.tether.lastRefresh < s.now → s.slices[i].sw.enabled = true →
    let t := s.slices[i].sw.tether
    ∃ x : Slice, exec (.tetherTimeout i) s = .next ((s.advance (t.lastRefresh + t.stored.timeoutMs * 950000)).modSlice i fun _ => x).draw ∧ x.sw.tether.st = .failsafe ∧ x.sw.tether.safe = true ∧
      x.sw.tether.cntTimeouts = satInc 255 t.cntTimeouts ∧ x.portal = s.slices[i].portal ∧
      (∀ a : Fin 3, x.axes[a].d = s.slices[i].axes[a].d ∧ x.axes[a].m.queue = [] ∧ x.axes[a].m.v = 0 ∧ x.axes[a].m.pos = s.slices[i].axes[a].m.pos ∧
        x.axes[a].m.homed = (s.slices[i].axes[a].m.homed && !(t.axes[a].mode.driven && decide (t.stored.axisSafe[a] = 0)))) ∧
      (∀ k : Fin 6, s.slices[i].sw.ch[k].st = .on → x.sw.ch[k].failsafe = true ∧ x.sw.ch[k].st = if t.stored.chSafe[k] = 0 then .off else .on) ∧
      (∀ k : Fin 6, s.slices[i].sw.ch[k].st = .off → x.sw.ch[k].st = if t.stored.chSafe[k] = 1 ∧ s.slices[i].sw.supply = true then .on else .off) ∧
      (∀ k : Fin 6, (s.slices[i].sw.ch[k].st = .thermalOff ∨ s.slices[i].sw.ch[k].st = .latchedOff) → x.sw.ch[k].st = s.slices[i].sw.ch[k].st) ∧
      ∀ a : Fin 3, x.sw.tether.axes[a].pos = t.axes[a].pos ∧ x.sw.tether.axes[a].mode = if t.axes[a].mode.driven then (if t.stored.axisSafe[a] = 0 then .shortBrake else .hold) else t.axes[a].mode) ∧
  (∀ (i : Fin 16) (s : State), s.sliceRuns i = true → s.slices[i].sw.tether.st ≠ .lost →
    ∃ x : Slice, exec (.powerIslandLost i) s = .next ((s.advance (s.now + (4 - s.slices[i].sw.tether.missing) * 25000)).modSlice i fun _ => x).draw ∧ x.sw.tether.st = .lost ∧ x.portal.cause11 = true ∧ x.portal.st = s.slices[i].portal.st ∧
      x.sw.faultCode = 8 ∧ x.sw.ch = s.slices[i].sw.ch ∧ x.axes = s.slices[i].axes) ∧
  (∀ (i : Fin 16) (s : State), s.powerUp i = true → s.sliceRuns i = true → (s.slices[i].sw.tether.st = .lost ∨ s.slices[i].sw.tether.storedValid = false) →
    ∃ x : Slice, exec (.tetherHandoverRepeat i) s = .next (s.modSlice i fun _ => x).draw ∧ x.sw.tether.st = .refreshed ∧ x.sw.tether.safe = false ∧ x.sw.tether.storedValid = true ∧ x.sw.tether.stored = (s.env i).storedParams ∧
      x.sw.tether.missing = 0 ∧ x.portal = s.slices[i].portal ∧
      (∀ k : Fin 6, x.sw.ch[k].st = s.slices[i].sw.ch[k].st ∧ (s.slices[i].sw.ch[k].st = .on ∨ s.slices[i].sw.ch[k].st = .waiting → x.sw.ch[k].commanded = true) ∧ (s.slices[i].sw.ch[k].st = .latchedOff → x.sw.ch[k].commanded = false)) ∧
      ∀ a : Fin 3, x.sw.tether.axes[a].pos = s.slices[i].axes[a].m.pos ∧ x.sw.tether.axes[a].valid = true ∧ x.axes[a].m.pos = s.slices[i].axes[a].m.pos ∧ x.axes[a].m.homed = (s.slices[i].axes[a].m.homed && s.slices[i].sw.tether.axes[a].valid) ∧
        x.axes[a].m.v = 0 ∧ x.axes[a].d.mode = s.slices[i].sw.tether.axes[a].mode)

/-- O28. ENGINE_RESUME: an engine that has restarted takes over the positions and channel states its power island kept, and the portal state its region held. Rules: R221, R223, R224 (derived). -/
def Obligations.EngineResumesFromItsPowerIsland : Prop :=
  (∀ (i : Fin 16) (s : State), s.configured = true → s.engineUp i = true → s.slices[i].waitsResume = true → s.slices[i].sw.tether.storedValid = true →
    ∃ x : Slice, exec (.engineResume i) s = .next (s.modSlice i fun _ => x).draw ∧ x.waitsResume = false ∧ x.sw.tether.resumed = true ∧ x.sw.tether.st = .refreshed ∧
      (∀ a : Fin 3, x.axes[a].m.pos = s.slices[i].sw.tether.axes[a].pos ∧ (x.axes[a].m.homed = (s.slices[i].heldHomed[a] && s.slices[i].sw.tether.axes[a].valid))) ∧
      (∀ k : Fin 6, x.sw.ch[k].st = s.slices[i].sw.ch[k].st) ∧
      (∀ k : Fin 6, (s.slices[i].sw.ch[k].st = .on ∨ s.slices[i].sw.ch[k].st = .waiting → x.sw.ch[k].commanded = true) ∧ (s.slices[i].sw.ch[k].st = .thermalOff → x.sw.ch[k].commanded = s.slices[i].sw.ch[k].cmd) ∧
        (s.slices[i].sw.ch[k].st = .off → x.sw.ch[k].commanded = (s.slices[i].sw.ch[k].cmd && !s.slices[i].sw.supply)) ∧ (s.slices[i].sw.ch[k].st = .latchedOff → x.sw.ch[k].commanded = false)) ∧
      (s.active = false → ∀ a : Fin 3, x.axes[a].d.mode = s.slices[i].sw.tether.axes[a].mode ∧ x.axes[a].d.current = s.slices[i].sw.tether.axes[a].current ∧ x.axes[a].d.est.thetaA = s.slices[i].sw.tether.axes[a].angle) ∧
      (s.active = false → x.portal.st = s.slices[i].held.st) ∧
      ((s.slices[i].held.st = .fault ∨ s.slices[i].held.st = .isolated ∨ s.slices[i].held.st = .emergency) → x.portal.st = s.slices[i].held.st) ∧
      (s.active = true → s.slices[i].held.st = .locked → (∀ a : Fin 3, (s.env i).enabledAxis a = true → (s.slices[i].heldHomed[a] && s.slices[i].sw.tether.axes[a].valid) = true) → x.portal.st = .locked) ∧
      (s.active = true → s.slices[i].held.st = .locked → (∃ a : Fin 3, (s.env i).enabledAxis a = true ∧ (s.slices[i].heldHomed[a] && s.slices[i].sw.tether.axes[a].valid) = false) → x.portal.st = .homing)) ∧
  (∀ (i : Fin 16) (a : Fin 3) (s : State), s.configured = true → s.engineUp i = true → s.slices[i].waitsResume = true → s.slices[i].sw.tether.storedValid = false → s.active = true → (s.env i).enabledAxis a = true →
    ∃ x : Slice, exec (.engineResume i) s = .next (s.modSlice i fun _ => x).draw ∧ x.waitsResume = false ∧ x.portal.st = .homing ∧ x.sw.ch = s.slices[i].sw.ch) ∧
  (∀ (i : Fin 16) (s : State), s.slices[i].waitsResume = false → exec (.engineResume i) s = .next s.draw)

/-- O29. GROUP_SUPPLY_RANGE_CHANGE, GROUP_CURRENT_WARNING and GROUP_OVER_TEMPERATURE: the group's flags, its event, and what a lost supply does to channels and axes. Rules: R1, R168, R208, R231, R232, R233, R560 (derived). -/
def Obligations.GroupMonitorsRaiseAndStopLoads : Prop :=
  (∀ (g : Fin 2) (dv : Nat) (s : State), s.hasGroup g = true → s.groups[g].loadOut = false → (dv < 168 ∨ 1650 < dv) →
    ∃ t, exec (.groupSupplyRangeChange g false true dv) s = .next t ∧ t.now = s.now ∧ t.groups[g].loadOut = true ∧ t.groups[g].loadV = dv ∧ t.groups[g].faultEvent = 3 ∧ t.groups[g].faultInput = 0 ∧
      (∀ h : Fin 2, h ≠ g → t.groups[h] = s.groups[h]) ∧ t.hws = s.hws ∧ t.loop = s.loop ∧
      (∀ i : Fin 16, groupOf i ≠ g → t.slices[i] = s.slices[i]) ∧
      (∀ (i : Fin 16) (k : Fin 6), groupOf i = g → i.val < s.sliceCount → ((s.slices[i].sw.ch[k].st = .on ∨ s.slices[i].sw.ch[k].st = .waiting) → t.slices[i].sw.ch[k].st = .off ∧ t.slices[i].sw.ch[k].req = .idle) ∧
        ((s.slices[i].sw.enabled = true ∨ s.slices[i].sw.tether.storedValid = false) → t.slices[i].sw.shown k = .noSupply)) ∧
      (∀ (i : Fin 16), groupOf i = g → i.val < s.sliceCount → t.slices[i].sw.supply = false ∧ t.slices[i].portal = s.slices[i].portal ∧ t.slices[i].axes = s.slices[i].axes)) ∧
  (∀ (g : Fin 2) (dv : Nat) (s : State), s.hasGroup g = true → s.groups[g].motorOut = false → (dv < 168 ∨ 1650 < dv) →
    ∃ t, exec (.groupSupplyRangeChange g true true dv) s = .next t ∧ t.now = s.now ∧ t.groups[g].motorOut = true ∧ t.groups[g].motorV = dv ∧ t.groups[g].faultEvent = 3 ∧ t.groups[g].faultInput = 1 ∧
      (∀ h : Fin 2, h ≠ g → t.groups[h] = s.groups[h]) ∧ t.hws = s.hws ∧ t.loop = s.loop ∧
      (∀ i : Fin 16, groupOf i ≠ g → t.slices[i] = s.slices[i]) ∧
      (∀ (i : Fin 16) (a : Fin 3), groupOf i = g → i.val < s.sliceCount → s.gate = true → (s.env i).enabledAxis a = true → t.slices[i].axes[a].d.fault = 4 ∧ t.slices[i].portal.cause11 = true ∧ t.slices[i].sw.ch = s.slices[i].sw.ch)) ∧
  (∀ (g : Fin 2) (l m : Nat) (s : State), s.configured = true → s.hasGroup g = true → s.groups[g].warning = false → cfgBlyCurrentWarn s.params g < l + m →
    ∃ t, exec (.groupCurrentWarning g true l m) s = .next t ∧ t.groups[g].warning = true ∧ t.groups[g].loadI = l ∧ t.groups[g].motorI = m ∧ t.groups[g].faultEvent = 2 ∧ t.groups[g].cntWarnings = satInc 15 s.groups[g].cntWarnings ∧
      t.slices = s.slices ∧ ∀ h : Fin 2, h ≠ g → t.groups[h] = s.groups[h]) ∧
  (∀ (g : Fin 2) (l m : Nat) (s : State), s.configured = true → s.hasGroup g = true → s.groups[g].warning = true → l + m ≤ cfgBlyCurrentWarn s.params g →
    exec (.groupCurrentWarning g false l m) s = .next (s.modGroup g fun x => { x with warning := false, loadI := l, motorI := m }).draw) ∧
  (∀ (g : Fin 2) (d : Int) (s : State), s.hasGroup g = true → 1000 ≤ d → s.groups[g].overTemp = false →
    ∃ t, exec (.groupOverTemperature g d) s = .next t ∧ t.groups[g].overTemp = true ∧ t.groups[g].faultEvent = 6 ∧ t.slices = s.slices ∧ ∀ h : Fin 2, h ≠ g → t.groups[h] = s.groups[h]) ∧
  (∀ (g : Fin 2) (d : Int) (s : State), s.hasGroup g = true → d ≤ 950 → exec (.groupOverTemperature g d) s = .next (s.modGroup g fun x => { x with overTemp := false }).draw) ∧
  (∀ (motor out set : Bool) (dv l m : Nat) (d : Int) (s : State), s.small = true →
    exec (.groupSupplyRangeChange 1 motor out dv) s = .next s.draw ∧ exec (.groupCurrentWarning 1 set l m) s = .next s.draw ∧ exec (.groupOverTemperature 1 d) s = .next s.draw)

/-- O30. An arbitration round of Belay never takes a group whose grants fit its budget beyond it, and grants a lone request that fits. Rules: R229, R230, R234, R235, R240, R241, R242 (derived). -/
def Obligations.ArbitrationKeepsTheBudget : Prop :=
  (∀ (g : Fin 2) (m : GroupInputs) (s : State), s.configured = true → s.hasGroup g = true → s.start.stage ≠ .off →
    ∃ t, exec (.arbitrationRound ⟨g, m⟩) s = .next t ∧ t.now = max s.now (nextRound s.groups[g].roundAt s.now) ∧ t.groups[g].roundAt = nextRound s.groups[g].roundAt s.now ∧ t.params = s.params ∧ t.hws = s.hws ∧
      (∀ h : Fin 2, h ≠ g → t.groups[h] = s.groups[h]) ∧
      ((s.groups[g].measuredAt.all fun x => decide (x + 100000 ≤ nextRound s.groups[g].roundAt s.now)) = true → t.groups[g].loadV = m.loadV ∧ t.groups[g].motorV = m.motorV ∧ t.groups[g].loadI = m.loadI ∧ t.groups[g].motorI = m.motorI) ∧
      (∀ (i : Fin 16) (k : Fin 6), t.slices[i].sw.ch[k].st = s.slices[i].sw.ch[k].st ∧ t.slices[i].portal = s.slices[i].portal) ∧
      (s.allocated g ≤ cfgBlyBudget s.params g → t.allocated g ≤ cfgBlyBudget s.params g)) ∧
  (∀ (g : Fin 2) (m : GroupInputs) (r : Requester) (s : State), s.configured = true → s.hasGroup g = true → s.start.stage ≠ .off → (s.requesters g).length ≤ 24 → s.waiting g = [r] → s.allocated g + s.inrushI r ≤ cfgBlyBudget s.params g →
    ∃ t, exec (.arbitrationRound ⟨g, m⟩) s = .next t ∧ t.req r = .granted (nextRound s.groups[g].roundAt s.now)) ∧
  (∀ (g : Fin 2) (m : GroupInputs) (s : State), s.configured = false → s.hasGroup g = true → s.start.stage ≠ .off →
    exec (.arbitrationRound ⟨g, m⟩) s = .next ((s.advance (nextRound s.groups[g].roundAt s.now)).modGroup g fun x => { x.measure (nextRound s.groups[g].roundAt s.now) m with roundAt := nextRound s.groups[g].roundAt s.now }).draw) ∧
  (∀ (g : Fin 2) (m : GroupInputs) (s : State), (s.hasGroup g = false ∨ s.start.stage = .off) → exec (.arbitrationRound ⟨g, m⟩) s = .next s.draw)

/-- O31. BELAY_GRANT_ARRIVAL, INRUSH_TIME_EXPIRY, DEADLINE_MISSED, BELAY_WATCHDOG_BITE, ARBITER_FRAME_LOSS and ARBITRATION_RESUME: what happens to requests and their switches. Rules: R236, R237, R243, R244, R246 (derived). -/
def Obligations.GrantsSwitchOnAndEnd : Prop :=
  (∀ (i : Fin 16) (k : Fin 6) (s : State), s.powerUp i = true → s.slices[i].sw.ch[k].st = .waiting → s.slices[i].sw.ch[k].req.isGranted = true →
    exec (.belayGrantArrival i ⟨k.val, by omega⟩) s = .next (s.modSlice i fun sl => sl.modCh k fun c => { c with st := .on, onAt := s.now, side := none }).draw) ∧
  (∀ (i : Fin 16) (k : Fin 6) (s : State), s.slices[i].sw.ch[k].req.isGranted = true → s.slices[i].sw.ch[k].st = .on → s.slices[i].sw.ch[k].limiting = false →
    exec (.inrushTimeExpiry i ⟨k.val, by omega⟩) s =
      .next ((s.advance (s.slices[i].sw.ch[k].onAt + ms (s.inrushT (i, ⟨k.val, by omega⟩)))).modSlice i fun sl => sl.modCh k fun c => { c with req := .idle }).draw) ∧
  (∀ (i : Fin 16) (a : Fin 3) (t0 f : Nat) (s : State), s.slices[i].axes[a].m.req = .granted t0 → s.slices[i].axes[a].m.firstAt = some f → t0 ≤ f →
    exec (.inrushTimeExpiry i ⟨6 + a.val, by omega⟩) s = .next ((s.advance (f + ms (s.inrushT (i, ⟨6 + a.val, by omega⟩)))).modSlice i fun sl => sl.modM a fun m => { m with req := .idle }).draw) ∧
  (∀ (i : Fin 16) (j : Fin 9) (t0 d : Nat) (s : State), s.req (i, j) = .waiting t0 d false →
    ∃ t, exec (.deadlineMissed i j) s = .next t ∧ t.now = max s.now d ∧ t.req (i, j) = .waiting t0 d true ∧ t.groups[groupOf i].faultEvent = 4 ∧ t.groups[groupOf i].cntMisses = satInc 255 s.groups[groupOf i].cntMisses ∧
      t.slices[i].portal = s.slices[i].portal ∧ (∀ l : Fin 16, l ≠ i → t.slices[l] = s.slices[l])) ∧
  (∀ (i : Fin 16) (j : Fin 9) (s : State), (∀ t0 d, s.req (i, j) ≠ .waiting t0 d false) → exec (.deadlineMissed i j) s = .next s.draw) ∧
  (∀ (g : Fin 2) (s : State), s.granted g ≠ [] → s.waiting g ≠ [] →
    ∃ t, exec (.belayWatchdogBite g) s = .next t ∧ s.now ≤ t.now ∧ t.groups[g].faultEvent = 1 ∧ t.groups[g].cntBites = satInc 15 s.groups[g].cntBites ∧ t.params = s.params ∧ t.hws = s.hws ∧
      (∀ r ∈ s.granted g, t.req r = .idle) ∧ (∀ r ∈ s.waiting g, s.slices[r.1].teach = none → t.req r = s.req r) ∧
      (∀ (i : Fin 16) (k : Fin 6) (t0 : Nat), (i, (⟨k.val, by omega⟩ : Fin 9)) ∈ s.granted g → s.slices[i].sw.ch[k].req = .granted t0 → t0 + ms (cfgBlyWatchdog s.params g * 100) ≤ t.now → t.slices[i].sw.ch[k].st = .latchedOff) ∧ ∀ h : Fin 2, h ≠ g → t.groups[h] = s.groups[h]) ∧
  (∀ (i : Fin 16) (s : State), s.powerUp i = true → s.slices[i].sw.unarbitrated = false →
    ∃ t, exec (.arbiterFrameLoss i) s = .next t ∧ t.slices[i].sw.unarbitrated = true ∧ t.groups[groupOf i].faultEvent = 5 ∧ t.slices[i].portal = s.slices[i].portal ∧
      (∀ k : Fin 6, s.slices[i].sw.ch[k].st = .waiting → t.slices[i].sw.ch[k].st = .on ∧ t.slices[i].sw.ch[k].req = .idle) ∧ (∀ k : Fin 6, s.slices[i].sw.ch[k].st ≠ .waiting → t.slices[i].sw.ch[k] = s.slices[i].sw.ch[k]) ∧
      (∀ l : Fin 16, l ≠ i → t.slices[l] = s.slices[l])) ∧
  (∀ (i : Fin 16) (s : State), s.slices[i].sw.unarbitrated = true →
    ∃ x : Slice, exec (.arbitrationResume i) s = .next (s.modSlice i fun _ => x).draw ∧ x.sw.unarbitrated = false ∧ (∀ k : Fin 6, x.sw.ch[k].req = .idle ∧ x.sw.ch[k].st = s.slices[i].sw.ch[k].st) ∧
      (∀ a : Fin 3, x.axes[a].m.req = .idle ∧ x.axes[a].m.pos = s.slices[i].axes[a].m.pos) ∧ x.portal = s.slices[i].portal)

/-- O32. CAN_FRAME_RECEIVE takes a frame into the first matching object, CAN_FRAME_END, CBS_TX_REQUEST and CBS_TX_CANCEL move a transmit object's request and result. Rules: R336, R337, R338, R340, R355 (derived). -/
def Obligations.CarBusObjectsTakeAndSend : Prop :=
  (∀ (i : Fin 16) (f : CanFrame) (r : Fin 32) (s : State), s.sliceRuns i = true → (s.slices[i].can.mode = .normal ∨ s.slices[i].can.mode = .monitor) → f.remote = false → (s.env i).isConflict f = false → (s.env i).rxObject f = some r →
    ∃ x : Slice, exec (.canFrameReceive i f) s = .next (s.modSlice i fun _ => x).draw ∧ x.portal = s.slices[i].portal ∧ x.axes = s.slices[i].axes ∧ x.inp = s.slices[i].inp ∧ x.sw = s.slices[i].sw ∧
      x.can.rx[r] = ⟨f.id, f.ide, f.fdf, true, f.dlc, f.brs, f.esi, s.slices[i].can.rx[r].fresh, 0, f.sof, f.data.take (cfgBusRxLen s.params i r.val), true⟩ ∧
      (∀ q : Fin 32, q ≠ r → x.can.rx[q] = s.slices[i].can.rx[q]) ∧ x.can.tx = s.slices[i].can.tx ∧ x.can.mode = s.slices[i].can.mode ∧ x.can.cntReceived = satInc 65535 s.slices[i].can.cntReceived ∧
      x.can.cntOverwrites = (if s.slices[i].can.rx[r].fresh then satInc 255 s.slices[i].can.cntOverwrites else s.slices[i].can.cntOverwrites)) ∧
  (∀ (i : Fin 16) (f : CanFrame) (s : State), s.sliceRuns i = true → (s.slices[i].can.mode = .normal ∨ s.slices[i].can.mode = .monitor) → f.remote = false → (s.env i).isConflict f = false → (s.env i).rxObject f = none →
    ∃ x : Slice, exec (.canFrameReceive i f) s = .next (s.modSlice i fun _ => x).draw ∧ x.portal = s.slices[i].portal ∧ x.axes = s.slices[i].axes ∧ x.inp = s.slices[i].inp ∧ x.sw = s.slices[i].sw ∧ x.can.rx = s.slices[i].can.rx ∧ x.can.tx = s.slices[i].can.tx ∧ x.can.cntUnmatched = satInc 255 s.slices[i].can.cntUnmatched) ∧
  (∀ (i : Fin 16) (t : Fin 16) (d : List Byte) (sof : Nat) (s : State), s.sliceRuns i = true → s.slices[i].can.onBus = .object t d false →
    (∃ x : Slice, exec (.canFrameEnd i true sof) s = .next (s.modSlice i fun _ => x).draw ∧ x.portal = s.slices[i].portal ∧ x.axes = s.slices[i].axes ∧ x.inp = s.slices[i].inp ∧ x.sw = s.slices[i].sw ∧ x.can.tx[t].pending = none ∧ x.can.tx[t].lastSent = some d ∧
      x.can.tx[t].result = (if s.slices[i].can.tx[t].tooLate then 3 else 1) ∧ x.can.cntTransmitted = satInc 65535 s.slices[i].can.cntTransmitted ∧ x.can.rx = s.slices[i].can.rx ∧
      ∀ u : Fin 16, u ≠ t → x.can.tx[u] = s.slices[i].can.tx[u]) ∧
    (∃ x : Slice, exec (.canFrameEnd i false sof) s = .next (s.modSlice i fun _ => x).draw ∧ x.portal = s.slices[i].portal ∧ x.axes = s.slices[i].axes ∧ x.inp = s.slices[i].inp ∧ x.sw = s.slices[i].sw ∧ x.can.tx = s.slices[i].can.tx ∧ x.can.rx = s.slices[i].can.rx ∧ x.can.cntTransmitted = s.slices[i].can.cntTransmitted)) ∧
  (∀ (i : Fin 16) (bits : Nat) (s : State), s.sliceRuns i = true → s.slices[i].can.mode = .normal →
    ∃ x : Slice, exec (.cbsTxRequest i bits) s = .next (s.modSlice i fun _ => x).draw ∧ x.portal = s.slices[i].portal ∧ x.axes = s.slices[i].axes ∧ x.inp = s.slices[i].inp ∧ x.sw = s.slices[i].sw ∧ x.can.rx = s.slices[i].can.rx ∧
      ∀ t : Fin 16, x.can.tx[t] = if bits.testBit t.val = true ∧ (s.env i).txMode t.val = 3 ∧ s.slices[i].can.tx[t].pending = none then { s.slices[i].can.tx[t] with pending := some s.now, waited := false, tooLate := false } else s.slices[i].can.tx[t]) ∧
  (∀ (i : Fin 16) (bits : Nat) (s : State), s.sliceRuns i = true → s.slices[i].can.mode = .monitor → exec (.cbsTxRequest i bits) s = .next s.draw) ∧
  (∀ (i : Fin 16) (bits : Nat) (won : Bool) (s : State), s.sliceRuns i = true →
    ∃ x : Slice, exec (.cbsTxCancel i bits won) s = .next (s.modSlice i fun _ => x).draw ∧ x.portal = s.slices[i].portal ∧ x.axes = s.slices[i].axes ∧ x.inp = s.slices[i].inp ∧ x.sw = s.slices[i].sw ∧ x.can.rx = s.slices[i].can.rx ∧
      (∀ t : Fin 16, bits.testBit t.val = true → s.slices[i].can.tx[t].pending ≠ none → (won && s.slices[i].can.sends t) = false → x.can.tx[t].pending = none ∧ x.can.tx[t].result = 2 ∧ x.can.sends t = false) ∧
      (∀ t : Fin 16, bits.testBit t.val = true → s.slices[i].can.tx[t].pending ≠ none → (won && s.slices[i].can.sends t) = true → x.can.tx[t] = { s.slices[i].can.tx[t] with tooLate := true }) ∧
      (∀ t : Fin 16, bits.testBit t.val = false → x.can.tx[t] = s.slices[i].can.tx[t]))

/-- O33. BASIC_CYCLE_START, COLUMN_START and REFERENCE_LATE: the basic cycle counts, the reference message starts or is late, the column's object starts or misses its window. Rules: R341, R342, R343, R344, R345 (derived). -/
def Obligations.CarBusScheduleRuns : Prop :=
  (∀ (i : Fin 16) (s : State), s.sliceRuns i = true → (s.env i).busEnable = true → (s.env i).ttEnable = true → s.slices[i].can.armed = true → s.slices[i].can.mode = .normal → s.slices[i].can.onBus = .idle →
    ∃ x : Slice, exec (.basicCycleStart i true) s = .next ((s.advance (s.clocks[i.val].syncAt + cfgBusRefOffset s.params i * 1000)).modSlice i fun _ => x).draw ∧ x.portal = s.slices[i].portal ∧ x.axes = s.slices[i].axes ∧ x.inp = s.slices[i].inp ∧ x.sw = s.slices[i].sw ∧
      x.can.onBus = .reference (leBytes 1 (x.can.basicCycle % 64 + 128 * b2n (!(s.env i).holdover)) ++ leBytes 3 0 ++ leBytes 4 (s.slices[i].can.refSof % 2 ^ 32)) ∧ x.can.ttRunning = true ∧ x.can.armed = false ∧ x.can.column = 0 ∧ x.can.bcAt = max s.now (s.clocks[i.val].syncAt + cfgBusRefOffset s.params i * 1000) ∧
      x.can.basicCycle = (if s.slices[i].can.ttRunning = true ∧ s.slices[i].can.basicCycle + 1 < cfgBusMatrixCycles s.params i then s.slices[i].can.basicCycle + 1 else 0) ∧
      x.can.tx = s.slices[i].can.tx ∧ x.can.rx = s.slices[i].can.rx) ∧
  (∀ (i : Fin 16) (idle : Bool) (s : State), s.slices[i].can.armed = false → exec (.basicCycleStart i idle) s = .next s.draw) ∧
  (∀ (i : Fin 16) (j : Nat) (t : Fin 16) (s : State), s.sliceRuns i = true → (s.env i).ttEnable = true → s.slices[i].can.ttRunning = true → 0 < j → j < cfgBusColCount s.params i → s.slices[i].can.mode = .normal →
    let c := s.slices[i].can
    let cell := (c.bank c.activeBank).cell c.basicCycle j
    cell % 16 = t.val → fieldOf cell 5 2 ≠ 0 → cell.testBit 4 = true → (s.env i).txMode t.val = 1 →
    (c.onBus = .idle → c.ttHeld = false → c.refSent = true → ({ s.slices[i] with can := { c with column := j } } : Slice).fits ((s.advance (c.bcAt + s.columnOffset i j)).env i) s.tcyc ((s.env i).objectTime t.val) = true →
      ∃ x : Slice, exec (.columnStart i j true) s = .next ((s.advance (c.bcAt + s.columnOffset i j)).modSlice i fun _ => x).draw ∧ x.portal = s.slices[i].portal ∧ x.axes = s.slices[i].axes ∧ x.inp = s.slices[i].inp ∧ x.sw = s.slices[i].sw ∧ x.can.column = j ∧
        (∃ d, x.can.onBus = .object t d true) ∧ x.can.tx = c.tx ∧ x.can.rx = c.rx) ∧
    (∃ x : Slice, exec (.columnStart i j false) s = .next ((s.advance (c.bcAt + s.columnOffset i j)).modSlice i fun _ => x).draw ∧ x.portal = s.slices[i].portal ∧ x.axes = s.slices[i].axes ∧ x.inp = s.slices[i].inp ∧ x.sw = s.slices[i].sw ∧ x.can.column = j ∧ x.can.onBus = c.onBus ∧
      x.can.tx[t].result = 4 ∧ x.can.cntMisses = satInc 255 c.cntMisses ∧ x.can.faultCode = 7 ∧ x.can.faultObject = t.val ∧ (∀ u : Fin 16, u ≠ t → x.can.tx[u] = c.tx[u]))) ∧
  (∀ (i : Fin 16) (s : State), s.sliceRuns i = true → s.slices[i].can.ttRunning = true → s.slices[i].can.mode = .normal → s.slices[i].can.ttHeld = false → s.slices[i].can.refSent = false → s.slices[i].can.refLate = false →
    ∃ x : Slice, exec (.referenceLate i) s = .next ((s.advance (s.slices[i].can.bcAt + (((cfgBusTxEnable s.params i.val : Nat) : Rat) * (s.env i).nominalBit).ceil.toNat)).modSlice i fun _ => x).draw ∧ x.portal = s.slices[i].portal ∧ x.axes = s.slices[i].axes ∧ x.inp = s.slices[i].inp ∧ x.sw = s.slices[i].sw ∧ x.can = { s.slices[i].can with refLate := true, faultCode := 6, faultObject := 0 }) ∧
  (∀ (i : Fin 16) (s : State), s.slices[i].can.refSent = true → exec (.referenceLate i) s = .next s.draw)

/-- O34. CBS_MATRIX_WRITE, CBS_BANK_SWITCH, CBS_BANK_COPY, CAN_ERROR, BUS_OFF_RECOVERY_COMPLETE, CBS_RECOVERY_START and TRANSCEIVER_FAULT. Rules: R347, R348, R349, R351, R352, R354 (derived). -/
def Obligations.CarBusBanksAndErrors : Prop :=
  (∀ (i : Fin 16) (v : Nat) (s : State), s.engineUp i = true → s.slices[i].can.selectBank ≠ s.slices[i].can.activeBank →
    ∃ x : Slice, exec (.cbsMatrixWrite i v) s = .next ((s.modSlice i fun _ => x).respond .done 0 false).draw ∧ x.portal = s.slices[i].portal ∧ x.axes = s.slices[i].axes ∧ x.inp = s.slices[i].inp ∧ x.sw = s.slices[i].sw ∧
      let c := s.slices[i].can
      x.can.bank c.activeBank = c.bank c.activeBank ∧ x.can.switchAt = none ∧
      (c.selectColumn < 32 → (x.can.bank c.selectBank).cell c.selectCycle c.selectColumn = v % 65536 ∧ (x.can.bank c.selectBank).cols = (c.bank c.selectBank).cols ∧
        ∀ b j, b * 32 + j ≠ c.selectCycle * 32 + c.selectColumn → (x.can.bank c.selectBank).cell b j = (c.bank c.selectBank).cell b j) ∧
      (32 ≤ c.selectColumn → (x.can.bank c.selectBank).col (c.selectColumn - 32) = v % 65536 ∧ (x.can.bank c.selectBank).cells = (c.bank c.selectBank).cells)) ∧
  (∀ (i : Fin 16) (v : Nat) (s : State), s.engineUp i = true → s.slices[i].can.selectBank = s.slices[i].can.activeBank →
    exec (.cbsMatrixWrite i v) s = .next ((s.modSlice i fun sl => sl.modCan fun c => { c with refusedWrites := satInc 4095 c.refusedWrites }).respond .bankActive 0 false).draw) ∧
  (∀ (i : Fin 16) (s : State), s.sliceRuns i = true → (s.env i).bankFailure (shortestCycle s.params) (s.slices[i].can.bank (!s.slices[i].can.activeBank)) = none →
    exec (.cbsBankSwitch i) s = .next (s.modSlice i fun sl => sl.modCan fun c => { c with switchAt := some s.now }).draw) ∧
  (∀ (i : Fin 16) (b j : Nat) (s : State), s.sliceRuns i = true → (s.env i).bankFailure (shortestCycle s.params) (s.slices[i].can.bank (!s.slices[i].can.activeBank)) = some (b, j) →
    ∃ x : Slice, exec (.cbsBankSwitch i) s = .next (s.modSlice i fun _ => x).draw ∧ x.portal = s.slices[i].portal ∧ x.axes = s.slices[i].axes ∧ x.inp = s.slices[i].inp ∧ x.sw = s.slices[i].sw ∧
      x.can = { s.slices[i].can with bankResult := 2, failCycle := b, failColumn := j, switchAt := none, faultCode := 8, faultObject := 0 }) ∧
  (∀ (i : Fin 16) (s : State), s.sliceRuns i = true →
    ∃ x : Slice, exec (.cbsBankCopy i) s = .next (s.modSlice i fun _ => x).draw ∧ x.portal = s.slices[i].portal ∧ x.axes = s.slices[i].axes ∧ x.inp = s.slices[i].inp ∧ x.sw = s.slices[i].sw ∧ x.can.bank true = s.slices[i].can.bank s.slices[i].can.activeBank ∧ x.can.bank false = s.slices[i].can.bank s.slices[i].can.activeBank ∧
      x.can.activeBank = s.slices[i].can.activeBank ∧ x.can.switchAt = none ∧ x.can.bankResult = (if s.slices[i].can.switchAt.isSome then 3 else 4) ∧ x.can.tx = s.slices[i].can.tx ∧ x.can.rx = s.slices[i].can.rx) ∧
  (∀ (i : Fin 16) (kind : Nat) (dp hv : Bool) (s : State), s.sliceRuns i = true → s.slices[i].can.mode = .normal →
    let n := s.slices[i].can.tec + if hv = true ∨ ¬ (kind % 8 = 1 ∨ (kind % 8 = 3 ∧ s.slices[i].can.errState = 1)) then 8 else 0
    ∃ x : Slice, exec (.canError i kind dp true hv) s = .next (s.modSlice i fun _ => x).draw ∧ x.portal = s.slices[i].portal ∧ x.axes = s.slices[i].axes ∧ x.inp = s.slices[i].inp ∧ x.sw = s.slices[i].sw ∧ x.can.lastError = kind % 8 ∧ x.can.dataPhase = dp ∧ x.can.tec = n ∧ x.can.rec_ = s.slices[i].can.rec_ ∧
      x.can.errState = errorState n s.slices[i].can.rec_ ∧
      (255 < n → s.slices[i].can.errState ≠ 2 → (x.can.mode = .busOff ∨ x.can.mode = .waiting) ∧ x.can.onBus = .idle ∧ x.can.remaining = 128) ∧
      (n ≤ 255 → x.can.mode = .normal) ∧ x.can.rx = s.slices[i].can.rx) ∧
  (∀ (i : Fin 16) (s : State), s.sliceRuns i = true → s.slices[i].can.mode = .busOff →
    ∃ x : Slice, exec (.busOffRecoveryComplete i) s = .next ((s.advance (s.slices[i].can.recoverAt + ((11 * 128 : Nat) * (s.env i).nominalBit).ceil.toNat)).modSlice i fun _ => x).draw ∧ x.portal = s.slices[i].portal ∧ x.axes = s.slices[i].axes ∧ x.inp = s.slices[i].inp ∧ x.sw = s.slices[i].sw ∧ x.can.mode = (if s.gate then .normal else .monitor) ∧ x.can.tec = 0 ∧ x.can.rec_ = 0 ∧ x.can.errState = 0 ∧
      x.can.tx = s.slices[i].can.tx ∧ x.can.rx = s.slices[i].can.rx) ∧
  (∀ (i : Fin 16) (s : State), s.slices[i].can.mode ≠ .busOff → exec (.busOffRecoveryComplete i) s = .next s.draw) ∧
  (∀ (i : Fin 16) (s : State), s.sliceRuns i = true → s.slices[i].can.mode = .waiting → s.active = true →
    exec (.cbsRecoveryStart i) s = .next (s.modSlice i fun sl => sl.modCan fun c => { c with mode := .busOff, remaining := 128, recoverAt := s.now }).draw) ∧
  (∀ (i : Fin 16) (p : Bool) (s : State), s.sliceRuns i = true →
    ∃ x : Slice, exec (.transceiverFault i p) s = .next (s.modSlice i fun _ => x).draw ∧ x.portal = s.slices[i].portal ∧ x.axes = s.slices[i].axes ∧ x.inp = s.slices[i].inp ∧ x.sw = s.slices[i].sw ∧ x.can.transceiverFault = p ∧ x.can.mode = s.slices[i].can.mode ∧ x.can.tx = s.slices[i].can.tx ∧ x.can.rx = s.slices[i].can.rx ∧
      (p = true → s.slices[i].can.transceiverFault = false → x.can.faultCode = 10) ∧ ((p = false ∨ s.slices[i].can.transceiverFault = true) → x.can.faultCode = s.slices[i].can.faultCode ∧ x.iq = s.slices[i].iq))

/-- O35. FRAME_INSERTION puts each frame of the schedule on the ring at its offset, CONTAINER_PASS fills an empty container with the first waiting frame. Rules: R256, R258, R259, R261, R262, R263, R266, R267, R305, R383 (derived). -/
def Obligations.HawserFramesEnterTheRing : Prop :=
  (∀ (c : Fin 2) (s : State), s.inserts c = true → s.isMaster = true →
    ∃ t, exec (.frameInsertion c .beacon) s = .next t ∧ t.now = max s.now (s.insertAt c 0) ∧ t.carSide = s.carSide ∧ t.ina = s.ina ∧ t.hws.health = s.healthWord ∧
      t.hws.wire = s.hws.wire ++ [⟨.ring c.val (s.outPort c).val .own, 0, s.header c false false 64 0, .beacon ((s.advance (s.insertAt c 0)).beacon c)⟩] ∧
      ∃ b : List Byte, t.hws.octets = s.hws.octets ++ [b] ∧ b.length = 98 ∧ b.take 14 = groupAddress ++ macAddress (hawserChannel c.val) s.hws.position ++ beBytes 2 s.etherType) ∧
  (∀ (c : Fin 2) (s : State), s.inserts c = true → s.quiet = false → (s.chanMode c).static ≠ 0 →
    ∃ t hd data, exec (.frameInsertion c .static) s = .next t ∧ t.now = max s.now (s.insertAt c (staticAt (s.chanMode c) s.ownIndex)) ∧ t.carSide = s.carSide ∧ t.ina = s.ina ∧ t.hws.sentNow[c] = true ∧
      t.hws.wire = s.hws.wire ++ [⟨.ring c.val (s.outPort c).val .own, 0, hd, .static data ((s.spl.events.take s.spl.eventsReady).take (s.eventSlots c))⟩] ∧ data.length = (s.chanMode c).static - 8 * s.eventSlots c ∧
      hd.sender = s.hws.position ∧ hd.mode = s.hws.mode ∧ hd.cycle = s.hws.cycle ∧ hd.health = s.healthWord) ∧
  (∀ (c : Fin 2) (s : State), s.inserts c = true → s.quiet = false → s.isMaster = true → (s.chanMode c).slots ≠ 0 →
    ∃ t, exec (.frameInsertion c .poll) s = .next t ∧ t.now = max s.now (s.insertAt c (pollAt (s.chanMode c) s.hws.n (s.ring c))) ∧ t.carSide = s.carSide ∧ t.ina = s.ina ∧
      t.hws.listedNext[c] = s.nextPoll c ∧ t.hws.wire = s.hws.wire ++ [⟨.ring c.val (s.outPort c).val .own, 0, s.header c false false (8 + 8 * (s.nextPoll c).length) 0, .poll (s.nextPoll c)⟩]) ∧
  (∀ (c : Fin 2) (j : Nat) (e : PollSlot) (s : State), s.inserts c = true → s.quiet = false → (s.chanMode c).slots ≠ 0 → (s.hws.listedNow[c])[j]? = some e → e.position = s.hws.position →
    ∃ t hd data, exec (.frameInsertion c (.response j)) s = .next t ∧ t.now = max s.now (s.insertAt c (respAt (s.chanMode c) s.hws.n (s.ring c) j)) ∧ t.carSide = s.carSide ∧ t.ina = s.ina ∧
      t.hws.wire = s.hws.wire ++ [⟨.ring c.val (s.outPort c).val .own, 0, hd, .response data⟩] ∧ data.length = (s.chanMode c).respLen ∧ hd.sender = s.hws.position) ∧
  (∀ (c : Fin 2) (j : Nat) (s : State), s.inserts c = true → s.quiet = false → s.isMaster = true → j < (s.chanMode c).containers →
    ∃ t, exec (.frameInsertion c (.container j)) s = .next t ∧ t.now = max s.now (s.insertAt c (contAt (s.chanMode c) s.hws.n (s.ring c) j)) ∧ t.carSide = s.carSide ∧ t.ina = s.ina ∧
      t.hws.wire = s.hws.wire ++ [⟨.ring c.val (s.outPort c).val .own, 0, s.header c true false 0 0, .container⟩]) ∧
  (∀ (c : Fin 2) (w : Slotted) (s : State), s.inserts c = false → exec (.frameInsertion c w) s = .next s.draw) ∧
  (∀ (c : Fin 2) (k : Nat) (f : AsyncFrame) (rest : List AsyncFrame) (s : State), s.inserts c = true → s.quiet = false → s.hws.async[c] = f :: rest → s.waitsForEvent f = false → s.payloadLen c.val f.body ≤ (s.chanMode c).contLen → k < (s.chanMode c).containers →
    s.hws.filled[c] < cfgHwsAsyncQuota s.params s.hws.mode → (∀ l, s.hws.lastFilled[c] = some l → k ≠ l ∧ k ≠ l + 1) →
    ∃ t, exec (.containerPass c k true) s = .next t ∧ t.now = s.now ∧ t.carSide = s.carSide ∧ t.ina = s.ina ∧ t.hws.async[c] = rest ∧ t.hws.filled[c] = s.hws.filled[c] + 1 ∧ t.hws.lastFilled[c] = some k ∧
      t.hws.wire = s.hws.wire ++ [⟨.ring c.val (s.outPort c).val .own, f.dest, { s.header c false false 0 0 with dest := f.dest }, f.body⟩]) ∧
  (∀ (c : Fin 2) (k : Nat) (e : Bool) (s : State), (e = false ∨ ∀ f ∈ s.hws.async[c], (s.chanMode c).contLen < s.payloadLen c.val f.body) → exec (.containerPass c k e) s = .next s.draw)

/-- O36. HAWSER_FRAME_RECEIVE passes the guardian into its slot, POLL_FRAME_RECEIVE lists the next responses, OWN_FRAME_REMOVAL, LEFT_SCHEDULE, ASYNC_BACKLOG, SLOT_STALE and BEACON_LOST watch the ring. Rules: R256, R266, R267, R272, R273, R276, R278, R279, R280, R281 (derived). -/
def Obligations.HawserFramesAreReceived : Prop :=
  (∀ (i : Fin 4) (h : HwsHeader) (body : Body) (a : Arrival) (t0 t1 : Nat) (s : State), s.hawserRuns = true → s.hws.position ≠ 0 → s.ina.st ≠ .passive → s.hws.ports[i].linkUp = true → s.hws.ports[i].folded = false →
    (s.advance t1).windowOf i h.sender t0 = none →
    ∃ t, exec (.hawserFrameReceive i h body a t0 t1) s = .next t ∧ t.now = max s.now t1 ∧ t.carSide = s.carSide ∧ t.ina = s.ina ∧ t.hws.ports[i].blocked = satInc 65535 s.hws.ports[i].blocked ∧ t.hws.ports[i].bad = true ∧
      t.hws.slotsA = s.hws.slotsA ∧ t.hws.slotsB = s.hws.slotsB ∧ t.hws.rx = s.hws.rx ∧ t.hws.wire = s.hws.wire) ∧
  (∀ (i : Fin 4) (h : HwsHeader) (data : List Byte) (evs : List EventMsg) (t0 t1 p off len te : Nat) (s : State), s.hawserRuns = true → s.hws.position ≠ 0 → s.ina.st ≠ .passive → s.hws.position ≠ p → s.hws.ports[i].linkUp = true → s.hws.ports[i].folded = false →
    (s.advance t1).windowOf i h.sender t0 = some (⟨.static, some p, off, len⟩, te) → h.sender = p → (s.hws.slot (portChannel i) (pos128 p)).got = .nothing →
    let out := fun q : Passing => (⟨.ring (portChannel i).val (s.passPort i).val q, h.dest, h, .static data evs⟩ : Sent)
    (t1 ≤ te + len + 100 → ∃ t, exec (.hawserFrameReceive i h (.static data evs) .valid t0 t1) s = .next t ∧ t.now = max s.now t1 ∧ t.carSide = s.carSide ∧ t.ina = s.ina ∧
      (t.hws.slot (portChannel i) (pos128 p)).got = (if h.flags.testBit 1 then .repeated else .fresh) ∧ t.hws.rx[pos128 p].health = h.health ∧ t.hws.rx[pos128 p].auth = authOfBytes data ∧ t.hws.rx[pos128 p].now = true ∧
      t.hws.ports = s.hws.ports ∧ t.hws.wire = s.hws.wire ++ [out .passed]) ∧
    (te + len + 100 < t1 → ∃ t, exec (.hawserFrameReceive i h (.static data evs) .valid t0 t1) s = .next t ∧ t.now = max s.now t1 ∧ t.carSide = s.carSide ∧ t.ina = s.ina ∧
      (t.hws.slot (portChannel i) (pos128 p)).got = .invalid ∧ t.hws.ports[i].truncated = satInc 65535 s.hws.ports[i].truncated ∧ t.hws.ports[i].bad = true ∧ t.hws.rx = s.hws.rx ∧ t.hws.wire = s.hws.wire ++ [out .cut]) ∧
    (t1 ≤ te + len + 100 → exec (.hawserFrameReceive i h (.static data evs) .badFcs t0 t1) s =
      .next (((s.advance t1).send (out .passed)).modHws fun w => w.setSlot (portChannel i) (pos128 p) { s.hws.slot (portChannel i) (pos128 p) with got := .invalid }).draw)) ∧
  (∀ (c : Fin 2) (l : List PollSlot) (s : State), s.hawserRuns = true → exec (.pollFrameReceive c l) s = .next (s.modHws fun h => { h with listedNext := h.listedNext.set c l }).draw) ∧
  (∀ (c : Fin 2) (r : Nat) (s : State), s.inserts c = true → s.isMaster = true → s.quiet = false →
    exec (.ownFrameRemoval c .beacon true r) s = .next ((s.modHws fun h => { h with beaconNow := h.beaconNow.set c true }).modPort (s.firstPort c) fun x => { x with beaconAt := some r }).draw) ∧
  (∀ (c : Fin 2) (r : Nat) (s : State), s.inserts c = true → s.hws.sentNow[c] = true →
    ∃ t, exec (.ownFrameRemoval c .static true r) s = .next t ∧ t.now = s.now ∧ t.carSide = s.carSide ∧ t.ina = s.ina ∧ t.hws.backNow[c] = true ∧ t.hws.wire = s.hws.wire) ∧
  (∀ (c : Fin 2) (s : State), s.hawserRuns = true → s.hws.inSchedule[c] = true → 3 ≤ s.hws.ownRun[c] →
    ∃ t, exec (.leftSchedule c) s = .next t ∧ t.now = s.now ∧ t.carSide = s.carSide ∧ t.hws.inSchedule[c] = false ∧ (∀ d : Fin 2, d ≠ c → t.hws.inSchedule[d] = s.hws.inSchedule[d]) ∧
      t.hws.faultEvent = 4 ∧ t.hws.faultChannel = c.val ∧ ((∀ d : Fin 2, d ≠ c → s.hws.inSchedule[d] = false) → t.ina.st = .reintegrating) ∧ ((∃ d : Fin 2, d ≠ c ∧ s.hws.inSchedule[d] = true) → t.ina = s.ina)) ∧
  (∀ (c : Fin 2) (l : List AsyncFrame) (s : State), s.hawserRuns = true → markBacklog s.hws.cycle s.hws.async[c] = some l →
    ∃ t, exec (.asyncBacklog c) s = .next t ∧ t.now = s.now ∧ t.carSide = s.carSide ∧ t.ina = s.ina ∧ t.hws.async[c] = l ∧ t.hws.cntBacklog = satInc 255 s.hws.cntBacklog ∧ t.hws.faultEvent = 14 ∧ t.hws.faultChannel = c.val) ∧
  (∀ (c : Fin 2) (f : AsyncFrame) (l : List AsyncFrame) (n : Nat), 16 < n - f.since → f.raised = false → markBacklog n (f :: l) = some ({ f with raised := true } :: l)) ∧
  (∀ (p : Fin 128) (c : Fin 2) (s : State), s.hawserRuns = true → p.val < s.hws.n → cfgHwsStaleLimit s.params ≤ (s.hws.slot c p).age → (s.hws.slot c p).raised = false →
    ∃ t, exec (.slotStale p c) s = .next t ∧ t.now = s.now ∧ t.carSide = s.carSide ∧ t.ina = s.ina ∧ t.hws.slot c p = { s.hws.slot c p with raised := true } ∧ t.hws.faultEvent = 8 ∧ t.hws.faultPosition = p.val + 1) ∧
  (∀ (p : Fin 128) (c : Fin 2) (s : State), ((s.hws.slot c p).raised = true ∨ s.hws.n ≤ p.val) → exec (.slotStale p c) s = .next s.draw) ∧
  (∀ (s : State), s.ina.st ≠ .running → s.ina.st ≠ .reintegrating → exec .beaconLost s = .next s.draw) ∧
  (∀ (i : Fin 4) (h : HwsHeader) (body : Body) (a : Arrival) (t0 t1 : Nat) (s : State), s.hawserRuns = true → s.ina.st = .passive → s.hws.ports[i].linkUp = true → s.hws.ports[i].folded = false →
    exec (.hawserFrameReceive i h body a t0 t1) s = .next ((s.advance t1).send ⟨.ring (portChannel i).val (s.passPort i).val .passed, h.dest, h, body⟩).draw) ∧
  (∀ (s : State), s.hawserRuns = true → (s.ina.st = .running ∨ s.ina.st = .reintegrating) → 4 ≤ s.hws.beaconMissed → s.hws.lostRaised = false →
    ∃ t, exec .beaconLost s = .next t ∧ t.now = s.now ∧ t.carSide = s.carSide ∧ t.ina.st = .reintegrating ∧ (∀ d : Fin 2, t.hws.inSchedule[d] = false) ∧ t.hws.lostRaised = true ∧ t.hws.faultEvent = 3)

/-- O37. BEACON_RECEIVE disciplines the clock, LINK_DELAY_MEASUREMENT takes the delay; the mode commands announce, switch, fall back and return; the relays and HWS_UNFOLD_PORT. Rules: R254, R257, R269, R270, R271, R275, R276, R280 (derived). -/
def Obligations.HawserClockModesAndRelays : Prop :=
  (∀ (i : Fin 4) (h : HwsHeader) (b : Beacon) (rx : Nat) (s : State), s.hawserRuns = true → s.hws.ports[i].linkUp = true → s.isMaster = false → b.generation = s.ina.generation → b.master = s.hws.master → (s.ina.st = .running ∨ b.nonce = s.ina.nonce) →
    i = s.firstPort (portChannel i) → s.hws.beaconNow[portChannel i] = false →
    let d := b.correction + s.hws.ports[i].delay
    let off : Int := (rx : Int) - (b.txTime + d)
    ∃ t, exec (.beaconReceive i h b rx) s = .next t ∧ t.now = s.now ∧ t.carSide = s.carSide ∧ t.ina = { s.ina with nonce := b.nonce } ∧ t.hws.d[portChannel i] = d ∧ t.hws.beaconNow[portChannel i] = true ∧ t.hws.ringTime[portChannel i] = b.ringTime ∧
      t.hws.beaconMissed = 0 ∧ t.hws.holdover = false ∧ t.hws.ports[i].beaconAt = some (d / 65536) ∧ t.hws.clock.read s.now = s.hws.clock.read s.now ∧
      (s.hws.ports[i].folded = true → t.hws.wire = s.hws.wire) ∧
      (s.hws.ports[i].folded = false → ∃ r : Nat, t.hws.wire = s.hws.wire ++ [⟨.ring (portChannel i).val (s.passPort i).val .passed, h.dest, h, .beacon { b with correction := d + r }⟩]) ∧
      ((portChannel i = 0 ∨ s.hws.beaconNow[0] = false) → t.hws.offset = off ∧ (65536000 < off.natAbs → t.hws.pendingStep = some (-off) ∧ t.hws.stepReady = false) ∧
        (off.natAbs ≤ 65536000 → -200000 ≤ t.hws.clock.rate ∧ t.hws.clock.rate ≤ 200000)) ∧
      (((portChannel i = 0 ∧ s.hws.servo = none) ∨ (portChannel i = 1 ∧ s.hws.beaconNow[0] = false)) →
        (65536000 < off.natAbs → t.hws.clock = s.hws.clock) ∧ (off.natAbs ≤ 65536000 → t.hws.pendingStep = s.hws.pendingStep)) ∧
      (∀ v, portChannel i = 0 → s.hws.servo = some v →
        (65536000 < off.natAbs → t.hws.clock.rate = v.rate) ∧ (off.natAbs ≤ 65536000 → t.hws.pendingStep = v.pendingStep) ∧ t.hws.servo = none) ∧
      (portChannel i = 1 → s.hws.beaconNow[0] = true → t.hws.offset = s.hws.offset ∧ t.hws.clock = s.hws.clock)) ∧
  (∀ (i : Fin 4) (t1 t2 t3 t4 : Int) (s : State), s.hawserRuns = true → s.hws.ports[i].linkUp = true → s.hws.measureIn = 0 →
    ∃ t, exec (.linkDelayMeasurement i t1 t2 t3 t4) s = .next t ∧ t.now = max s.now (s.nextSync - 2000) ∧ t.carSide = s.carSide ∧ t.ina = s.ina ∧ t.hws.ports[i].delay = (((t4 - t1) - (t3 - t2)) / 2).toNat ∧
      ∀ j : Fin 4, j ≠ i → t.hws.ports[j] = s.hws.ports[j]) ∧
  (∀ (m : Nat) (s : State), s.hawserUp = true → exec (.hwsModeRequest m) s = .next (s.modHws fun h => { h with modeRequest := m % 8, requestGo := true }).draw) ∧
  (∀ (p : Fin 4) (s : State), s.hawserUp = true → exec (.hwsUnfoldPort p) s = .next (s.modHws fun h => { h with command := 1, commandPort := p.val }).draw) ∧
  (∀ (s : State), s.hawserRuns = true → s.hws.switchPending = true → s.hws.switchCycle ≤ s.hws.cycle → (∀ c : Fin 2, s.hws.fallbackDue[c] = false) →
    ∃ t, exec .modeSwitch s = .next t ∧ t.now = s.now ∧ t.carSide = s.carSide ∧ t.ina = s.ina ∧ t.hws.mode = s.hws.pendingMode ∧ t.hws.switchPending = false ∧ t.hws.faultEvent = 6 ∧ t.hws.wire = s.hws.wire ∧
      ∀ c : Fin 2, t.hws.async[c] = if c = t.asyncChannel then s.hws.async[(0 : Fin 2)] ++ s.hws.async[(1 : Fin 2)] else []) ∧
  (∀ (s : State), (s.hws.switchPending = false ∨ s.hws.cycle < s.hws.switchCycle) → exec .modeSwitch s = .next s.draw) ∧
  (∀ (c : Fin 2) (s : State), s.hawserRuns = true → s.isMaster = true → 3 ≤ s.badCycles c → s.hws.degraded[c] = false →
    ∃ t, exec (.channelDegraded c) s = .next t ∧ t.now = s.now ∧ t.carSide = s.carSide ∧ t.ina = s.ina ∧ t.hws.degraded[c] = true ∧ t.hws.mode = s.hws.mode ∧
      (s.fallbackOf c = 0xFF → t.hws.switchPending = s.hws.switchPending ∧ t.hws.faultEvent = 7) ∧
      (s.fallbackOf c ≠ 0xFF → s.hws.switchPending = false → s.inaugurating = false → t.hws.switchPending = true ∧ t.hws.pendingMode = s.fallbackOf c ∧ t.hws.leftMode.isSome = true) ∧
      ((s.hws.switchPending = true ∨ s.inaugurating = true) → t.hws.fallbackDue[c] = true ∧ t.hws.pendingMode = s.hws.pendingMode ∧ t.hws.switchPending = s.hws.switchPending)) ∧
  (∀ (m : Nat) (s : State), s.hawserRuns = true → s.isMaster = true → s.hws.leftMode = some m → (cfgHwsHwsFlags s.params).testBit 0 = true → cfgHwsAutoReturnCycles s.params ≤ s.hws.clearRun → s.hws.switchPending = false →
    s.inaugurating = false →
    ∃ t, exec .autoReturn s = .next t ∧ t.now = s.now ∧ t.carSide = s.carSide ∧ t.ina = s.ina ∧ t.hws.leftMode = none ∧ t.hws.switchPending = true ∧ t.hws.pendingMode = m ∧ t.hws.mode = s.hws.mode ∧ ∀ d : Fin 2, t.hws.degraded[d] = false) ∧
  (∀ (c : Fin 2) (s : State), s.hws.relays[c].drive = false → s.hws.relays[c].open_ = true → s.hws.relays[c].mismatchRaised = false →
    exec (.relayDriveStop c) s = .next ((s.advance (s.hws.relays[c].driveStopAt + 200000)).modRelay c fun r => { r with open_ := false }).draw) ∧
  (∀ (c : Fin 2) (s : State), (s.hws.relays[c].drive = true ∨ s.hws.relays[c].open_ = false ∨ s.hws.relays[c].mismatchRaised = true) → exec (.relayDriveStop c) s = .next s.draw) ∧
  (∀ (c : Fin 2) (o : Bool) (s : State), s.hawserRuns = true → o ≠ s.hws.relays[c].drive → s.hws.relays[c].mismatchRaised = false →
    ∃ t, exec (.bypassRelayMismatch ⟨c, o⟩) s = .next t ∧ t.now = s.now ∧ t.carSide = s.carSide ∧ t.ina = s.ina ∧ t.hws.relays[c].open_ = o ∧ t.hws.relays[c].drive = s.hws.relays[c].drive ∧ t.hws.relays[c].mismatchRaised = true ∧ t.hws.faultEvent = 11) ∧
  (∀ (c : Fin 2) (o : Bool) (s : State), s.hawserRuns = true → o ≠ s.hws.relays[c].drive → s.hws.relays[c].mismatchRaised = true →
    exec (.bypassRelayMismatch ⟨c, o⟩) s = .next (s.modRelay c fun r => { r with open_ := o, mismatchAt := some (s.hws.relays[c].mismatchAt.getD s.now), mismatchRaised := true }).draw) ∧
  (∀ (c : Fin 2) (o : Bool) (s : State), s.hawserRuns = true → o = s.hws.relays[c].drive →
    exec (.bypassRelayMismatch ⟨c, o⟩) s = .next (s.modRelay c fun r => { r with open_ := o, mismatchAt := none, mismatchRaised := false }).draw)

/-- O38. LINK_UP, LINK_DOWN, HELLO_RECEIVE, HELLO_REPEAT, TWIN_STATE_WAIT_END, CHANNEL_B_ADMISSION, LISTEN_START and LISTEN_WINDOW_END. Rules: R252, R255, R292, R293, R294, R313, R315, R318 (derived). -/
def Obligations.LinksGreetAndNodesAreAdmitted : Prop :=
  (∀ (i : Fin 4) (pm : Bool) (s : State), s.hawserRuns = true → s.hws.ports[i].linkUp = false → s.hws.relays[portChannel i].open_ = true →
    ∃ t hd, exec (.linkUp i pm) s = .next t ∧ t.now = s.now ∧ t.carSide = s.carSide ∧ t.hws.ports[i].linkUp = true ∧ t.hws.ports[i].phyMaster = pm ∧ t.hws.ports[i].upAt = s.now ∧
      t.hws.ports[i].folded = (decide (s.hws.position ≠ 0) || s.hws.ports[i].guardFold) ∧ t.hws.wire = s.hws.wire ++ [⟨.port i.val, 0, hd, .hello (s.ownHello i)⟩] ∧ t.hws.faultEvent = 0 ∧ t.hws.faultPort = i.val ∧
      t.ina.mergeRefused = false ∧ t.ina.st = s.ina.st ∧ ∀ j : Fin 4, j ≠ i → t.hws.ports[j] = s.hws.ports[j]) ∧
  (∀ (i j : Fin 4) (s : State), s.hawserRuns = true → s.hws.ports[i].linkUp = true → s.facesGrant i = false → j ≠ i → portAft j = portAft i →
    ∃ t, exec (.linkDown i) s = .next t ∧ t.now = s.now ∧ t.carSide = s.carSide ∧ t.hws.ports[i].linkUp = false ∧ t.hws.ports[i].folded = true ∧ t.hws.ports[i].lost = true ∧ t.hws.ports[i].linkLost = true ∧ t.hws.ports[i].downAt = s.now ∧
      t.hws.ports[i].partner = none ∧ (∀ k : Fin 4, k ≠ i → t.hws.ports[k] = s.hws.ports[k]) ∧ t.hws.faultEvent = 1 ∧ t.hws.faultPort = i.val ∧
      (s.hws.position ≠ 0 → s.hws.ports[j].linkLost = true → s.goesOn (portAft i) = true → t.ina.splitAt = some s.now ∧ t.ina.faultEvent = 4 ∧ t.ina.cntCuts = satInc 255 s.ina.cntCuts ∧ t.ina.pendingDir = none) ∧
      ((s.hws.position = 0 ∨ s.hws.ports[j].linkLost = false ∨ s.goesOn (portAft i) = false) → t.ina = { s.ina with mergeRefused := false })) ∧
  (∀ (i : Fin 4) (s : State), s.hawserRuns = true → s.hws.ports[i].linkUp = true → s.facesGrant i = true →
    ∃ t, exec (.linkDown i) s = .next t ∧ t.now = s.now ∧ t.carSide = s.carSide ∧ t.hws.ports[i].linkUp = false ∧ t.hws.ports[i].folded = true ∧ t.hws.ports[i].lost = s.hws.ports[i].lost ∧ t.hws.ports[i].linkLost = false ∧ t.ina = { s.ina with mergeRefused := false }) ∧
  (∀ (i : Fin 4) (cy : Nat) (h : Hello) (s : State), s.hawserRuns = true → s.hws.ports[i].linkUp = true →
    ∃ t, exec (.helloReceive i cy h) s = .next t ∧ t.now = s.now ∧ t.carSide = s.carSide ∧ t.hws.ports[i].partner = some h ∧ (∀ j : Fin 4, j ≠ i → t.hws.ports[j] = s.hws.ports[j]) ∧
      (h.state ≠ 4 → t.ina = s.ina ∧ t.hws.wire = s.hws.wire) ∧
      (h.state = 4 → s.ina.st = .running → (h.nonce ≠ s.ina.nonce ∨ h.generation ≠ s.ina.generation) → s.ina.merge = none → s.ina.mergeRefused = false →
        t.ina.merge = some ⟨portAft i, s.hws.ports[i].upAt, false, h.nonce, h.generation⟩ ∧ t.ina.faultEvent = 3) ∧
      (h.state = 4 → (s.ina.st = .listen ∨ s.ina.st = .contest) → portChannel i = 0 →
        t.ina.st = .inserting ∧ t.ina.stepA = .requested ∧ t.ina.runningHello = true ∧ t.hws.cycle = cy ∧ ∃ hd, t.hws.wire = s.hws.wire ++ [⟨.port i.val, 0, hd, .request ⟨1, 0, s.ownReport 0 (portAft i) false⟩⟩])) ∧
  (∀ (i : Fin 4) (s : State), s.hawserRuns = true → s.hws.ports[i].linkUp = true → s.hws.ports[i].folded = true →
    ∃ t hd, exec (.helloRepeat i) s = .next t ∧ t.now = max s.now (s.hws.ports[i].helloAt + 100000000) ∧ t.carSide = s.carSide ∧ t.ina = s.ina ∧ t.hws.ports[i].helloAt = t.now ∧
      t.hws.wire = s.hws.wire ++ [⟨.port i.val, 0, hd, .hello ((s.advance (s.hws.ports[i].helloAt + 100000000)).ownHello i)⟩]) ∧
  (∀ (i : Fin 4) (s : State), s.hws.ports[i].folded = false → exec (.helloRepeat i) s = .next s.draw) ∧
  (∀ (t0 : Nat) (s : State), s.hawserRuns = true → s.ina.handoverAt = some t0 → s.twinRunning = true →
    ∃ t hd, exec .twinStateWaitEnd s = .next t ∧ t.now = s.now ∧ t.carSide = s.carSide ∧ t.ina = { s.ina with handoverAt := none, st := .inserting, stepA := .requested, announced := true } ∧
      t.hws.wire = s.hws.wire ++ [⟨.twin, 0, hd, .relayed ⟨1, 0, s.ownReport 0 false false⟩⟩]) ∧
  (∀ (t0 : Nat) (s : State), s.hawserRuns = true → s.ina.handoverAt = some t0 → s.twinRunning = false →
    ∃ t, exec .twinStateWaitEnd s = .next t ∧ t.now = (if s.twn.link = true ∧ s.twn.beat ≠ none then s.now else max s.now (t0 + 250000000)) ∧ t.carSide = s.carSide ∧ t.ina.handoverAt = none ∧ t.ina.admitted[(0 : Fin 2)] = true ∧ t.ina.admittedAt = t.now ∧ t.ina.st = s.ina.st ∧
      t.hws.relays[(0 : Fin 2)].drive = true ∧ t.hws.relays[(0 : Fin 2)].open_ = true ∧ t.hws.relays[(0 : Fin 2)].openedAt = t.now ∧ t.mss.relayA = s.mss.relayA + 1 ∧ t.hws.wire = s.hws.wire) ∧
  (∀ (s : State), s.hawserRuns = true → s.ina.admitted[(0 : Fin 2)] = true → s.ina.admitted[(1 : Fin 2)] = false → s.ina.announced = false → s.ina.runningHello = false →
    ∃ t, exec .channelBAdmission s = .next t ∧ t.now = max s.now (s.ina.admittedAt + 200000000) ∧ t.carSide = s.carSide ∧ t.ina = { s.ina with admitted := s.ina.admitted.set 1 true } ∧ t.hws.relays[(1 : Fin 2)].open_ = true ∧ t.mss.relayB = s.mss.relayB + 1) ∧
  (∀ (r : Nat) (s : State), s.hawserRuns = true → s.ina.admitted[(0 : Fin 2)] = true → s.ina.st = .offline → s.hws.ports[(0 : Fin 4)].linkUp = true → s.hws.ports[(1 : Fin 4)].linkUp = true →
    exec (.listenStart r) s = .next (s.modIna fun x => { x with st := .listen, phase := .none, heardAny := false, listenEnd := if s.coldCapable then some (s.now + 25000000 + min r 500 * 10000) else none }).draw) ∧
  (∀ (r : Nat) (s : State), s.hawserRuns = true → s.ina.admitted[(0 : Fin 2)] = true → s.ina.st = .inaugurating → s.ina.leader = false → s.ina.pendingDir = none → s.ina.startAt + 33000000 ≤ s.now → s.hws.ports[(0 : Fin 4)].linkUp = true → s.hws.ports[(1 : Fin 4)].linkUp = true →
    exec (.listenStart r) s = .next (((s.modIna fun x => { x with generation := 0 }).modHws fun h => { h with position := 0 }).modIna fun x => { x with st := .listen, phase := .none, heardAny := false, listenEnd := if s.coldCapable then some (s.now + 25000000 + min r 500 * 10000) else none }).draw) ∧
  (∀ (n t0 : Nat) (s : State), s.hawserRuns = true → s.ina.st = .listen → s.ina.heardAny = false → s.ina.listenEnd = some t0 →
    exec (.listenWindowEnd n) s = .next ((s.advance t0).modIna fun x => { x with st := .contest, ownNonce := n % 2 ^ 64, contestAt := none, lastCold := none, listenEnd := none }).draw)

/-- O39. COLD_START_FRAME_SEND, COLD_START_FRAME_RECEIVE, CONTEST_TIMEOUT, COUNT_RECEIVE, REPORT_RECEIVE and COUNT_TIMEOUT: the lowest nonce leads and counts the chain. Rules: R294, R295, R296, R297, R308 (derived). -/
def Obligations.ColdStartElectsALeader : Prop :=
  (∀ (s : State), s.hawserRuns = true → s.ina.st = .contest → s.hws.ports[(0 : Fin 4)].linkUp = true → s.hws.ports[(1 : Fin 4)].linkUp = true →
    ∃ t, exec .coldStartFrameSend s = .next t ∧ t.now = (match s.ina.lastCold with | some l => max s.now (l + 1000000) | none => s.now) ∧ t.carSide = s.carSide ∧
      t.ina.lastCold = some t.now ∧ t.ina.contestAt = some (s.ina.contestAt.getD t.now) ∧ t.ina.st = .contest ∧ t.ina.ownNonce = s.ina.ownNonce ∧
      t.hws.wire = s.hws.wire ++ [⟨.port 0, 0, s.header 0 false false 0 0, .coldStart s.ina.ownNonce s.modeDigest⟩, ⟨.port 1, 0, s.header 0 false false 0 0, .coldStart s.ina.ownNonce s.modeDigest⟩]) ∧
  (∀ (aft : Bool) (n : Nat) (dg : List Byte) (r : Nat) (s : State), s.hawserRuns = true → s.ina.st = .contest →
    ∃ t, exec (.coldStartFrameReceive aft n dg r) s = .next t ∧ t.now = s.now ∧ t.carSide = s.carSide ∧
      (n < s.ina.ownNonce → t.ina.st = .listen ∧ t.ina.heardAny = true ∧ t.ina.listenEnd = none) ∧
      (n = s.ina.ownNonce → t.ina.st = .listen ∧ t.ina.heardAny = false ∧ t.ina.listenEnd = some (s.now + 25000000 + min r 500 * 10000) ∧ t.ina.cntRetries = satInc 255 s.ina.cntRetries) ∧
      (s.ina.ownNonce < n → t.ina.st = .contest)) ∧
  (∀ (aft : Bool) (n : Nat) (dg : List Byte) (r : Nat) (s : State), s.hawserRuns = true → s.ina.st = .listen →
    ∃ t, exec (.coldStartFrameReceive aft n dg r) s = .next t ∧ t.now = s.now ∧ t.carSide = s.carSide ∧ t.ina.st = .listen ∧ t.ina.heardAny = true ∧ t.ina.listenEnd = none) ∧
  (∀ (t0 : Nat) (s : State), s.hawserRuns = true → s.ina.st = .contest → s.ina.contestAt = some t0 →
    ∃ t, exec .contestTimeout s = .next t ∧ t.now = max s.now (t0 + 6000000) ∧ t.carSide = s.carSide ∧ t.ina.leader = true ∧ t.ina.nonce = s.ina.ownNonce ∧ t.ina.st = .inaugurating ∧
      t.ina.trigger = 1 ∧ t.hws.mode = cfgHwsInitialMode s.params ∧
      ((s.hws.ports[(0 : Fin 4)].linkUp = true ∨ s.hws.ports[(1 : Fin 4)].linkUp = true) → t.ina.phase = .collect ∧ t.ina.collect = some ⟨[], t.now, 0⟩) ∧
      (s.hws.ports[(0 : Fin 4)].linkUp = false → s.hws.ports[(1 : Fin 4)].linkUp = false → t.ina.phase = .directory ∧ t.ina.collect = none ∧ ∃ d, t.ina.pendingDir = some d ∧ d.countBased = true ∧ d.generation = s.ina.generation + 1)) ∧
  (∀ (aft : Bool) (n g hop side : Nat) (s : State), s.hawserRuns = true → (s.ina.st = .listen ∨ (s.ina.st = .contest ∧ n < s.ina.ownNonce) ∨ (s.ina.st = .inaugurating ∧ s.ina.leader = false)) →
    s.hws.ports[portAt 0 aft].linkUp = true → s.hws.ports[portAt 0 (!aft)].linkUp = true →
    ∃ t, exec (.countReceive aft n g hop side) s = .next t ∧ t.now = s.now ∧ t.carSide = s.carSide ∧ t.ina.st = .inaugurating ∧ t.ina.phase = .collect ∧ t.ina.hop = hop + 1 ∧ t.ina.side = side ∧ t.ina.toLeader = aft ∧
      t.hws.wire = s.hws.wire ++ [⟨.port (portAt 0 aft).val, 0, s.header 0 false false 0 0, .report [s.ownReport (hop + 1) aft false] 0⟩, ⟨.port (portAt 0 (!aft)).val, 0, s.header 0 false false 0 0, .count n g (hop + 1)⟩]) ∧
  (∀ (aft : Bool) (n g hop side : Nat) (s : State), s.hawserRuns = true → s.ina.st = .running →
    exec (.countReceive aft n g hop side) s = .next (s.modIna fun x => { x with heard := (x.heard.filter fun y => decide (s.now ≤ y.2 + 10000000)) ++ [(n, s.now)] }).draw) ∧
  (∀ (aft : Bool) (rs : List Report) (c : Collect) (s : State), s.hawserRuns = true → s.ina.collect = some c →
    let c' := { c with reports := c.reports ++ rs.map fun r => (b2n aft, r) }
    (s.countComplete c' = false → exec (.reportReceive aft rs) s = .next (s.modIna fun x => { x with collect := some c' }).draw) ∧
    (s.countComplete c' = true → ∃ t, exec (.reportReceive aft rs) s = .next t ∧ t.now = s.now ∧ t.carSide = s.carSide ∧ t.ina.collect = none ∧ t.ina.phase = .directory ∧ ∃ d, t.ina.pendingDir = some d ∧ d.countBased = true)) ∧
  (∀ (aft : Bool) (rs : List Report) (s : State), s.hawserRuns = true → s.ina.collect = none → s.ina.st = .inaugurating → s.hws.ports[portAt 0 s.ina.toLeader].linkUp = true →
    exec (.reportReceive aft rs) s = .next (s.send ⟨.port (portAt 0 s.ina.toLeader).val, 0, s.header 0 false false 0 0, .report rs 0⟩).draw) ∧
  (∀ (aft : Bool) (rs : List Report) (s : State), s.hawserRuns = true → s.ina.collect = none → s.ina.st = .running → s.ina.leader = false →
    exec (.reportReceive aft rs) s = .next (s.modIna fun x => { x with reports := x.reports ++ (((List.range' 1 x.dir.length).filter fun p => s.present p).drop x.reports.length).zip rs }).draw) ∧
  (∀ (c : Collect) (s : State), s.hawserRuns = true → s.ina.leader = true → s.ina.collect = some c →
    ∃ t, exec .countTimeout s = .next t ∧ t.now = max s.now (c.at_ + 33000000) ∧ t.carSide = s.carSide ∧ t.ina.collect = none ∧ t.ina.phase = .directory ∧ t.ina.cntRetries = satInc 255 s.ina.cntRetries ∧
      ∃ d, t.ina.pendingDir = some d ∧ d.countBased = true ∧ d.generation = s.ina.generation + 1)

/-- O40. DIRECTORY_RECEIVE, ACCEPTANCE_CHECK, DIRECTORY_SWITCH, CANCEL_OR_RESET_RECEIVE, RESET_CYCLE, TRAIN_WIDE_RESET and HWS_BARRIER_ARRIVE. Rules: R290, R307, R308, R309, R310, R322, R323 (derived). -/
def Obligations.DirectoriesSpreadAndSwitch : Prop :=
  (∀ (aft ct : Bool) (d : Directory) (s : State), s.hawserRuns = true → (s.ina.leader = false ∨ s.ina.nonce ≠ d.nonce) → s.ina.generation < d.generation →
    ∃ t, exec (.directoryReceive aft ct d) s = .next t ∧ t.now = s.now ∧ t.carSide = s.carSide ∧ t.ina.phase = .awaiting ∧ t.ina.st = s.ina.st ∧
      (∀ p, s.ownPlace d = some p → t.ina.pendingDir = some { d with bits := setBit d.bits (p - 1) }) ∧ (s.ownPlace d = none → t.ina.pendingDir = some d)) ∧
  (∀ (aft ct : Bool) (d : Directory) (s : State), s.hawserRuns = true → (s.ina.leader = false ∨ s.ina.nonce ≠ d.nonce) → d.generation ≤ s.ina.generation →
    ∃ t, exec (.directoryReceive aft ct d) s = .next t ∧ t.now = s.now ∧ t.carSide = s.carSide ∧ t.ina = s.ina) ∧
  (∀ (aft ct : Bool) (d q : Directory) (s : State), s.hawserRuns = true → s.ina.leader = true → s.ina.nonce = d.nonce → s.ina.pendingDir = some q → q.generation = d.generation → q.switchCycle = d.switchCycle →
    ∃ t, exec (.directoryReceive aft ct d) s = .next t ∧ t.now = s.now ∧ t.carSide = s.carSide ∧ t.hws = s.hws ∧ t.ina.pendingDir = some { q with bits := q.bits ||| d.bits } ∧
      ((∀ k (h : k < q.entries.length), q.entries[k].reserved = true ∨ (q.bits ||| d.bits).testBit k = true) → t.ina.phase = .awaiting) ∧
      ((∃ k, ∃ h : k < q.entries.length, q.entries[k].reserved = false ∧ (q.bits ||| d.bits).testBit k = false) → t.ina.phase = s.ina.phase)) ∧
  (∀ (d : Directory) (s : State), s.hawserRuns = true → s.ina.leader = true → s.ina.nonce = d.nonce → s.ina.pendingDir = some d → d.switchCycle ≤ s.hws.cycle + 1 →
    ((∀ k (h : k < d.entries.length), d.entries[k].reserved = true ∨ d.bits.testBit k = true) → exec .acceptanceCheck s = .next (s.modIna fun x => { x with phase := .awaiting }).draw) ∧
    ((∃ k, ∃ h : k < d.entries.length, d.entries[k].reserved = false ∧ d.bits.testBit k = false) →
      ∃ t, exec .acceptanceCheck s = .next t ∧ t.now = s.now ∧ t.carSide = s.carSide ∧ t.ina.cntRetries = satInc 255 s.ina.cntRetries ∧ t.ina.phase = .directory ∧
        ∃ d', t.ina.pendingDir = some d' ∧ d'.nonce = d.nonce ∧ d'.countBased = d.countBased ∧ d'.mode = d.mode)) ∧
  (∀ (s : State), s.ina.pendingDir = none → exec .acceptanceCheck s = .next s.draw ∧ exec .directorySwitch s = .next s.draw) ∧
  (∀ (d : Directory) (p : Nat) (s : State), s.ina.pendingDir = some d → s.switchDue d = true → s.ownPlace d = some p →
    ∃ t, exec .directorySwitch s = .next t ∧ t.now = s.now ∧ t.carSide = s.carSide ∧ t.hws.position = p ∧ t.hws.master = d.leader ∧ t.hws.n = d.entries.length ∧ t.hws.cycle = d.switchCycle ∧ t.hws.mode = d.mode ∧
      t.hws.switchPending = false ∧
      (s.ina.st ≠ .reintegrating → t.ina.st = .running ∧ t.ina.phase = .quiet ∧ ∀ c : Fin 2, t.hws.inSchedule[c] = (s.ina.admitted[c] && !(decide (s.ina.st = .running) && s.hws.leftRaised[c]))) ∧
      (s.ina.st = .reintegrating → t.ina.st = .reintegrating ∧ t.ina.phase = .none ∧ t.hws.inSchedule = s.hws.inSchedule) ∧ t.ina.dir = d.entries ∧ t.ina.nonce = d.nonce ∧ t.ina.generation = d.generation ∧ t.ina.pendingDir = none ∧
      t.ina.leader = decide (p = d.leader) ∧ t.ina.cntInaug = satInc 255 s.ina.cntInaug) ∧
  (∀ (d : Directory) (s : State), s.ina.pendingDir = some d → s.switchDue d = true → s.ownPlace d = none →
    ∃ t, exec .directorySwitch s = .next t ∧ t.now = s.now ∧ t.carSide = s.carSide ∧ t.hws.position = 0 ∧ t.ina.st = .passive ∧ t.ina.leader = false ∧ t.ina.pendingDir = none ∧ ∀ c : Fin 2, t.hws.inSchedule[c] = false) ∧
  (∀ (g r : Nat) (d : Directory) (s : State), s.hawserRuns = true → s.ina.pendingDir = some d → d.generation = g →
    exec (.cancelOrResetReceive g 1 r) s = .next (s.modIna fun x => { x with pendingDir := none, phase := if s.ina.st = .running then .none else .collect }).draw) ∧
  (∀ (r : Nat) (s : State), s.hawserRuns = true → exec (.cancelOrResetReceive s.ina.generation 2 r) s = .next (s.modIna fun x => { x with resetCycle := some r }).draw) ∧
  (∀ (c : Nat) (s : State), s.hawserRuns = true → s.ina.resetCycle = some c → c ≤ s.hws.cycle →
    ∃ t, exec .resetCycle s = .next t ∧ t.now = s.now ∧ t.carSide = s.carSide ∧ (∀ k : Fin 2, t.hws.inSchedule[k] = false) ∧ t.ina.st = .inaugurating ∧ t.ina.resetCycle = none ∧
      t.twn.low.holder = 0 ∧ t.twn.high.holder = 0 ∧ (s.ina.leader = true → t.ina.trigger = 6) ∧
      ((s.ina.leader = false ∨ s.hws.ports[(0 : Fin 4)].linkUp = true ∨ s.hws.ports[(1 : Fin 4)].linkUp = true) → t.ina.phase = .collect ∧ t.ina.pendingDir = none) ∧
      (s.ina.leader = true → (s.hws.ports[(0 : Fin 4)].linkUp = true ∨ s.hws.ports[(1 : Fin 4)].linkUp = true) → t.ina.collect = some ⟨[], s.now, 0⟩) ∧ (s.ina.leader = false → t.hws.wire = s.hws.wire)) ∧
  (∀ (s : State), s.hawserUp = true → exec .trainWideReset s = .next (s.modIna fun x => { x with command := 1 }).draw) ∧
  (∀ (id : Nat) (s : State), s.hawserUp = true → exec (.hwsBarrierArrive id) s = .next (s.modIna fun x => { x with barrierId := id % 256, barrierArrive := true }).draw)

/-- O41. MERGE_START, JOINING_SEGMENT_TIME_STEP, RING_REPAIR_COLLECT_END, DEPUTY_TAKEOVER, SPLIT_CONFIRM_EXPIRY, INSERTION_REQUEST, RELAYED_REQUEST_RECEIVE, GRANT_RECEIVE and REINTEGRATION. Rules: R38, R313, R314, R316, R317, R318, R321, R324 (derived). -/
def Obligations.SegmentsMergeSplitAndTakeIn : Prop :=
  (∀ (far : Bool) (pn g : Nat) (rs : List (Nat × Report)) (off : Int) (fr : Nat) (s : State), s.hawserRuns = true → s.ina.st = .running → s.inaugurating = false → s.ina.merge = none → s.ina.leader = true →
    (s.ina.nonce < pn → (numberChain s.modeDigest (mergeChain far (s.segmentChain (List.range' 1 s.ina.dir.length)) rs)).notes.any (fun x => decide (x.1 = 1)) = false →
      ∃ t d, exec (.mergeStart far pn g rs off fr) s = .next t ∧ t.now = s.now ∧ t.carSide = s.carSide ∧ t.ina.trigger = 2 ∧ t.ina.phase = .directory ∧ t.ina.pendingDir = some d ∧ d.generation = max s.ina.generation g + 1 ∧
        d.nonce = s.ina.nonce ∧ d.timeOffset = off ∧ d.countBased = false) ∧
    (s.ina.nonce < pn → (numberChain s.modeDigest (mergeChain far (s.segmentChain (List.range' 1 s.ina.dir.length)) rs)).notes.any (fun x => decide (x.1 = 1)) = true →
      ∃ t, exec (.mergeStart far pn g rs off fr) s = .next t ∧ t.now = s.now ∧ t.carSide = s.carSide ∧ t.ina.mergeRefused = true ∧ t.ina.pendingDir = s.ina.pendingDir ∧ t.ina.cntRefusals = satInc 255 s.ina.cntRefusals) ∧
    (pn = s.ina.nonce → ∃ t, exec (.mergeStart far pn g rs off fr) s = .next t ∧ t.now = s.now ∧ t.carSide = s.carSide ∧ t.ina.nonce = fr % 2 ^ 64 ∧ t.ina.cntRetries = satInc 255 s.ina.cntRetries) ∧
    (pn < s.ina.nonce → exec (.mergeStart far pn g rs off fr) s = .next s.draw)) ∧
  (∀ (d : Directory) (s : State), s.hawserRuns = true → s.ina.st = .running → s.ina.pendingDir = some d → s.ina.nonce ≠ d.nonce → s.hws.pendingStep = none →
    ∃ t, exec .joiningSegmentTimeStep s = .next t ∧ t.now = s.now ∧ t.carSide = s.carSide ∧ t.ina = s.ina ∧ (∀ c : Fin 2, t.hws.inSchedule[c] = false) ∧
      (s.lastSync + 3 < s.now → t.hws.pendingStep = some (d.timeOffset * 65536) ∧ t.hws.stepReady = false ∧ t.hws.clock = s.hws.clock) ∧
      (s.now ≤ s.lastSync + 3 → t.hws.pendingStep = none ∧ t.hws.clock.read s.now = s.hws.clock.read s.now + d.timeOffset * 65536 ∧ t.hws.faultEvent = 9)) ∧
  (∀ (t0 : Nat) (s : State), s.hawserRuns = true → s.ina.leader = true → s.inaugurating = false → s.ina.repairAt = some t0 →
    ∃ t d, exec .ringRepairCollectEnd s = .next t ∧ t.now = max s.now (t0 + ms (cfgHierMergeWait s.params)) ∧ t.carSide = s.carSide ∧ t.ina.repairAt = none ∧ t.ina.trigger = 5 ∧ t.ina.pendingDir = some d ∧
      d.generation = s.ina.generation + 1 ∧ d.renumberingFree = true) ∧
  (∀ (n : Nat) (s : State), s.hawserRuns = true → s.hws.position ≠ 0 → s.isMaster = false → 2 ≤ s.hws.beaconMissed → s.deputyOf = true →
    ∃ t, exec (.deputyTakeover n) s = .next t ∧ t.now = s.now ∧ t.carSide = s.carSide ∧ t.hws.master = s.hws.position ∧ t.hws.beaconMissed = 0 ∧ t.ina.leader = true ∧ t.ina.tookOver = true ∧ t.ina.trigger = 7 ∧
      t.ina.generation = s.ina.generation + 1 ∧ t.ina.nonce = n % 2 ^ 64 ∧ t.ina.phase = .quiet ∧ t.ina.splitAt = some (s.ina.splitAt.getD s.now)) ∧
  (∀ (n : Nat) (s : State), s.isMaster = true → exec (.deputyTakeover n) s = .next s.draw) ∧
  (∀ (t0 : Nat) (s : State), s.hawserRuns = true → s.ina.leader = true → s.inaugurating = false → s.ina.merge = none → s.ina.splitAt = some t0 →
    ∃ t d, exec .splitConfirmExpiry s = .next t ∧ t.now = max s.now (t0 + ms (cfgHierSplitConfirm s.params)) ∧ t.carSide = s.carSide ∧ t.ina.splitAt = none ∧ t.ina.trigger = 3 ∧ t.ina.pendingDir = some d ∧ d.generation = s.ina.generation + 1) ∧
  (∀ (p : Nat) (r : InaRequest) (s : State), s.hawserRuns = true → s.ina.st = .running → s.ina.leader = true → r.code = 1 → s.ina.insertion = none → s.inaugurating = false → s.hws.switchPending = false → r.report.digest = s.modeDigest → r.report.twinRunning = true →
    ∃ t gr, exec (.insertionRequest p r) s = .next t ∧ t.now = s.now ∧ t.carSide = s.carSide ∧ t.ina.insertion = some ⟨(s.insertPlace p r.report).1, s.hws.mode, r, (s.insertPlace p r.report).2.2, (s.insertPlace p r.report).2.1, none, false, 0⟩ ∧
      t.ina.grant = some gr ∧ gr.position = (s.insertPlace p r.report).1 ∧ gr.channel = 0 ∧ t.ina.faultEvent = 6 ∧ (s.fallbackOf 0 ≠ 0xFF → t.hws.switchPending = true ∧ t.hws.pendingMode = s.fallbackOf 0)) ∧
  (∀ (p : Nat) (r : InaRequest) (s : State), s.hawserRuns = true → s.ina.st = .running → s.ina.leader = true → r.code = 1 → s.ina.insertion = none → s.inaugurating = false → s.hws.switchPending = false → r.report.digest = s.modeDigest → r.report.twinRunning = false → (s.insertPlace p r.report).2.1 = true →
    ∃ t d, exec (.insertionRequest p r) s = .next t ∧ t.now = s.now ∧ t.carSide = s.carSide ∧ t.ina.insertion = some ⟨(s.insertPlace p r.report).1, s.hws.mode, r, (s.insertPlace p r.report).2.2, true, some s.now, false, 0⟩ ∧
      t.ina.grant = s.ina.grant ∧ t.ina.trigger = 4 ∧ t.ina.pendingDir = some d ∧ d.generation = s.ina.generation + 1 ∧ d.renumberingFree = true) ∧
  (∀ (p : Nat) (r : InaRequest) (s : State), s.hawserRuns = true → s.ina.st = .running → s.ina.leader = true → r.code = 1 → s.ina.insertion = none → s.inaugurating = false → s.hws.switchPending = false → r.report.digest ≠ s.modeDigest → r.report.twinRunning = true →
    ∃ t, exec (.insertionRequest p r) s = .next t ∧ t.now = s.now ∧ t.carSide = s.carSide ∧ t.ina.insertion = none ∧ t.ina.grant = s.ina.grant ∧ t.ina.pendingDir = s.ina.pendingDir ∧ t.ina.faultEvent = 6 ∧ t.ina.faultCode = 3 ∧ t.hws = s.hws) ∧
  (∀ (p : Nat) (r : InaRequest) (s : State), s.hawserRuns = true → s.ina.st = .running → s.ina.leader = false →
    exec (.insertionRequest p r) s = .next (s.queueAsync s.hws.master (.request r)).draw ∧ exec (.relayedRequestReceive r) s = .next (s.queueAsync s.hws.master (.request r)).draw) ∧
  (∀ (p sw : Nat) (s : State), s.hawserRuns = true → s.ina.stepA = .requested →
    ∃ t, exec (.grantReceive p 0 sw) s = .next t ∧ t.now = s.now ∧ t.carSide = s.carSide ∧ t.ina.grant = some ⟨p, 0, sw, none, false⟩ ∧ t.ina.stepA = .granted ∧ t.ina.faultEvent = 6 ∧ t.hws = s.hws) ∧
  (∀ (p sw : Nat) (s : State), s.hawserRuns = true → s.ina.stepA ≠ .requested → exec (.grantReceive p 0 sw) s = .next (s.modIna fun x => { x with grant := some ⟨p, 0, sw, none, false⟩ }).draw) ∧
  (∀ (s : State), s.hawserRuns = true → s.hws.position ≠ 0 → (s.ina.st = .reintegrating ∨ s.ina.st = .running) → 2 ≤ s.hws.beaconRun →
    (∃ c : Fin 2, s.ina.admitted[c] = true ∧ s.hws.inSchedule[c] = false ∧ (s.ina.st = .reintegrating ∨ s.hws.leftRaised[c] = true)) →
    ∃ t, exec .reintegration s = .next t ∧ t.now = s.now ∧ t.carSide = s.carSide ∧ t.ina = { s.ina with st := .running } ∧ t.hws.faultEvent = 5 ∧
      ∀ c : Fin 2, t.hws.inSchedule[c] = (s.hws.inSchedule[c] || (s.ina.admitted[c] && (decide (s.ina.st = .reintegrating) || s.hws.leftRaised[c])))) ∧
  (∀ (s : State), (s.hws.beaconRun < 2 ∨ (s.ina.st ≠ .reintegrating ∧ s.ina.st ≠ .running)) → exec .reintegration s = .next s.draw)

/-- O42. SPLICE_WRITE, SPLICE_READ, FETCH_COMPLETE and BUFFER_HOLD_EXPIRY: a request that passes reaches the fabric, one that does not is answered with its status. Rules: R370, R375, R376, R378, R379, R380, R382, R384 (derived). -/
def Obligations.SpliceServesItsOwnRequests : Prop :=
  let inHold : State → Prop := fun s => ∀ b : Fin 16, s.spl.bufs[b].st = .ready ∨ s.spl.bufs[b].st = .prefetched → s.now < s.spl.bufs[b].since + ms (cfgSplBufferHold s.params)
  (∀ (o : Origin) (f : SpliceFrame) (s : State), s.passes o f = true → f.op = 1 → f.length = 4 → s.mustHold o f = false → s.noPrefetch f.address 4 →
    let u := s.fabricWrite .splice (some o) f.address (leNat (f.data.take 4))
    u.access.response = .done → exec (.spliceWrite o f) s = .next (u.modSpl fun x => { x with cntWrites := satInc 65535 x.cntWrites }).draw) ∧
  (∀ (o : Origin) (f : SpliceFrame) (s : State), s.passes o f = true → f.op = 1 → s.mustHold o f = true → s.noPrefetch f.address f.length → exec (.spliceWrite o f) s = .next (s.modSpl fun x => { x with held := x.held ++ [⟨o, f⟩] }).draw) ∧
  (∀ (a p : Nat) (f : SpliceFrame) (s : State), s.ownRequest (.udp a p) f = true → f.op = 1 → (f.exclusive = true ∨ frameFits f = false) →
    ∃ t hd, exec (.spliceWrite (.udp a p) f) s = .next t ∧ t.now = s.now ∧ t.carSide = s.carSide ∧ t.ina = s.ina ∧ t.twn = s.twn ∧ t.mss = s.mss ∧ t.cfg = s.cfg ∧
      t.hws.wire = s.hws.wire ++ [⟨.service a p, 0, hd, .splice (spliceAnswer f 0x81 (if f.exclusive then 7 else 6) f.address 0xFF [])⟩] ∧
      t.spl.perr = (⟨f.address, f.tag, if f.exclusive then 7 else 6, 0⟩ :: s.spl.perr).take 16 ∧ t.spl.bufs = s.spl.bufs ∧ t.spl.cntRefused = satInc 255 s.spl.cntRefused) ∧
  (∀ (a p : Nat) (f : SpliceFrame) (s : State), s.ownRequest (.udp a p) f = true → f.op = 2 → (f.exclusive = true ∨ frameFits f = false) →
    ∃ t hd, exec (.spliceRead (.udp a p) f) s = .next t ∧ t.now = s.now ∧ t.carSide = s.carSide ∧ t.ina = s.ina ∧ t.twn = s.twn ∧ t.mss = s.mss ∧ t.cfg = s.cfg ∧
      t.hws.wire = s.hws.wire ++ [⟨.service a p, 0, hd, .splice (spliceAnswer f 0x82 (if f.exclusive then 7 else 6) f.address 0xFF [])⟩] ∧ t.spl.perr = s.spl.perr ∧ t.spl.bufs = s.spl.bufs) ∧
  (∀ (a p : Nat) (f : SpliceFrame) (s : State), s.passes (.udp a p) f = true → f.op = 2 → (∀ b : Fin 16, s.spl.bufs[b].st ≠ .free → s.spl.bufs[b].origin ≠ .udp a p) → inHold s →
    ((∃ b : Fin 16, s.spl.bufs[b].st = .free) → ∃ (b : Fin 16) (t : State) (hd : HwsHeader), s.spl.bufs[b].st = .free ∧ exec (.spliceRead (.udp a p) f) s = .next t ∧ t.now = s.now ∧ t.carSide = s.carSide ∧
      t.spl.bufs[b] = ⟨.fetching, .udp a p, f.tag, f.address, f.length, [], 0, false, s.now⟩ ∧ (∀ c : Fin 16, c ≠ b → t.spl.bufs[c] = s.spl.bufs[c]) ∧
      t.hws.wire = s.hws.wire ++ [⟨.service a p, 0, hd, .splice (spliceAnswer f 0x82 1 f.address b.val [])⟩]) ∧
    ((∀ b : Fin 16, s.spl.bufs[b].st ≠ .free) → ∃ t hd, exec (.spliceRead (.udp a p) f) s = .next t ∧ t.now = s.now ∧ t.carSide = s.carSide ∧ t.spl.bufs = s.spl.bufs ∧ t.spl.cntNoBuffer = satInc 255 s.spl.cntNoBuffer ∧
      t.hws.wire = s.hws.wire ++ [⟨.service a p, 0, hd, .splice (spliceAnswer f 0x82 2 f.address 0xFF [])⟩])) ∧
  (∀ (a p : Nat) (f : SpliceFrame) (b : Fin 16) (s : State), s.passes (.udp a p) f = true → f.op = 2 →
    s.spl.bufs[b].st = .ready → s.spl.bufs[b].origin = .udp a p → s.spl.bufs[b].tag = f.tag → s.spl.bufs[b].address = f.address → s.spl.bufs[b].length = f.length → s.spl.bufs[b].status = 0 → inHold s →
    (∀ c : Fin 16, c ≠ b → s.spl.bufs[c].origin = .udp a p → s.spl.bufs[c].st ≠ .ready) →
    ∃ t hd, exec (.spliceRead (.udp a p) f) s = .next t ∧ t.now = s.now ∧ t.carSide = s.carSide ∧ t.spl.cntReads = satInc 65535 s.spl.cntReads ∧
      t.hws.wire = s.hws.wire ++ [⟨.service a p, 0, hd, .splice (spliceAnswer f 0x82 0 f.address b.val s.spl.bufs[b].data)⟩]) ∧
  (∀ (b : Fin 16) (s : State), s.spliceUp = true → s.spl.bufs[b].st = .fetching → s.holdsFor s.spl.bufs[b].origin = false →
    let r := s.fetchWords (s.spl.bufs[b].length / 4) s.spl.bufs[b].address
    exec (.fetchComplete b) s = .next (r.1.modBuf b fun x => { x with st := .ready, data := r.2.1, effect := r.2.2.1, status := r.2.2.2, since := s.now }).draw) ∧
  (∀ (b : Fin 16) (s : State), s.spliceUp = true → s.configured = true → s.spl.bufs[b].st = .ready →
    ∃ t, exec (.bufferHoldExpiry b) s = .next t ∧ t.now = max s.now (s.spl.bufs[b].since + ms (cfgSplBufferHold s.params)) ∧ t.carSide = s.carSide ∧ t.spl.bufs[b] = ReadBuf.reset ∧ (∀ c : Fin 16, c ≠ b → t.spl.bufs[c] = s.spl.bufs[c]) ∧
      t.spl.cntExpired = satInc 255 s.spl.cntExpired ∧ (s.spl.bufs[b].effect = true → t.spl.faultEvent = 3 ∧ t.spl.faultAddr = s.spl.bufs[b].address) ∧ (s.spl.bufs[b].effect = false → t.spl.faultEvent = s.spl.faultEvent)) ∧
  (∀ (b : Fin 16) (s : State), s.holdsFor s.spl.bufs[b].origin = true → exec (.fetchComplete b) s = .next s.draw) ∧
  (∀ (b : Fin 16) (s : State), s.spl.bufs[b].st = .free → exec (.fetchComplete b) s = .next s.draw ∧ exec (.bufferHoldExpiry b) s = .next s.draw)

/-- O43. Relaying (SPLICE_WRITE, SPLICE_READ, READ_RESPONSE_RECEIVE, WRITE_ERROR_RECEIVE, RELAY_TIMEOUT), SERVICE_PORT_PACKET, SERVICE_PORT_LINK_CHANGE, and the two SPL commands. Rules: R370, R372, R379, R384, R386 (derived). -/
def Obligations.SpliceRelaysAndServicePort : Prop :=
  (∀ (a p : Nat) (f : SpliceFrame) (s : State), s.spliceUp = true → s.spl.linkUp = true → f.version = 1 → f.target ≠ 0 → f.target ≠ s.hws.position → (f.op = 1 ∨ f.op = 2) →
    (cfgSplSplFlags s.params).testBit 0 = true → s.configured = true → s.present f.target = true → (∀ n, s.spliceRoom = some n → spliceSize f ≤ n) →
    (s.spl.relays.length < 32 → exec (if f.op = 1 then .spliceWrite (.udp a p) f else .spliceRead (.udp a p) f) s =
      .next ((s.modSpl fun x => { x with relays := x.relays ++ [⟨a, p, f.tag, f.target, decide (f.op = 2), s.now⟩] }).queueAsync f.target (.splice { f with initiator := s.hws.position, relayed := true })).draw) ∧
    (32 ≤ s.spl.relays.length → ∃ t hd, exec (if f.op = 1 then .spliceWrite (.udp a p) f else .spliceRead (.udp a p) f) s = .next t ∧ t.now = s.now ∧ t.carSide = s.carSide ∧ t.spl.relays = s.spl.relays ∧ t.hws.async = s.hws.async ∧
      t.hws.wire = s.hws.wire ++ [⟨.service a p, 0, hd, .splice (spliceAnswer f (if f.op = 1 then 0x81 else 0x82) 12 f.address 0xFF [])⟩])) ∧
  (∀ (f : SpliceFrame) (r : RelayEntry) (rest : List RelayEntry) (s : State), s.hawserRuns = true → s.spl.linkUp = true → f.version = 1 → s.spl.relays = r :: rest → r.isRead = true → r.tag = f.tag → r.target = f.target →
    ∃ t hd, exec (.readResponseReceive f) s = .next t ∧ t.now = s.now ∧ t.carSide = s.carSide ∧ t.spl = { s.spl with relays := rest } ∧ t.hws.wire = s.hws.wire ++ [⟨.service r.address r.port, 0, hd, .splice f⟩]) ∧
  (∀ (f : SpliceFrame) (s : State), s.spl.relays = [] → exec (.readResponseReceive f) s = .next s.draw) ∧
  (∀ (f : SpliceFrame) (s : State), s.hawserRuns = true → f.version = 1 →
    ∃ t, exec (.writeErrorReceive f) s = .next t ∧ t.now = s.now ∧ t.carSide = s.carSide ∧ t.spl.perr = (⟨f.address, f.tag, f.status, f.target⟩ :: s.spl.perr).take 16 ∧ t.spl.faultEvent = 0 ∧ t.spl.faultAddr = f.address ∧
      t.spl.relays = s.spl.relays ∧ (∀ (r : RelayEntry) (rest : List RelayEntry), s.spl.linkUp = true → s.spl.relays = r :: rest → r.isRead = false → r.tag = f.tag → r.target = f.target →
        ∃ hd, t.hws.wire = s.hws.wire ++ [⟨.service r.address r.port, 0, hd, .splice f⟩])) ∧
  (∀ (k : Nat) (r : RelayEntry) (s : State), s.hawserRuns = true → s.spl.relays[k]? = some r →
    ∃ t, exec (.relayTimeout k) s = .next t ∧ t.now = max s.now (r.at_ + if r.isRead then ms (cfgSplRelayTimeout s.params) else 1000000000) ∧ t.carSide = s.carSide ∧ t.spl.relays = s.spl.relays.eraseIdx k ∧
      (r.isRead = true → t.spl.faultEvent = 6 ∧ t.spl.faultPosition = r.target ∧
        (s.spl.linkUp = true → ∃ hd, t.hws.wire = s.hws.wire ++ [⟨.service r.address r.port, 0, hd, .splice ⟨1, 0x82, r.tag, r.target, 0, false, true, 9, 0, 0, 0xFF, []⟩⟩])) ∧
      (r.isRead = false → t.hws = s.hws ∧ t.spl.faultEvent = s.spl.faultEvent)) ∧
  (∀ (from_ : Nat) (d : List Byte) (s : State), s.spliceUp = true → s.spl.linkUp = true →
    (∃ hd, exec (.servicePortPacket (.arp s.ipAddress from_)) s = .next (s.send ⟨.service from_ 0, 0, hd, .packet (.arp s.ipAddress from_)⟩).draw) ∧
    (∃ hd, exec (.servicePortPacket (.icmpEcho s.ipAddress from_ false d)) s = .next (s.send ⟨.service from_ 0, 0, hd, .packet (.icmpEcho s.ipAddress from_ false d)⟩).draw)) ∧
  (∀ (a from_ : Nat) (d : List Byte) (s : State), a ≠ s.ipAddress → exec (.servicePortPacket (.arp a from_)) s = .next s.draw ∧ ∀ fr, exec (.servicePortPacket (.icmpEcho a from_ fr d)) s = .next s.draw) ∧
  (∀ (from_ : Nat) (d : List Byte) (s : State), exec (.servicePortPacket (.icmpEcho s.ipAddress from_ true d)) s = .next s.draw ∧ exec (.servicePortPacket .other) s = .next s.draw) ∧
  (∀ (up : Bool) (s : State), s.spliceUp = true → exec (.servicePortLinkChange up) s = .next (s.modSpl fun x => { x with linkUp := up }).draw) ∧
  (∀ (s : State), s.hawserUp = true → exec .splClearPostedErrors s = .next (s.modSpl fun x => { x with perr := [], perrOverflow := 0 }).draw ∧
    exec .splFreeReadBuffers s = .next (s.modSpl fun x => { x with bufs := Vector.replicate 16 ReadBuf.reset }).draw) ∧
  (∀ (f : SpliceFrame) (s : State), f.version ≠ 1 → exec (.readResponseReceive f) s = .next s.draw ∧ exec (.writeErrorReceive f) s = .next s.draw) ∧
  (∀ (from_ sport sum : Nat) (d : List Byte) (f : SpliceFrame) (s : State), s.spliceUp = true → s.spl.linkUp = true → spliceOf d = some f → (sum = 0 ∨ sum = udpChecksum from_ s.ipAddress sport s.udpPort d) →
    exec (.servicePortPacket (.udp s.ipAddress from_ sport s.udpPort false sum d)) s = exec (if f.op = 2 then .spliceRead (.udp from_ sport) f else .spliceWrite (.udp from_ sport) f) s) ∧
  (∀ (a from_ sport dport sum : Nat) (frag : Bool) (d : List Byte) (s : State),
    (a ≠ s.ipAddress ∨ dport ≠ s.udpPort ∨ frag = true ∨ (sum ≠ 0 ∧ sum ≠ udpChecksum from_ a sport dport d) ∨ d.length < 16) → exec (.servicePortPacket (.udp a from_ sport dport frag sum d)) s = .next s.draw) ∧
  (∀ (p : Packet) (s : State), s.spl.linkUp = false → exec (.servicePortPacket p) s = .next s.draw)

/-- O44. AUTH_ASSERT, AUTH_COMMAND_LAPSE, AUTH_COLLISION, AUTH_SELF_ASSERT, AUTH_READBACK_MISMATCH and AUTH_IN_DISAGREEMENT move the power gate, and a gate that closes takes the power off every slice. Rules: R334, R394, R395, R409, R410, R411, R413, R415 (derived). -/
def Obligations.AuthLogicDrivesTheGate : Prop :=
  (∀ s : State, s.twn.auth.hold = true → s.twn.auth.lapsed = false → s.twn.auth.out = false → max s.now s.assertAt < s.nextSync →
    ∃ t, exec .authAssert s = .next t ∧ t.now = max s.now s.assertAt ∧ t.twn.auth.out = true ∧ t.twn.auth.readback = true ∧ t.twn.auth.inp = false ∧ t.twn.auth.collided = false ∧ t.gate = true ∧ t.twn.gate = true ∧ t.twn.hitch = s.twn.hitch ∧
      t.hws = s.hws ∧ t.ina = s.ina ∧ t.loop = s.loop ∧ t.params = s.params ∧ ∀ i : Fin 16, t.slices[i].portal = s.slices[i].portal) ∧
  (∀ s : State, (s.twn.auth.hold = false ∨ s.twn.auth.lapsed = true ∨ s.twn.auth.out = true ∨ s.nextSync ≤ max s.now s.assertAt) → exec .authAssert s = .next s.draw) ∧
  (∀ s : State, s.hawserRuns = false → s.twn.auth.lapsed = false →
    ∃ t, exec .authCommandLapse s = .next t ∧ t.now = max s.now (s.twn.auth.commandAt + s.twn.auth.lapseNs) ∧ t.twn.auth.lapsed = true ∧ t.twn.auth.lapsedAt = t.now ∧ t.twn.auth.hold = false ∧ t.twn.auth.out = false ∧ t.twn.hitch = false ∧
      t.gate = false ∧ t.twn.gate = false ∧ (s.twn.auth.out = true → t.twn.faultEvent = 1 ∧ t.twn.faultCode = 2) ∧ t.loop = s.loop ∧ t.hws = s.hws ∧ (s.twn.gate = true → ∀ i : Fin 16, i.val < s.sliceCount → t.slices[i].sw.enabled = false ∧ (∀ k : Fin 6, t.slices[i].sw.ch[k].commanded = false ∧ t.slices[i].sw.ch[k].st ∈ [ChState.off, .thermalOff, .latchedOff]) ∧ (∀ a : Fin 3, t.slices[i].axes[a].d.mode = .free) ∧ t.slices[i].can.mode ≠ .normal)) ∧
  (∀ s : State, s.twn.auth.out = true →
    ∃ t, exec .authCollision s = .next t ∧ t.now = s.now ∧ t.twn.auth.inp = true ∧ t.twn.auth.out = false ∧ t.twn.auth.collided = true ∧ t.gate = false ∧ t.twn.gate = false ∧ t.twn.cntCollisions = satInc 255 s.twn.cntCollisions ∧
      t.twn.faultEvent = 1 ∧ t.twn.faultCode = 3 ∧ t.loop = s.loop ∧ t.hws = s.hws ∧ (s.twn.gate = true → ∀ i : Fin 16, i.val < s.sliceCount → t.slices[i].sw.enabled = false ∧ (∀ k : Fin 6, t.slices[i].sw.ch[k].commanded = false ∧ t.slices[i].sw.ch[k].st ∈ [ChState.off, .thermalOff, .latchedOff]) ∧ (∀ a : Fin 3, t.slices[i].axes[a].d.mode = .free) ∧ t.slices[i].can.mode ≠ .normal)) ∧
  (∀ s : State, s.twn.auth.out = false → exec .authCollision s = .next s.draw) ∧
  (∀ s : State, s.twn.auth.lapsed = true → s.configured = true → s.twn.auth.out = false →
    ∃ t, exec .authSelfAssert s = .next t ∧ t.now = max s.now ((if s.twn.auth.inp then s.now else if s.twn.auth.collided then s.twn.auth.releasedAt else max s.twn.auth.releasedAt s.twn.auth.lapsedAt) + (if s.roleS then 300000000 else 100000000)) ∧
      t.twn.auth.out = true ∧ t.twn.auth.inp = false ∧ t.gate = true ∧ t.twn.gate = true ∧ t.twn.layer = 3 ∧ t.drives = true ∧ t.loop = s.loop ∧ t.hws = s.hws ∧
      (∀ i : Fin 16, (s.sliceRuns i = false ∨ (s.env i).portalEnabled = false) → t.slices[i].portal = s.slices[i].portal) ∧
      (∀ (i : Fin 16) (m : MirrorSlice), i.val < s.sliceCount → s.sliceRuns i = true → (s.env i).portalEnabled = true → s.twn.firstHold = false → s.twn.synchronised = true → s.twn.foreign = false → s.twn.kept[i] = some m →
        ¬ (m.st = .fault ∧ m.faultCause = 11) → t.slices[i].portal.st = m.st)) ∧
  (∀ (rb : Bool) (s : State),
    ∃ t, exec (.authReadbackMismatch rb) s = .next t ∧ t.now = s.now ∧ t.twn.auth.readback = rb ∧ t.twn.auth.out = s.twn.auth.out ∧ t.twn.gate = t.gate ∧ t.gate = (rb && !s.twn.auth.inp) ∧ t.twn.fault1 = decide (rb ≠ s.twn.auth.out) ∧
      (rb ≠ s.twn.auth.out → s.twn.fault1 = false → t.twn.faultEvent = 5 ∧ t.twn.faultCode = 1) ∧ t.loop = s.loop ∧ t.hws = s.hws ∧ (rb = false → (s.twn.gate = true → ∀ i : Fin 16, i.val < s.sliceCount → t.slices[i].sw.enabled = false ∧ (∀ k : Fin 6, t.slices[i].sw.ch[k].commanded = false ∧ t.slices[i].sw.ch[k].st ∈ [ChState.off, .thermalOff, .latchedOff]) ∧ (∀ a : Fin 3, t.slices[i].axes[a].d.mode = .free) ∧ t.slices[i].can.mode ≠ .normal))) ∧
  (∀ s : State, s.hawserRuns = true → 3 < s.twn.run3 → s.twn.fault3 = false →
    ∃ t, exec .authInDisagreement s = .next t ∧ t.now = s.now ∧ t.twn.fault3 = true ∧ t.twn.fault4 = s.twn.fault4 ∧ t.twn.faultEvent = 5 ∧ t.twn.faultCode = 3 ∧ t.carSide = s.carSide ∧ t.hws = s.hws) ∧
  (∀ s : State, s.hawserRuns = true → s.twn.run3 ≤ 3 → 3 < s.twn.run4 → s.twn.fault4 = false →
    ∃ t, exec .authInDisagreement s = .next t ∧ t.now = s.now ∧ t.twn.fault4 = true ∧ t.twn.faultEvent = 5 ∧ t.twn.faultCode = 4 ∧ t.carSide = s.carSide ∧ t.hws = s.hws) ∧
  (∀ s : State, s.twn.run3 ≤ 3 → s.twn.run4 ≤ 3 → exec .authInDisagreement s = .next s.draw)

/-- O45. HEARTBEAT_RECEIVE, TWIN_LINK_CHANGE, MIRROR_RECEIVE, SLOW_RECORD_APPLY, CATCH_IN_FLIGHT, SWAP_TIMEOUT and the four TWN commands. Rules: R36, R137, R396, R397, R398, R399, R400, R416, R423 (derived). -/
def Obligations.TwinLinkAndMirrorAreKept : Prop :=
  (∀ (cy : Nat) (h : Heartbeat) (s : State), s.hawserUp = true → s.twn.phyUp = true → s.twn.beatNow = false →
    ∃ t, exec (.heartbeatReceive cy h) s = .next t ∧ t.now = s.now ∧ t.carSide = s.carSide ∧ t.twn.beat = some h ∧ t.twn.beatNow = true ∧ t.twn.valid = min 3 (s.twn.valid + 1) ∧ t.twn.link = (s.twn.link || decide (2 ≤ s.twn.valid)) ∧
      (s.twn.link = false → 2 ≤ s.twn.valid → t.twn.faultEvent = 2 ∧ t.twn.faultCode = 2) ∧ (s.hws.position = 0 → t.hws.cycle = cy) ∧ (s.hws.position ≠ 0 → t.hws = s.hws) ∧ t.twn.auth = s.twn.auth ∧ t.ina = s.ina) ∧
  (∀ (cy : Nat) (h : Heartbeat) (s : State), s.twn.beatNow = true → exec (.heartbeatReceive cy h) s = .next s.draw) ∧
  (∀ (s : State), s.hawserUp = true →
    (∃ t, exec (.twinLinkChange false) s = .next t ∧ t.now = s.now ∧ t.carSide = s.carSide ∧ t.twn.phyUp = false ∧ t.twn.link = false ∧ t.twn.valid = 0 ∧ t.twn.auth = s.twn.auth ∧ t.hws = s.hws ∧
      (s.twn.link = true → t.twn.faultEvent = 2 ∧ t.twn.faultCode = 1 ∧ t.twn.cntLinkLosses = satInc 255 s.twn.cntLinkLosses) ∧ (s.twn.link = false → t.twn.faultEvent = s.twn.faultEvent)) ∧
    exec (.twinLinkChange true) s = .next (s.modTwn fun t => { t with phyUp := true, missing := 0 }).draw) ∧
  (∀ (m : Mirror) (s : State), s.hawserRuns = true → s.twinPresent = true → s.twn.phyUp = true → s.drives = false →
    exec (.mirrorReceive false m) s = .next (s.modTwn fun t => { t with cntDiscarded := satInc 255 t.cntDiscarded }).draw ∧
    ∃ t, exec (.mirrorReceive true m) s = .next t ∧ t.now = s.now ∧ t.carSide = s.carSide ∧ t.twn.mirror = some m ∧ t.twn.kept = s.twn.kept ∧ t.twn.auth = s.twn.auth ∧ t.hws = s.hws) ∧
  (∀ (c : Bool) (m : Mirror) (s : State), s.drives = true → exec (.mirrorReceive c m) s = .next s.draw) ∧
  (∀ (i : Fin 16) (a : Fin 3) (r : AxisRecord) (s : State), s.hawserRuns = true → s.twinPresent = true → s.drives = false → s.twn.foreign = false → s.channelStands .hawser ⟨i.val, by omega⟩ = false → r.axis = 3 * i.val + a.val →
    exec (.slowRecordApply r) s =
      .next (s.modSlice i fun sl => sl.modD a fun d => { d with teach := r.teach, teachValid := r.teachValid, teachResult := r.result, env := r.env, rUseA := r.teach.rA, rUseB := r.teach.rB }).draw) ∧
  (∀ (i : Fin 16) (a : Fin 3) (v : Bool) (ang : Nat) (s : State), s.sliceRuns i = true → s.slices[i].catchReady (s.env i) a = true → (s.env i).geared a = false → ∀ c : Catch, s.slices[i].axes[a].m.catching = some c →
    ∃ x : Slice, exec (.catchInFlight i a v ang) s = .next ((s.advance s.slices[i].axes[a].d.pwmFrom).modSlice i fun _ => x).draw ∧ x.axes[a].m.catching = none ∧ x.portal.st = s.slices[i].portal.st ∧ x.inp = s.slices[i].inp ∧ x.can = s.slices[i].can ∧
      (v = true → x.axes[a].m.v = c.v ∧ x.axes[a].m.stopping = true ∧ x.axes[a].m.queue = [] ∧ x.axes[a].m.caught = c.queue ∧ x.axes[a].m.homed = c.homed ∧ x.axes[a].d.mode = .strong ∧ (x.axes[a].m.pos - ((ang % 1024 : Nat) : Int)) % 1024 = 0) ∧
      (v = false → x.axes[a].m.v = 0 ∧ x.axes[a].m.queue = [] ∧ x.axes[a].m.caught = [] ∧ x.axes[a].m.homed = false ∧ x.axes[a].d.mode = .hold) ∧ (∀ b : Fin 3, b ≠ a → (s.env i).geared b = false → x.axes[b] = s.slices[i].axes[b])) ∧
  (∀ (i : Fin 16) (a : Fin 3) (v : Bool) (ang : Nat) (s : State), s.slices[i].catchReady (s.env i) a = false → exec (.catchInFlight i a v ang) s = .next s.draw) ∧
  (∀ (t0 : Nat) (s : State), s.hawserRuns = true → s.twn.swapAt = some t0 →
    ∃ t, exec .swapTimeout s = .next t ∧ t.now = max s.now (t0 + ms (cfgTwnSwapTimeout s.params * 1000)) ∧ t.carSide = s.carSide ∧ t.twn.swapAt = none ∧ t.twn.faultEvent = 7 ∧ t.twn.faultCode = 3 ∧ t.twn.resign = s.twn.resign ∧ t.twn.auth = s.twn.auth) ∧
  (∀ (s : State), s.twn.swapAt = none → exec .swapTimeout s = .next s.draw) ∧
  (∀ (s : State), s.hawserUp = true →
    exec .twnSwap s = .next (s.modTwn fun t => { t with command := 1 }).draw ∧ exec .twnWithdrawSwap s = .next (s.modTwn fun t => { t with command := 2 }).draw ∧
    exec .twnEnterTestMode s = .next (s.modTwn fun t => { t with command := 3 }).draw ∧ exec .twnLeaveTestMode s = .next (s.modTwn fun t => { t with command := 4 }).draw)

/-- O46. LOADER_RUN chooses the active slot, the previous one or none; PLUG_FAULT and PLUG_PRESENCE_CHANGE follow the plug. Rules: R430, R442, R446, R447, R448, R547 (derived). -/
def Obligations.LoaderRunsToItsVerdict : Prop :=
  (∀ (k : Nat) (e : JournalEntry) (s : State), s.start.stage = .booted → s.plug.present = true → journalInForce s.plug.nor = some (k, e) →
    (s.checkSlot (.expected e.activeVersion) e.active = none →
      exec .loaderRun s = .next ((s.modStart fun x => { x with stage := .loading }).modCfg fun c =>
        { c with state := 1, entry := some e, startAt := s.now, code := 0, attempt := 0, section_ := 0, offset := 0, loadEvents := [], loaded := some (slotParams s.plug.nor e.active, norLe s.plug.nor (slotBase e.active + 8) 4, norBytes s.plug.nor (slotBase e.active + 32) 64), outcome := 2, slot := e.active }).draw) ∧
    (∀ f : Finding, s.checkSlot (.expected e.activeVersion) e.active = some f →
      (e.previous < 4 → e.probation ≠ 1 → s.checkSlot (.expected e.previousVersion) e.previous = none →
        exec .loaderRun s = .next ((s.modStart fun x => { x with stage := .loading }).modCfg fun c =>
          { c with state := 1, entry := some e, startAt := s.now, code := f.code, attempt := 1, section_ := f.section_, offset := f.offset, loadEvents := (if s.readError e.active then [(3, 2)] else []) ++ [(1, f.code), (0, 1)], loaded := some (slotParams s.plug.nor e.previous, norLe s.plug.nor (slotBase e.previous + 8) 4, norBytes s.plug.nor (slotBase e.previous + 32) 64), outcome := 3, slot := e.previous }).draw) ∧
      (4 ≤ e.previous →
        exec .loaderRun s = .next ((s.modStart fun x => { x with stage := .loading }).modCfg fun c =>
          { c with state := 1, entry := some e, startAt := s.now, code := f.code, attempt := 1, section_ := f.section_, offset := f.offset, loadEvents := (if s.readError e.active then [(3, 2)] else []) ++ [(1, f.code), (0, 2)], outcome := 4 }).draw))) ∧
  (∀ s : State, s.start.stage = .booted → s.plug.present = false →
    exec .loaderRun s = .next ((s.modStart fun x => { x with stage := .loading }).modCfg fun c =>
      { c with state := 1, entry := none, startAt := s.now, code := 1, attempt := 1, section_ := 0, offset := 0, loadEvents := [(3, 1), (1, 1), (0, 2)], outcome := 4 }).draw) ∧
  (∀ s : State, s.start.stage ≠ .booted → exec .loaderRun s = .next s.draw) ∧
  (∀ s : State, s.mssUp = true → 2 ≤ s.cfg.state →
    (s.plug.present = true → ∃ t, exec (.plugFault .removed) s = .next t ∧ t.now = s.now ∧ t.slices = s.slices ∧ t.params = s.params ∧ t.plug = { s.plug with present := false } ∧ t.cfg.faultEvent = 3 ∧ t.cfg.faultCode = 4 ∧ t.cfg.state = s.cfg.state) ∧
    (∃ t, exec (.plugFault .read) s = .next t ∧ t.carSide = s.carSide ∧ t.cfg.faultEvent = 3 ∧ t.cfg.faultCode = 2 ∧ t.cfg.cntPlug = satInc 255 s.cfg.cntPlug) ∧
    (∃ t, exec (.plugFault .write) s = .next t ∧ t.carSide = s.carSide ∧ t.cfg.faultEvent = 3 ∧ t.cfg.faultCode = 3 ∧ t.cfg.cntPlug = satInc 255 s.cfg.cntPlug) ∧
    (∀ i : Fin 4, s.plug.present = true → ∃ t, exec (.plugFault (.slot i)) s = .next t ∧ t.now = s.now ∧ t.slices = s.slices ∧ t.params = s.params ∧ t.cfg.faultEvent = 3 ∧ t.cfg.faultCode = 2 ∧
      t.plug.nor = s.plug.nor ∧ ∀ rule : VersionRule, t.checkSlot rule i.val = some ⟨1, 0, 0⟩)) ∧
  (∀ (im : List (Nat × Byte)) (s : State), s.plug.present = false →
    ∃ t, exec (.plugPresenceChange true im) s = .next t ∧ t.now = s.now ∧ t.slices = s.slices ∧ t.params = s.params ∧ t.plug.present = true ∧ Memory.wf norDefault t.plug.nor = true ∧ (∀ i : Fin 4, t.cfg.slots[i].checked = false) ∧
      t.cfg.state = s.cfg.state ∧ (∀ a, 0x4000000 ≤ a → memGet norDefault t.plug.nor a = norDefault)) ∧
  (∀ (im : List (Nat × Byte)) (s : State), s.plug.present = true → ∃ t, exec (.plugPresenceChange false im) s = .next t ∧ t.now = s.now ∧ t.slices = s.slices ∧ t.params = s.params ∧ t.plug = { s.plug with present := false }) ∧
  (∀ (im : List (Nat × Byte)) (s : State), exec (.plugPresenceChange s.plug.present im) s = .next s.draw)

/-- O47. CFG_CHECK_SLOT, CFG_ACTIVATE_SLOT, CFG_RETURN_TO_PREVIOUS, CFG_END_PROBATION, CFG_ERASE_SLOT, their completions, PROBATION_PROGRESS and PROBATION_FAILURE. Rules: R427, R429, R430, R437, R440, R441, R444, R445, R446 (derived). -/
def Obligations.SlotCommandsAndProbation : Prop :=
  (∀ (i : Fin 4) (s : State), s.cfgReady = true → exec (.cfgCheckSlot i) s = .next (s.modCfg fun c => { c with commandSlot := i.val, busy := .checkSlot i.val, cmdState := 1, cmdCode := 0, cmdSection := 0 }).draw) ∧
  (∀ (i : Fin 4) (s : State), s.cfgReady = false → exec (.cfgCheckSlot i) s = .next (s.slotCommand i).draw ∧ exec (.cfgActivateSlot i) s = .next (s.slotCommand i).draw ∧ exec (.cfgEraseSlot i) s = .next (s.slotCommand i).draw ∧ exec .cfgReturnToPrevious s = .next s.draw ∧ exec .cfgEndProbation s = .next s.draw) ∧
  (∀ (i : Fin 4) (s : State), s.cfg.busy = .checkSlot i.val →
    (s.checkSlot (s.slotRule i.val) i.val = none → ∃ t, exec .slotCheckComplete s = .next t ∧ t.now = s.now ∧ t.slices = s.slices ∧ t.params = s.params ∧ t.hws = s.hws ∧ t.loop = s.loop ∧ t.cfg.state = s.cfg.state ∧ t.plug = s.plug ∧ t.cfg.busy = .none ∧ t.cfg.cmdState = 2 ∧ t.cfg.slots[i].checked = true ∧ ∀ j : Fin 4, j ≠ i → t.cfg.slots[j] = s.cfg.slots[j]) ∧
    (∀ f, s.checkSlot (s.slotRule i.val) i.val = some f → ∃ t, exec .slotCheckComplete s = .next t ∧ t.now = s.now ∧ t.slices = s.slices ∧ t.params = s.params ∧ t.hws = s.hws ∧ t.loop = s.loop ∧ t.cfg.state = s.cfg.state ∧ t.plug = s.plug ∧ t.cfg.busy = .none ∧ t.cfg.cmdState = 3 ∧ t.cfg.cmdCode = f.code ∧ t.cfg.cmdSection = f.section_ ∧
      t.cfg.slots[i].checked = false ∧ t.cfg.faultEvent = 1 ∧ t.cfg.faultCode = f.code)) ∧
  (∀ (i : Fin 4) (e : JournalEntry) (s : State), s.cfgReady = true → s.cfg.entry = some e →
    let version := norLe s.plug.nor (slotBase i.val + 8) 4
    let follows := e.activeVersion < version ∧ norLe s.plug.nor (slotBase i.val + 12) 4 = e.activeVersion ∧ (e.barred = 0 ∨ version ≠ e.barred)
    (e.probation = 1 → exec (.cfgActivateSlot i) s = .next (s.modCfg fun c => { c with commandSlot := i.val, cmdState := 3, cmdCode := 22, cmdSection := 0, cntRefusals := satInc 255 c.cntRefusals }).draw) ∧
    (e.probation ≠ 1 → s.cfg.slots[i].checked = false → exec (.cfgActivateSlot i) s = .next (s.modCfg fun c => { c with commandSlot := i.val, cmdState := 3, cmdCode := 20, cmdSection := 0, cntRefusals := satInc 255 c.cntRefusals }).draw) ∧
    (e.probation ≠ 1 → s.cfg.slots[i].checked = true → ¬ follows → exec (.cfgActivateSlot i) s = .next (s.modCfg fun c => { c with commandSlot := i.val, cmdState := 3, cmdCode := 21, cmdSection := 0, cntRefusals := satInc 255 c.cntRefusals }).draw) ∧
    (e.probation ≠ 1 → s.cfg.slots[i].checked = true → follows → s.plug.present = true →
      ∃ t e', exec (.cfgActivateSlot i) s = .next t ∧ t.now = s.now ∧ t.slices = s.slices ∧ t.params = s.params ∧ t.hws = s.hws ∧ t.loop = s.loop ∧ t.cfg.state = s.cfg.state ∧ t.cfg.cmdState = 2 ∧ t.cfg.activationPending = true ∧ t.cfg.returnPending = false ∧ t.cfg.entry = some e' ∧ e'.kind = 1 ∧ e'.active = i.val ∧ e'.previous = e.active ∧
        e'.activeVersion = version ∧ e'.previousVersion = e.activeVersion ∧ e'.progress = 0 ∧ e'.barred = e.barred)) ∧
  (∀ (e : JournalEntry) (s : State), s.cfgReady = true → s.cfg.entry = some e →
    (s.cfg.returnPending = true → exec .cfgReturnToPrevious s = .next (s.modCfg fun c => { c with cmdState := 3, cmdCode := 24, cmdSection := 0, cntRefusals := satInc 255 c.cntRefusals }).draw) ∧
    (s.cfg.returnPending = false → e.previous = 0xFF → exec .cfgReturnToPrevious s = .next (s.modCfg fun c => { c with cmdState := 3, cmdCode := 23, cmdSection := 0, cntRefusals := satInc 255 c.cntRefusals }).draw) ∧
    (s.cfg.returnPending = false → e.previous ≠ 0xFF → s.plug.present = true →
      ∃ t q, exec .cfgReturnToPrevious s = .next t ∧ t.now = s.now ∧ t.slices = s.slices ∧ t.params = s.params ∧ t.hws = s.hws ∧ t.loop = s.loop ∧ t.cfg.state = s.cfg.state ∧ t.cfg.cmdState = 2 ∧ t.cfg.returnPending = true ∧ t.cfg.entry = some { e.back 2 with sequence := q }) ∧
    (e.probation = 1 → s.plug.present = true → ∃ t q, exec .cfgEndProbation s = .next t ∧ t.now = s.now ∧ t.slices = s.slices ∧ t.params = s.params ∧ t.hws = s.hws ∧ t.loop = s.loop ∧ t.cfg.state = s.cfg.state ∧ t.cfg.cmdState = 2 ∧ t.cfg.faultEvent = 2 ∧ t.cfg.faultCode = 2 ∧
      t.cfg.entry = some { e with kind := 4, probation := 2, progress := s.probationValue, sequence := q }) ∧
    (∀ i : Fin 4, (i.val = e.active ∨ i.val = e.previous) → exec (.cfgEraseSlot i) s = .next (s.modCfg fun c => { c with commandSlot := i.val, cmdState := 3, cmdCode := 25, cmdSection := 0, cntRefusals := satInc 255 c.cntRefusals }).draw) ∧
    (∀ i : Fin 4, i.val ≠ e.active → i.val ≠ e.previous → s.plug.present = true → ∃ t, exec (.cfgEraseSlot i) s = .next t ∧ t.now = s.now ∧ t.slices = s.slices ∧ t.params = s.params ∧ t.hws = s.hws ∧ t.loop = s.loop ∧ t.cfg.state = s.cfg.state ∧ t.cfg.busy = .eraseSlot i.val ∧ t.cfg.cmdState = 1 ∧ t.cfg.slots[i].checked = false)) ∧
  (∀ (i : Fin 4) (s : State), s.cfg.busy = .eraseSlot i.val → s.plug.present = true →
    ∃ t, exec .slotEraseComplete s = .next t ∧ t.now = s.now ∧ t.slices = s.slices ∧ t.params = s.params ∧ t.hws = s.hws ∧ t.loop = s.loop ∧ t.cfg.state = s.cfg.state ∧ t.cfg.busy = .none ∧ t.cfg.cmdState = 2 ∧ ∀ a, slotBase i.val ≤ a → a < slotBase i.val + 0x800000 → memGet norDefault t.plug.nor a = 0xFF) ∧
  (∀ s : State, s.cfg.busy = .none → exec .slotCheckComplete s = .next s.draw ∧ exec .slotEraseComplete s = .next s.draw) ∧
  (∀ (e : JournalEntry) (s : State), s.mssUp = true → s.onProbation = true → s.cfg.entry = some e → s.plug.present = true → cfgRoleProbationMode s.params = 1 → s.twn.hitch = false → cfgRoleProbationLimit s.params ≤ s.cfg.progress →
    ∃ t q, exec .probationProgress s = .next t ∧ t.now = s.now ∧ t.slices = s.slices ∧ t.params = s.params ∧ t.hws = s.hws ∧ t.loop = s.loop ∧ t.cfg.state = s.cfg.state ∧ t.cfg.faultEvent = 2 ∧ t.cfg.faultCode = 2 ∧ t.cfg.entry = some { e with kind := 4, probation := 2, progress := cfgRoleProbationLimit s.params, sequence := q }) ∧
  (∀ (k : Fin 6) (e : JournalEntry) (s : State), s.mssUp = true → s.failsProbation = true → s.hasCause k = true → s.cfg.entry = some e → s.plug.present = true → (cfgRoleProbationTriggers s.params).testBit k.val = true → e.previous ≠ 0xFF →
    ∃ t q, exec (.probationFailure k) s = .next t ∧ t.now = s.now ∧ t.slices = s.slices ∧ t.params = s.params ∧ t.hws = s.hws ∧ t.loop = s.loop ∧ t.cfg.state = s.cfg.state ∧ t.cfg.returnPending = true ∧ t.cfg.faultEvent = 2 ∧ t.cfg.faultCode = 3 ∧ t.cfg.entry = some { ({ e with probation := 1, progress := s.probationValue } : JournalEntry).back 5 with sequence := q } ∧
      (s.twinPresent = false → t.twn = s.twn ∧ t.mss.restartDue = s.mss.restartDue ∧ t.cfg.resignDue = s.cfg.resignDue) ∧
      (s.twinPresent = true → s.drives = false → t.mss.restartDue = true)) ∧
  (∀ (k : Fin 6) (s : State), (s.failsProbation = false ∨ s.hasCause k = false → exec (.probationFailure k) s = .next s.draw) ∧ (s.onProbation = false → exec .probationProgress s = .next s.draw))

/-- O48. MSS_STAGE_OPEN, MSS_COMMIT, MSS_COMMIT_COMPLETE, MSS_CLOSE_SESSION, MSS_CHECK_INACTIVE_BANK, BANK_CHECK_COMPLETE, MSS_ACTIVATE_BANK, FIRMWARE_CONFIRM, MSS_RESTART, and a corrected ECC error. Rules: R449, R451, R454, R455, R456, R467, R468 (derived). -/
def Obligations.FirmwareBanksAreStagedAndTried : Prop :=
  (∀ s : State, s.mssUp = true → s.mss.staging.open_ = false → s.mss.trial = false →
    exec (.mssStageOpen 1) s = .next ((s.modBank (!s.mss.runBank) fun b => { b with checked := false, version := 0 }).modMss fun m => { m with stageTarget := 1, staging := ⟨1, true, 1, 0, 0⟩ }).draw) ∧
  (∀ s : State, s.mssUp = true → s.mss.staging.open_ = false → s.mss.trial = true →
    ∃ t, exec (.mssStageOpen 1) s = .next t ∧ t.now = s.now ∧ t.slices = s.slices ∧ t.params = s.params ∧ t.hws = s.hws ∧ t.loop = s.loop ∧ t.mss.reason = 8 ∧ t.mss.cmdState = 3 ∧ t.mss.staging = s.mss.staging ∧ t.mss.faultEvent = 3 ∧ t.mss.faultCode = 7 ∧ t.mss.bankA = s.mss.bankA ∧ t.mss.bankB = s.mss.bankB) ∧
  (∀ (i : Fin 4) (s : State), s.mssUp = true → s.mss.staging.open_ = false → s.loads = false →
    ((∃ e, s.cfg.entry = some e ∧ (i.val = e.active ∨ i.val = e.previous)) → ∃ t, exec (.mssStageOpen (2 + i.val)) s = .next t ∧ t.now = s.now ∧ t.slices = s.slices ∧ t.params = s.params ∧ t.hws = s.hws ∧ t.loop = s.loop ∧ t.mss.reason = 11 ∧ t.mss.staging = s.mss.staging ∧ t.plug = s.plug ∧ t.mss.faultCode = 7) ∧
    ((∀ e, s.cfg.entry = some e → i.val ≠ e.active ∧ i.val ≠ e.previous) → s.plug.present = true →
      ∃ t, exec (.mssStageOpen (2 + i.val)) s = .next t ∧ t.now = s.now ∧ t.slices = s.slices ∧ t.params = s.params ∧ t.hws = s.hws ∧ t.loop = s.loop ∧ t.mss.staging = ⟨2 + i.val, true, 1, 0, 0⟩ ∧ t.cfg.slots[i].checked = false ∧ t.cfg.entry = s.cfg.entry)) ∧
  (∀ (i : Fin 4) (s : State), s.mssUp = true → s.loads = true → exec (.mssStageOpen (2 + i.val)) s = .next (s.modMss fun m => { m with stageTarget := 2 + i.val }).draw) ∧
  (∀ (n : Nat) (s : State), s.mssUp = true → s.mss.busy = .none → s.mss.recovery = false → s.mss.staging.open_ = true → (s.mss.staging.target < 2 ∨ s.loads = false) → 0 < n → n ≤ 65536 →
    exec (.mssCommit n) s = .next (s.modMss fun m => { m with argument := n % 2 ^ 24, cmdState := 1, reason := 0, lastCode := 1, busy := .commit n, staging := { m.staging with state := 2, offset := m.stageOffset } }).draw) ∧
  (∀ (n : Nat) (s : State), s.mss.busy = .commit n → s.mss.staging.target = 1 →
    (s.mss.staging.offset % 65536 = 0 → s.mss.staging.offset + n ≤ 8388608 →
      ∃ t, exec .mssCommitComplete s = .next t ∧ t.now = s.now ∧ t.slices = s.slices ∧ t.params = s.params ∧ t.hws = s.hws ∧ t.loop = s.loop ∧ t.plug = s.plug ∧ t.mss.busy = .none ∧ t.mss.cmdState = 2 ∧ t.mss.staging = { s.mss.staging with state := 1, bytes := s.mss.staging.bytes + n } ∧
        (t.bank (!s.mss.runBank)).nor = memSetBytes norDefault (s.bank (!s.mss.runBank)).nor s.mss.staging.offset (memGetBytes ramDefault s.mss.window 0 n) ∧ (t.bank (!s.mss.runBank)).checked = false ∧
        t.bank s.mss.runBank = s.bank s.mss.runBank ∧ t.mss.runBank = s.mss.runBank) ∧
    ((s.mss.staging.offset % 65536 ≠ 0 ∨ 8388608 < s.mss.staging.offset + n) →
      ∃ t, exec .mssCommitComplete s = .next t ∧ t.now = s.now ∧ t.slices = s.slices ∧ t.params = s.params ∧ t.hws = s.hws ∧ t.loop = s.loop ∧ t.plug = s.plug ∧ t.mss.busy = .none ∧ t.mss.cmdState = 3 ∧ t.mss.staging.state = 3 ∧ t.mss.bankA = s.mss.bankA ∧ t.mss.bankB = s.mss.bankB)) ∧
  (∀ s : State, s.mssUp = true → s.mss.busy = .none → s.mss.recovery = false → s.mss.staging.open_ = true → s.mss.staging.target = 1 →
    exec .mssCloseSession s = .next (s.modMss fun m => { m with argument := 0, staging := { m.staging with open_ := false, state := 0 }, busy := .none, cmdState := 2, reason := 0, lastCode := 2 }).draw) ∧
  (∀ s : State, s.mssUp = true → s.mss.busy = .none → s.mss.recovery = false → exec .mssCheckInactiveBank s = .next (s.modMss fun m => { m with argument := 0, cmdState := 1, reason := 0, lastCode := 3, busy := .checkBank }).draw) ∧
  (∀ s : State, s.mss.busy = .checkBank →
    (s.bankFault (s.bank (!s.mss.runBank)).nor = none → ∃ t, exec .bankCheckComplete s = .next t ∧ t.now = s.now ∧ t.slices = s.slices ∧ t.params = s.params ∧ t.hws = s.hws ∧ t.loop = s.loop ∧ t.mss.busy = .none ∧ t.mss.cmdState = 2 ∧ (t.bank (!s.mss.runBank)).checked = true ∧ t.bank s.mss.runBank = s.bank s.mss.runBank) ∧
    (∀ r, s.bankFault (s.bank (!s.mss.runBank)).nor = some r → ∃ t, exec .bankCheckComplete s = .next t ∧ t.now = s.now ∧ t.slices = s.slices ∧ t.params = s.params ∧ t.hws = s.hws ∧ t.loop = s.loop ∧ t.mss.busy = .none ∧ t.mss.cmdState = 3 ∧ t.mss.reason = r ∧ (t.bank (!s.mss.runBank)).checked = false ∧
      t.mss.faultEvent = 3 ∧ t.mss.faultCode = 4)) ∧
  (∀ s : State, s.mssUp = true → s.mss.busy = .none → s.mss.recovery = false →
    ((s.bank (!s.mss.runBank)).checked = true → ∃ t, exec .mssActivateBank s = .next t ∧ t.now = s.now ∧ t.slices = s.slices ∧ t.params = s.params ∧ t.hws = s.hws ∧ t.loop = s.loop ∧ t.mss.cmdState = 2 ∧ t.mss.boot = ⟨if s.mss.trial then s.mss.boot.running else s.mss.runBank, true, !s.mss.runBank, false⟩ ∧ t.mss.faultCode = 3 ∧
      t.mss.runBank = s.mss.runBank) ∧
    ((s.bank (!s.mss.runBank)).checked = false → ∃ t, exec .mssActivateBank s = .next t ∧ t.now = s.now ∧ t.slices = s.slices ∧ t.params = s.params ∧ t.hws = s.hws ∧ t.loop = s.loop ∧ t.mss.cmdState = 3 ∧ t.mss.reason = 7 ∧ t.mss.boot = s.mss.boot)) ∧
  (∀ (t0 : Nat) (s : State), s.trialRuns = true → s.mss.confirmFrom = some t0 →
    ∃ t, exec .firmwareConfirm s = .next t ∧ t.now = max s.now (t0 + cfgSecFwConfirmS s.params * 1000000000) ∧ t.slices = s.slices ∧ t.params = s.params ∧ t.mss.boot.running = s.mss.runBank ∧ t.mss.boot.trialNamed = false ∧
      t.mss.trial = false ∧ t.mss.minEpoch = max s.mss.minEpoch s.mss.epoch ∧ t.mss.faultEvent = 3 ∧ t.mss.faultCode = 5) ∧
  (∀ s : State, s.mss.confirmFrom = none → exec .firmwareConfirm s = .next s.draw) ∧
  (∀ s : State, s.mssUp = true → s.mss.busy = .none → s.mss.recovery = false →
    (s.mayRestart = true → ∃ t, exec .mssRestart s = .next t ∧ t.now = s.now ∧ t.slices = s.slices ∧ t.params = s.params ∧ t.hws = s.hws ∧ t.loop = s.loop ∧ t.start = { s.start with commanded := true } ∧ t.mss.cmdState = 2 ∧ t.log.flushNext.isSome = true) ∧
    (s.mayRestart = false → ∃ t, exec .mssRestart s = .next t ∧ t.now = s.now ∧ t.slices = s.slices ∧ t.params = s.params ∧ t.hws = s.hws ∧ t.loop = s.loop ∧ t.start = s.start ∧ t.mss.cmdState = 3 ∧ t.mss.reason = 9 ∧ t.log = s.log)) ∧
  (∀ s : State, s.mssUp = true → exec (.eccError false) s = .next (s.modMss fun m => { m with cntEcc := satInc 255 m.cntEcc }).draw)

/-- O49. MSS_OWNER_COMMAND, MSS_ATTEST, MSS_ENROL, MSS_ISSUE_NONCE, MSS_EXPORT_ATTESTATION_KEYS, their completions, NONCE_EXPIRY, SENSOR_SAMPLE, MSS_TIME_SET and SUPERCAPACITOR_EXHAUSTED. Rules: R458, R459, R460, R461, R462, R464, R466, R474 (derived). -/
def Obligations.KeysSensorsAndTimeAreServed : Prop :=
(∀ (seed : Nat) (k : Anchor) (n : List Byte) (t0 : Nat) (s : State), s.mssUp = true → s.mss.busy = .none → s.mss.recovery = false →
    s.ownerKey = some k → s.windowBytes 0 4 = [0x48, 0x56, 0x4F, 0x43] → leNat (s.windowBytes 4 1) = 3 → leNat (s.windowBytes 6 2) ≤ 8192 → leNat (s.windowBytes 5 1) + 1 = s.mss.owners.length →
    s.mss.nonce = some (n, t0) → n = s.windowBytes 8 32 → s.now ≤ t0 + 300000000000 →
    let signed := Config.ed25519Valid k.ed (s.windowBytes 0 (40 + leNat (s.windowBytes 6 2))) (s.windowBytes (40 + (leNat (s.windowBytes 6 2) + 7) / 8 * 8) 64) && Config.mldsaValid k.ml (s.windowBytes 0 (40 + leNat (s.windowBytes 6 2))) (s.windowBytes (40 + (leNat (s.windowBytes 6 2) + 7) / 8 * 8 + 64) 3309)
    (signed = true → ∃ t, exec (.mssOwnerCommand seed) s = .next t ∧ t.now = s.now ∧ t.slices = s.slices ∧ t.params = s.params ∧ t.hws = s.hws ∧ t.loop = s.loop ∧ t.mss.cmdState = 2 ∧ t.mss.nonce = none ∧ t.mss.attest = some seed ∧ t.mss.certificate = none ∧ t.mss.owners = s.mss.owners ∧ t.mss.faultEvent = 3 ∧ t.mss.faultCode = 2) ∧
    (signed = false → ∃ t, exec (.mssOwnerCommand seed) s = .next t ∧ t.now = s.now ∧ t.slices = s.slices ∧ t.params = s.params ∧ t.hws = s.hws ∧ t.loop = s.loop ∧ t.mss.cmdState = 3 ∧ t.mss.reason = 3 ∧ t.mss.nonce = none ∧ t.mss.attest = s.mss.attest ∧ t.mss.certificate = s.mss.certificate ∧ t.mss.owners = s.mss.owners ∧ t.mss.faultCode = 7)) ∧
  (∀ (seed : Nat) (k : Anchor) (s : State), s.mssUp = true → s.mss.busy = .none → s.mss.recovery = false →
    s.ownerKey = some k → s.windowBytes 0 4 = [0x48, 0x56, 0x4F, 0x43] → 1 ≤ leNat (s.windowBytes 4 1) → leNat (s.windowBytes 4 1) ≤ 4 → leNat (s.windowBytes 6 2) ≤ 8192 → leNat (s.windowBytes 5 1) + 1 ≠ s.mss.owners.length →
    ∃ t, exec (.mssOwnerCommand seed) s = .next t ∧ t.now = s.now ∧ t.slices = s.slices ∧ t.params = s.params ∧ t.hws = s.hws ∧ t.loop = s.loop ∧ t.mss.cmdState = 3 ∧ t.mss.reason = 5 ∧ t.mss.nonce = none ∧ t.mss.attest = s.mss.attest ∧ t.mss.owners = s.mss.owners ∧ t.mss.faultCode = 7) ∧
  (∀ s : State, s.mssUp = true → s.mss.busy = .none → s.mss.recovery = false →
    (s.mss.attest = none → (∃ t, exec .mssAttest s = .next t ∧ t.now = s.now ∧ t.slices = s.slices ∧ t.params = s.params ∧ t.hws = s.hws ∧ t.loop = s.loop ∧ t.mss.reason = 10 ∧ t.mss.cmdState = 3) ∧ ∃ t, exec .mssExportAttestationKeys s = .next t ∧ t.now = s.now ∧ t.slices = s.slices ∧ t.params = s.params ∧ t.hws = s.hws ∧ t.loop = s.loop ∧ t.mss.reason = 10 ∧ t.mss.window = s.mss.window) ∧
    (s.mss.attest ≠ none → (cfgSecPolicyFlags s.params).testBit 3 = true →
      exec .mssAttest s = .next (s.modMss fun m => { m with argument := 0, cmdState := 1, reason := 0, lastCode := 7, busy := .attest (s.windowBytes 0 32) }).draw) ∧
    (∀ q, s.mss.attest = some q → ∃ t, exec .mssExportAttestationKeys s = .next t ∧ t.now = s.now ∧ t.slices = s.slices ∧ t.params = s.params ∧ t.hws = s.hws ∧ t.loop = s.loop ∧ t.mss.cmdState = 2 ∧ t.mss.lastCode = 10 ∧ t.mss.attest = some q)) ∧
  (∀ (ch : List Byte) (q : Nat) (s : State), s.mss.busy = .attest ch → s.mss.attest = some q →
    exec .attestationComplete s = .next ((s.putWindow 0 (s.report ch ++ (Config.ed25519Sign q (s.report ch)).take 64 ++ (Config.mldsaSign q (s.report ch)).take 3309 ++ List.replicate 3 0)).mssDone 7).draw) ∧
  (∀ (a p : Nat) (s : State), s.mssUp = true → s.mss.busy = .none → s.mss.recovery = false →
    (s.mss.owners = [] → exec (.mssEnrol (.udp a p)) s = .next (s.modMss fun m => { m with argument := 0, cmdState := 1, reason := 0, lastCode := 8, busy := .enrol (s.windowBytes 0 1984) }).draw) ∧
    (s.mss.owners ≠ [] → ∃ t, exec (.mssEnrol (.udp a p)) s = .next t ∧ t.now = s.now ∧ t.slices = s.slices ∧ t.params = s.params ∧ t.hws = s.hws ∧ t.loop = s.loop ∧ t.mss.reason = 1 ∧ t.mss.owners = s.mss.owners) ∧
    (s.mss.owners = [] → ∃ t, exec (.mssEnrol (.hawser p)) s = .next t ∧ t.now = s.now ∧ t.slices = s.slices ∧ t.params = s.params ∧ t.hws = s.hws ∧ t.loop = s.loop ∧ t.mss.reason = 2 ∧ t.mss.owners = [])) ∧
  (∀ (key : List Byte) (seed : Nat) (s : State), s.mss.busy = .enrol key →
    ∃ t, exec (.enrolmentComplete seed) s = .next t ∧ t.now = s.now ∧ t.slices = s.slices ∧ t.params = s.params ∧ t.hws = s.hws ∧ t.loop = s.loop ∧ t.mss.busy = .none ∧ t.mss.cmdState = 2 ∧ t.mss.owners = [⟨key.take 32, key.drop 32⟩] ∧ t.mss.attest = some seed ∧ t.mss.faultEvent = 3 ∧ t.mss.faultCode = 1) ∧
  (∀ s : State, s.mss.busy = .none → (∀ seed, exec (.enrolmentComplete seed) s = .next s.draw) ∧ exec .attestationComplete s = .next s.draw) ∧
  (∀ (fr : List Byte) (s : State), s.mssUp = true → s.mss.busy = .none → s.mss.recovery = false → fr.length = 32 → Memory.wf ramDefault s.mss.window = true →
    ∃ t, exec (.mssIssueNonce fr) s = .next t ∧ t.now = s.now ∧ t.slices = s.slices ∧ t.params = s.params ∧ t.hws = s.hws ∧ t.loop = s.loop ∧ t.mss.nonce = some (fr, s.now) ∧ t.windowBytes 0 32 = fr ∧ t.mss.cmdState = 2 ∧ Memory.wf ramDefault t.mss.window = true) ∧
  (∀ (x : List Byte × Nat) (s : State), s.mss.nonce = some x → exec .nonceExpiry s = .next ((s.advance (x.2 + 300000000000)).modMss fun m => { m with nonce := none }).draw) ∧
  (∀ s : State, s.mss.nonce = none → exec .nonceExpiry s = .next s.draw) ∧
  (∀ (x : Readings) (s : State), s.mssUp = true →
    ∃ t, exec (.sensorSample x) s = .next t ∧ t.now = s.now ∧ t.slices = s.slices ∧ t.params = s.params ∧ t.hws = s.hws ∧ t.loop = s.loop ∧ t.mss.temps = x.temps ∧ t.mss.rails = x.rails ∧ t.mss.humidity = x.humidity ∧ t.mss.acc = x.acc ∧ (∀ k : Fin 24, t.mss.tempPeaks[k] = if s.mss.sampled then max s.mss.tempPeaks[k] x.temps[k] else x.temps[k]) ∧
      t.mss.humidityPeak = (if s.mss.sampled then max s.mss.humidityPeak x.humidity else x.humidity) ∧ t.mss.caseHigh = (decide (850 < x.temps[(22 : Fin 24)]) || decide (850 < x.temps[(23 : Fin 24)])) ∧ t.mss.window = s.mss.window ∧ t.mss.owners = s.mss.owners) ∧
  (∀ (a p v : Nat) (s : State), s.mssUp = true →
    ((cfgSecPolicyFlags s.params).testBit 1 = true → s.calendarChannel = true → s.mss.stepped = true → s.isMaster = false → ∃ t, exec (.mssTimeSet (.udp a p) v) s = .next t ∧ t.now = s.now ∧ t.slices = s.slices ∧ t.params = s.params ∧ t.hws = s.hws ∧ t.loop = s.loop ∧ t.mss.cal = s.mss.cal ∧ t.mss.faultEvent = 2 ∧ t.mss.faultCode = 3) ∧
    ((cfgSecPolicyFlags s.params).testBit 1 = true → s.calendarChannel = true → (s.mss.stepped = false ∨ s.isMaster = true) → ∃ t, exec (.mssTimeSet (.udp a p) v) s = .next t ∧ t.now = s.now ∧ t.slices = s.slices ∧ t.params = s.params ∧ t.hws = s.hws ∧ t.loop = s.loop ∧ t.mss.cal.invalid = false ∧ t.mss.cal.tai = (s.mss.timeSetLo + v % 65536 * 2 ^ 32) % 2 ^ 48 ∧ t.mss.cal.ns = 0 ∧ t.mss.cal.at_ = s.now ∧
      t.mss.faultEvent = 2 ∧ t.mss.faultCode = 3) ∧
    ((cfgSecPolicyFlags s.params).testBit 1 = false → ∃ t, exec (.mssTimeSet (.udp a p) v) s = .next t ∧ t.now = s.now ∧ t.slices = s.slices ∧ t.params = s.params ∧ t.hws = s.hws ∧ t.loop = s.loop ∧ t.mss.cal = s.mss.cal ∧ t.mss.faultEvent = 3 ∧ t.mss.faultCode = 8)) ∧
  (∀ s : State, exec .supercapacitorExhausted s = .next ((s.modMss fun m => { m with cal := { m.cal with invalid := true, lost := true } }).modLog fun l => { l with lastWord := none }).draw)

/-- O50. RECORD_TAKE, FLUSH_START, FLUSH_INTERVAL_EXPIRY, LOG_FLUSH_NOW, FLUSH_COMPLETE, RECORDER_TAKING_STOP, RECORDER_START, MSS_ISLAND_RESTART_RECOVERY and JOURNAL_MIRROR_RECEIVE; INTAKE_OFFER of a teach entry. Rules: R26, R476, R477, R479, R480, R481, R482, R489, R495, R498 (derived). -/
def Obligations.RecorderTakesAndFlushes : Prop :=
  (∀ (q : Fin 18) (x : Intake) (rest : List Intake) (s : State), s.takes = true → s.nextQueue = some q → (s.intake q).entries = x :: rest → x.kind = 1 → s.log.fill + 64 ≤ bufferSize →
    ∃ t b, exec .recordTake s = .next t ∧ t.now = s.now ∧ t.log.buffer = s.log.buffer ++ [⟨s.log.next, false, q.val, b⟩] ∧ b.length = 64 ∧ b.take 4 = leBytes 4 s.log.next ∧ t.log.next = s.log.next + 1 ∧ t.log.turn = (q.val + 1) % 18 ∧
      ((q ≠ 17 ∨ x.lost = 0) → (t.intake q).entries = rest) ∧ t.params = s.params ∧ t.hws = s.hws ∧ ∀ i : Fin 16, t.slices[i].portal = s.slices[i].portal) ∧
  (∀ s : State, s.takes = false → exec .recordTake s = .next s.draw) ∧
  (∀ (tr : Nat) (s : State), s.mssUp = true → s.log.flushNext = some tr → s.log.flush = none →
    exec .flushStart s = .next (s.modLog fun l => { l with flush := some ⟨tr, s.now, l.next - 1⟩, flushNext := none, lastFlush := s.now }).draw) ∧
  (∀ s : State, s.log.flushNext = none → exec .flushStart s = .next s.draw) ∧
  (∀ s : State, s.mssUp = true → s.log.recording = true →
    exec .flushIntervalExpiry s = .next ((s.advance (s.log.lastFlush + ms (cfgLogFlushInterval s.params * 1000))).modLog fun l => { l with flushNext := some (l.flushNext.getD 4) }).draw) ∧
  (∀ s : State, s.mssUp = true → exec .logFlushNow s = .next (s.modLog fun l => { l with flushNext := some (l.flushNext.getD 5) }).draw) ∧
  (∀ (bad : Nat) (f : Flush) (s : State), s.mssUp = true → s.log.flush = some f → s.log.buffer.Pairwise (fun a b => a.seq ≤ b.seq) → s.log.ledgerFailed = false → s.log.journalFailed = false → s.log.ledgerFull = false → s.log.journalFull = false →
    let due := s.log.buffer.filter fun r => decide (r.seq ≤ f.upTo)
    (s.log.ledger.length + (due.filter fun r => r.ledger).length < (262144 - min 262144 (s.log.badBlocks + bad)) * 64 * 16) → (s.log.journal.length + (due.filter fun r => !r.ledger).length < journalCapacity) →
    ∃ t, exec (.flushComplete bad) s = .next t ∧ t.now = s.now ∧ t.slices = s.slices ∧ t.log.buffer = s.log.buffer.filter (fun r => decide (f.upTo < r.seq)) ∧ t.log.ledger = s.log.ledger ++ due.filter (fun r => r.ledger) ∧
      t.log.journal = s.log.journal ++ due.filter (fun r => !r.ledger) ∧ t.log.flush = none ∧ t.log.flushTrigger = f.trigger ∧ t.log.bufferFull = false ∧
      (s.log.s ≤ t.log.s ∧ (∀ n, s.log.s < n → n ≤ t.log.s → t.log.committed n = true) ∧ (t.log.s = s.log.s + s.log.next ∨ t.log.committed (t.log.s + 1) = false)) ∧
      t.log.control.valid = true ∧ t.log.control.s = t.log.s ∧ t.log.control.ledgerAt = t.log.programmed ∧ t.log.control.journalAt = t.log.journal.length ∧ t.log.tail[t.log.control.tailAt] = t.log.ledger.drop t.log.programmed ∧
      t.log.cntFlushes = satInc 255 s.log.cntFlushes) ∧
  (∀ (bad : Nat) (s : State), s.log.flush = none → exec (.flushComplete bad) s = .next s.draw) ∧
  (∀ s : State, s.mssUp = true → (s.start.warning = true ∨ s.start.lost = true) →
    exec .recorderTakingStop s = .next ((s.advance (s.start.warningAt + 20000000)).modLog fun l => { l with stopped := true, flushNext := some (l.flushNext.getD 2) }).draw) ∧
  (∀ s : State, s.mssUp = true → s.log.recording = false → s.log.control.valid = true →
    ∃ t, exec .recorderStart s = .next t ∧ t.now = s.now ∧ t.slices = s.slices ∧ t.params = s.params ∧ t.hws = s.hws ∧ t.loop = s.loop ∧ t.log.recording = true ∧ t.log.ledgerFailed = false ∧ t.log.journalFailed = false ∧ t.log.s = max s.log.s s.log.control.s ∧ t.log.next = max s.log.next (max s.log.written (max s.log.s s.log.control.s) + 1) ∧
      t.log.ledger = s.log.ledger.take s.log.programmed ++ (if s.log.programmed = s.log.control.ledgerAt then s.log.tail[s.log.control.tailAt] else []) ∧
      t.log.control.flushState = .running ∧ t.log.unclean = decide (s.log.control.flushState ≠ .complete) ∧ (s.log.control.flushState = .running → t.log.faultEvent = 4 ∧ t.log.faultCode = 1) ∧
      (s.log.control.flushState = .started → t.log.faultEvent = 4 ∧ t.log.faultCode = 2) ∧ (s.log.control.flushState = .complete → t.log.faultEvent = s.log.faultEvent)) ∧
  (∀ (l : List Nat) (s : State), s.mssUp = true → s.log.recording = false →
    ∃ t, exec (.mssIslandRestartRecovery l) s = .next t ∧ t.now = s.now ∧ t.slices = s.slices ∧ t.params = s.params ∧ t.hws = s.hws ∧ t.loop = s.loop ∧ t.log.buffer = s.log.buffer.filter (fun r => decide (r.seq ∉ l)) ∧
      t.log.discarded = s.log.discarded + (s.log.buffer.filter fun r => decide (r.seq ∈ l)).length ∧ (t.log.buffer ≠ [] → t.log.flushNext.isSome = true)) ∧
  (∀ (b : List Byte) (s : State), s.takes = true → b.length = 64 → crcGood b = true → s.log.fill + 64 ≤ bufferSize →
    ∃ t b', exec (.journalMirrorReceive [b]) s = .next t ∧ t.now = s.now ∧ t.slices = s.slices ∧ t.params = s.params ∧ t.hws = s.hws ∧ t.loop = s.loop ∧ t.log.buffer = s.log.buffer ++ [⟨s.log.next, false, 17, b'⟩] ∧ b'.take 4 = leBytes 4 s.log.next ∧ b'.length = 64 ∧ t.log.next = s.log.next + 1) ∧
  (∀ (b : List Byte) (s : State), (s.takes = false ∨ crcGood b = false) → exec (.journalMirrorReceive [b]) s = .next s.draw) ∧
  (∀ s : State, s.mssUp = true → s.log.recording = false → s.log.control.valid = false →
    ∃ t, exec .recorderStart s = .next t ∧ t.now = s.now ∧ t.slices = s.slices ∧ t.params = s.params ∧ t.hws = s.hws ∧ t.loop = s.loop ∧ t.log.recording = true ∧ t.log.journalFailed = true ∧ t.log.journalCause = 3 ∧ t.log.ledgerFailed = false) ∧
  (∀ (q : Fin 18) (x : Intake) (rest : List Intake) (s : State), s.takes = true → s.nextQueue = some q → (s.intake q).entries = x :: rest → x.kind = 2 → s.log.ledgerFailed = false → s.log.fill + 256 ≤ bufferSize →
    ∃ t b, exec .recordTake s = .next t ∧ t.now = s.now ∧ t.log.buffer = s.log.buffer ++ [⟨s.log.next, true, q.val, b⟩] ∧ b.length = 256 ∧ b.take 5 = leBytes 4 s.log.next ++ [1] ∧ t.log.next = s.log.next + 1 ∧ t.log.turn = (q.val + 1) % 18 ∧
      t.params = s.params ∧ t.hws = s.hws ∧ ∀ i : Fin 16, t.slices[i].portal = s.slices[i].portal) ∧
  (∀ (q : Fin 18) (a : Fin 48) (r : AxisRecord) (x : Intake) (rest : List Intake) (s : State), s.takes = true → s.nextQueue = some q → (s.intake q).entries = x :: rest → x.kind = 3 → x.axis = some r → r.axis = a.val → s.log.journalFailed = false → s.log.fill ≤ bufferSize →
    ∃ t, exec .recordTake s = .next t ∧ t.now = s.now ∧ t.log.buffer = s.log.buffer ∧ t.log.next = s.log.next ∧ t.log.turn = (q.val + 1) % 18 ∧
      t.log.teachCopy a = some (((s.log.teachCopy a).map fun y => y.1).getD 0 + 1, r) ∧ (∀ b : Fin 48, b ≠ a → t.log.teach[b] = s.log.teach[b]) ∧ t.params = s.params ∧ t.hws = s.hws ∧ ∀ i : Fin 16, t.slices[i].portal = s.slices[i].portal) ∧
  (∀ (q : Fin 18) (x : Intake) (s : State), (q.val < 16 → q.val < s.sliceCount) → (s.intake q).entries.length < 32 → x.kind = 3 →
    exec (.intakeOffer q x) s = .next (s.setIntake q { s.intake q with entries := (s.intake q).entries ++ [{ x with lost := 0 }] }).draw)

/-- O51. LOG_SNAPSHOT_OPEN, LOG_SNAPSHOT_CLOSE, LOG_READ_SELECT, READ_WINDOW_READY, LOG_CLEAR_LAST_WORD and STORE_FAILURE. Rules: R491, R492, R493, R494, R496, R499 (derived). -/
def Obligations.RecorderStoresAreReadAndFail : Prop :=
  (∀ (h : Fin 4) (s : State), s.mssUp = true →
    exec (.logSnapshotOpen h) s = .next (s.modHandle h fun x => { x with open_ := true, s := s.log.s, ledger := (s.log.ledger.filter fun r => decide (r.seq ≤ s.log.s)).length, journal := (s.log.journal.filter fun r => decide (r.seq ≤ s.log.s)).length }).draw ∧
    exec (.logSnapshotClose h) s = .next (s.modHandle h fun _ => Handle.reset).draw) ∧
  (∀ (h : Fin 4) (v : Nat) (s : State), s.mssUp = true →
    exec (.logReadSelect h v) s = .next (s.modHandle h fun x => { x with select := v % 2 ^ 29, waiting := true, ready := false, outside := false, readError := false, crcBad := false }).draw) ∧
  (∀ (h : Fin 4) (u : Bool) (r : LogRec) (s : State), s.mssUp = true → s.log.handles[h].waiting = true → s.log.handles[h].open_ = true →
    (s.log.handles[h].select.testBit 28 = true → s.log.handles[h].select % 2 ^ 28 < s.log.handles[h].journal → s.log.journal[s.log.handles[h].select % 2 ^ 28]? = some r →
      exec (.readWindowReady h u) s = .next (s.modHandle h fun x => { x with waiting := false, ready := true, crcBad := !crcGood r.bytes, window := (r.bytes ++ List.replicate 256 0).take 256 }).draw) ∧
    (s.log.handles[h].select.testBit 28 = false → s.log.handles[h].select % 2 ^ 28 < s.log.handles[h].ledger → s.log.ledger[s.log.handles[h].select % 2 ^ 28]? = some r →
      exec (.readWindowReady h false) s = .next (s.modHandle h fun x => { x with waiting := false, ready := true, crcBad := !crcGood r.bytes, window := (r.bytes ++ List.replicate 256 0).take 256 }).draw) ∧
    (s.log.handles[h].select.testBit 28 = false → s.log.handles[h].select % 2 ^ 28 < s.log.handles[h].ledger →
      exec (.readWindowReady h true) s = .next ((s.modHandle h fun x => { x with waiting := false, ready := true, readError := true, window := (List.range 256).map fun k => Config.freeByte k s.freeCount }).modLog fun l => { l with cntReadErrors := satInc 255 l.cntReadErrors }).draw) ∧
    ((if s.log.handles[h].select.testBit 28 then s.log.handles[h].journal else s.log.handles[h].ledger) ≤ s.log.handles[h].select % 2 ^ 28 →
      exec (.readWindowReady h u) s = .next (s.modHandle h fun x => { x with waiting := false, ready := true, outside := true, window := List.replicate 256 0 }).draw)) ∧
  (∀ (h : Fin 4) (u : Bool) (s : State), s.mssUp = true → s.log.handles[h].waiting = true → s.log.handles[h].open_ = false →
    exec (.readWindowReady h u) s = .next (s.modHandle h fun x => { x with waiting := false, ready := true, outside := true, window := List.replicate 256 0 }).draw) ∧
  (∀ (h : Fin 4) (u : Bool) (s : State), s.log.handles[h].waiting = false → exec (.readWindowReady h u) s = .next s.draw) ∧
  (∀ s : State, s.mssUp = true → exec .logClearLastWord s = .next (s.modLog fun l => { l with lastWord := none }).draw) ∧
  (∀ (c : Nat) (s : State), s.mssUp = true → s.log.ledgerFailed = false → s.log.journalFailed = false →
    (∃ t, exec (.storeFailure false c) s = .next t ∧ t.now = s.now ∧ t.slices = s.slices ∧ t.params = s.params ∧ t.hws = s.hws ∧ t.loop = s.loop ∧ t.log.ledgerFailed = true ∧ t.log.ledgerCause = c % 16 ∧ t.log.journalFailed = false ∧ t.log.faultEvent = 0 ∧ t.log.faultCode = 1 ∧ t.log.lastWord = s.log.lastWord ∧ t.log.buffer = s.log.buffer) ∧
    (s.log.ledgerFull = false → ∃ t, exec (.storeFailure true c) s = .next t ∧ t.now = s.now ∧ t.slices = s.slices ∧ t.params = s.params ∧ t.hws = s.hws ∧ t.loop = s.loop ∧ t.log.journalFailed = true ∧ t.log.journalCause = c % 16 ∧ t.log.ledgerFailed = false ∧ t.log.faultEvent = 0 ∧ t.log.faultCode = 2 ∧
      t.log.lastWord = s.log.lastWord ∧ t.log.buffer = s.log.buffer)) ∧
  (∀ (c : Nat) (s : State), s.mssUp = true → s.log.ledgerFailed = true → s.log.journalFailed = false →
    ∃ t w, exec (.storeFailure true c) s = .next t ∧ t.now = s.now ∧ t.slices = s.slices ∧ t.params = s.params ∧ t.log.ledgerFailed = true ∧ t.log.journalFailed = true ∧ t.log.faultEvent = 0 ∧ t.log.faultCode = 3 ∧ t.log.faultDetail = s.log.ledgerCause + 16 * (c % 16) ∧
      t.log.lastWord = some w ∧ w.length = 256 ∧ w.take 2 = leBytes 2 0x574C) ∧
  (∀ (c : Nat) (s : State), (s.log.ledgerFailed = true → exec (.storeFailure false c) s = .next s.draw) ∧ (s.log.journalFailed = true → exec (.storeFailure true c) s = .next s.draw))

/-- O52. X1_QUALIFIED starts a module in reset, BOOT_BANK_SELECT chooses the bank or recovery, CONFIGURATION_HANDOVER gives every block its parameters or none. Rules: R24, R292, R443, R447, R503, R507, R508, R509, R513 (derived). -/
def Obligations.StartRunsToTheHandover : Prop :=
  (∀ (dv : Nat) (s : State), 168 ≤ dv → s.start.stage = .off →
    ∃ t, exec (.x1Qualified dv) s = .next t ∧ t.now = s.now ∧ t.start.stage = .qualified ∧ t.start.qualified = true ∧ t.start.x1 = dv ∧ t.start.starts = s.start.starts + 1 ∧ t.start.kind = s.start.kind ∧
      t.loop.latched = false ∧ t.loop.startAt = s.now ∧ t.loop.sw1 = s.loop.sw1 ∧ t.loop.sw2 = s.loop.sw2 ∧ t.slices = s.slices ∧ t.params = s.params ∧ t.hws = s.hws ∧ t.mss = { s.mss with onFrom := some s.now } ∧ t.log = s.log ∧ t.plug = s.plug ∧
      ∀ k : Fin 34, if 16 ≤ k.val ∧ k.val ≠ 32 ∧ s.hasIsland k then t.islands[k].running = true ∧ t.islands[k].cause = s.islands[k].cause else t.islands[k] = s.islands[k]) ∧
  (∀ (dv : Nat) (s : State), dv < 168 ∨ s.start.stage ≠ .off → exec (.x1Qualified dv) s = .next s.draw) ∧
  (∀ s : State, s.start.stage = .qualified →
    let r := s.mss.boot
    let fresh := r.trialNamed && !r.trialStarted
    let b := if fresh then r.trialBank else r.running
    (s.bankGood b = true ∨ s.bankGood (!b) = true →
      ∃ t, exec .bootBankSelect s = .next t ∧ t.now = s.now ∧ t.slices = s.slices ∧ t.plug = s.plug ∧ t.start.stage = .booted ∧ t.mss.runBank = (if s.bankGood b then b else !b) ∧ t.mss.trial = (s.bankGood b && fresh) ∧
        t.mss.boot = (if fresh then { r with trialStarted := true } else { r with trialNamed := false, trialStarted := false }) ∧ t.mss.recovery = false ∧
        ∀ k : Fin 34, if (k.val < 16 ∨ k.val = 32) ∧ s.hasIsland k then t.islands[k].running = true else t.islands[k] = s.islands[k]) ∧
    (s.bankGood b = false → s.bankGood (!b) = false →
      ∃ t, exec .bootBankSelect s = .next t ∧ t.carSide = s.carSide ∧ t.start.stage = .recovery ∧ t.mss.recovery = true ∧ t.islands = s.islands)) ∧
  (∀ s : State, s.start.stage ≠ .qualified → exec .bootBankSelect s = .next s.draw) ∧
  (∀ (p : Mem) (v : Nat) (dg : List Byte) (s : State), s.start.stage = .loading → s.cfg.outcome = 2 ∨ s.cfg.outcome = 3 → s.cfg.loaded = some (p, v, dg) →
    ∃ t, exec .configurationHandover s = .next t ∧ t.now = s.now ∧ t.start.stage = .running ∧ t.configured = true ∧ t.params = p ∧ t.cfg.state = s.cfg.outcome ∧ t.cfg.version = v ∧ t.cfg.digest = dg ∧ t.cfg.loaded = none ∧
      t.cfg.loadEvents = [] ∧ (∀ x : Nat × Nat, s.cfg.loadEvents.getLast? = some x → t.cfg.faultEvent = x.1 ∧ t.cfg.faultCode = x.2) ∧ t.ina.handoverAt = some s.now ∧ t.twn.handoverAt = some s.now ∧ (∀ g : Fin 2, t.groups[g].lfsr = cfgBlyLfsrSeed t.params g.val) ∧ t.islands = s.islands ∧ t.hws = s.hws ∧ t.spl = { s.spl with passDone := true }) ∧
  (∀ s : State, s.start.stage = .loading → s.cfg.outcome = 4 →
    ∃ t, exec .configurationHandover s = .next t ∧ t.now = s.now ∧ t.start.stage = .unconfigured ∧ t.configured = false ∧ t.params = [] ∧ t.cfg.state = 4 ∧ t.cfg.version = 0 ∧ (∀ x : Nat × Nat, s.cfg.loadEvents.getLast? = some x → t.cfg.faultEvent = x.1 ∧ t.cfg.faultCode = x.2) ∧ (∀ i : Fin 16, t.slices[i] = { s.slices[i] with iq := { s.slices[i].iq with causes := 0 } }) ∧ t.groups = s.groups ∧ t.loop = s.loop ∧ t.hws = s.hws ∧ t.islands = s.islands) ∧
  (∀ s : State, s.start.stage ≠ .loading → exec .configurationHandover s = .next s.draw)

/-- O53. ISLAND_BROWN_OUT, ISLAND_SUPERVISOR_RESET, LOCKSTEP_MISMATCH, ECC_ERROR and MSS_WATCHDOG_EXPIRY stop one island; ISLAND_RESTART brings it back or not. Rules: R20, R28, R223, R224, R451, R452, R506, R513, R514, R515, R516 (derived). -/
def Obligations.ResetIslandsLoseTheirBlocksOnly : Prop :=
  (∀ (k : Fin 34) (c : Instr) (cause : Nat) (s : State), s.islands[k].running = true → s.start.stage = .running →
    ((c = .islandBrownOut k ∧ cause = 1) ∨ (c = .islandSupervisorReset k ∧ k.val < 16 ∧ cause = 3) ∨ (c = .islandSupervisorReset k ∧ k.val = 32 ∧ cause = 2) ∨
      (c = .lockstepMismatch ∧ k.val = 33 ∧ cause = 2) ∨ (c = .mssWatchdogExpiry ∧ k.val = 33 ∧ cause = 3) ∨ (c = .eccError true ∧ k.val = 33 ∧ cause = 4)) →
    ∃ t, exec c s = .next t ∧ t.now = s.now ∧ t.start = s.start ∧ t.params = s.params ∧ t.plug = s.plug ∧ t.loop = s.loop ∧ t.groups = s.groups ∧ t.cfg.state = s.cfg.state ∧ t.sliceRegions = s.sliceRegions ∧ t.hwsRegion = s.hwsRegion ∧
      t.splRegion = s.splRegion ∧ t.mssRegion = s.mssRegion ∧ t.twn.auth = s.twn.auth ∧ t.twn.gate = s.twn.gate ∧
      t.islands[k] = { s.islands[k] with running := false, cause := cause, resets := satInc 255 s.islands[k].resets, downAt := some s.now } ∧
      (∀ j : Fin 34, j ≠ k → t.islands[j] = s.islands[j]) ∧
      (∀ i : Fin 16, i.val ≠ k.val → i.val + 16 ≠ k.val → t.slices[i] = s.slices[i]) ∧
      (∀ i : Fin 16, i.val = k.val → t.slices[i].held = s.slices[i].held ∧ t.slices[i].portal.doorCycles = s.slices[i].held.doorCycles ∧ (∀ a : Fin 3, t.slices[i].sw.tether.axes[a].pos = s.slices[i].sw.tether.axes[a].pos ∧ t.slices[i].sw.tether.axes[a].valid = s.slices[i].sw.tether.axes[a].valid) ∧ t.slices[i].waitsResume = true) ∧
      (∀ i : Fin 16, i.val + 16 = k.val → t.slices[i] = s.slices[i].powerReset (s.env i) ∧ t.slices[i].portal = s.slices[i].portal) ∧
      (k.val ≠ 32 → t.hws = s.hws ∧ t.ina = s.ina ∧ t.spl = s.spl ∧ t.twn = s.twn ∧ t.node = s.node) ∧
      (k.val = 32 → t.heldTcyc = s.tcycCode ∧ t.hws.clock.read s.now = s.hws.clock.read s.now ∧ t.hws.position = 0 ∧ t.ina.st = .offline ∧ t.node = NodeEvents.reset) ∧
      (k.val ≠ 33 → t.mss = s.mss ∧ t.log = s.log) ∧
      (k.val = 33 → t.mss.boot = s.mss.boot ∧ t.mss.bankA.nor = s.mss.bankA.nor ∧ t.mss.bankB.nor = s.mss.bankB.nor ∧ t.mss.bankA.version = 0 ∧ t.mss.bankB.version = 0 ∧ t.mss.cal = { s.mss.cal with supercap := 0 } ∧ t.mss.argument = 0 ∧ t.mss.temps = State.reset.mss.temps ∧ t.mss.impact = State.reset.mss.impact ∧ t.mss.staging.open_ = s.mss.staging.open_ ∧ t.mss.staging.bytes = s.mss.staging.bytes ∧ t.mss.nonce = none)) ∧
  (∀ (k : Fin 34) (s : State), s.islands[k].running = false → exec (.islandBrownOut k) s = .next s.draw ∧ exec (.islandSupervisorReset k) s = .next s.draw ∧
    (k.val = 33 → exec .lockstepMismatch s = .next s.draw ∧ exec .mssWatchdogExpiry s = .next s.draw ∧ exec (.eccError true) s = .next s.draw)) ∧
  (∀ (k : Fin 34) (s : State), s.islands[k].running = true → s.start.stage = .booted ∨ s.start.stage = .loading →
    ∃ t, exec (.islandBrownOut k) s = .next t ∧ t.start.stage = .qualified ∧ t.cfg.state = 0 ∧ t.islands[33].running = true ∧ t.islands[32].running = false ∧ ∀ i : Fin 16, t.islands[i.val].running = false) ∧
  (∀ s : State, s.mssUp = true → exec (.eccError false) s = .next (s.modMss fun m => { m with cntEcc := satInc 255 m.cntEcc }).draw) ∧
  (∀ (k : Fin 34) (ok : Bool) (s : State), s.islands[k].running = true ∨ s.islands[k].downAt = none ∨ s.start.stage = .off → exec (.islandRestart k ok) s = .next s.draw) ∧
  (∀ (k : Fin 34) (at_ : Nat) (ok : Bool) (s : State), s.islands[k].running = false → s.islands[k].downAt = some at_ → s.start.stage ≠ .off → s.hasIsland k = true →
    (ok = true ∨ 16 ≤ k.val → k.val ≠ 32 ∨ ok = true →
      ∃ t, exec (.islandRestart k ok) s = .next t ∧ t.now = s.now ∧ t.slices = s.slices ∧ t.params = s.params ∧ t.plug = s.plug ∧ t.islands[k].running = true ∧ t.islands[k].downAt = none ∧ (∀ c ∈ t.stalled, c ∈ s.stalled ∧ c.island.val ≠ k.val ∧ waiterIsland c.waiter ≠ k) ∧ (∀ j : Fin 34, j ≠ k → t.islands[j] = s.islands[j]) ∧
        (k.val = 33 → t.mss.paramFallback = (s.mss.paramFallback || !ok)) ∧ (k.val = 32 → t.ina.handoverAt = some s.now)) ∧
    (ok = false → k.val < 16 ∨ k.val = 32 → exec (.islandRestart k ok) s = .next (s.modIsland k fun x => { x with cause := 5, downAt := none }).draw))

/-- O54. POWER_FAIL_WARNING and its withdrawal change no output; SUPPLY_LOST opens the loop, SHUTDOWN_RELEASE lets go of every output, POWER_FAIL_RESET resets the module. Rules: R81, R257, R395, R479, R481, R504, R505, R512, R513, R514, R516 (derived). -/
def Obligations.SupplyLossRunsItsOrder : Prop :=
  (∀ (dv : Nat) (s : State), s.start.qualified = true → s.start.warning = false → dv < 168 →
    ∃ t, exec (.powerFailWarning dv) s = .next t ∧ t.now = s.now ∧ t.carSide = s.carSide ∧ t.twn = s.twn ∧ t.hws = s.hws ∧ t.start = { s.start with x1 := dv, warning := true, warningAt := s.now } ∧
      (s.mssUp = true → s.log.recording = true → (s.log.journalFailed = false → t.log.control.flushState = .started) ∧ t.log.flushNext = some (s.log.flushNext.getD 2)) ∧ (s.mssUp = false ∨ s.log.recording = false → t.log = s.log)) ∧
  (∀ (dv : Nat) (s : State), s.start.qualified = false ∨ s.start.warning = true ∨ 168 ≤ dv → exec (.powerFailWarning dv) s = .next s.draw) ∧
  (∀ (dv : Nat) (s : State), s.start.warning = true → s.start.lost = false → 168 ≤ dv →
    ∃ t, exec (.powerFailWarningWithdrawn dv) s = .next t ∧ t.now = s.now ∧ t.carSide = s.carSide ∧ t.twn = s.twn ∧ t.hws = s.hws ∧ t.start = { s.start with x1 := dv, warning := false } ∧
      (s.mssUp = true → s.log.recording = true → (s.log.journalFailed = false → t.log.control.flushState = .running) ∧ t.log.stopped = false) ∧ (s.mssUp = false ∨ s.log.recording = false → t.log = s.log)) ∧
  (∀ (dv : Nat) (s : State), s.start.warning = false ∨ s.start.lost = true ∨ dv < 168 → exec (.powerFailWarningWithdrawn dv) s = .next s.draw) ∧
  (∀ s : State, s.start.warning = true → s.start.lost = false → s.start.stage = .running ∨ s.start.stage = .unconfigured →
    ∃ t, exec .supplyLost s = .next t ∧ t.now = max s.now (s.start.warningAt + 11000000) ∧ t.start = { s.start with lost := true, qualified := false } ∧ t.loop.ch1 = false ∧ t.loop.ch2 = false ∧ t.loop.sw1 = false ∧ t.loop.sw2 = false ∧ t.loop.conducting = false ∧
      t.loop.latched = s.loop.latched ∧ t.slices = s.slices ∧ t.params = s.params ∧ t.hws = s.hws ∧ t.twn = { s.twn with resign := t.twn.resign } ∧ (s.hawserRuns = true → t.twn.resign = true)) ∧
  (∀ s : State, s.start.warning = true → s.start.lost = false → s.start.stage ≠ .running → s.start.stage ≠ .unconfigured →
    ∃ t, exec .supplyLost s = .next t ∧ t.start.stage = .off ∧ t.start.kind = (if s.start.commanded then 3 else 2) ∧ t.params = [] ∧ (∀ k : Fin 34, t.islands[k].running = false)) ∧
  (∀ s : State, s.start.warning = false ∨ s.start.lost = true → exec .supplyLost s = .next s.draw) ∧
  (∀ s : State, s.start.released = false → (s.start.lost = true ∨ (s.start.commanded = true ∧ s.flushed = true)) →
    ∃ t, exec .shutdownRelease s = .next t ∧ t.now = (if s.start.lost then max s.now (s.start.warningAt + 52000000) else s.now) ∧ t.start = { s.start with released := true, releasedAt := t.now } ∧ t.twn.auth.out = false ∧ t.twn.auth.hold = false ∧ t.twn.hitch = false ∧
      (s.gateSafe → s.twn.auth.readback = s.twn.auth.out → t.twn.gate = false) ∧ (∀ c : Fin 2, t.hws.relays[c].drive = false) ∧ t.loop = s.loop ∧ t.params = s.params ∧ t.plug = s.plug) ∧
  (∀ s : State, s.start.released = true ∨ (s.start.lost = false ∧ (s.start.commanded = false ∨ s.flushed = false)) → exec .shutdownRelease s = .next s.draw) ∧
  (∀ s : State, s.start.released = true →
    let commanded := s.start.commanded && !s.start.lost
    ∃ t, exec .powerFailReset s = .next t ∧ t.now = max s.now (s.start.releasedAt + 3000000) ∧ t.start.stage = (if commanded then .qualified else .off) ∧ t.start.kind = (if commanded then 3 else 2) ∧ t.start.lost = false ∧ t.start.warning = false ∧ t.start.released = false ∧
      t.slices = State.reset.slices ∧ t.params = [] ∧ t.hws = { Hawser.reset with clock := ⟨0, t.now, 0⟩ } ∧ t.twn = Twin.reset ∧ t.spl = Splice.reset ∧ t.node = NodeEvents.reset ∧ t.sliceRegions = State.reset.sliceRegions ∧
      t.plug = s.plug ∧ t.mss.boot = s.mss.boot ∧ t.mss.bankA.nor = s.mss.bankA.nor ∧ t.mss.bankB.nor = s.mss.bankB.nor ∧ t.mss.bankA.version = 0 ∧ t.mss.bankB.version = 0 ∧ t.mss.cal = { s.mss.cal with supercap := 0 } ∧ t.log.ledger = s.log.ledger ∧ t.log.journal = s.log.journal ∧ t.log.lastWord = s.log.lastWord ∧ t.log.buffer = [] ∧
      t.loop.latched = (commanded && s.loop.latched) ∧ t.loop.sw1 = false ∧ t.loop.sw2 = false ∧ t.cfg.told = s.cfg.told ∧ t.small = s.small) ∧
  (∀ s : State, s.start.released = false → exec .powerFailReset s = .next s.draw)

/-- O55. EVENT_DELIVERY sets the pending bit and fills the local queue; NODE_EVENT_POP and NODE_REMOTE_POP take the heads; COUNTER_READ_CLEAR and REGISTER_WRITE act on one register. Rules: R11, R12, R14, R517, R519, R520, R521, R526, R527, R528 (derived). -/
def Obligations.EventsAreDeliveredAndPopped : Prop :=
  (∀ (q : Fin 18) (x : Ev) (rest : List Ev) (s : State), (s.intake q).undelivered = x :: rest → s.hawserUp = true → s.eventChannel q = true →
    let k : Fin 8 := ⟨x.src / 32 % 8, Nat.mod_lt _ (by decide)⟩
    ∃ t, exec (.eventDelivery q) s = .next t ∧ t.now = s.now ∧ ((s.node.subscribe.get k).testBit (x.src % 32) = false ∨ s.spl.events.length + s.spl.eventsNew.length < 64 → (t.intake q).entries = (s.intake q).entries ∧ (t.intake q).undelivered = rest) ∧ t.node.pending[k].testBit (x.src % 32) = true ∧ (∀ j : Fin 8, j ≠ k → t.node.pending[j] = s.node.pending[j]) ∧
      (s.node.local_.length < 64 → t.node.local_ = s.node.local_ ++ [⟨x.src, x.code, x.detail, x.at_⟩] ∧ t.node.cntLocal = s.node.cntLocal) ∧
      (64 ≤ s.node.local_.length → t.node.local_ = s.node.local_ ∧ t.node.localLostFlag = true ∧ t.node.cntLocal = satInc 255 s.node.cntLocal) ∧ t.node.remote = s.node.remote ∧
      ((s.node.subscribe.get k).testBit (x.src % 32) = true → s.spl.events.length + s.spl.eventsNew.length < 64 → t.spl.eventsNew = s.spl.eventsNew ++ [⟨x.src, x.code, x.detail, x.at_⟩]) ∧
      ((s.node.subscribe.get k).testBit (x.src % 32) = false → t.spl = s.spl) ∧ t.loop = s.loop ∧ t.hws = s.hws ∧ t.params = s.params ∧ t.islands = s.islands) ∧
  (∀ (q : Fin 18) (x : Ev) (rest : List Ev) (s : State), (s.intake q).undelivered = x :: rest → (s.hawserUp = false ∨ s.eventChannel q = false) →
    exec (.eventDelivery q) s = .next (s.setIntake q { s.intake q with undelivered := rest }).draw) ∧
  (∀ (q : Fin 18) (s : State), (s.intake q).undelivered = [] → exec (.eventDelivery q) s = .next s.draw) ∧
  (∀ s : State, s.mssUp = true → s.windowStalled .mss .node = false →
    (∃ t, exec .nodeEventPop s = .next t ∧ t = { s with access := t.access, node := { s.node with local_ := s.node.local_.drop 1 }, freeCount := s.freeCount + 1 } ∧ t.access.response = .done ∧
      t.access.data = s.node.local_.length % 128 + (if s.node.local_ = [] then 0 else 128)) ∧
    (∃ t, exec .nodeRemotePop s = .next t ∧ t = { s with access := t.access, node := { s.node with remote := s.node.remote.drop 1 }, freeCount := s.freeCount + 1 } ∧ t.access.response = .done ∧
      (s.node.remote = [] → t.access.data = 0)) ∧
    (∃ t, exec (.counterReadClear 0xFF008) s = .next t ∧ t.access.response = .done ∧ t.access.data % 256 = s.node.cntLocal % 256 ∧ t.node = { s.node with cntLocal := 0, cntRemote := 0 } ∧ t.loop = { s.loop with cntAborted := 0, cntRefused := 0 } ∧ t.slices = s.slices ∧ t.hws = s.hws) ∧
    (∀ v : Nat, exec (.registerWrite 0x030 v) s = .next { s with node := { s.node with mask := v % 4 }, access := ⟨.done, 0, false⟩, freeCount := s.freeCount + 1 }) ∧
    (∀ (k : Fin 8) (v : Nat), exec (.registerWrite (0x0A0 + 4 * k.val) v) s = .next { s with node := { s.node with subscribe := s.node.subscribe.set k.val (v % 2 ^ 32) }, access := ⟨.done, 0, false⟩, freeCount := s.freeCount + 1 }) ∧
    (∀ (k : Fin 8) (v j : Nat), ∃ t, exec (.registerWrite (0x080 + 4 * k.val) v) s = .next t ∧ t = { s with access := ⟨.done, 0, false⟩, node := { s.node with pending := t.node.pending }, freeCount := s.freeCount + 1 } ∧
      (j < 32 → t.node.pending[k].testBit j = (s.node.pending[k].testBit j && !v.testBit j)) ∧ ∀ i : Fin 8, i ≠ k → t.node.pending[i] = s.node.pending[i])) ∧
  (∀ (i : Fin 16) (s : State), s.mssUp = true → s.windowStalled .mss (.slice i) = false → i.val < s.sliceCount →
    ∃ t, exec (.counterReadClear (0x0400F000 + 0x10000 * i.val)) s = .next t ∧ t.access.response = .done ∧ t.access.data = (s.slices[i].readCounts 0xF000).1 ∧ t.slices = s.slices.set i.val (s.slices[i].readCounts 0xF000).2 ∧ t.hws = s.hws ∧ t.loop = s.loop) ∧
  (∀ (a v : Nat) (s : State), s.mssUp = true → a % 4 ≠ 0 → exec (.registerWrite a v) s = .next { s with access := ⟨.alignment, 0, false⟩, freeCount := s.freeCount + 1 } ∧ exec (.counterReadClear a) s = .next { s with access := ⟨.alignment, 0, false⟩, freeCount := s.freeCount + 1 }) ∧
  (∀ (a v : Nat) (s : State), s.mssUp = true → a % 4 = 0 → s.window a = none → exec (.registerWrite a v) s = .next { s with access := ⟨.noTarget, 0, false⟩, freeCount := s.freeCount + 1 } ∧ exec (.counterReadClear a) s = .next { s with access := ⟨.noTarget, 0, false⟩, freeCount := s.freeCount + 1 }) ∧
  (∀ (a v off : Nat) (w : Block) (s : State), s.mssUp = true → a % 4 = 0 → s.window a = some (w, off) →
    (s.windowStalled .mss w = true → exec (.registerWrite a v) s = .next { s with access := ⟨.stalled, 0, false⟩, freeCount := s.freeCount + 1 } ∧ exec (.counterReadClear a) s = .next { s with access := ⟨.stalled, 0, false⟩, freeCount := s.freeCount + 1 }) ∧
    (s.windowStalled .mss w = false → w.action off = true → exec (.registerWrite a v) s = .next { s with access := ⟨.done, 0, false⟩, freeCount := s.freeCount + 1 }) ∧
    (s.windowStalled .mss w = false → w.action off = false → exec (.counterReadClear a) s = .next { s with access := ⟨.done, s.readPlain w off, false⟩, freeCount := s.freeCount + 1 })) ∧
  (∀ (a v : Nat) (s : State), s.mssUp = false → exec .nodeEventPop s = .next s.draw ∧ exec .nodeRemotePop s = .next s.draw ∧ exec (.counterReadClear a) s = .next s.draw ∧ exec (.registerWrite a v) s = .next s.draw) ∧
  (∀ s : State, s.mssUp = true → s.windowStalled .mss .node = true → exec .nodeEventPop s = .next { s with access := ⟨.stalled, 0, false⟩, freeCount := s.freeCount + 1 } ∧ exec .nodeRemotePop s = .next { s with access := ⟨.stalled, 0, false⟩, freeCount := s.freeCount + 1 })

/-- O56. SYNC_POINT: the clock stands at the next sync point, completed shadow copies become visible together with age 0, other regions keep their values and age by one. Rules: R20, R21, R23, R38, R40 (derived). -/
def Obligations.SyncPointSwitchesTheRegions : Prop :=
  (∀ r : Region, r.completed = true → r.atSync.visible = r.shadow ∧ r.atSync.age = 0 ∧ r.atSync.completed = false ∧ r.atSync.shadow = r.shadow) ∧
  (∀ r : Region, r.completed = false → r.atSync.visible = r.visible ∧ r.atSync.age = min 255 (r.age + 1) ∧ r.atSync.shadow = r.shadow) ∧
  (∀ (p : Pulse) (a : Bool) (s : State),
    let c := (s.advance s.nextSync).cycleEnd
    ∃ t, exec (.syncPoint p a) s = .next t ∧ t.now = max s.now s.nextSync ∧ t.lastSync = t.now ∧ t.pending = s.pending ∧ t.small = s.small ∧ t.params = s.params ∧ t.plug = s.plug ∧ t.freeCount = s.freeCount + 1 ∧
      (∀ i : Fin 16, t.sliceRegions[i].visible = (if c.sliceRegions[i].completed then c.sliceRegions[i].shadow else s.sliceRegions[i].visible) ∧
        t.sliceRegions[i].age = (if c.sliceRegions[i].completed then 0 else min 255 (s.sliceRegions[i].age + 1)) ∧ (s.sliceRuns i = true → t.sliceRegions[i].age = 0)) ∧
      (t.hwsRegion.visible = (if c.hwsRegion.completed then c.hwsRegion.shadow else s.hwsRegion.visible) ∧ t.hwsRegion.age = (if c.hwsRegion.completed then 0 else min 255 (s.hwsRegion.age + 1))) ∧
      (t.splRegion.visible = (if s.splRegion.completed then s.splRegion.shadow else s.splRegion.visible) ∧ t.splRegion.age = (if s.splRegion.completed then 0 else min 255 (s.splRegion.age + 1))) ∧
      (t.mssRegion.visible = (if c.mssRegion.completed then c.mssRegion.shadow else s.mssRegion.visible) ∧ (s.mssUp = true → t.mssRegion.age = 0)) ∧
      (∀ k : Fin 17, s.islands[(State.islandOf k).val].running = true → t.clocks[k].counter = s.clocks[k].counter ∧
        match (c.switchRegions.ownDue k s.leaderPasses t.now).getLast? with
        | some m => t.clocks[k].syncAt = s.clocks[k].counter.reaches m ∧ t.clocks[k].lastMultiple = some m ∧ t.clocks[k].stepReady = s.clocks[k].pendingStep.isSome
        | none => t.clocks[k] = s.clocks[k])) ∧
  (∀ (k : Fin 17) (n : Int) (t : Nat) (s : State), 1 ≤ n →
    let m := s.clocks[k].counter.nearest s.tcyc t
    (s.clocks[k].lastMultiple = none → s.ownDue k n t = [m]) ∧
    (∀ l : Int, s.clocks[k].lastMultiple = some l → (m ≤ l → s.ownDue k n t = []) ∧ (l < m → m - l < (n + 1) * periodQ s.tcyc → s.ownDue k n t = [m])))

/-- O57. Every step keeps the latched door-loop cell open. Rules: R79, R83, R86, R514 (derived). -/
def Obligations.LoopLatchStaysSafe : Prop :=
  ∀ s t : State, s.loopSafe → step s = .next t → t.loopSafe

/-- O58. Every step keeps the power gate equal to the AUTH lines: open only while AUTH_OUT reads asserted and AUTH_IN released. Rules: R48, R394, R395 (derived). -/
def Obligations.GateFollowsAuthLines : Prop :=
  ∀ s t : State, s.gateSafe → step s = .next t → t.gateSafe

/-- O59. Every step keeps memories in canonical form and the part as it is, and a command leaves the rest of the queue in order. Rules: R2, R3, R24, R427, R467 (derived). -/
def Obligations.MemoriesQueueAndPartAreKept : Prop :=
  (∀ s t : State, s.memSafe → step s = .next t → t.memSafe) ∧
  (∀ s t : State, step s = .next t → t.small = s.small) ∧
  (∀ (c : Instr) (rest : List Instr) (s t : State), s.pending = c :: rest → step s = .next t → t.pending = rest)

/-- O60. Every step keeps every time counter within 200 ppm of its pace. Rules: R37, R38, R275 (derived). -/
def Obligations.ClockRatesStayWithinTheirLimit : Prop :=
  ∀ s t : State, s.ratesSafe → step s = .next t → t.ratesSafe

end
end

