-- ==== Sys2Proof/Laws/Memory.lean ====
section
/-! SUPPORT. Memories: reading after writing, and every memory operation keeps the canonical form. -/

namespace Sys2Proof.Machine

/-! ### One byte -/

theorem memGet_memSet_same (d : Byte) (a : Nat) (v : Byte) (m : Mem) (h : Memory.wf d m = true) : memGet d (memSet d m a v) a = v := by
  induction m with
  | nil => by_cases hv : v = d <;> simp [memSet, memGet, hv]
  | cons c t ih =>
    obtain ⟨k, w⟩ := c
    simp only [Memory.wf, Bool.and_eq_true, decide_eq_true_eq] at h
    have below : ∀ b : Nat, b ≤ k → memGet d t b = d := by
      have ht := h.1.2
      clear ih h
      intro b hb
      induction t with
      | nil => rfl
      | cons x t ih =>
        simp only [List.all_cons, Bool.and_eq_true, decide_eq_true_eq] at ht
        rw [memGet, if_neg (by omega)]; exact ih ht.2
    by_cases h1 : a < k
    · by_cases hv : v = d
      · simp [memSet, h1, hv, memGet, Nat.ne_of_gt h1, below a (by omega)]
      · simp [memSet, h1, hv, memGet]
    · by_cases h2 : a = k
      · subst h2
        by_cases hv : v = d
        · simp [memSet, hv, below a (Nat.le_refl _)]
        · simp [memSet, hv, memGet]
      · simp [memSet, h1, h2, memGet, Ne.symm h2, ih h.2]

theorem memGet_memSet_other (d : Byte) (a b : Nat) (v : Byte) (m : Mem) (hb : b ≠ a) : memGet d (memSet d m a v) b = memGet d m b := by
  induction m with
  | nil => by_cases hv : v = d <;> simp [memSet, memGet, hv, Ne.symm hb]
  | cons c t ih =>
    obtain ⟨k, w⟩ := c
    by_cases h1 : a < k
    · by_cases hv : v = d <;> simp [memSet, h1, hv, memGet, Ne.symm hb]
    · by_cases h2 : a = k
      · subst h2
        by_cases hv : v = d <;> simp [memSet, hv, memGet, Ne.symm hb]
      · simp [memSet, h1, h2, memGet, ih]

/-- A lower bound of the listed addresses stays one when an address not below it is written. -/
theorem memSet_all (d : Byte) (k a : Nat) (v : Byte) (m : Mem) (hk : k < a) (h : m.all (fun c => decide (k < c.1)) = true) :
    (memSet d m a v).all (fun c => decide (k < c.1)) = true := by
  induction m with
  | nil => by_cases hv : v = d <;> simp [memSet, hv, hk]
  | cons c t ih =>
    obtain ⟨j, w⟩ := c
    simp only [List.all_cons, Bool.and_eq_true, decide_eq_true_eq] at h
    rw [memSet]
    split
    · split
      · rw [List.all_cons, h.2]; simp [h.1]
      · rw [List.all_cons, List.all_cons, h.2]; simp [h.1, hk]
    · split
      · split
        · exact h.2
        · rw [List.all_cons, h.2]; simp [hk]
      · rw [List.all_cons, ih h.2]; simp [h.1]

theorem memSet_wf (d : Byte) (a : Nat) (v : Byte) (m : Mem) (h : Memory.wf d m = true) : Memory.wf d (memSet d m a v) = true := by
  induction m with
  | nil => by_cases hv : v = d <;> simp [memSet, Memory.wf, hv]
  | cons c t ih =>
    obtain ⟨k, w⟩ := c
    have h0 := h
    simp only [Memory.wf, Bool.and_eq_true, decide_eq_true_eq] at h
    obtain ⟨⟨h1, h2⟩, h3⟩ := h
    rw [memSet]
    split
    · rename_i hk
      split
      · exact h0
      · rename_i hv
        have hh : ((k, w) :: t).all (fun c => decide (a < c.1)) = true := by
          rw [List.all_cons]; simp only [hk, decide_true, Bool.true_and]
          rw [List.all_eq_true] at h2 ⊢
          intro x hx; have := h2 x hx; simp only [decide_eq_true_eq] at this ⊢; omega
        rw [Memory.wf, h0, hh]; simp [hv]
    · rename_i hk
      split
      · rename_i he
        split
        · exact h3
        · rename_i hv; subst he; rw [Memory.wf, h2, h3]; simp [hv]
      · rename_i he
        rw [Memory.wf, ih h3, memSet_all d k a v t (by omega) h2]; simp [h1]

/-! ### Runs of bytes -/

theorem memSetBytes_wf (d : Byte) (b : List Byte) (m : Mem) (a : Nat) (h : Memory.wf d m = true) : Memory.wf d (memSetBytes d m a b) = true := by
  induction b generalizing m a with
  | nil => exact h
  | cons x t ih => exact ih _ _ (memSet_wf d a x m h)

theorem memSetLe_wf (d : Byte) (m : Mem) (a n v : Nat) (h : Memory.wf d m = true) : Memory.wf d (memSetLe d m a n v) = true := memSetBytes_wf d _ m a h

/-- A byte outside the written run reads as before. -/
theorem memGet_memSetBytes_other (d : Byte) (b : List Byte) (m : Mem) (a x : Nat) (hx : x < a ∨ a + b.length ≤ x) :
    memGet d (memSetBytes d m a b) x = memGet d m x := by
  induction b generalizing m a with
  | nil => rfl
  | cons y t ih =>
    simp only [List.length_cons] at hx
    rw [memSetBytes, ih _ _ (by omega), memGet_memSet_other d a x y m (by omega)]

/-- A run that has been written reads back. -/
theorem memGetBytes_memSetBytes (d : Byte) (b : List Byte) (m : Mem) (a : Nat) (h : Memory.wf d m = true) :
    memGetBytes d (memSetBytes d m a b) a b.length = b := by
  induction b generalizing m a with
  | nil => rfl
  | cons y t ih =>
    simp only [List.length_cons, memGetBytes, memSetBytes]
    rw [ih _ _ (memSet_wf d a y m h), memGet_memSetBytes_other d t _ (a + 1) a (by omega), memGet_memSet_same d a y m h]

@[simp] theorem leBytes_length (n v : Nat) : (leBytes n v).length = n := by
  induction n generalizing v with
  | zero => rfl
  | succ n ih => simp [leBytes, ih]

/-! ### The operations that hold a memory -/

theorem filter_wf (d : Byte) (p : Host.Cell → Bool) (m : Mem) (h : Memory.wf d m = true) : Memory.wf d (m.filter p) = true := by
  induction m with
  | nil => rfl
  | cons c t ih =>
    obtain ⟨k, w⟩ := c
    simp only [Memory.wf, Bool.and_eq_true, decide_eq_true_eq] at h
    rw [List.filter_cons]
    split
    · have : (t.filter p).all (fun c => decide (k < c.1)) = true := by
        rw [List.all_eq_true] at *
        intro x hx; exact h.1.2 x (List.mem_filter.mp hx).1
      rw [Memory.wf, this, ih h.2]; simp [h.1.1]
    · exact ih h.2

theorem norErase_wf (nor : Mem) (a n : Nat) (h : Memory.wf norDefault nor = true) : Memory.wf norDefault (norErase nor a n) = true := filter_wf _ _ _ h

/-- An erased range reads 0xFF; the rest reads as before. -/
theorem memGet_norErase (nor : Mem) (a n x : Nat) :
    memGet norDefault (norErase nor a n) x = if a ≤ x ∧ x < a + n then norDefault else memGet norDefault nor x := by
  induction nor with
  | nil => simp [norErase, memGet]
  | cons c t ih =>
    obtain ⟨k, w⟩ := c
    unfold norErase at ih ⊢
    rw [List.filter_cons]
    split
    · rename_i hk
      simp only [Bool.or_eq_true, decide_eq_true_eq] at hk
      rw [memGet, ih, memGet]
      by_cases he : k = x
      · subst he; rw [if_pos rfl, if_pos rfl, if_neg (by omega)]
      · rw [if_neg he, if_neg he]
    · rename_i hk
      simp only [Bool.or_eq_true, decide_eq_true_eq, not_or, not_lt, not_le] at hk
      rw [ih, memGet]
      by_cases he : k = x
      · subst he; rw [if_pos (by omega), if_pos (by omega)]
      · rw [if_neg he]

theorem Region.write_shadow_wf (off : Nat) (b : List Byte) (r : Region) (h : Memory.wf ramDefault r.shadow = true) : Memory.wf ramDefault (r.write off b).shadow = true :=
  memSetBytes_wf _ _ _ _ h

@[simp] theorem Region.write_visible (off : Nat) (b : List Byte) (r : Region) : (r.write off b).visible = r.visible := rfl

theorem MapEntry.store_wf (e : MapEntry) (v : Nat) (m : Mem) (h : Memory.wf ramDefault m = true) : Memory.wf ramDefault (e.store v m) = true :=
  memSetLe_wf _ _ _ _ _ h

theorem loadSection_wf (nor p : Mem) (x : SecAt) (h : Memory.wf ramDefault p = true) : Memory.wf ramDefault (loadSection nor p x) = true :=
  memSetLe_wf _ _ _ _ _ (memSetBytes_wf _ _ _ _ h)

theorem slotParams_wf (nor : Mem) (slot : Nat) : Memory.wf ramDefault (slotParams nor slot) = true := by
  have : ∀ (l : List SecAt) (p : Mem), Memory.wf ramDefault p = true → Memory.wf ramDefault (l.foldl (loadSection nor) p) = true := by
    intro l
    induction l with
    | nil => intro p h; exact h
    | cons x t ih => intro p h; exact ih _ (loadSection_wf nor p x h)
  exact this _ [] rfl

end Sys2Proof.Machine
end

