-- ==== Sys2Proof/Laws/State.lean ====
section
/-! SUPPORT. What each update of the state leaves in each field. -/

namespace Sys2Proof.Machine

variable (s : State)

@[simp] theorem State.modSlice_now (i : Fin 16) (f : Slice → Slice) : (s.modSlice i f).now = s.now := rfl
@[simp] theorem State.modSlice_lastSync (i : Fin 16) (f : Slice → Slice) : (s.modSlice i f).lastSync = s.lastSync := rfl
@[simp] theorem State.modSlice_heldTcyc (i : Fin 16) (f : Slice → Slice) : (s.modSlice i f).heldTcyc = s.heldTcyc := rfl
@[simp] theorem State.modSlice_small (i : Fin 16) (f : Slice → Slice) : (s.modSlice i f).small = s.small := rfl
@[simp] theorem State.modSlice_params (i : Fin 16) (f : Slice → Slice) : (s.modSlice i f).params = s.params := rfl
@[simp] theorem State.modSlice_slices (i : Fin 16) (f : Slice → Slice) : (s.modSlice i f).slices = s.slices.set i (f s.slices[i]) := rfl
@[simp] theorem State.modSlice_sliceRegions (i : Fin 16) (f : Slice → Slice) : (s.modSlice i f).sliceRegions = s.sliceRegions := rfl
@[simp] theorem State.modSlice_hwsRegion (i : Fin 16) (f : Slice → Slice) : (s.modSlice i f).hwsRegion = s.hwsRegion := rfl
@[simp] theorem State.modSlice_splRegion (i : Fin 16) (f : Slice → Slice) : (s.modSlice i f).splRegion = s.splRegion := rfl
@[simp] theorem State.modSlice_mssRegion (i : Fin 16) (f : Slice → Slice) : (s.modSlice i f).mssRegion = s.mssRegion := rfl
@[simp] theorem State.modSlice_dq (i : Fin 16) (f : Slice → Slice) : (s.modSlice i f).dq = s.dq := rfl
@[simp] theorem State.modSlice_mq (i : Fin 16) (f : Slice → Slice) : (s.modSlice i f).mq = s.mq := rfl
@[simp] theorem State.modSlice_hws (i : Fin 16) (f : Slice → Slice) : (s.modSlice i f).hws = s.hws := rfl
@[simp] theorem State.modSlice_ina (i : Fin 16) (f : Slice → Slice) : (s.modSlice i f).ina = s.ina := rfl
@[simp] theorem State.modSlice_spl (i : Fin 16) (f : Slice → Slice) : (s.modSlice i f).spl = s.spl := rfl
@[simp] theorem State.modSlice_twn (i : Fin 16) (f : Slice → Slice) : (s.modSlice i f).twn = s.twn := rfl
@[simp] theorem State.modSlice_groups (i : Fin 16) (f : Slice → Slice) : (s.modSlice i f).groups = s.groups := rfl
@[simp] theorem State.modSlice_blyMask (i : Fin 16) (f : Slice → Slice) : (s.modSlice i f).blyMask = s.blyMask := rfl
@[simp] theorem State.modSlice_loop (i : Fin 16) (f : Slice → Slice) : (s.modSlice i f).loop = s.loop := rfl
@[simp] theorem State.modSlice_plug (i : Fin 16) (f : Slice → Slice) : (s.modSlice i f).plug = s.plug := rfl
@[simp] theorem State.modSlice_cfg (i : Fin 16) (f : Slice → Slice) : (s.modSlice i f).cfg = s.cfg := rfl
@[simp] theorem State.modSlice_mss (i : Fin 16) (f : Slice → Slice) : (s.modSlice i f).mss = s.mss := rfl
@[simp] theorem State.modSlice_log (i : Fin 16) (f : Slice → Slice) : (s.modSlice i f).log = s.log := rfl
@[simp] theorem State.modSlice_node (i : Fin 16) (f : Slice → Slice) : (s.modSlice i f).node = s.node := rfl
@[simp] theorem State.modSlice_start (i : Fin 16) (f : Slice → Slice) : (s.modSlice i f).start = s.start := rfl
@[simp] theorem State.modSlice_islands (i : Fin 16) (f : Slice → Slice) : (s.modSlice i f).islands = s.islands := rfl
@[simp] theorem State.modSlice_clocks (i : Fin 16) (f : Slice → Slice) : (s.modSlice i f).clocks = s.clocks := rfl
@[simp] theorem State.modSlice_stalled (i : Fin 16) (f : Slice → Slice) : (s.modSlice i f).stalled = s.stalled := rfl
@[simp] theorem State.modSlice_hostPorts (i : Fin 16) (f : Slice → Slice) : (s.modSlice i f).hostPorts = s.hostPorts := rfl
@[simp] theorem State.modSlice_access (i : Fin 16) (f : Slice → Slice) : (s.modSlice i f).access = s.access := rfl
@[simp] theorem State.modSlice_freeCount (i : Fin 16) (f : Slice → Slice) : (s.modSlice i f).freeCount = s.freeCount := rfl
@[simp] theorem State.modSlice_pending (i : Fin 16) (f : Slice → Slice) : (s.modSlice i f).pending = s.pending := rfl

@[simp] theorem State.modHws_now (f : Hawser → Hawser) : (s.modHws f).now = s.now := rfl
@[simp] theorem State.modHws_lastSync (f : Hawser → Hawser) : (s.modHws f).lastSync = s.lastSync := rfl
@[simp] theorem State.modHws_heldTcyc (f : Hawser → Hawser) : (s.modHws f).heldTcyc = s.heldTcyc := rfl
@[simp] theorem State.modHws_small (f : Hawser → Hawser) : (s.modHws f).small = s.small := rfl
@[simp] theorem State.modHws_params (f : Hawser → Hawser) : (s.modHws f).params = s.params := rfl
@[simp] theorem State.modHws_slices (f : Hawser → Hawser) : (s.modHws f).slices = s.slices := rfl
@[simp] theorem State.modHws_sliceRegions (f : Hawser → Hawser) : (s.modHws f).sliceRegions = s.sliceRegions := rfl
@[simp] theorem State.modHws_hwsRegion (f : Hawser → Hawser) : (s.modHws f).hwsRegion = s.hwsRegion := rfl
@[simp] theorem State.modHws_splRegion (f : Hawser → Hawser) : (s.modHws f).splRegion = s.splRegion := rfl
@[simp] theorem State.modHws_mssRegion (f : Hawser → Hawser) : (s.modHws f).mssRegion = s.mssRegion := rfl
@[simp] theorem State.modHws_dq (f : Hawser → Hawser) : (s.modHws f).dq = s.dq := rfl
@[simp] theorem State.modHws_mq (f : Hawser → Hawser) : (s.modHws f).mq = s.mq := rfl
@[simp] theorem State.modHws_hws (f : Hawser → Hawser) : (s.modHws f).hws = f s.hws := rfl
@[simp] theorem State.modHws_ina (f : Hawser → Hawser) : (s.modHws f).ina = s.ina := rfl
@[simp] theorem State.modHws_spl (f : Hawser → Hawser) : (s.modHws f).spl = s.spl := rfl
@[simp] theorem State.modHws_twn (f : Hawser → Hawser) : (s.modHws f).twn = s.twn := rfl
@[simp] theorem State.modHws_groups (f : Hawser → Hawser) : (s.modHws f).groups = s.groups := rfl
@[simp] theorem State.modHws_blyMask (f : Hawser → Hawser) : (s.modHws f).blyMask = s.blyMask := rfl
@[simp] theorem State.modHws_loop (f : Hawser → Hawser) : (s.modHws f).loop = s.loop := rfl
@[simp] theorem State.modHws_plug (f : Hawser → Hawser) : (s.modHws f).plug = s.plug := rfl
@[simp] theorem State.modHws_cfg (f : Hawser → Hawser) : (s.modHws f).cfg = s.cfg := rfl
@[simp] theorem State.modHws_mss (f : Hawser → Hawser) : (s.modHws f).mss = s.mss := rfl
@[simp] theorem State.modHws_log (f : Hawser → Hawser) : (s.modHws f).log = s.log := rfl
@[simp] theorem State.modHws_node (f : Hawser → Hawser) : (s.modHws f).node = s.node := rfl
@[simp] theorem State.modHws_start (f : Hawser → Hawser) : (s.modHws f).start = s.start := rfl
@[simp] theorem State.modHws_islands (f : Hawser → Hawser) : (s.modHws f).islands = s.islands := rfl
@[simp] theorem State.modHws_clocks (f : Hawser → Hawser) : (s.modHws f).clocks = s.clocks := rfl
@[simp] theorem State.modHws_stalled (f : Hawser → Hawser) : (s.modHws f).stalled = s.stalled := rfl
@[simp] theorem State.modHws_hostPorts (f : Hawser → Hawser) : (s.modHws f).hostPorts = s.hostPorts := rfl
@[simp] theorem State.modHws_access (f : Hawser → Hawser) : (s.modHws f).access = s.access := rfl
@[simp] theorem State.modHws_freeCount (f : Hawser → Hawser) : (s.modHws f).freeCount = s.freeCount := rfl
@[simp] theorem State.modHws_pending (f : Hawser → Hawser) : (s.modHws f).pending = s.pending := rfl

@[simp] theorem State.modIna_now (f : Inaug → Inaug) : (s.modIna f).now = s.now := rfl
@[simp] theorem State.modIna_lastSync (f : Inaug → Inaug) : (s.modIna f).lastSync = s.lastSync := rfl
@[simp] theorem State.modIna_heldTcyc (f : Inaug → Inaug) : (s.modIna f).heldTcyc = s.heldTcyc := rfl
@[simp] theorem State.modIna_small (f : Inaug → Inaug) : (s.modIna f).small = s.small := rfl
@[simp] theorem State.modIna_params (f : Inaug → Inaug) : (s.modIna f).params = s.params := rfl
@[simp] theorem State.modIna_slices (f : Inaug → Inaug) : (s.modIna f).slices = s.slices := rfl
@[simp] theorem State.modIna_sliceRegions (f : Inaug → Inaug) : (s.modIna f).sliceRegions = s.sliceRegions := rfl
@[simp] theorem State.modIna_hwsRegion (f : Inaug → Inaug) : (s.modIna f).hwsRegion = s.hwsRegion := rfl
@[simp] theorem State.modIna_splRegion (f : Inaug → Inaug) : (s.modIna f).splRegion = s.splRegion := rfl
@[simp] theorem State.modIna_mssRegion (f : Inaug → Inaug) : (s.modIna f).mssRegion = s.mssRegion := rfl
@[simp] theorem State.modIna_dq (f : Inaug → Inaug) : (s.modIna f).dq = s.dq := rfl
@[simp] theorem State.modIna_mq (f : Inaug → Inaug) : (s.modIna f).mq = s.mq := rfl
@[simp] theorem State.modIna_hws (f : Inaug → Inaug) : (s.modIna f).hws = s.hws := rfl
@[simp] theorem State.modIna_ina (f : Inaug → Inaug) : (s.modIna f).ina = f s.ina := rfl
@[simp] theorem State.modIna_spl (f : Inaug → Inaug) : (s.modIna f).spl = s.spl := rfl
@[simp] theorem State.modIna_twn (f : Inaug → Inaug) : (s.modIna f).twn = s.twn := rfl
@[simp] theorem State.modIna_groups (f : Inaug → Inaug) : (s.modIna f).groups = s.groups := rfl
@[simp] theorem State.modIna_blyMask (f : Inaug → Inaug) : (s.modIna f).blyMask = s.blyMask := rfl
@[simp] theorem State.modIna_loop (f : Inaug → Inaug) : (s.modIna f).loop = s.loop := rfl
@[simp] theorem State.modIna_plug (f : Inaug → Inaug) : (s.modIna f).plug = s.plug := rfl
@[simp] theorem State.modIna_cfg (f : Inaug → Inaug) : (s.modIna f).cfg = s.cfg := rfl
@[simp] theorem State.modIna_mss (f : Inaug → Inaug) : (s.modIna f).mss = s.mss := rfl
@[simp] theorem State.modIna_log (f : Inaug → Inaug) : (s.modIna f).log = s.log := rfl
@[simp] theorem State.modIna_node (f : Inaug → Inaug) : (s.modIna f).node = s.node := rfl
@[simp] theorem State.modIna_start (f : Inaug → Inaug) : (s.modIna f).start = s.start := rfl
@[simp] theorem State.modIna_islands (f : Inaug → Inaug) : (s.modIna f).islands = s.islands := rfl
@[simp] theorem State.modIna_clocks (f : Inaug → Inaug) : (s.modIna f).clocks = s.clocks := rfl
@[simp] theorem State.modIna_stalled (f : Inaug → Inaug) : (s.modIna f).stalled = s.stalled := rfl
@[simp] theorem State.modIna_hostPorts (f : Inaug → Inaug) : (s.modIna f).hostPorts = s.hostPorts := rfl
@[simp] theorem State.modIna_access (f : Inaug → Inaug) : (s.modIna f).access = s.access := rfl
@[simp] theorem State.modIna_freeCount (f : Inaug → Inaug) : (s.modIna f).freeCount = s.freeCount := rfl
@[simp] theorem State.modIna_pending (f : Inaug → Inaug) : (s.modIna f).pending = s.pending := rfl

@[simp] theorem State.modSpl_now (f : Splice → Splice) : (s.modSpl f).now = s.now := rfl
@[simp] theorem State.modSpl_lastSync (f : Splice → Splice) : (s.modSpl f).lastSync = s.lastSync := rfl
@[simp] theorem State.modSpl_heldTcyc (f : Splice → Splice) : (s.modSpl f).heldTcyc = s.heldTcyc := rfl
@[simp] theorem State.modSpl_small (f : Splice → Splice) : (s.modSpl f).small = s.small := rfl
@[simp] theorem State.modSpl_params (f : Splice → Splice) : (s.modSpl f).params = s.params := rfl
@[simp] theorem State.modSpl_slices (f : Splice → Splice) : (s.modSpl f).slices = s.slices := rfl
@[simp] theorem State.modSpl_sliceRegions (f : Splice → Splice) : (s.modSpl f).sliceRegions = s.sliceRegions := rfl
@[simp] theorem State.modSpl_hwsRegion (f : Splice → Splice) : (s.modSpl f).hwsRegion = s.hwsRegion := rfl
@[simp] theorem State.modSpl_splRegion (f : Splice → Splice) : (s.modSpl f).splRegion = s.splRegion := rfl
@[simp] theorem State.modSpl_mssRegion (f : Splice → Splice) : (s.modSpl f).mssRegion = s.mssRegion := rfl
@[simp] theorem State.modSpl_dq (f : Splice → Splice) : (s.modSpl f).dq = s.dq := rfl
@[simp] theorem State.modSpl_mq (f : Splice → Splice) : (s.modSpl f).mq = s.mq := rfl
@[simp] theorem State.modSpl_hws (f : Splice → Splice) : (s.modSpl f).hws = s.hws := rfl
@[simp] theorem State.modSpl_ina (f : Splice → Splice) : (s.modSpl f).ina = s.ina := rfl
@[simp] theorem State.modSpl_spl (f : Splice → Splice) : (s.modSpl f).spl = f s.spl := rfl
@[simp] theorem State.modSpl_twn (f : Splice → Splice) : (s.modSpl f).twn = s.twn := rfl
@[simp] theorem State.modSpl_groups (f : Splice → Splice) : (s.modSpl f).groups = s.groups := rfl
@[simp] theorem State.modSpl_blyMask (f : Splice → Splice) : (s.modSpl f).blyMask = s.blyMask := rfl
@[simp] theorem State.modSpl_loop (f : Splice → Splice) : (s.modSpl f).loop = s.loop := rfl
@[simp] theorem State.modSpl_plug (f : Splice → Splice) : (s.modSpl f).plug = s.plug := rfl
@[simp] theorem State.modSpl_cfg (f : Splice → Splice) : (s.modSpl f).cfg = s.cfg := rfl
@[simp] theorem State.modSpl_mss (f : Splice → Splice) : (s.modSpl f).mss = s.mss := rfl
@[simp] theorem State.modSpl_log (f : Splice → Splice) : (s.modSpl f).log = s.log := rfl
@[simp] theorem State.modSpl_node (f : Splice → Splice) : (s.modSpl f).node = s.node := rfl
@[simp] theorem State.modSpl_start (f : Splice → Splice) : (s.modSpl f).start = s.start := rfl
@[simp] theorem State.modSpl_islands (f : Splice → Splice) : (s.modSpl f).islands = s.islands := rfl
@[simp] theorem State.modSpl_clocks (f : Splice → Splice) : (s.modSpl f).clocks = s.clocks := rfl
@[simp] theorem State.modSpl_stalled (f : Splice → Splice) : (s.modSpl f).stalled = s.stalled := rfl
@[simp] theorem State.modSpl_hostPorts (f : Splice → Splice) : (s.modSpl f).hostPorts = s.hostPorts := rfl
@[simp] theorem State.modSpl_access (f : Splice → Splice) : (s.modSpl f).access = s.access := rfl
@[simp] theorem State.modSpl_freeCount (f : Splice → Splice) : (s.modSpl f).freeCount = s.freeCount := rfl
@[simp] theorem State.modSpl_pending (f : Splice → Splice) : (s.modSpl f).pending = s.pending := rfl

@[simp] theorem State.modTwn_now (f : Twin → Twin) : (s.modTwn f).now = s.now := rfl
@[simp] theorem State.modTwn_lastSync (f : Twin → Twin) : (s.modTwn f).lastSync = s.lastSync := rfl
@[simp] theorem State.modTwn_heldTcyc (f : Twin → Twin) : (s.modTwn f).heldTcyc = s.heldTcyc := rfl
@[simp] theorem State.modTwn_small (f : Twin → Twin) : (s.modTwn f).small = s.small := rfl
@[simp] theorem State.modTwn_params (f : Twin → Twin) : (s.modTwn f).params = s.params := rfl
@[simp] theorem State.modTwn_slices (f : Twin → Twin) : (s.modTwn f).slices = s.slices := rfl
@[simp] theorem State.modTwn_sliceRegions (f : Twin → Twin) : (s.modTwn f).sliceRegions = s.sliceRegions := rfl
@[simp] theorem State.modTwn_hwsRegion (f : Twin → Twin) : (s.modTwn f).hwsRegion = s.hwsRegion := rfl
@[simp] theorem State.modTwn_splRegion (f : Twin → Twin) : (s.modTwn f).splRegion = s.splRegion := rfl
@[simp] theorem State.modTwn_mssRegion (f : Twin → Twin) : (s.modTwn f).mssRegion = s.mssRegion := rfl
@[simp] theorem State.modTwn_dq (f : Twin → Twin) : (s.modTwn f).dq = s.dq := rfl
@[simp] theorem State.modTwn_mq (f : Twin → Twin) : (s.modTwn f).mq = s.mq := rfl
@[simp] theorem State.modTwn_hws (f : Twin → Twin) : (s.modTwn f).hws = s.hws := rfl
@[simp] theorem State.modTwn_ina (f : Twin → Twin) : (s.modTwn f).ina = s.ina := rfl
@[simp] theorem State.modTwn_spl (f : Twin → Twin) : (s.modTwn f).spl = s.spl := rfl
@[simp] theorem State.modTwn_twn (f : Twin → Twin) : (s.modTwn f).twn = f s.twn := rfl
@[simp] theorem State.modTwn_groups (f : Twin → Twin) : (s.modTwn f).groups = s.groups := rfl
@[simp] theorem State.modTwn_blyMask (f : Twin → Twin) : (s.modTwn f).blyMask = s.blyMask := rfl
@[simp] theorem State.modTwn_loop (f : Twin → Twin) : (s.modTwn f).loop = s.loop := rfl
@[simp] theorem State.modTwn_plug (f : Twin → Twin) : (s.modTwn f).plug = s.plug := rfl
@[simp] theorem State.modTwn_cfg (f : Twin → Twin) : (s.modTwn f).cfg = s.cfg := rfl
@[simp] theorem State.modTwn_mss (f : Twin → Twin) : (s.modTwn f).mss = s.mss := rfl
@[simp] theorem State.modTwn_log (f : Twin → Twin) : (s.modTwn f).log = s.log := rfl
@[simp] theorem State.modTwn_node (f : Twin → Twin) : (s.modTwn f).node = s.node := rfl
@[simp] theorem State.modTwn_start (f : Twin → Twin) : (s.modTwn f).start = s.start := rfl
@[simp] theorem State.modTwn_islands (f : Twin → Twin) : (s.modTwn f).islands = s.islands := rfl
@[simp] theorem State.modTwn_clocks (f : Twin → Twin) : (s.modTwn f).clocks = s.clocks := rfl
@[simp] theorem State.modTwn_stalled (f : Twin → Twin) : (s.modTwn f).stalled = s.stalled := rfl
@[simp] theorem State.modTwn_hostPorts (f : Twin → Twin) : (s.modTwn f).hostPorts = s.hostPorts := rfl
@[simp] theorem State.modTwn_access (f : Twin → Twin) : (s.modTwn f).access = s.access := rfl
@[simp] theorem State.modTwn_freeCount (f : Twin → Twin) : (s.modTwn f).freeCount = s.freeCount := rfl
@[simp] theorem State.modTwn_pending (f : Twin → Twin) : (s.modTwn f).pending = s.pending := rfl

@[simp] theorem State.modAuth_now (f : Auth → Auth) : (s.modAuth f).now = s.now := rfl
@[simp] theorem State.modAuth_lastSync (f : Auth → Auth) : (s.modAuth f).lastSync = s.lastSync := rfl
@[simp] theorem State.modAuth_heldTcyc (f : Auth → Auth) : (s.modAuth f).heldTcyc = s.heldTcyc := rfl
@[simp] theorem State.modAuth_small (f : Auth → Auth) : (s.modAuth f).small = s.small := rfl
@[simp] theorem State.modAuth_params (f : Auth → Auth) : (s.modAuth f).params = s.params := rfl
@[simp] theorem State.modAuth_slices (f : Auth → Auth) : (s.modAuth f).slices = s.slices := rfl
@[simp] theorem State.modAuth_sliceRegions (f : Auth → Auth) : (s.modAuth f).sliceRegions = s.sliceRegions := rfl
@[simp] theorem State.modAuth_hwsRegion (f : Auth → Auth) : (s.modAuth f).hwsRegion = s.hwsRegion := rfl
@[simp] theorem State.modAuth_splRegion (f : Auth → Auth) : (s.modAuth f).splRegion = s.splRegion := rfl
@[simp] theorem State.modAuth_mssRegion (f : Auth → Auth) : (s.modAuth f).mssRegion = s.mssRegion := rfl
@[simp] theorem State.modAuth_dq (f : Auth → Auth) : (s.modAuth f).dq = s.dq := rfl
@[simp] theorem State.modAuth_mq (f : Auth → Auth) : (s.modAuth f).mq = s.mq := rfl
@[simp] theorem State.modAuth_hws (f : Auth → Auth) : (s.modAuth f).hws = s.hws := rfl
@[simp] theorem State.modAuth_ina (f : Auth → Auth) : (s.modAuth f).ina = s.ina := rfl
@[simp] theorem State.modAuth_spl (f : Auth → Auth) : (s.modAuth f).spl = s.spl := rfl
@[simp] theorem State.modAuth_twn (f : Auth → Auth) : (s.modAuth f).twn = { s.twn with auth := f s.twn.auth } := rfl
@[simp] theorem State.modAuth_groups (f : Auth → Auth) : (s.modAuth f).groups = s.groups := rfl
@[simp] theorem State.modAuth_blyMask (f : Auth → Auth) : (s.modAuth f).blyMask = s.blyMask := rfl
@[simp] theorem State.modAuth_loop (f : Auth → Auth) : (s.modAuth f).loop = s.loop := rfl
@[simp] theorem State.modAuth_plug (f : Auth → Auth) : (s.modAuth f).plug = s.plug := rfl
@[simp] theorem State.modAuth_cfg (f : Auth → Auth) : (s.modAuth f).cfg = s.cfg := rfl
@[simp] theorem State.modAuth_mss (f : Auth → Auth) : (s.modAuth f).mss = s.mss := rfl
@[simp] theorem State.modAuth_log (f : Auth → Auth) : (s.modAuth f).log = s.log := rfl
@[simp] theorem State.modAuth_node (f : Auth → Auth) : (s.modAuth f).node = s.node := rfl
@[simp] theorem State.modAuth_start (f : Auth → Auth) : (s.modAuth f).start = s.start := rfl
@[simp] theorem State.modAuth_islands (f : Auth → Auth) : (s.modAuth f).islands = s.islands := rfl
@[simp] theorem State.modAuth_clocks (f : Auth → Auth) : (s.modAuth f).clocks = s.clocks := rfl
@[simp] theorem State.modAuth_stalled (f : Auth → Auth) : (s.modAuth f).stalled = s.stalled := rfl
@[simp] theorem State.modAuth_hostPorts (f : Auth → Auth) : (s.modAuth f).hostPorts = s.hostPorts := rfl
@[simp] theorem State.modAuth_access (f : Auth → Auth) : (s.modAuth f).access = s.access := rfl
@[simp] theorem State.modAuth_freeCount (f : Auth → Auth) : (s.modAuth f).freeCount = s.freeCount := rfl
@[simp] theorem State.modAuth_pending (f : Auth → Auth) : (s.modAuth f).pending = s.pending := rfl

@[simp] theorem State.modGroup_now (g : Fin 2) (f : Group → Group) : (s.modGroup g f).now = s.now := rfl
@[simp] theorem State.modGroup_lastSync (g : Fin 2) (f : Group → Group) : (s.modGroup g f).lastSync = s.lastSync := rfl
@[simp] theorem State.modGroup_heldTcyc (g : Fin 2) (f : Group → Group) : (s.modGroup g f).heldTcyc = s.heldTcyc := rfl
@[simp] theorem State.modGroup_small (g : Fin 2) (f : Group → Group) : (s.modGroup g f).small = s.small := rfl
@[simp] theorem State.modGroup_params (g : Fin 2) (f : Group → Group) : (s.modGroup g f).params = s.params := rfl
@[simp] theorem State.modGroup_slices (g : Fin 2) (f : Group → Group) : (s.modGroup g f).slices = s.slices := rfl
@[simp] theorem State.modGroup_sliceRegions (g : Fin 2) (f : Group → Group) : (s.modGroup g f).sliceRegions = s.sliceRegions := rfl
@[simp] theorem State.modGroup_hwsRegion (g : Fin 2) (f : Group → Group) : (s.modGroup g f).hwsRegion = s.hwsRegion := rfl
@[simp] theorem State.modGroup_splRegion (g : Fin 2) (f : Group → Group) : (s.modGroup g f).splRegion = s.splRegion := rfl
@[simp] theorem State.modGroup_mssRegion (g : Fin 2) (f : Group → Group) : (s.modGroup g f).mssRegion = s.mssRegion := rfl
@[simp] theorem State.modGroup_dq (g : Fin 2) (f : Group → Group) : (s.modGroup g f).dq = s.dq := rfl
@[simp] theorem State.modGroup_mq (g : Fin 2) (f : Group → Group) : (s.modGroup g f).mq = s.mq := rfl
@[simp] theorem State.modGroup_hws (g : Fin 2) (f : Group → Group) : (s.modGroup g f).hws = s.hws := rfl
@[simp] theorem State.modGroup_ina (g : Fin 2) (f : Group → Group) : (s.modGroup g f).ina = s.ina := rfl
@[simp] theorem State.modGroup_spl (g : Fin 2) (f : Group → Group) : (s.modGroup g f).spl = s.spl := rfl
@[simp] theorem State.modGroup_twn (g : Fin 2) (f : Group → Group) : (s.modGroup g f).twn = s.twn := rfl
@[simp] theorem State.modGroup_groups (g : Fin 2) (f : Group → Group) : (s.modGroup g f).groups = s.groups.set g (f s.groups[g]) := rfl
@[simp] theorem State.modGroup_blyMask (g : Fin 2) (f : Group → Group) : (s.modGroup g f).blyMask = s.blyMask := rfl
@[simp] theorem State.modGroup_loop (g : Fin 2) (f : Group → Group) : (s.modGroup g f).loop = s.loop := rfl
@[simp] theorem State.modGroup_plug (g : Fin 2) (f : Group → Group) : (s.modGroup g f).plug = s.plug := rfl
@[simp] theorem State.modGroup_cfg (g : Fin 2) (f : Group → Group) : (s.modGroup g f).cfg = s.cfg := rfl
@[simp] theorem State.modGroup_mss (g : Fin 2) (f : Group → Group) : (s.modGroup g f).mss = s.mss := rfl
@[simp] theorem State.modGroup_log (g : Fin 2) (f : Group → Group) : (s.modGroup g f).log = s.log := rfl
@[simp] theorem State.modGroup_node (g : Fin 2) (f : Group → Group) : (s.modGroup g f).node = s.node := rfl
@[simp] theorem State.modGroup_start (g : Fin 2) (f : Group → Group) : (s.modGroup g f).start = s.start := rfl
@[simp] theorem State.modGroup_islands (g : Fin 2) (f : Group → Group) : (s.modGroup g f).islands = s.islands := rfl
@[simp] theorem State.modGroup_clocks (g : Fin 2) (f : Group → Group) : (s.modGroup g f).clocks = s.clocks := rfl
@[simp] theorem State.modGroup_stalled (g : Fin 2) (f : Group → Group) : (s.modGroup g f).stalled = s.stalled := rfl
@[simp] theorem State.modGroup_hostPorts (g : Fin 2) (f : Group → Group) : (s.modGroup g f).hostPorts = s.hostPorts := rfl
@[simp] theorem State.modGroup_access (g : Fin 2) (f : Group → Group) : (s.modGroup g f).access = s.access := rfl
@[simp] theorem State.modGroup_freeCount (g : Fin 2) (f : Group → Group) : (s.modGroup g f).freeCount = s.freeCount := rfl
@[simp] theorem State.modGroup_pending (g : Fin 2) (f : Group → Group) : (s.modGroup g f).pending = s.pending := rfl

@[simp] theorem State.modLoop_now (f : LoopCell → LoopCell) : (s.modLoop f).now = s.now := rfl
@[simp] theorem State.modLoop_lastSync (f : LoopCell → LoopCell) : (s.modLoop f).lastSync = s.lastSync := rfl
@[simp] theorem State.modLoop_heldTcyc (f : LoopCell → LoopCell) : (s.modLoop f).heldTcyc = s.heldTcyc := rfl
@[simp] theorem State.modLoop_small (f : LoopCell → LoopCell) : (s.modLoop f).small = s.small := rfl
@[simp] theorem State.modLoop_params (f : LoopCell → LoopCell) : (s.modLoop f).params = s.params := rfl
@[simp] theorem State.modLoop_slices (f : LoopCell → LoopCell) : (s.modLoop f).slices = s.slices := rfl
@[simp] theorem State.modLoop_sliceRegions (f : LoopCell → LoopCell) : (s.modLoop f).sliceRegions = s.sliceRegions := rfl
@[simp] theorem State.modLoop_hwsRegion (f : LoopCell → LoopCell) : (s.modLoop f).hwsRegion = s.hwsRegion := rfl
@[simp] theorem State.modLoop_splRegion (f : LoopCell → LoopCell) : (s.modLoop f).splRegion = s.splRegion := rfl
@[simp] theorem State.modLoop_mssRegion (f : LoopCell → LoopCell) : (s.modLoop f).mssRegion = s.mssRegion := rfl
@[simp] theorem State.modLoop_dq (f : LoopCell → LoopCell) : (s.modLoop f).dq = s.dq := rfl
@[simp] theorem State.modLoop_mq (f : LoopCell → LoopCell) : (s.modLoop f).mq = s.mq := rfl
@[simp] theorem State.modLoop_hws (f : LoopCell → LoopCell) : (s.modLoop f).hws = s.hws := rfl
@[simp] theorem State.modLoop_ina (f : LoopCell → LoopCell) : (s.modLoop f).ina = s.ina := rfl
@[simp] theorem State.modLoop_spl (f : LoopCell → LoopCell) : (s.modLoop f).spl = s.spl := rfl
@[simp] theorem State.modLoop_twn (f : LoopCell → LoopCell) : (s.modLoop f).twn = s.twn := rfl
@[simp] theorem State.modLoop_groups (f : LoopCell → LoopCell) : (s.modLoop f).groups = s.groups := rfl
@[simp] theorem State.modLoop_blyMask (f : LoopCell → LoopCell) : (s.modLoop f).blyMask = s.blyMask := rfl
@[simp] theorem State.modLoop_loop (f : LoopCell → LoopCell) : (s.modLoop f).loop = f s.loop := rfl
@[simp] theorem State.modLoop_plug (f : LoopCell → LoopCell) : (s.modLoop f).plug = s.plug := rfl
@[simp] theorem State.modLoop_cfg (f : LoopCell → LoopCell) : (s.modLoop f).cfg = s.cfg := rfl
@[simp] theorem State.modLoop_mss (f : LoopCell → LoopCell) : (s.modLoop f).mss = s.mss := rfl
@[simp] theorem State.modLoop_log (f : LoopCell → LoopCell) : (s.modLoop f).log = s.log := rfl
@[simp] theorem State.modLoop_node (f : LoopCell → LoopCell) : (s.modLoop f).node = s.node := rfl
@[simp] theorem State.modLoop_start (f : LoopCell → LoopCell) : (s.modLoop f).start = s.start := rfl
@[simp] theorem State.modLoop_islands (f : LoopCell → LoopCell) : (s.modLoop f).islands = s.islands := rfl
@[simp] theorem State.modLoop_clocks (f : LoopCell → LoopCell) : (s.modLoop f).clocks = s.clocks := rfl
@[simp] theorem State.modLoop_stalled (f : LoopCell → LoopCell) : (s.modLoop f).stalled = s.stalled := rfl
@[simp] theorem State.modLoop_hostPorts (f : LoopCell → LoopCell) : (s.modLoop f).hostPorts = s.hostPorts := rfl
@[simp] theorem State.modLoop_access (f : LoopCell → LoopCell) : (s.modLoop f).access = s.access := rfl
@[simp] theorem State.modLoop_freeCount (f : LoopCell → LoopCell) : (s.modLoop f).freeCount = s.freeCount := rfl
@[simp] theorem State.modLoop_pending (f : LoopCell → LoopCell) : (s.modLoop f).pending = s.pending := rfl

@[simp] theorem State.modCfg_now (f : Cfg → Cfg) : (s.modCfg f).now = s.now := rfl
@[simp] theorem State.modCfg_lastSync (f : Cfg → Cfg) : (s.modCfg f).lastSync = s.lastSync := rfl
@[simp] theorem State.modCfg_heldTcyc (f : Cfg → Cfg) : (s.modCfg f).heldTcyc = s.heldTcyc := rfl
@[simp] theorem State.modCfg_small (f : Cfg → Cfg) : (s.modCfg f).small = s.small := rfl
@[simp] theorem State.modCfg_params (f : Cfg → Cfg) : (s.modCfg f).params = s.params := rfl
@[simp] theorem State.modCfg_slices (f : Cfg → Cfg) : (s.modCfg f).slices = s.slices := rfl
@[simp] theorem State.modCfg_sliceRegions (f : Cfg → Cfg) : (s.modCfg f).sliceRegions = s.sliceRegions := rfl
@[simp] theorem State.modCfg_hwsRegion (f : Cfg → Cfg) : (s.modCfg f).hwsRegion = s.hwsRegion := rfl
@[simp] theorem State.modCfg_splRegion (f : Cfg → Cfg) : (s.modCfg f).splRegion = s.splRegion := rfl
@[simp] theorem State.modCfg_mssRegion (f : Cfg → Cfg) : (s.modCfg f).mssRegion = s.mssRegion := rfl
@[simp] theorem State.modCfg_dq (f : Cfg → Cfg) : (s.modCfg f).dq = s.dq := rfl
@[simp] theorem State.modCfg_mq (f : Cfg → Cfg) : (s.modCfg f).mq = s.mq := rfl
@[simp] theorem State.modCfg_hws (f : Cfg → Cfg) : (s.modCfg f).hws = s.hws := rfl
@[simp] theorem State.modCfg_ina (f : Cfg → Cfg) : (s.modCfg f).ina = s.ina := rfl
@[simp] theorem State.modCfg_spl (f : Cfg → Cfg) : (s.modCfg f).spl = s.spl := rfl
@[simp] theorem State.modCfg_twn (f : Cfg → Cfg) : (s.modCfg f).twn = s.twn := rfl
@[simp] theorem State.modCfg_groups (f : Cfg → Cfg) : (s.modCfg f).groups = s.groups := rfl
@[simp] theorem State.modCfg_blyMask (f : Cfg → Cfg) : (s.modCfg f).blyMask = s.blyMask := rfl
@[simp] theorem State.modCfg_loop (f : Cfg → Cfg) : (s.modCfg f).loop = s.loop := rfl
@[simp] theorem State.modCfg_plug (f : Cfg → Cfg) : (s.modCfg f).plug = s.plug := rfl
@[simp] theorem State.modCfg_cfg (f : Cfg → Cfg) : (s.modCfg f).cfg = f s.cfg := rfl
@[simp] theorem State.modCfg_mss (f : Cfg → Cfg) : (s.modCfg f).mss = s.mss := rfl
@[simp] theorem State.modCfg_log (f : Cfg → Cfg) : (s.modCfg f).log = s.log := rfl
@[simp] theorem State.modCfg_node (f : Cfg → Cfg) : (s.modCfg f).node = s.node := rfl
@[simp] theorem State.modCfg_start (f : Cfg → Cfg) : (s.modCfg f).start = s.start := rfl
@[simp] theorem State.modCfg_islands (f : Cfg → Cfg) : (s.modCfg f).islands = s.islands := rfl
@[simp] theorem State.modCfg_clocks (f : Cfg → Cfg) : (s.modCfg f).clocks = s.clocks := rfl
@[simp] theorem State.modCfg_stalled (f : Cfg → Cfg) : (s.modCfg f).stalled = s.stalled := rfl
@[simp] theorem State.modCfg_hostPorts (f : Cfg → Cfg) : (s.modCfg f).hostPorts = s.hostPorts := rfl
@[simp] theorem State.modCfg_access (f : Cfg → Cfg) : (s.modCfg f).access = s.access := rfl
@[simp] theorem State.modCfg_freeCount (f : Cfg → Cfg) : (s.modCfg f).freeCount = s.freeCount := rfl
@[simp] theorem State.modCfg_pending (f : Cfg → Cfg) : (s.modCfg f).pending = s.pending := rfl

@[simp] theorem State.modMss_now (f : Mss → Mss) : (s.modMss f).now = s.now := rfl
@[simp] theorem State.modMss_lastSync (f : Mss → Mss) : (s.modMss f).lastSync = s.lastSync := rfl
@[simp] theorem State.modMss_heldTcyc (f : Mss → Mss) : (s.modMss f).heldTcyc = s.heldTcyc := rfl
@[simp] theorem State.modMss_small (f : Mss → Mss) : (s.modMss f).small = s.small := rfl
@[simp] theorem State.modMss_params (f : Mss → Mss) : (s.modMss f).params = s.params := rfl
@[simp] theorem State.modMss_slices (f : Mss → Mss) : (s.modMss f).slices = s.slices := rfl
@[simp] theorem State.modMss_sliceRegions (f : Mss → Mss) : (s.modMss f).sliceRegions = s.sliceRegions := rfl
@[simp] theorem State.modMss_hwsRegion (f : Mss → Mss) : (s.modMss f).hwsRegion = s.hwsRegion := rfl
@[simp] theorem State.modMss_splRegion (f : Mss → Mss) : (s.modMss f).splRegion = s.splRegion := rfl
@[simp] theorem State.modMss_mssRegion (f : Mss → Mss) : (s.modMss f).mssRegion = s.mssRegion := rfl
@[simp] theorem State.modMss_dq (f : Mss → Mss) : (s.modMss f).dq = s.dq := rfl
@[simp] theorem State.modMss_mq (f : Mss → Mss) : (s.modMss f).mq = s.mq := rfl
@[simp] theorem State.modMss_hws (f : Mss → Mss) : (s.modMss f).hws = s.hws := rfl
@[simp] theorem State.modMss_ina (f : Mss → Mss) : (s.modMss f).ina = s.ina := rfl
@[simp] theorem State.modMss_spl (f : Mss → Mss) : (s.modMss f).spl = s.spl := rfl
@[simp] theorem State.modMss_twn (f : Mss → Mss) : (s.modMss f).twn = s.twn := rfl
@[simp] theorem State.modMss_groups (f : Mss → Mss) : (s.modMss f).groups = s.groups := rfl
@[simp] theorem State.modMss_blyMask (f : Mss → Mss) : (s.modMss f).blyMask = s.blyMask := rfl
@[simp] theorem State.modMss_loop (f : Mss → Mss) : (s.modMss f).loop = s.loop := rfl
@[simp] theorem State.modMss_plug (f : Mss → Mss) : (s.modMss f).plug = s.plug := rfl
@[simp] theorem State.modMss_cfg (f : Mss → Mss) : (s.modMss f).cfg = s.cfg := rfl
@[simp] theorem State.modMss_mss (f : Mss → Mss) : (s.modMss f).mss = f s.mss := rfl
@[simp] theorem State.modMss_log (f : Mss → Mss) : (s.modMss f).log = s.log := rfl
@[simp] theorem State.modMss_node (f : Mss → Mss) : (s.modMss f).node = s.node := rfl
@[simp] theorem State.modMss_start (f : Mss → Mss) : (s.modMss f).start = s.start := rfl
@[simp] theorem State.modMss_islands (f : Mss → Mss) : (s.modMss f).islands = s.islands := rfl
@[simp] theorem State.modMss_clocks (f : Mss → Mss) : (s.modMss f).clocks = s.clocks := rfl
@[simp] theorem State.modMss_stalled (f : Mss → Mss) : (s.modMss f).stalled = s.stalled := rfl
@[simp] theorem State.modMss_hostPorts (f : Mss → Mss) : (s.modMss f).hostPorts = s.hostPorts := rfl
@[simp] theorem State.modMss_access (f : Mss → Mss) : (s.modMss f).access = s.access := rfl
@[simp] theorem State.modMss_freeCount (f : Mss → Mss) : (s.modMss f).freeCount = s.freeCount := rfl
@[simp] theorem State.modMss_pending (f : Mss → Mss) : (s.modMss f).pending = s.pending := rfl

@[simp] theorem State.modLog_now (f : Logline → Logline) : (s.modLog f).now = s.now := rfl
@[simp] theorem State.modLog_lastSync (f : Logline → Logline) : (s.modLog f).lastSync = s.lastSync := rfl
@[simp] theorem State.modLog_heldTcyc (f : Logline → Logline) : (s.modLog f).heldTcyc = s.heldTcyc := rfl
@[simp] theorem State.modLog_small (f : Logline → Logline) : (s.modLog f).small = s.small := rfl
@[simp] theorem State.modLog_params (f : Logline → Logline) : (s.modLog f).params = s.params := rfl
@[simp] theorem State.modLog_slices (f : Logline → Logline) : (s.modLog f).slices = s.slices := rfl
@[simp] theorem State.modLog_sliceRegions (f : Logline → Logline) : (s.modLog f).sliceRegions = s.sliceRegions := rfl
@[simp] theorem State.modLog_hwsRegion (f : Logline → Logline) : (s.modLog f).hwsRegion = s.hwsRegion := rfl
@[simp] theorem State.modLog_splRegion (f : Logline → Logline) : (s.modLog f).splRegion = s.splRegion := rfl
@[simp] theorem State.modLog_mssRegion (f : Logline → Logline) : (s.modLog f).mssRegion = s.mssRegion := rfl
@[simp] theorem State.modLog_dq (f : Logline → Logline) : (s.modLog f).dq = s.dq := rfl
@[simp] theorem State.modLog_mq (f : Logline → Logline) : (s.modLog f).mq = s.mq := rfl
@[simp] theorem State.modLog_hws (f : Logline → Logline) : (s.modLog f).hws = s.hws := rfl
@[simp] theorem State.modLog_ina (f : Logline → Logline) : (s.modLog f).ina = s.ina := rfl
@[simp] theorem State.modLog_spl (f : Logline → Logline) : (s.modLog f).spl = s.spl := rfl
@[simp] theorem State.modLog_twn (f : Logline → Logline) : (s.modLog f).twn = s.twn := rfl
@[simp] theorem State.modLog_groups (f : Logline → Logline) : (s.modLog f).groups = s.groups := rfl
@[simp] theorem State.modLog_blyMask (f : Logline → Logline) : (s.modLog f).blyMask = s.blyMask := rfl
@[simp] theorem State.modLog_loop (f : Logline → Logline) : (s.modLog f).loop = s.loop := rfl
@[simp] theorem State.modLog_plug (f : Logline → Logline) : (s.modLog f).plug = s.plug := rfl
@[simp] theorem State.modLog_cfg (f : Logline → Logline) : (s.modLog f).cfg = s.cfg := rfl
@[simp] theorem State.modLog_mss (f : Logline → Logline) : (s.modLog f).mss = s.mss := rfl
@[simp] theorem State.modLog_log (f : Logline → Logline) : (s.modLog f).log = f s.log := rfl
@[simp] theorem State.modLog_node (f : Logline → Logline) : (s.modLog f).node = s.node := rfl
@[simp] theorem State.modLog_start (f : Logline → Logline) : (s.modLog f).start = s.start := rfl
@[simp] theorem State.modLog_islands (f : Logline → Logline) : (s.modLog f).islands = s.islands := rfl
@[simp] theorem State.modLog_clocks (f : Logline → Logline) : (s.modLog f).clocks = s.clocks := rfl
@[simp] theorem State.modLog_stalled (f : Logline → Logline) : (s.modLog f).stalled = s.stalled := rfl
@[simp] theorem State.modLog_hostPorts (f : Logline → Logline) : (s.modLog f).hostPorts = s.hostPorts := rfl
@[simp] theorem State.modLog_access (f : Logline → Logline) : (s.modLog f).access = s.access := rfl
@[simp] theorem State.modLog_freeCount (f : Logline → Logline) : (s.modLog f).freeCount = s.freeCount := rfl
@[simp] theorem State.modLog_pending (f : Logline → Logline) : (s.modLog f).pending = s.pending := rfl

@[simp] theorem State.modNode_now (f : NodeEvents → NodeEvents) : (s.modNode f).now = s.now := rfl
@[simp] theorem State.modNode_lastSync (f : NodeEvents → NodeEvents) : (s.modNode f).lastSync = s.lastSync := rfl
@[simp] theorem State.modNode_heldTcyc (f : NodeEvents → NodeEvents) : (s.modNode f).heldTcyc = s.heldTcyc := rfl
@[simp] theorem State.modNode_small (f : NodeEvents → NodeEvents) : (s.modNode f).small = s.small := rfl
@[simp] theorem State.modNode_params (f : NodeEvents → NodeEvents) : (s.modNode f).params = s.params := rfl
@[simp] theorem State.modNode_slices (f : NodeEvents → NodeEvents) : (s.modNode f).slices = s.slices := rfl
@[simp] theorem State.modNode_sliceRegions (f : NodeEvents → NodeEvents) : (s.modNode f).sliceRegions = s.sliceRegions := rfl
@[simp] theorem State.modNode_hwsRegion (f : NodeEvents → NodeEvents) : (s.modNode f).hwsRegion = s.hwsRegion := rfl
@[simp] theorem State.modNode_splRegion (f : NodeEvents → NodeEvents) : (s.modNode f).splRegion = s.splRegion := rfl
@[simp] theorem State.modNode_mssRegion (f : NodeEvents → NodeEvents) : (s.modNode f).mssRegion = s.mssRegion := rfl
@[simp] theorem State.modNode_dq (f : NodeEvents → NodeEvents) : (s.modNode f).dq = s.dq := rfl
@[simp] theorem State.modNode_mq (f : NodeEvents → NodeEvents) : (s.modNode f).mq = s.mq := rfl
@[simp] theorem State.modNode_hws (f : NodeEvents → NodeEvents) : (s.modNode f).hws = s.hws := rfl
@[simp] theorem State.modNode_ina (f : NodeEvents → NodeEvents) : (s.modNode f).ina = s.ina := rfl
@[simp] theorem State.modNode_spl (f : NodeEvents → NodeEvents) : (s.modNode f).spl = s.spl := rfl
@[simp] theorem State.modNode_twn (f : NodeEvents → NodeEvents) : (s.modNode f).twn = s.twn := rfl
@[simp] theorem State.modNode_groups (f : NodeEvents → NodeEvents) : (s.modNode f).groups = s.groups := rfl
@[simp] theorem State.modNode_blyMask (f : NodeEvents → NodeEvents) : (s.modNode f).blyMask = s.blyMask := rfl
@[simp] theorem State.modNode_loop (f : NodeEvents → NodeEvents) : (s.modNode f).loop = s.loop := rfl
@[simp] theorem State.modNode_plug (f : NodeEvents → NodeEvents) : (s.modNode f).plug = s.plug := rfl
@[simp] theorem State.modNode_cfg (f : NodeEvents → NodeEvents) : (s.modNode f).cfg = s.cfg := rfl
@[simp] theorem State.modNode_mss (f : NodeEvents → NodeEvents) : (s.modNode f).mss = s.mss := rfl
@[simp] theorem State.modNode_log (f : NodeEvents → NodeEvents) : (s.modNode f).log = s.log := rfl
@[simp] theorem State.modNode_node (f : NodeEvents → NodeEvents) : (s.modNode f).node = f s.node := rfl
@[simp] theorem State.modNode_start (f : NodeEvents → NodeEvents) : (s.modNode f).start = s.start := rfl
@[simp] theorem State.modNode_islands (f : NodeEvents → NodeEvents) : (s.modNode f).islands = s.islands := rfl
@[simp] theorem State.modNode_clocks (f : NodeEvents → NodeEvents) : (s.modNode f).clocks = s.clocks := rfl
@[simp] theorem State.modNode_stalled (f : NodeEvents → NodeEvents) : (s.modNode f).stalled = s.stalled := rfl
@[simp] theorem State.modNode_hostPorts (f : NodeEvents → NodeEvents) : (s.modNode f).hostPorts = s.hostPorts := rfl
@[simp] theorem State.modNode_access (f : NodeEvents → NodeEvents) : (s.modNode f).access = s.access := rfl
@[simp] theorem State.modNode_freeCount (f : NodeEvents → NodeEvents) : (s.modNode f).freeCount = s.freeCount := rfl
@[simp] theorem State.modNode_pending (f : NodeEvents → NodeEvents) : (s.modNode f).pending = s.pending := rfl

@[simp] theorem State.modStart_now (f : Start → Start) : (s.modStart f).now = s.now := rfl
@[simp] theorem State.modStart_lastSync (f : Start → Start) : (s.modStart f).lastSync = s.lastSync := rfl
@[simp] theorem State.modStart_heldTcyc (f : Start → Start) : (s.modStart f).heldTcyc = s.heldTcyc := rfl
@[simp] theorem State.modStart_small (f : Start → Start) : (s.modStart f).small = s.small := rfl
@[simp] theorem State.modStart_params (f : Start → Start) : (s.modStart f).params = s.params := rfl
@[simp] theorem State.modStart_slices (f : Start → Start) : (s.modStart f).slices = s.slices := rfl
@[simp] theorem State.modStart_sliceRegions (f : Start → Start) : (s.modStart f).sliceRegions = s.sliceRegions := rfl
@[simp] theorem State.modStart_hwsRegion (f : Start → Start) : (s.modStart f).hwsRegion = s.hwsRegion := rfl
@[simp] theorem State.modStart_splRegion (f : Start → Start) : (s.modStart f).splRegion = s.splRegion := rfl
@[simp] theorem State.modStart_mssRegion (f : Start → Start) : (s.modStart f).mssRegion = s.mssRegion := rfl
@[simp] theorem State.modStart_dq (f : Start → Start) : (s.modStart f).dq = s.dq := rfl
@[simp] theorem State.modStart_mq (f : Start → Start) : (s.modStart f).mq = s.mq := rfl
@[simp] theorem State.modStart_hws (f : Start → Start) : (s.modStart f).hws = s.hws := rfl
@[simp] theorem State.modStart_ina (f : Start → Start) : (s.modStart f).ina = s.ina := rfl
@[simp] theorem State.modStart_spl (f : Start → Start) : (s.modStart f).spl = s.spl := rfl
@[simp] theorem State.modStart_twn (f : Start → Start) : (s.modStart f).twn = s.twn := rfl
@[simp] theorem State.modStart_groups (f : Start → Start) : (s.modStart f).groups = s.groups := rfl
@[simp] theorem State.modStart_blyMask (f : Start → Start) : (s.modStart f).blyMask = s.blyMask := rfl
@[simp] theorem State.modStart_loop (f : Start → Start) : (s.modStart f).loop = s.loop := rfl
@[simp] theorem State.modStart_plug (f : Start → Start) : (s.modStart f).plug = s.plug := rfl
@[simp] theorem State.modStart_cfg (f : Start → Start) : (s.modStart f).cfg = s.cfg := rfl
@[simp] theorem State.modStart_mss (f : Start → Start) : (s.modStart f).mss = s.mss := rfl
@[simp] theorem State.modStart_log (f : Start → Start) : (s.modStart f).log = s.log := rfl
@[simp] theorem State.modStart_node (f : Start → Start) : (s.modStart f).node = s.node := rfl
@[simp] theorem State.modStart_start (f : Start → Start) : (s.modStart f).start = f s.start := rfl
@[simp] theorem State.modStart_islands (f : Start → Start) : (s.modStart f).islands = s.islands := rfl
@[simp] theorem State.modStart_clocks (f : Start → Start) : (s.modStart f).clocks = s.clocks := rfl
@[simp] theorem State.modStart_stalled (f : Start → Start) : (s.modStart f).stalled = s.stalled := rfl
@[simp] theorem State.modStart_hostPorts (f : Start → Start) : (s.modStart f).hostPorts = s.hostPorts := rfl
@[simp] theorem State.modStart_access (f : Start → Start) : (s.modStart f).access = s.access := rfl
@[simp] theorem State.modStart_freeCount (f : Start → Start) : (s.modStart f).freeCount = s.freeCount := rfl
@[simp] theorem State.modStart_pending (f : Start → Start) : (s.modStart f).pending = s.pending := rfl

@[simp] theorem State.modIsland_now (k : Fin 34) (f : Island → Island) : (s.modIsland k f).now = s.now := rfl
@[simp] theorem State.modIsland_lastSync (k : Fin 34) (f : Island → Island) : (s.modIsland k f).lastSync = s.lastSync := rfl
@[simp] theorem State.modIsland_heldTcyc (k : Fin 34) (f : Island → Island) : (s.modIsland k f).heldTcyc = s.heldTcyc := rfl
@[simp] theorem State.modIsland_small (k : Fin 34) (f : Island → Island) : (s.modIsland k f).small = s.small := rfl
@[simp] theorem State.modIsland_params (k : Fin 34) (f : Island → Island) : (s.modIsland k f).params = s.params := rfl
@[simp] theorem State.modIsland_slices (k : Fin 34) (f : Island → Island) : (s.modIsland k f).slices = s.slices := rfl
@[simp] theorem State.modIsland_sliceRegions (k : Fin 34) (f : Island → Island) : (s.modIsland k f).sliceRegions = s.sliceRegions := rfl
@[simp] theorem State.modIsland_hwsRegion (k : Fin 34) (f : Island → Island) : (s.modIsland k f).hwsRegion = s.hwsRegion := rfl
@[simp] theorem State.modIsland_splRegion (k : Fin 34) (f : Island → Island) : (s.modIsland k f).splRegion = s.splRegion := rfl
@[simp] theorem State.modIsland_mssRegion (k : Fin 34) (f : Island → Island) : (s.modIsland k f).mssRegion = s.mssRegion := rfl
@[simp] theorem State.modIsland_dq (k : Fin 34) (f : Island → Island) : (s.modIsland k f).dq = s.dq := rfl
@[simp] theorem State.modIsland_mq (k : Fin 34) (f : Island → Island) : (s.modIsland k f).mq = s.mq := rfl
@[simp] theorem State.modIsland_hws (k : Fin 34) (f : Island → Island) : (s.modIsland k f).hws = s.hws := rfl
@[simp] theorem State.modIsland_ina (k : Fin 34) (f : Island → Island) : (s.modIsland k f).ina = s.ina := rfl
@[simp] theorem State.modIsland_spl (k : Fin 34) (f : Island → Island) : (s.modIsland k f).spl = s.spl := rfl
@[simp] theorem State.modIsland_twn (k : Fin 34) (f : Island → Island) : (s.modIsland k f).twn = s.twn := rfl
@[simp] theorem State.modIsland_groups (k : Fin 34) (f : Island → Island) : (s.modIsland k f).groups = s.groups := rfl
@[simp] theorem State.modIsland_blyMask (k : Fin 34) (f : Island → Island) : (s.modIsland k f).blyMask = s.blyMask := rfl
@[simp] theorem State.modIsland_loop (k : Fin 34) (f : Island → Island) : (s.modIsland k f).loop = s.loop := rfl
@[simp] theorem State.modIsland_plug (k : Fin 34) (f : Island → Island) : (s.modIsland k f).plug = s.plug := rfl
@[simp] theorem State.modIsland_cfg (k : Fin 34) (f : Island → Island) : (s.modIsland k f).cfg = s.cfg := rfl
@[simp] theorem State.modIsland_mss (k : Fin 34) (f : Island → Island) : (s.modIsland k f).mss = s.mss := rfl
@[simp] theorem State.modIsland_log (k : Fin 34) (f : Island → Island) : (s.modIsland k f).log = s.log := rfl
@[simp] theorem State.modIsland_node (k : Fin 34) (f : Island → Island) : (s.modIsland k f).node = s.node := rfl
@[simp] theorem State.modIsland_start (k : Fin 34) (f : Island → Island) : (s.modIsland k f).start = s.start := rfl
@[simp] theorem State.modIsland_islands (k : Fin 34) (f : Island → Island) : (s.modIsland k f).islands = s.islands.set k (f s.islands[k]) := rfl
@[simp] theorem State.modIsland_clocks (k : Fin 34) (f : Island → Island) : (s.modIsland k f).clocks = s.clocks := rfl
@[simp] theorem State.modIsland_stalled (k : Fin 34) (f : Island → Island) : (s.modIsland k f).stalled = s.stalled := rfl
@[simp] theorem State.modIsland_hostPorts (k : Fin 34) (f : Island → Island) : (s.modIsland k f).hostPorts = s.hostPorts := rfl
@[simp] theorem State.modIsland_access (k : Fin 34) (f : Island → Island) : (s.modIsland k f).access = s.access := rfl
@[simp] theorem State.modIsland_freeCount (k : Fin 34) (f : Island → Island) : (s.modIsland k f).freeCount = s.freeCount := rfl
@[simp] theorem State.modIsland_pending (k : Fin 34) (f : Island → Island) : (s.modIsland k f).pending = s.pending := rfl

@[simp] theorem State.modClock_now (k : Fin 17) (f : Clock → Clock) : (s.modClock k f).now = s.now := rfl
@[simp] theorem State.modClock_lastSync (k : Fin 17) (f : Clock → Clock) : (s.modClock k f).lastSync = s.lastSync := rfl
@[simp] theorem State.modClock_heldTcyc (k : Fin 17) (f : Clock → Clock) : (s.modClock k f).heldTcyc = s.heldTcyc := rfl
@[simp] theorem State.modClock_small (k : Fin 17) (f : Clock → Clock) : (s.modClock k f).small = s.small := rfl
@[simp] theorem State.modClock_params (k : Fin 17) (f : Clock → Clock) : (s.modClock k f).params = s.params := rfl
@[simp] theorem State.modClock_slices (k : Fin 17) (f : Clock → Clock) : (s.modClock k f).slices = s.slices := rfl
@[simp] theorem State.modClock_sliceRegions (k : Fin 17) (f : Clock → Clock) : (s.modClock k f).sliceRegions = s.sliceRegions := rfl
@[simp] theorem State.modClock_hwsRegion (k : Fin 17) (f : Clock → Clock) : (s.modClock k f).hwsRegion = s.hwsRegion := rfl
@[simp] theorem State.modClock_splRegion (k : Fin 17) (f : Clock → Clock) : (s.modClock k f).splRegion = s.splRegion := rfl
@[simp] theorem State.modClock_mssRegion (k : Fin 17) (f : Clock → Clock) : (s.modClock k f).mssRegion = s.mssRegion := rfl
@[simp] theorem State.modClock_dq (k : Fin 17) (f : Clock → Clock) : (s.modClock k f).dq = s.dq := rfl
@[simp] theorem State.modClock_mq (k : Fin 17) (f : Clock → Clock) : (s.modClock k f).mq = s.mq := rfl
@[simp] theorem State.modClock_hws (k : Fin 17) (f : Clock → Clock) : (s.modClock k f).hws = s.hws := rfl
@[simp] theorem State.modClock_ina (k : Fin 17) (f : Clock → Clock) : (s.modClock k f).ina = s.ina := rfl
@[simp] theorem State.modClock_spl (k : Fin 17) (f : Clock → Clock) : (s.modClock k f).spl = s.spl := rfl
@[simp] theorem State.modClock_twn (k : Fin 17) (f : Clock → Clock) : (s.modClock k f).twn = s.twn := rfl
@[simp] theorem State.modClock_groups (k : Fin 17) (f : Clock → Clock) : (s.modClock k f).groups = s.groups := rfl
@[simp] theorem State.modClock_blyMask (k : Fin 17) (f : Clock → Clock) : (s.modClock k f).blyMask = s.blyMask := rfl
@[simp] theorem State.modClock_loop (k : Fin 17) (f : Clock → Clock) : (s.modClock k f).loop = s.loop := rfl
@[simp] theorem State.modClock_plug (k : Fin 17) (f : Clock → Clock) : (s.modClock k f).plug = s.plug := rfl
@[simp] theorem State.modClock_cfg (k : Fin 17) (f : Clock → Clock) : (s.modClock k f).cfg = s.cfg := rfl
@[simp] theorem State.modClock_mss (k : Fin 17) (f : Clock → Clock) : (s.modClock k f).mss = s.mss := rfl
@[simp] theorem State.modClock_log (k : Fin 17) (f : Clock → Clock) : (s.modClock k f).log = s.log := rfl
@[simp] theorem State.modClock_node (k : Fin 17) (f : Clock → Clock) : (s.modClock k f).node = s.node := rfl
@[simp] theorem State.modClock_start (k : Fin 17) (f : Clock → Clock) : (s.modClock k f).start = s.start := rfl
@[simp] theorem State.modClock_islands (k : Fin 17) (f : Clock → Clock) : (s.modClock k f).islands = s.islands := rfl
@[simp] theorem State.modClock_clocks (k : Fin 17) (f : Clock → Clock) : (s.modClock k f).clocks = s.clocks.set k (f s.clocks[k]) := rfl
@[simp] theorem State.modClock_stalled (k : Fin 17) (f : Clock → Clock) : (s.modClock k f).stalled = s.stalled := rfl
@[simp] theorem State.modClock_hostPorts (k : Fin 17) (f : Clock → Clock) : (s.modClock k f).hostPorts = s.hostPorts := rfl
@[simp] theorem State.modClock_access (k : Fin 17) (f : Clock → Clock) : (s.modClock k f).access = s.access := rfl
@[simp] theorem State.modClock_freeCount (k : Fin 17) (f : Clock → Clock) : (s.modClock k f).freeCount = s.freeCount := rfl
@[simp] theorem State.modClock_pending (k : Fin 17) (f : Clock → Clock) : (s.modClock k f).pending = s.pending := rfl

@[simp] theorem State.modPort_now (i : Fin 4) (f : HPort → HPort) : (s.modPort i f).now = s.now := rfl
@[simp] theorem State.modPort_lastSync (i : Fin 4) (f : HPort → HPort) : (s.modPort i f).lastSync = s.lastSync := rfl
@[simp] theorem State.modPort_heldTcyc (i : Fin 4) (f : HPort → HPort) : (s.modPort i f).heldTcyc = s.heldTcyc := rfl
@[simp] theorem State.modPort_small (i : Fin 4) (f : HPort → HPort) : (s.modPort i f).small = s.small := rfl
@[simp] theorem State.modPort_params (i : Fin 4) (f : HPort → HPort) : (s.modPort i f).params = s.params := rfl
@[simp] theorem State.modPort_slices (i : Fin 4) (f : HPort → HPort) : (s.modPort i f).slices = s.slices := rfl
@[simp] theorem State.modPort_sliceRegions (i : Fin 4) (f : HPort → HPort) : (s.modPort i f).sliceRegions = s.sliceRegions := rfl
@[simp] theorem State.modPort_hwsRegion (i : Fin 4) (f : HPort → HPort) : (s.modPort i f).hwsRegion = s.hwsRegion := rfl
@[simp] theorem State.modPort_splRegion (i : Fin 4) (f : HPort → HPort) : (s.modPort i f).splRegion = s.splRegion := rfl
@[simp] theorem State.modPort_mssRegion (i : Fin 4) (f : HPort → HPort) : (s.modPort i f).mssRegion = s.mssRegion := rfl
@[simp] theorem State.modPort_dq (i : Fin 4) (f : HPort → HPort) : (s.modPort i f).dq = s.dq := rfl
@[simp] theorem State.modPort_mq (i : Fin 4) (f : HPort → HPort) : (s.modPort i f).mq = s.mq := rfl
@[simp] theorem State.modPort_hws (i : Fin 4) (f : HPort → HPort) : (s.modPort i f).hws = { s.hws with ports := s.hws.ports.set i (f s.hws.ports[i]) } := rfl
@[simp] theorem State.modPort_ina (i : Fin 4) (f : HPort → HPort) : (s.modPort i f).ina = s.ina := rfl
@[simp] theorem State.modPort_spl (i : Fin 4) (f : HPort → HPort) : (s.modPort i f).spl = s.spl := rfl
@[simp] theorem State.modPort_twn (i : Fin 4) (f : HPort → HPort) : (s.modPort i f).twn = s.twn := rfl
@[simp] theorem State.modPort_groups (i : Fin 4) (f : HPort → HPort) : (s.modPort i f).groups = s.groups := rfl
@[simp] theorem State.modPort_blyMask (i : Fin 4) (f : HPort → HPort) : (s.modPort i f).blyMask = s.blyMask := rfl
@[simp] theorem State.modPort_loop (i : Fin 4) (f : HPort → HPort) : (s.modPort i f).loop = s.loop := rfl
@[simp] theorem State.modPort_plug (i : Fin 4) (f : HPort → HPort) : (s.modPort i f).plug = s.plug := rfl
@[simp] theorem State.modPort_cfg (i : Fin 4) (f : HPort → HPort) : (s.modPort i f).cfg = s.cfg := rfl
@[simp] theorem State.modPort_mss (i : Fin 4) (f : HPort → HPort) : (s.modPort i f).mss = s.mss := rfl
@[simp] theorem State.modPort_log (i : Fin 4) (f : HPort → HPort) : (s.modPort i f).log = s.log := rfl
@[simp] theorem State.modPort_node (i : Fin 4) (f : HPort → HPort) : (s.modPort i f).node = s.node := rfl
@[simp] theorem State.modPort_start (i : Fin 4) (f : HPort → HPort) : (s.modPort i f).start = s.start := rfl
@[simp] theorem State.modPort_islands (i : Fin 4) (f : HPort → HPort) : (s.modPort i f).islands = s.islands := rfl
@[simp] theorem State.modPort_clocks (i : Fin 4) (f : HPort → HPort) : (s.modPort i f).clocks = s.clocks := rfl
@[simp] theorem State.modPort_stalled (i : Fin 4) (f : HPort → HPort) : (s.modPort i f).stalled = s.stalled := rfl
@[simp] theorem State.modPort_hostPorts (i : Fin 4) (f : HPort → HPort) : (s.modPort i f).hostPorts = s.hostPorts := rfl
@[simp] theorem State.modPort_access (i : Fin 4) (f : HPort → HPort) : (s.modPort i f).access = s.access := rfl
@[simp] theorem State.modPort_freeCount (i : Fin 4) (f : HPort → HPort) : (s.modPort i f).freeCount = s.freeCount := rfl
@[simp] theorem State.modPort_pending (i : Fin 4) (f : HPort → HPort) : (s.modPort i f).pending = s.pending := rfl

@[simp] theorem State.modRelay_now (c : Fin 2) (f : Relay → Relay) : (s.modRelay c f).now = s.now := rfl
@[simp] theorem State.modRelay_lastSync (c : Fin 2) (f : Relay → Relay) : (s.modRelay c f).lastSync = s.lastSync := rfl
@[simp] theorem State.modRelay_heldTcyc (c : Fin 2) (f : Relay → Relay) : (s.modRelay c f).heldTcyc = s.heldTcyc := rfl
@[simp] theorem State.modRelay_small (c : Fin 2) (f : Relay → Relay) : (s.modRelay c f).small = s.small := rfl
@[simp] theorem State.modRelay_params (c : Fin 2) (f : Relay → Relay) : (s.modRelay c f).params = s.params := rfl
@[simp] theorem State.modRelay_slices (c : Fin 2) (f : Relay → Relay) : (s.modRelay c f).slices = s.slices := rfl
@[simp] theorem State.modRelay_sliceRegions (c : Fin 2) (f : Relay → Relay) : (s.modRelay c f).sliceRegions = s.sliceRegions := rfl
@[simp] theorem State.modRelay_hwsRegion (c : Fin 2) (f : Relay → Relay) : (s.modRelay c f).hwsRegion = s.hwsRegion := rfl
@[simp] theorem State.modRelay_splRegion (c : Fin 2) (f : Relay → Relay) : (s.modRelay c f).splRegion = s.splRegion := rfl
@[simp] theorem State.modRelay_mssRegion (c : Fin 2) (f : Relay → Relay) : (s.modRelay c f).mssRegion = s.mssRegion := rfl
@[simp] theorem State.modRelay_dq (c : Fin 2) (f : Relay → Relay) : (s.modRelay c f).dq = s.dq := rfl
@[simp] theorem State.modRelay_mq (c : Fin 2) (f : Relay → Relay) : (s.modRelay c f).mq = s.mq := rfl
@[simp] theorem State.modRelay_hws (c : Fin 2) (f : Relay → Relay) : (s.modRelay c f).hws = { s.hws with relays := s.hws.relays.set c (f s.hws.relays[c]) } := rfl
@[simp] theorem State.modRelay_ina (c : Fin 2) (f : Relay → Relay) : (s.modRelay c f).ina = s.ina := rfl
@[simp] theorem State.modRelay_spl (c : Fin 2) (f : Relay → Relay) : (s.modRelay c f).spl = s.spl := rfl
@[simp] theorem State.modRelay_twn (c : Fin 2) (f : Relay → Relay) : (s.modRelay c f).twn = s.twn := rfl
@[simp] theorem State.modRelay_groups (c : Fin 2) (f : Relay → Relay) : (s.modRelay c f).groups = s.groups := rfl
@[simp] theorem State.modRelay_blyMask (c : Fin 2) (f : Relay → Relay) : (s.modRelay c f).blyMask = s.blyMask := rfl
@[simp] theorem State.modRelay_loop (c : Fin 2) (f : Relay → Relay) : (s.modRelay c f).loop = s.loop := rfl
@[simp] theorem State.modRelay_plug (c : Fin 2) (f : Relay → Relay) : (s.modRelay c f).plug = s.plug := rfl
@[simp] theorem State.modRelay_cfg (c : Fin 2) (f : Relay → Relay) : (s.modRelay c f).cfg = s.cfg := rfl
@[simp] theorem State.modRelay_mss (c : Fin 2) (f : Relay → Relay) : (s.modRelay c f).mss = s.mss := rfl
@[simp] theorem State.modRelay_log (c : Fin 2) (f : Relay → Relay) : (s.modRelay c f).log = s.log := rfl
@[simp] theorem State.modRelay_node (c : Fin 2) (f : Relay → Relay) : (s.modRelay c f).node = s.node := rfl
@[simp] theorem State.modRelay_start (c : Fin 2) (f : Relay → Relay) : (s.modRelay c f).start = s.start := rfl
@[simp] theorem State.modRelay_islands (c : Fin 2) (f : Relay → Relay) : (s.modRelay c f).islands = s.islands := rfl
@[simp] theorem State.modRelay_clocks (c : Fin 2) (f : Relay → Relay) : (s.modRelay c f).clocks = s.clocks := rfl
@[simp] theorem State.modRelay_stalled (c : Fin 2) (f : Relay → Relay) : (s.modRelay c f).stalled = s.stalled := rfl
@[simp] theorem State.modRelay_hostPorts (c : Fin 2) (f : Relay → Relay) : (s.modRelay c f).hostPorts = s.hostPorts := rfl
@[simp] theorem State.modRelay_access (c : Fin 2) (f : Relay → Relay) : (s.modRelay c f).access = s.access := rfl
@[simp] theorem State.modRelay_freeCount (c : Fin 2) (f : Relay → Relay) : (s.modRelay c f).freeCount = s.freeCount := rfl
@[simp] theorem State.modRelay_pending (c : Fin 2) (f : Relay → Relay) : (s.modRelay c f).pending = s.pending := rfl

@[simp] theorem State.advance_now (t : Nat) : (s.advance t).now = max s.now t := rfl
@[simp] theorem State.advance_lastSync (t : Nat) : (s.advance t).lastSync = s.lastSync := rfl
@[simp] theorem State.advance_heldTcyc (t : Nat) : (s.advance t).heldTcyc = s.heldTcyc := rfl
@[simp] theorem State.advance_small (t : Nat) : (s.advance t).small = s.small := rfl
@[simp] theorem State.advance_params (t : Nat) : (s.advance t).params = s.params := rfl
@[simp] theorem State.advance_slices (t : Nat) : (s.advance t).slices = s.slices := rfl
@[simp] theorem State.advance_sliceRegions (t : Nat) : (s.advance t).sliceRegions = s.sliceRegions := rfl
@[simp] theorem State.advance_hwsRegion (t : Nat) : (s.advance t).hwsRegion = s.hwsRegion := rfl
@[simp] theorem State.advance_splRegion (t : Nat) : (s.advance t).splRegion = s.splRegion := rfl
@[simp] theorem State.advance_mssRegion (t : Nat) : (s.advance t).mssRegion = s.mssRegion := rfl
@[simp] theorem State.advance_dq (t : Nat) : (s.advance t).dq = s.dq := rfl
@[simp] theorem State.advance_mq (t : Nat) : (s.advance t).mq = s.mq := rfl
@[simp] theorem State.advance_hws (t : Nat) : (s.advance t).hws = s.hws := rfl
@[simp] theorem State.advance_ina (t : Nat) : (s.advance t).ina = s.ina := rfl
@[simp] theorem State.advance_spl (t : Nat) : (s.advance t).spl = s.spl := rfl
@[simp] theorem State.advance_twn (t : Nat) : (s.advance t).twn = s.twn := rfl
@[simp] theorem State.advance_groups (t : Nat) : (s.advance t).groups = s.groups := rfl
@[simp] theorem State.advance_blyMask (t : Nat) : (s.advance t).blyMask = s.blyMask := rfl
@[simp] theorem State.advance_loop (t : Nat) : (s.advance t).loop = s.loop := rfl
@[simp] theorem State.advance_plug (t : Nat) : (s.advance t).plug = s.plug := rfl
@[simp] theorem State.advance_cfg (t : Nat) : (s.advance t).cfg = s.cfg := rfl
@[simp] theorem State.advance_mss (t : Nat) : (s.advance t).mss = s.mss := rfl
@[simp] theorem State.advance_log (t : Nat) : (s.advance t).log = s.log := rfl
@[simp] theorem State.advance_node (t : Nat) : (s.advance t).node = s.node := rfl
@[simp] theorem State.advance_start (t : Nat) : (s.advance t).start = s.start := rfl
@[simp] theorem State.advance_islands (t : Nat) : (s.advance t).islands = s.islands := rfl
@[simp] theorem State.advance_clocks (t : Nat) : (s.advance t).clocks = s.clocks := rfl
@[simp] theorem State.advance_stalled (t : Nat) : (s.advance t).stalled = s.stalled := rfl
@[simp] theorem State.advance_hostPorts (t : Nat) : (s.advance t).hostPorts = s.hostPorts := rfl
@[simp] theorem State.advance_access (t : Nat) : (s.advance t).access = s.access := rfl
@[simp] theorem State.advance_freeCount (t : Nat) : (s.advance t).freeCount = s.freeCount := rfl
@[simp] theorem State.advance_pending (t : Nat) : (s.advance t).pending = s.pending := rfl

@[simp] theorem State.draw_now : (s.draw).now = s.now := rfl
@[simp] theorem State.draw_lastSync : (s.draw).lastSync = s.lastSync := rfl
@[simp] theorem State.draw_heldTcyc : (s.draw).heldTcyc = s.heldTcyc := rfl
@[simp] theorem State.draw_small : (s.draw).small = s.small := rfl
@[simp] theorem State.draw_params : (s.draw).params = s.params := rfl
@[simp] theorem State.draw_slices : (s.draw).slices = s.slices := rfl
@[simp] theorem State.draw_sliceRegions : (s.draw).sliceRegions = s.sliceRegions := rfl
@[simp] theorem State.draw_hwsRegion : (s.draw).hwsRegion = s.hwsRegion := rfl
@[simp] theorem State.draw_splRegion : (s.draw).splRegion = s.splRegion := rfl
@[simp] theorem State.draw_mssRegion : (s.draw).mssRegion = s.mssRegion := rfl
@[simp] theorem State.draw_dq : (s.draw).dq = s.dq := rfl
@[simp] theorem State.draw_mq : (s.draw).mq = s.mq := rfl
@[simp] theorem State.draw_hws : (s.draw).hws = s.hws := rfl
@[simp] theorem State.draw_ina : (s.draw).ina = s.ina := rfl
@[simp] theorem State.draw_spl : (s.draw).spl = s.spl := rfl
@[simp] theorem State.draw_twn : (s.draw).twn = s.twn := rfl
@[simp] theorem State.draw_groups : (s.draw).groups = s.groups := rfl
@[simp] theorem State.draw_blyMask : (s.draw).blyMask = s.blyMask := rfl
@[simp] theorem State.draw_loop : (s.draw).loop = s.loop := rfl
@[simp] theorem State.draw_plug : (s.draw).plug = s.plug := rfl
@[simp] theorem State.draw_cfg : (s.draw).cfg = s.cfg := rfl
@[simp] theorem State.draw_mss : (s.draw).mss = s.mss := rfl
@[simp] theorem State.draw_log : (s.draw).log = s.log := rfl
@[simp] theorem State.draw_node : (s.draw).node = s.node := rfl
@[simp] theorem State.draw_start : (s.draw).start = s.start := rfl
@[simp] theorem State.draw_islands : (s.draw).islands = s.islands := rfl
@[simp] theorem State.draw_clocks : (s.draw).clocks = s.clocks := rfl
@[simp] theorem State.draw_stalled : (s.draw).stalled = s.stalled := rfl
@[simp] theorem State.draw_hostPorts : (s.draw).hostPorts = s.hostPorts := rfl
@[simp] theorem State.draw_access : (s.draw).access = s.access := rfl
@[simp] theorem State.draw_freeCount : (s.draw).freeCount = s.freeCount + 1 := rfl
@[simp] theorem State.draw_pending : (s.draw).pending = s.pending := rfl

@[simp] theorem State.send_now (w : Sent) : (s.send w).now = s.now := rfl
@[simp] theorem State.send_lastSync (w : Sent) : (s.send w).lastSync = s.lastSync := rfl
@[simp] theorem State.send_heldTcyc (w : Sent) : (s.send w).heldTcyc = s.heldTcyc := rfl
@[simp] theorem State.send_small (w : Sent) : (s.send w).small = s.small := rfl
@[simp] theorem State.send_params (w : Sent) : (s.send w).params = s.params := rfl
@[simp] theorem State.send_slices (w : Sent) : (s.send w).slices = s.slices := rfl
@[simp] theorem State.send_sliceRegions (w : Sent) : (s.send w).sliceRegions = s.sliceRegions := rfl
@[simp] theorem State.send_hwsRegion (w : Sent) : (s.send w).hwsRegion = s.hwsRegion := rfl
@[simp] theorem State.send_splRegion (w : Sent) : (s.send w).splRegion = s.splRegion := rfl
@[simp] theorem State.send_mssRegion (w : Sent) : (s.send w).mssRegion = s.mssRegion := rfl
@[simp] theorem State.send_dq (w : Sent) : (s.send w).dq = s.dq := rfl
@[simp] theorem State.send_mq (w : Sent) : (s.send w).mq = s.mq := rfl
@[simp] theorem State.send_hws (w : Sent) : (s.send w).hws = { s.hws with wire := s.hws.wire ++ [w], octets := s.hws.octets ++ [s.octets w] } := rfl
@[simp] theorem State.send_ina (w : Sent) : (s.send w).ina = s.ina := rfl
@[simp] theorem State.send_spl (w : Sent) : (s.send w).spl = s.spl := rfl
@[simp] theorem State.send_twn (w : Sent) : (s.send w).twn = s.twn := rfl
@[simp] theorem State.send_groups (w : Sent) : (s.send w).groups = s.groups := rfl
@[simp] theorem State.send_blyMask (w : Sent) : (s.send w).blyMask = s.blyMask := rfl
@[simp] theorem State.send_loop (w : Sent) : (s.send w).loop = s.loop := rfl
@[simp] theorem State.send_plug (w : Sent) : (s.send w).plug = s.plug := rfl
@[simp] theorem State.send_cfg (w : Sent) : (s.send w).cfg = s.cfg := rfl
@[simp] theorem State.send_mss (w : Sent) : (s.send w).mss = s.mss := rfl
@[simp] theorem State.send_log (w : Sent) : (s.send w).log = s.log := rfl
@[simp] theorem State.send_node (w : Sent) : (s.send w).node = s.node := rfl
@[simp] theorem State.send_start (w : Sent) : (s.send w).start = s.start := rfl
@[simp] theorem State.send_islands (w : Sent) : (s.send w).islands = s.islands := rfl
@[simp] theorem State.send_clocks (w : Sent) : (s.send w).clocks = s.clocks := rfl
@[simp] theorem State.send_stalled (w : Sent) : (s.send w).stalled = s.stalled := rfl
@[simp] theorem State.send_hostPorts (w : Sent) : (s.send w).hostPorts = s.hostPorts := rfl
@[simp] theorem State.send_access (w : Sent) : (s.send w).access = s.access := rfl
@[simp] theorem State.send_freeCount (w : Sent) : (s.send w).freeCount = s.freeCount := rfl
@[simp] theorem State.send_pending (w : Sent) : (s.send w).pending = s.pending := rfl

variable (x : Slice)

@[simp] theorem Slice.modPortal_portal (f : Portal → Portal) : (x.modPortal f).portal = f x.portal := rfl
@[simp] theorem Slice.modPortal_axes (f : Portal → Portal) : (x.modPortal f).axes = x.axes := rfl
@[simp] theorem Slice.modPortal_inp (f : Portal → Portal) : (x.modPortal f).inp = x.inp := rfl
@[simp] theorem Slice.modPortal_sw (f : Portal → Portal) : (x.modPortal f).sw = x.sw := rfl
@[simp] theorem Slice.modPortal_can (f : Portal → Portal) : (x.modPortal f).can = x.can := rfl
@[simp] theorem Slice.modPortal_iq (f : Portal → Portal) : (x.modPortal f).iq = x.iq := rfl
@[simp] theorem Slice.modPortal_axisMask (f : Portal → Portal) : (x.modPortal f).axisMask = x.axisMask := rfl
@[simp] theorem Slice.modPortal_driveMask (f : Portal → Portal) : (x.modPortal f).driveMask = x.driveMask := rfl
@[simp] theorem Slice.modPortal_held (f : Portal → Portal) : (x.modPortal f).held = x.held := rfl
@[simp] theorem Slice.modPortal_heldHomed (f : Portal → Portal) : (x.modPortal f).heldHomed = x.heldHomed := rfl
@[simp] theorem Slice.modPortal_heldNext (f : Portal → Portal) : (x.modPortal f).heldNext = x.heldNext := rfl
@[simp] theorem Slice.modPortal_heldSent (f : Portal → Portal) : (x.modPortal f).heldSent = x.heldSent := rfl
@[simp] theorem Slice.modPortal_estAt (f : Portal → Portal) : (x.modPortal f).estAt = x.estAt := rfl
@[simp] theorem Slice.modPortal_waitsResume (f : Portal → Portal) : (x.modPortal f).waitsResume = x.waitsResume := rfl
@[simp] theorem Slice.modPortal_cycleT (f : Portal → Portal) : (x.modPortal f).cycleT = x.cycleT := rfl
@[simp] theorem Slice.modPortal_evalAt (f : Portal → Portal) : (x.modPortal f).evalAt = x.evalAt := rfl
@[simp] theorem Slice.modPortal_teach (f : Portal → Portal) : (x.modPortal f).teach = x.teach := rfl

@[simp] theorem Slice.modAxis_portal (a : Fin 3) (f : Axis → Axis) : (x.modAxis a f).portal = x.portal := rfl
@[simp] theorem Slice.modAxis_axes (a : Fin 3) (f : Axis → Axis) : (x.modAxis a f).axes = x.axes.set a (f x.axes[a]) := rfl
@[simp] theorem Slice.modAxis_inp (a : Fin 3) (f : Axis → Axis) : (x.modAxis a f).inp = x.inp := rfl
@[simp] theorem Slice.modAxis_sw (a : Fin 3) (f : Axis → Axis) : (x.modAxis a f).sw = x.sw := rfl
@[simp] theorem Slice.modAxis_can (a : Fin 3) (f : Axis → Axis) : (x.modAxis a f).can = x.can := rfl
@[simp] theorem Slice.modAxis_iq (a : Fin 3) (f : Axis → Axis) : (x.modAxis a f).iq = x.iq := rfl
@[simp] theorem Slice.modAxis_axisMask (a : Fin 3) (f : Axis → Axis) : (x.modAxis a f).axisMask = x.axisMask := rfl
@[simp] theorem Slice.modAxis_driveMask (a : Fin 3) (f : Axis → Axis) : (x.modAxis a f).driveMask = x.driveMask := rfl
@[simp] theorem Slice.modAxis_held (a : Fin 3) (f : Axis → Axis) : (x.modAxis a f).held = x.held := rfl
@[simp] theorem Slice.modAxis_heldHomed (a : Fin 3) (f : Axis → Axis) : (x.modAxis a f).heldHomed = x.heldHomed := rfl
@[simp] theorem Slice.modAxis_heldNext (a : Fin 3) (f : Axis → Axis) : (x.modAxis a f).heldNext = x.heldNext := rfl
@[simp] theorem Slice.modAxis_heldSent (a : Fin 3) (f : Axis → Axis) : (x.modAxis a f).heldSent = x.heldSent := rfl
@[simp] theorem Slice.modAxis_estAt (a : Fin 3) (f : Axis → Axis) : (x.modAxis a f).estAt = x.estAt := rfl
@[simp] theorem Slice.modAxis_waitsResume (a : Fin 3) (f : Axis → Axis) : (x.modAxis a f).waitsResume = x.waitsResume := rfl
@[simp] theorem Slice.modAxis_cycleT (a : Fin 3) (f : Axis → Axis) : (x.modAxis a f).cycleT = x.cycleT := rfl
@[simp] theorem Slice.modAxis_evalAt (a : Fin 3) (f : Axis → Axis) : (x.modAxis a f).evalAt = x.evalAt := rfl
@[simp] theorem Slice.modAxis_teach (a : Fin 3) (f : Axis → Axis) : (x.modAxis a f).teach = x.teach := rfl

@[simp] theorem Slice.modM_portal (a : Fin 3) (f : Motion → Motion) : (x.modM a f).portal = x.portal := rfl
@[simp] theorem Slice.modM_axes (a : Fin 3) (f : Motion → Motion) : (x.modM a f).axes = x.axes.set a { x.axes[a] with m := f x.axes[a].m } := rfl
@[simp] theorem Slice.modM_inp (a : Fin 3) (f : Motion → Motion) : (x.modM a f).inp = x.inp := rfl
@[simp] theorem Slice.modM_sw (a : Fin 3) (f : Motion → Motion) : (x.modM a f).sw = x.sw := rfl
@[simp] theorem Slice.modM_can (a : Fin 3) (f : Motion → Motion) : (x.modM a f).can = x.can := rfl
@[simp] theorem Slice.modM_iq (a : Fin 3) (f : Motion → Motion) : (x.modM a f).iq = x.iq := rfl
@[simp] theorem Slice.modM_axisMask (a : Fin 3) (f : Motion → Motion) : (x.modM a f).axisMask = x.axisMask := rfl
@[simp] theorem Slice.modM_driveMask (a : Fin 3) (f : Motion → Motion) : (x.modM a f).driveMask = x.driveMask := rfl
@[simp] theorem Slice.modM_held (a : Fin 3) (f : Motion → Motion) : (x.modM a f).held = x.held := rfl
@[simp] theorem Slice.modM_heldHomed (a : Fin 3) (f : Motion → Motion) : (x.modM a f).heldHomed = x.heldHomed := rfl
@[simp] theorem Slice.modM_heldNext (a : Fin 3) (f : Motion → Motion) : (x.modM a f).heldNext = x.heldNext := rfl
@[simp] theorem Slice.modM_heldSent (a : Fin 3) (f : Motion → Motion) : (x.modM a f).heldSent = x.heldSent := rfl
@[simp] theorem Slice.modM_estAt (a : Fin 3) (f : Motion → Motion) : (x.modM a f).estAt = x.estAt := rfl
@[simp] theorem Slice.modM_waitsResume (a : Fin 3) (f : Motion → Motion) : (x.modM a f).waitsResume = x.waitsResume := rfl
@[simp] theorem Slice.modM_cycleT (a : Fin 3) (f : Motion → Motion) : (x.modM a f).cycleT = x.cycleT := rfl
@[simp] theorem Slice.modM_evalAt (a : Fin 3) (f : Motion → Motion) : (x.modM a f).evalAt = x.evalAt := rfl
@[simp] theorem Slice.modM_teach (a : Fin 3) (f : Motion → Motion) : (x.modM a f).teach = x.teach := rfl

@[simp] theorem Slice.modD_portal (a : Fin 3) (f : Drive → Drive) : (x.modD a f).portal = x.portal := rfl
@[simp] theorem Slice.modD_axes (a : Fin 3) (f : Drive → Drive) : (x.modD a f).axes = x.axes.set a { x.axes[a] with d := f x.axes[a].d } := rfl
@[simp] theorem Slice.modD_inp (a : Fin 3) (f : Drive → Drive) : (x.modD a f).inp = x.inp := rfl
@[simp] theorem Slice.modD_sw (a : Fin 3) (f : Drive → Drive) : (x.modD a f).sw = x.sw := rfl
@[simp] theorem Slice.modD_can (a : Fin 3) (f : Drive → Drive) : (x.modD a f).can = x.can := rfl
@[simp] theorem Slice.modD_iq (a : Fin 3) (f : Drive → Drive) : (x.modD a f).iq = x.iq := rfl
@[simp] theorem Slice.modD_axisMask (a : Fin 3) (f : Drive → Drive) : (x.modD a f).axisMask = x.axisMask := rfl
@[simp] theorem Slice.modD_driveMask (a : Fin 3) (f : Drive → Drive) : (x.modD a f).driveMask = x.driveMask := rfl
@[simp] theorem Slice.modD_held (a : Fin 3) (f : Drive → Drive) : (x.modD a f).held = x.held := rfl
@[simp] theorem Slice.modD_heldHomed (a : Fin 3) (f : Drive → Drive) : (x.modD a f).heldHomed = x.heldHomed := rfl
@[simp] theorem Slice.modD_heldNext (a : Fin 3) (f : Drive → Drive) : (x.modD a f).heldNext = x.heldNext := rfl
@[simp] theorem Slice.modD_heldSent (a : Fin 3) (f : Drive → Drive) : (x.modD a f).heldSent = x.heldSent := rfl
@[simp] theorem Slice.modD_estAt (a : Fin 3) (f : Drive → Drive) : (x.modD a f).estAt = x.estAt := rfl
@[simp] theorem Slice.modD_waitsResume (a : Fin 3) (f : Drive → Drive) : (x.modD a f).waitsResume = x.waitsResume := rfl
@[simp] theorem Slice.modD_cycleT (a : Fin 3) (f : Drive → Drive) : (x.modD a f).cycleT = x.cycleT := rfl
@[simp] theorem Slice.modD_evalAt (a : Fin 3) (f : Drive → Drive) : (x.modD a f).evalAt = x.evalAt := rfl
@[simp] theorem Slice.modD_teach (a : Fin 3) (f : Drive → Drive) : (x.modD a f).teach = x.teach := rfl

@[simp] theorem Slice.modInp_portal (f : Inputs → Inputs) : (x.modInp f).portal = x.portal := rfl
@[simp] theorem Slice.modInp_axes (f : Inputs → Inputs) : (x.modInp f).axes = x.axes := rfl
@[simp] theorem Slice.modInp_inp (f : Inputs → Inputs) : (x.modInp f).inp = f x.inp := rfl
@[simp] theorem Slice.modInp_sw (f : Inputs → Inputs) : (x.modInp f).sw = x.sw := rfl
@[simp] theorem Slice.modInp_can (f : Inputs → Inputs) : (x.modInp f).can = x.can := rfl
@[simp] theorem Slice.modInp_iq (f : Inputs → Inputs) : (x.modInp f).iq = x.iq := rfl
@[simp] theorem Slice.modInp_axisMask (f : Inputs → Inputs) : (x.modInp f).axisMask = x.axisMask := rfl
@[simp] theorem Slice.modInp_driveMask (f : Inputs → Inputs) : (x.modInp f).driveMask = x.driveMask := rfl
@[simp] theorem Slice.modInp_held (f : Inputs → Inputs) : (x.modInp f).held = x.held := rfl
@[simp] theorem Slice.modInp_heldHomed (f : Inputs → Inputs) : (x.modInp f).heldHomed = x.heldHomed := rfl
@[simp] theorem Slice.modInp_heldNext (f : Inputs → Inputs) : (x.modInp f).heldNext = x.heldNext := rfl
@[simp] theorem Slice.modInp_heldSent (f : Inputs → Inputs) : (x.modInp f).heldSent = x.heldSent := rfl
@[simp] theorem Slice.modInp_estAt (f : Inputs → Inputs) : (x.modInp f).estAt = x.estAt := rfl
@[simp] theorem Slice.modInp_waitsResume (f : Inputs → Inputs) : (x.modInp f).waitsResume = x.waitsResume := rfl
@[simp] theorem Slice.modInp_cycleT (f : Inputs → Inputs) : (x.modInp f).cycleT = x.cycleT := rfl
@[simp] theorem Slice.modInp_evalAt (f : Inputs → Inputs) : (x.modInp f).evalAt = x.evalAt := rfl
@[simp] theorem Slice.modInp_teach (f : Inputs → Inputs) : (x.modInp f).teach = x.teach := rfl

@[simp] theorem Slice.modDig_portal (i : Fin 16) (f : Dig → Dig) : (x.modDig i f).portal = x.portal := rfl
@[simp] theorem Slice.modDig_axes (i : Fin 16) (f : Dig → Dig) : (x.modDig i f).axes = x.axes := rfl
@[simp] theorem Slice.modDig_inp (i : Fin 16) (f : Dig → Dig) : (x.modDig i f).inp = { x.inp with dig := x.inp.dig.set i (f x.inp.dig[i]) } := rfl
@[simp] theorem Slice.modDig_sw (i : Fin 16) (f : Dig → Dig) : (x.modDig i f).sw = x.sw := rfl
@[simp] theorem Slice.modDig_can (i : Fin 16) (f : Dig → Dig) : (x.modDig i f).can = x.can := rfl
@[simp] theorem Slice.modDig_iq (i : Fin 16) (f : Dig → Dig) : (x.modDig i f).iq = x.iq := rfl
@[simp] theorem Slice.modDig_axisMask (i : Fin 16) (f : Dig → Dig) : (x.modDig i f).axisMask = x.axisMask := rfl
@[simp] theorem Slice.modDig_driveMask (i : Fin 16) (f : Dig → Dig) : (x.modDig i f).driveMask = x.driveMask := rfl
@[simp] theorem Slice.modDig_held (i : Fin 16) (f : Dig → Dig) : (x.modDig i f).held = x.held := rfl
@[simp] theorem Slice.modDig_heldHomed (i : Fin 16) (f : Dig → Dig) : (x.modDig i f).heldHomed = x.heldHomed := rfl
@[simp] theorem Slice.modDig_heldNext (i : Fin 16) (f : Dig → Dig) : (x.modDig i f).heldNext = x.heldNext := rfl
@[simp] theorem Slice.modDig_heldSent (i : Fin 16) (f : Dig → Dig) : (x.modDig i f).heldSent = x.heldSent := rfl
@[simp] theorem Slice.modDig_estAt (i : Fin 16) (f : Dig → Dig) : (x.modDig i f).estAt = x.estAt := rfl
@[simp] theorem Slice.modDig_waitsResume (i : Fin 16) (f : Dig → Dig) : (x.modDig i f).waitsResume = x.waitsResume := rfl
@[simp] theorem Slice.modDig_cycleT (i : Fin 16) (f : Dig → Dig) : (x.modDig i f).cycleT = x.cycleT := rfl
@[simp] theorem Slice.modDig_evalAt (i : Fin 16) (f : Dig → Dig) : (x.modDig i f).evalAt = x.evalAt := rfl
@[simp] theorem Slice.modDig_teach (i : Fin 16) (f : Dig → Dig) : (x.modDig i f).teach = x.teach := rfl

@[simp] theorem Slice.modSw_portal (f : Switches → Switches) : (x.modSw f).portal = x.portal := rfl
@[simp] theorem Slice.modSw_axes (f : Switches → Switches) : (x.modSw f).axes = x.axes := rfl
@[simp] theorem Slice.modSw_inp (f : Switches → Switches) : (x.modSw f).inp = x.inp := rfl
@[simp] theorem Slice.modSw_sw (f : Switches → Switches) : (x.modSw f).sw = f x.sw := rfl
@[simp] theorem Slice.modSw_can (f : Switches → Switches) : (x.modSw f).can = x.can := rfl
@[simp] theorem Slice.modSw_iq (f : Switches → Switches) : (x.modSw f).iq = x.iq := rfl
@[simp] theorem Slice.modSw_axisMask (f : Switches → Switches) : (x.modSw f).axisMask = x.axisMask := rfl
@[simp] theorem Slice.modSw_driveMask (f : Switches → Switches) : (x.modSw f).driveMask = x.driveMask := rfl
@[simp] theorem Slice.modSw_held (f : Switches → Switches) : (x.modSw f).held = x.held := rfl
@[simp] theorem Slice.modSw_heldHomed (f : Switches → Switches) : (x.modSw f).heldHomed = x.heldHomed := rfl
@[simp] theorem Slice.modSw_heldNext (f : Switches → Switches) : (x.modSw f).heldNext = x.heldNext := rfl
@[simp] theorem Slice.modSw_heldSent (f : Switches → Switches) : (x.modSw f).heldSent = x.heldSent := rfl
@[simp] theorem Slice.modSw_estAt (f : Switches → Switches) : (x.modSw f).estAt = x.estAt := rfl
@[simp] theorem Slice.modSw_waitsResume (f : Switches → Switches) : (x.modSw f).waitsResume = x.waitsResume := rfl
@[simp] theorem Slice.modSw_cycleT (f : Switches → Switches) : (x.modSw f).cycleT = x.cycleT := rfl
@[simp] theorem Slice.modSw_evalAt (f : Switches → Switches) : (x.modSw f).evalAt = x.evalAt := rfl
@[simp] theorem Slice.modSw_teach (f : Switches → Switches) : (x.modSw f).teach = x.teach := rfl

@[simp] theorem Slice.modCh_portal (k : Fin 6) (f : Channel → Channel) : (x.modCh k f).portal = x.portal := rfl
@[simp] theorem Slice.modCh_axes (k : Fin 6) (f : Channel → Channel) : (x.modCh k f).axes = x.axes := rfl
@[simp] theorem Slice.modCh_inp (k : Fin 6) (f : Channel → Channel) : (x.modCh k f).inp = x.inp := rfl
@[simp] theorem Slice.modCh_sw (k : Fin 6) (f : Channel → Channel) : (x.modCh k f).sw = { x.sw with ch := x.sw.ch.set k (f x.sw.ch[k]) } := rfl
@[simp] theorem Slice.modCh_can (k : Fin 6) (f : Channel → Channel) : (x.modCh k f).can = x.can := rfl
@[simp] theorem Slice.modCh_iq (k : Fin 6) (f : Channel → Channel) : (x.modCh k f).iq = x.iq := rfl
@[simp] theorem Slice.modCh_axisMask (k : Fin 6) (f : Channel → Channel) : (x.modCh k f).axisMask = x.axisMask := rfl
@[simp] theorem Slice.modCh_driveMask (k : Fin 6) (f : Channel → Channel) : (x.modCh k f).driveMask = x.driveMask := rfl
@[simp] theorem Slice.modCh_held (k : Fin 6) (f : Channel → Channel) : (x.modCh k f).held = x.held := rfl
@[simp] theorem Slice.modCh_heldHomed (k : Fin 6) (f : Channel → Channel) : (x.modCh k f).heldHomed = x.heldHomed := rfl
@[simp] theorem Slice.modCh_heldNext (k : Fin 6) (f : Channel → Channel) : (x.modCh k f).heldNext = x.heldNext := rfl
@[simp] theorem Slice.modCh_heldSent (k : Fin 6) (f : Channel → Channel) : (x.modCh k f).heldSent = x.heldSent := rfl
@[simp] theorem Slice.modCh_estAt (k : Fin 6) (f : Channel → Channel) : (x.modCh k f).estAt = x.estAt := rfl
@[simp] theorem Slice.modCh_waitsResume (k : Fin 6) (f : Channel → Channel) : (x.modCh k f).waitsResume = x.waitsResume := rfl
@[simp] theorem Slice.modCh_cycleT (k : Fin 6) (f : Channel → Channel) : (x.modCh k f).cycleT = x.cycleT := rfl
@[simp] theorem Slice.modCh_evalAt (k : Fin 6) (f : Channel → Channel) : (x.modCh k f).evalAt = x.evalAt := rfl
@[simp] theorem Slice.modCh_teach (k : Fin 6) (f : Channel → Channel) : (x.modCh k f).teach = x.teach := rfl

@[simp] theorem Slice.modTether_portal (f : Tether → Tether) : (x.modTether f).portal = x.portal := rfl
@[simp] theorem Slice.modTether_axes (f : Tether → Tether) : (x.modTether f).axes = x.axes := rfl
@[simp] theorem Slice.modTether_inp (f : Tether → Tether) : (x.modTether f).inp = x.inp := rfl
@[simp] theorem Slice.modTether_sw (f : Tether → Tether) : (x.modTether f).sw = { x.sw with tether := f x.sw.tether } := rfl
@[simp] theorem Slice.modTether_can (f : Tether → Tether) : (x.modTether f).can = x.can := rfl
@[simp] theorem Slice.modTether_iq (f : Tether → Tether) : (x.modTether f).iq = x.iq := rfl
@[simp] theorem Slice.modTether_axisMask (f : Tether → Tether) : (x.modTether f).axisMask = x.axisMask := rfl
@[simp] theorem Slice.modTether_driveMask (f : Tether → Tether) : (x.modTether f).driveMask = x.driveMask := rfl
@[simp] theorem Slice.modTether_held (f : Tether → Tether) : (x.modTether f).held = x.held := rfl
@[simp] theorem Slice.modTether_heldHomed (f : Tether → Tether) : (x.modTether f).heldHomed = x.heldHomed := rfl
@[simp] theorem Slice.modTether_heldNext (f : Tether → Tether) : (x.modTether f).heldNext = x.heldNext := rfl
@[simp] theorem Slice.modTether_heldSent (f : Tether → Tether) : (x.modTether f).heldSent = x.heldSent := rfl
@[simp] theorem Slice.modTether_estAt (f : Tether → Tether) : (x.modTether f).estAt = x.estAt := rfl
@[simp] theorem Slice.modTether_waitsResume (f : Tether → Tether) : (x.modTether f).waitsResume = x.waitsResume := rfl
@[simp] theorem Slice.modTether_cycleT (f : Tether → Tether) : (x.modTether f).cycleT = x.cycleT := rfl
@[simp] theorem Slice.modTether_evalAt (f : Tether → Tether) : (x.modTether f).evalAt = x.evalAt := rfl
@[simp] theorem Slice.modTether_teach (f : Tether → Tether) : (x.modTether f).teach = x.teach := rfl

@[simp] theorem Slice.modCan_portal (f : CanBus → CanBus) : (x.modCan f).portal = x.portal := rfl
@[simp] theorem Slice.modCan_axes (f : CanBus → CanBus) : (x.modCan f).axes = x.axes := rfl
@[simp] theorem Slice.modCan_inp (f : CanBus → CanBus) : (x.modCan f).inp = x.inp := rfl
@[simp] theorem Slice.modCan_sw (f : CanBus → CanBus) : (x.modCan f).sw = x.sw := rfl
@[simp] theorem Slice.modCan_can (f : CanBus → CanBus) : (x.modCan f).can = f x.can := rfl
@[simp] theorem Slice.modCan_iq (f : CanBus → CanBus) : (x.modCan f).iq = x.iq := rfl
@[simp] theorem Slice.modCan_axisMask (f : CanBus → CanBus) : (x.modCan f).axisMask = x.axisMask := rfl
@[simp] theorem Slice.modCan_driveMask (f : CanBus → CanBus) : (x.modCan f).driveMask = x.driveMask := rfl
@[simp] theorem Slice.modCan_held (f : CanBus → CanBus) : (x.modCan f).held = x.held := rfl
@[simp] theorem Slice.modCan_heldHomed (f : CanBus → CanBus) : (x.modCan f).heldHomed = x.heldHomed := rfl
@[simp] theorem Slice.modCan_heldNext (f : CanBus → CanBus) : (x.modCan f).heldNext = x.heldNext := rfl
@[simp] theorem Slice.modCan_heldSent (f : CanBus → CanBus) : (x.modCan f).heldSent = x.heldSent := rfl
@[simp] theorem Slice.modCan_estAt (f : CanBus → CanBus) : (x.modCan f).estAt = x.estAt := rfl
@[simp] theorem Slice.modCan_waitsResume (f : CanBus → CanBus) : (x.modCan f).waitsResume = x.waitsResume := rfl
@[simp] theorem Slice.modCan_cycleT (f : CanBus → CanBus) : (x.modCan f).cycleT = x.cycleT := rfl
@[simp] theorem Slice.modCan_evalAt (f : CanBus → CanBus) : (x.modCan f).evalAt = x.evalAt := rfl
@[simp] theorem Slice.modCan_teach (f : CanBus → CanBus) : (x.modCan f).teach = x.teach := rfl

/-! Raising an event touches the intake queue of its blocks alone. -/

@[simp] theorem State.raise_now (n code detail : Nat) : (s.raise n code detail).now = s.now := by unfold State.raise; split <;> rfl
@[simp] theorem State.raise_lastSync (n code detail : Nat) : (s.raise n code detail).lastSync = s.lastSync := by unfold State.raise; split <;> rfl
@[simp] theorem State.raise_heldTcyc (n code detail : Nat) : (s.raise n code detail).heldTcyc = s.heldTcyc := by unfold State.raise; split <;> rfl
@[simp] theorem State.raise_small (n code detail : Nat) : (s.raise n code detail).small = s.small := by unfold State.raise; split <;> rfl
@[simp] theorem State.raise_params (n code detail : Nat) : (s.raise n code detail).params = s.params := by unfold State.raise; split <;> rfl
@[simp] theorem State.raise_slices (n code detail : Nat) : (s.raise n code detail).slices = s.slices := by unfold State.raise; split <;> rfl
@[simp] theorem State.raise_sliceRegions (n code detail : Nat) : (s.raise n code detail).sliceRegions = s.sliceRegions := by unfold State.raise; split <;> rfl
@[simp] theorem State.raise_hwsRegion (n code detail : Nat) : (s.raise n code detail).hwsRegion = s.hwsRegion := by unfold State.raise; split <;> rfl
@[simp] theorem State.raise_splRegion (n code detail : Nat) : (s.raise n code detail).splRegion = s.splRegion := by unfold State.raise; split <;> rfl
@[simp] theorem State.raise_mssRegion (n code detail : Nat) : (s.raise n code detail).mssRegion = s.mssRegion := by unfold State.raise; split <;> rfl
@[simp] theorem State.raise_hws (n code detail : Nat) : (s.raise n code detail).hws = s.hws := by unfold State.raise; split <;> rfl
@[simp] theorem State.raise_ina (n code detail : Nat) : (s.raise n code detail).ina = s.ina := by unfold State.raise; split <;> rfl
@[simp] theorem State.raise_spl (n code detail : Nat) : (s.raise n code detail).spl = s.spl := by unfold State.raise; split <;> rfl
@[simp] theorem State.raise_twn (n code detail : Nat) : (s.raise n code detail).twn = s.twn := by unfold State.raise; split <;> rfl
@[simp] theorem State.raise_groups (n code detail : Nat) : (s.raise n code detail).groups = s.groups := by unfold State.raise; split <;> rfl
@[simp] theorem State.raise_blyMask (n code detail : Nat) : (s.raise n code detail).blyMask = s.blyMask := by unfold State.raise; split <;> rfl
@[simp] theorem State.raise_loop (n code detail : Nat) : (s.raise n code detail).loop = s.loop := by unfold State.raise; split <;> rfl
@[simp] theorem State.raise_plug (n code detail : Nat) : (s.raise n code detail).plug = s.plug := by unfold State.raise; split <;> rfl
@[simp] theorem State.raise_cfg (n code detail : Nat) : (s.raise n code detail).cfg = s.cfg := by unfold State.raise; split <;> rfl
@[simp] theorem State.raise_mss (n code detail : Nat) : (s.raise n code detail).mss = s.mss := by unfold State.raise; split <;> rfl
@[simp] theorem State.raise_log (n code detail : Nat) : (s.raise n code detail).log = s.log := by unfold State.raise; split <;> rfl
@[simp] theorem State.raise_node (n code detail : Nat) : (s.raise n code detail).node = s.node := by unfold State.raise; split <;> rfl
@[simp] theorem State.raise_start (n code detail : Nat) : (s.raise n code detail).start = s.start := by unfold State.raise; split <;> rfl
@[simp] theorem State.raise_islands (n code detail : Nat) : (s.raise n code detail).islands = s.islands := by unfold State.raise; split <;> rfl
@[simp] theorem State.raise_clocks (n code detail : Nat) : (s.raise n code detail).clocks = s.clocks := by unfold State.raise; split <;> rfl
@[simp] theorem State.raise_stalled (n code detail : Nat) : (s.raise n code detail).stalled = s.stalled := by unfold State.raise; split <;> rfl
@[simp] theorem State.raise_hostPorts (n code detail : Nat) : (s.raise n code detail).hostPorts = s.hostPorts := by unfold State.raise; split <;> rfl
@[simp] theorem State.raise_access (n code detail : Nat) : (s.raise n code detail).access = s.access := by unfold State.raise; split <;> rfl
@[simp] theorem State.raise_freeCount (n code detail : Nat) : (s.raise n code detail).freeCount = s.freeCount := by unfold State.raise; split <;> rfl
@[simp] theorem State.raise_pending (n code detail : Nat) : (s.raise n code detail).pending = s.pending := by unfold State.raise; split <;> rfl

@[simp] theorem Slice.raise_portal (e : Env) (k code hi : Nat) : (x.raise e k code hi).portal = x.portal := rfl
@[simp] theorem Slice.raise_axes (e : Env) (k code hi : Nat) : (x.raise e k code hi).axes = x.axes := rfl
@[simp] theorem Slice.raise_inp (e : Env) (k code hi : Nat) : (x.raise e k code hi).inp = x.inp := rfl
@[simp] theorem Slice.raise_sw (e : Env) (k code hi : Nat) : (x.raise e k code hi).sw = x.sw := rfl
@[simp] theorem Slice.raise_can (e : Env) (k code hi : Nat) : (x.raise e k code hi).can = x.can := rfl
@[simp] theorem Slice.raise_axisMask (e : Env) (k code hi : Nat) : (x.raise e k code hi).axisMask = x.axisMask := rfl
@[simp] theorem Slice.raise_driveMask (e : Env) (k code hi : Nat) : (x.raise e k code hi).driveMask = x.driveMask := rfl
@[simp] theorem Slice.raise_held (e : Env) (k code hi : Nat) : (x.raise e k code hi).held = x.held := rfl
@[simp] theorem Slice.raise_heldHomed (e : Env) (k code hi : Nat) : (x.raise e k code hi).heldHomed = x.heldHomed := rfl
@[simp] theorem Slice.raise_heldNext (e : Env) (k code hi : Nat) : (x.raise e k code hi).heldNext = x.heldNext := rfl
@[simp] theorem Slice.raise_heldSent (e : Env) (k code hi : Nat) : (x.raise e k code hi).heldSent = x.heldSent := rfl
@[simp] theorem Slice.raise_estAt (e : Env) (k code hi : Nat) : (x.raise e k code hi).estAt = x.estAt := rfl
@[simp] theorem Slice.raise_waitsResume (e : Env) (k code hi : Nat) : (x.raise e k code hi).waitsResume = x.waitsResume := rfl
@[simp] theorem Slice.raise_cycleT (e : Env) (k code hi : Nat) : (x.raise e k code hi).cycleT = x.cycleT := rfl
@[simp] theorem Slice.raise_evalAt (e : Env) (k code hi : Nat) : (x.raise e k code hi).evalAt = x.evalAt := rfl
@[simp] theorem Slice.raise_teach (e : Env) (k code hi : Nat) : (x.raise e k code hi).teach = x.teach := rfl

end Sys2Proof.Machine
end

