-- ==== Sys2Proof/Laws/Ops.lean ====
section
/-! SUPPORT. What each shared operation can do, said once: the events touch their own block's fault display and one queue, a clock that advances touches nothing else, a command answers a next state. -/

namespace Sys2Proof.Machine

/-- What an event of the train side leaves: time, queue of commands, car side, islands, access and process image. -/
def State.aside (s : State) := (s.now, s.pending, s.carSide, s.islands, s.access, s.sliceRegions, s.hwsRegion, s.splRegion, s.mssRegion, s.start)

@[simp] theorem State.raise_aside (n code detail : Nat) (s : State) : (s.raise n code detail).aside = s.aside := by
  unfold State.raise; split <;> rfl
theorem State.hwsEvent_aside (e p c q : Nat) (s : State) : (s.hwsEvent e p c q).aside = s.aside := by rw [State.hwsEvent, State.raise_aside]; rfl
theorem State.inaEvent_aside (e c q : Nat) (s : State) : (s.inaEvent e c q).aside = s.aside := by rw [State.inaEvent, State.raise_aside]; rfl
theorem State.twnEvent_aside (e c : Nat) (s : State) : (s.twnEvent e c).aside = s.aside := by rw [State.twnEvent, State.raise_aside]; rfl
theorem State.splEvent_aside (e p n a : Nat) (s : State) : (s.splEvent e p n a).aside = s.aside := by rw [State.splEvent, State.raise_aside]; rfl
theorem State.logEvent_aside (e c d : Nat) (s : State) : (s.logEvent e c d).aside = s.aside := by rw [State.logEvent, State.raise_aside]; rfl
theorem State.mssEvent_aside (e c d : Nat) (s : State) : (s.mssEvent e c d).aside = s.aside := by rw [State.mssEvent, State.raise_aside]; rfl
theorem State.cfgEvent_aside (e c : Nat) (s : State) : (s.cfgEvent e c).aside = s.aside := by rw [State.cfgEvent, State.raise_aside]; rfl
theorem State.respond_aside (r : Response) (v : Nat) (b : Bool) (s : State) : (s.respond r v b) = { s with access := ⟨r, v, b⟩ } := rfl

/-- A clock that advances stands at the later of the two instants. -/
theorem State.advance_eq (t : Nat) (s : State) : s.advance t = { s with now := max s.now t } := rfl

/-- A command that completes answers a next state with the free values drawn once more. -/
theorem State.complete_eq (s : State) : State.complete s = .next { s with freeCount := s.freeCount + 1 } := rfl

/-- A slice function runs in a slice whose engine runs, and only there. -/
theorem State.onSlice_of_runs (i : Fin 16) (f : Env → Slice → Slice) (s : State) (h : s.sliceRuns i = true) : s.onSlice i f = s.modSlice i (f (s.env i)) := by
  simp [State.onSlice, h]
theorem State.onSlice_of_stands (i : Fin 16) (f : Env → Slice → Slice) (s : State) (h : s.sliceRuns i = false) : s.onSlice i f = s := by
  simp [State.onSlice, h]
theorem State.onPower_of_runs (i : Fin 16) (f : Env → Slice → Slice) (s : State) (h : s.powerUp i = true) : s.onPower i f = s.modSlice i (f (s.env i)) := by
  simp [State.onPower, h]
theorem State.onPower_of_stands (i : Fin 16) (f : Env → Slice → Slice) (s : State) (h : s.powerUp i = false) : s.onPower i f = s := by
  simp [State.onPower, h]

/-- A timer that does not run has no expiry. -/
theorem State.onSliceAt_none (i : Fin 16) (due : Env → Slice → Option Nat) (f : Env → Slice → Slice) (s : State) (h : due (s.env i) s.slices[i] = none) :
    s.onSliceAt i due f = s := by unfold State.onSliceAt; rw [h]
theorem State.onPowerAt_none (i : Fin 16) (due : Env → Slice → Option Nat) (f : Env → Slice → Slice) (s : State) (h : due (s.env i) s.slices[i] = none) :
    s.onPowerAt i due f = s := by unfold State.onPowerAt; rw [h]

/-- A slice function changes the slice it is given alone. -/
theorem State.onSlice_other (i j : Fin 16) (f : Env → Slice → Slice) (s : State) (h : j ≠ i) : (s.onSlice i f).slices[j] = s.slices[j] := by
  unfold State.onSlice
  split
  · have : i.val ≠ j.val := fun e => h (Fin.ext e.symm)
    simp [State.modSlice, this]
  · rfl

/-- What a function on every slice keeps, if it keeps it in each. -/
theorem State.eachSlice_keeps {β : Type} (g : State → β) (f : Fin 16 → State → State) (h : ∀ i s, g (f i s) = g s) (s : State) : g (s.eachSlice f) = g s := by
  unfold State.eachSlice
  generalize List.finRange 16 = l
  induction l generalizing s with
  | nil => rfl
  | cons i t ih =>
    rw [List.foldl_cons, ih]
    split
    · exact h i s
    · rfl

/-- An event of Splice touches its block and the data-plane queue. -/
theorem State.splEvent_eq (e p n a : Nat) (s : State) (h : e < 8) : ∃ spl dq, s.splEvent e p n a = { s with spl := spl, dq := dq } := by
  have h2 : 224 + e < 240 := by omega
  refine ⟨(s.splEvent e p n a).spl, (s.splEvent e p n a).dq, ?_⟩
  simp [State.splEvent, State.raise, h2, State.modSpl]

/-- A discarded prefetch changes Splice, and the data-plane queue where E226 is raised (R385). -/
theorem State.discardPrefetch_eq (b : Fin 16) (s : State) : ∃ spl dq, s.discardPrefetch b = { s with spl := spl, dq := dq } := by
  unfold State.discardPrefetch
  simp only
  split
  · obtain ⟨x, y, h⟩ := State.splEvent_eq 2 (originPosition s.spl.bufs[b].origin) 0 s.spl.bufs[b].address ((s.freeBuf b).modSpl fun y => { y with cntDiscarded := satInc 65535 y.cntDiscarded }) (by omega)
    exact ⟨x, y, h⟩
  · exact ⟨_, s.dq, rfl⟩

/-- All that discarding prefetches can change (R385). -/
theorem State.discardWhere_eq (q : ReadBuf → Bool) (s : State) : ∃ spl dq, s.discardWhere q = { s with spl := spl, dq := dq } := by
  unfold State.discardWhere
  generalize List.finRange 16 = l
  induction l generalizing s with
  | nil => exact ⟨s.spl, s.dq, rfl⟩
  | cons b t ih =>
    rw [List.foldl_cons]
    split
    · obtain ⟨x, y, h⟩ := State.discardPrefetch_eq b s
      rw [h]
      obtain ⟨x', y', h'⟩ := ih { s with spl := x, dq := y }
      exact ⟨x', y', h'⟩
    · exact ih s

end Sys2Proof.Machine
end

