-- ==== Sys2Proof/Laws/Portal.lean ====
section
/-! SUPPORT. What the steps before a portal's evaluation leave of it, and what the evaluation of a sync point makes of it. -/

namespace Sys2Proof.Machine

set_option linter.unusedSimpArgs false

/-- What of a portal only its transitions change. -/
def Portal.stand (q : Portal) : PState × Phase × Int × Nat × Bool × Nat × Option Int × Bool × Option Int × Nat × Bool × Bool × Nat :=
  (q.st, q.phase, q.tState, q.reopenCount, q.restricted, q.sources, q.stopPause, q.emergFreed, q.s2Alone, q.faultCause, q.prevS1, q.crew, q.command)

theorem forAxes_keeps {β : Type} (g : Slice → β) (f : Fin 3 → Slice → Slice) (h : ∀ a sl, g (f a sl) = g sl) (sl : Slice) : g (forAxes f sl) = g sl := by
  simp [forAxes, h]
theorem forChannels_keeps {β : Type} (g : Slice → β) (f : Fin 6 → Slice → Slice) (h : ∀ a sl, g (f a sl) = g sl) (sl : Slice) : g (forChannels f sl) = g sl := by
  simp [forChannels, h]
theorem foldl_keeps {α β γ : Type} (g : β → γ) (f : β → α → β) (h : ∀ b a, g (f b a) = g b) (l : List α) (b : β) : g (l.foldl f b) = g b := by
  induction l generalizing b with
  | nil => rfl
  | cons x t ih => simp [ih, h]

/-- The same of a slice. -/
def Slice.std (sl : Slice) := sl.portal.stand
@[simp] theorem Slice.std_modM (a f) (sl : Slice) : (sl.modM a f).std = sl.std := rfl
@[simp] theorem Slice.std_modD (a f) (sl : Slice) : (sl.modD a f).std = sl.std := rfl
@[simp] theorem Slice.std_modInp (f) (sl : Slice) : (sl.modInp f).std = sl.std := rfl
@[simp] theorem Slice.std_modSw (f) (sl : Slice) : (sl.modSw f).std = sl.std := rfl
@[simp] theorem Slice.std_modCh (k f) (sl : Slice) : (sl.modCh k f).std = sl.std := rfl
@[simp] theorem Slice.std_modTether (f) (sl : Slice) : (sl.modTether f).std = sl.std := rfl
@[simp] theorem Slice.std_raise (e k c h) (sl : Slice) : (sl.raise e k c h).std = sl.std := rfl
@[simp] theorem Slice.std_switchEvent (e k c h) (sl : Slice) : (sl.switchEvent e k c h).std = sl.std := rfl
@[simp] theorem Slice.std_axisFault (e a c) (sl : Slice) : (sl.axisFault e a c).std = sl.std := by unfold Slice.axisFault; dsimp only; split <;> rfl
@[simp] theorem Slice.std_deliver (e) (sl : Slice) : (sl.deliverInputs e).std = sl.std := rfl
@[simp] theorem Slice.std_compare (e) (sl : Slice) : (sl.compareTwin e).std = sl.std := rfl
@[simp] theorem Slice.std_setPowerPos (a) (sl : Slice) : (sl.setPowerPos a).std = sl.std := rfl
@[simp] theorem Slice.std_powerFree (a) (sl : Slice) : (sl.powerFree a).std = sl.std := rfl
@[simp] theorem Slice.std_setMode (e a m) (sl : Slice) : (sl.setMode e a m).std = sl.std := rfl
@[simp] theorem Slice.std_wantMode (e a m) (sl : Slice) : (sl.wantMode e a m).std = sl.std := by unfold Slice.wantMode; simp [apply_ite Slice.std]
@[simp] theorem Slice.std_freeAxis (e a m) (sl : Slice) : (sl.freeAxis e a m).std = sl.std := rfl
@[simp] theorem Slice.std_brakeAxis (e a) (sl : Slice) : (sl.brakeAxis e a).std = sl.std := by unfold Slice.brakeAxis; simp
@[simp] theorem Slice.std_askGrant (e a) (sl : Slice) : (sl.askGrant e a).std = sl.std := by unfold Slice.askGrant; split <;> rfl
@[simp] theorem Slice.std_decideMove (e a m) (sl : Slice) : (sl.decideMove e a m).std = sl.std := by unfold Slice.decideMove; simp
@[simp] theorem Slice.std_actionDone (e a) (sl : Slice) : (sl.actionDone e a).std = sl.std := by unfold Slice.actionDone; dsimp only; split <;> rfl
@[simp] theorem Slice.std_latchMode (e a) (sl : Slice) : (sl.latchMode e a).std = sl.std := by
  unfold Slice.latchMode; split
  · rfl
  · dsimp only; simp [apply_ite Slice.std]
@[simp] theorem Slice.std_withFollowers (e a) (f : Fin 3 → Slice → Slice) (h : ∀ b sl, (f b sl).std = sl.std) (sl : Slice) : (sl.withFollowers e a f).std = sl.std := by
  unfold Slice.withFollowers; rw [forAxes_keeps Slice.std]; intro b sl; split <;> simp [h]
@[simp] theorem Slice.std_offerMove (e a m) (sl : Slice) : (sl.offerMove e a m).std = sl.std := by
  unfold Slice.offerMove; dsimp only; repeat' split
  all_goals first | (simp; done) | (rw [Slice.std_withFollowers _ _ _ (by intros; rfl)]; simp)
@[simp] theorem Slice.std_reverseLeaf (e a) (sl : Slice) : (sl.reverseLeaf e a).std = sl.std := by
  unfold Slice.reverseLeaf; dsimp only; split
  · rw [Slice.std_offerMove]; rfl
  · rfl
theorem Slice.std_moves (e a) (l : List Move) (sl : Slice) :
    (l.foldl (fun (sl : Slice) mv => if mv.replace && decide (mv.set = 3) then sl.reverseLeaf e a else sl.offerMove e a mv) sl).std = sl.std :=
  foldl_keeps Slice.std _ (by intro b m; split <;> simp) l sl
@[simp] theorem Slice.std_latchMoves (e a) (sl : Slice) : (sl.latchMoves e a).std = sl.std := by
  have h0 : ∀ sl : Slice, (if sl.axes[a].m.pendStop then sl.modM a fun m =>
      { m.stop with pendStop := false, pending := m.pending, needsGrant := m.needsGrant && !m.pending.isEmpty, req := if m.pending.isEmpty then .idle else m.req }
      else sl).std = sl.std := by intro sl; split <;> rfl
  unfold Slice.latchMoves; dsimp only
  rw [← h0 sl]
  generalize (if sl.axes[a].m.pendStop then _ else sl : Slice) = s1
  split
  · rfl
  · repeat' split
    all_goals first | (simp; done) | (rw [Slice.std_actionDone, Slice.std_modM, Slice.std_moves]; rfl) | (rw [Slice.std_moves]; rfl)
@[simp] theorem Slice.std_startHoming (e a) (sl : Slice) : (sl.startHoming e a).std = sl.std := by unfold Slice.startHoming; simp
@[simp] theorem Slice.std_latchDrive (e a) (sl : Slice) : (sl.latchDrive e a).std = sl.std := by unfold Slice.latchDrive; dsimp only; simp [apply_ite Slice.std]
@[simp] theorem Slice.std_latchAll (e) (sl : Slice) : (sl.latchAll e).std = sl.std := by
  have h1 : ∀ sl : Slice, (forAxes (fun a sl => sl.latchMoves e a) (forAxes (fun a sl => sl.latchMode e a)
      ((forChannels (fun k sl => sl.modCh k fun c => { c with commanded := c.decided }) sl).modTether fun t => { t with strobe := true }))).std = sl.std := by
    intro sl
    rw [forAxes_keeps Slice.std _ (by intros; simp), forAxes_keeps Slice.std _ (by intros; simp), Slice.std_modTether, forChannels_keeps Slice.std _ (by intros; simp)]
  unfold Slice.latchAll; dsimp only
  split
  · exact h1 sl
  · split
    · show (forAxes (fun a sl => sl.latchDrive e a) _).std = _
      rw [forAxes_keeps Slice.std _ (by intros; simp)]; exact h1 sl
    · rw [forAxes_keeps Slice.std _ (by intros; simp)]; exact h1 sl
@[simp] theorem Slice.std_teachBreak (sl : Slice) : sl.teachBreak.std = sl.std := by
  unfold Slice.teachBreak; split
  · split
    · rfl
    · rw [forAxes_keeps Slice.std _ (by intros; simp)]; rfl
  · rfl
@[simp] theorem Slice.std_takeAxis (e a) (sl : Slice) : (sl.takeAxisCommand e a).std = sl.std := by unfold Slice.takeAxisCommand; dsimp only; simp [apply_ite Slice.std]
@[simp] theorem Slice.std_teachStart (e) (sl : Slice) : (sl.teachStart e).std = sl.std := by
  unfold Slice.teachStart; split
  · show (forAxes _ sl).std = _
    rw [forAxes_keeps Slice.std]; intro a sl; split <;> simp
  · exact Slice.std_modD 0 _ sl
@[simp] theorem Slice.std_decideMode (e sel m) (sl : Slice) : (sl.decideMode e sel m).std = sl.std := by
  unfold Slice.decideMode; rw [forAxes_keeps Slice.std]; intros; dsimp only; split
  · split <;> simp
  · rfl
@[simp] theorem Slice.std_teachBegins (e) (sl : Slice) : (sl.teachBegins e).std = sl.std := by
  unfold Slice.teachBegins; dsimp only; split <;> simp
@[simp] theorem Slice.std_envReset (e a) (sl : Slice) : (sl.envelopeReset e a).std = sl.std := by unfold Slice.envelopeReset; split <;> simp [apply_ite Slice.std]
@[simp] theorem Slice.std_takeDrive (e a) (sl : Slice) : (sl.takeDriveCommand e a).std = sl.std := by unfold Slice.takeDriveCommand; dsimp only; simp [apply_ite Slice.std]
@[simp] theorem Slice.std_reopenChannel (e k) (sl : Slice) : (sl.reopenChannel e k).std = sl.std := by unfold Slice.reopenChannel; rfl
@[simp] theorem Slice.std_clearLatch (e k) (sl : Slice) : (sl.clearLatch e k).std = sl.std := by unfold Slice.clearLatch; dsimp only; simp [apply_ite Slice.std]
@[simp] theorem Slice.std_powerLost (e) (sl : Slice) : (sl.powerLost e).std = sl.std := by unfold Slice.powerLost; split <;> rfl
@[simp] theorem Slice.std_testFail (e) (sl : Slice) : (sl.tetherTestFail e).std = sl.std := by unfold Slice.tetherTestFail; rw [Slice.std_powerLost]; rfl
@[simp] theorem Slice.std_takeSwitch (e) (sl : Slice) : (sl.takeSwitchCommand e).std = sl.std := by
  unfold Slice.takeSwitchCommand; dsimp only; repeat' split
  all_goals simp
@[simp] theorem Slice.std_checkTest (e) (sl : Slice) : (sl.checkTetherTest e).std = sl.std := by unfold Slice.checkTetherTest; dsimp only; split <;> simp
/-- Before the evaluation nothing moves a portal's state or timers. -/
theorem Slice.std_prepared (e) (sl : Slice) : (sl.prepared e).std = sl.std := by
  unfold Slice.prepared; dsimp only
  rw [Slice.std_checkTest, Slice.std_takeSwitch, forAxes_keeps Slice.std _ (by intros; simp), Slice.std_latchAll, Slice.std_compare, Slice.std_deliver]

/-! ### The evaluation of a sync point -/

/-- What of a portal its timers' statements look at. -/
def Portal.look (q : Portal) : PState × Phase × Int × Nat × Nat × Bool × Bool × Option Int := (q.st, q.phase, q.tState, q.faultCause, q.stateAtFault, q.restricted, q.emergFreed, q.stopPause)

@[simp] theorem Slice.portal_modM (a f) (sl : Slice) : (sl.modM a f).portal = sl.portal := rfl
@[simp] theorem Slice.portal_modD (a f) (sl : Slice) : (sl.modD a f).portal = sl.portal := rfl
@[simp] theorem Slice.portal_modCh (k f) (sl : Slice) : (sl.modCh k f).portal = sl.portal := rfl
@[simp] theorem Slice.portal_modTether (f) (sl : Slice) : (sl.modTether f).portal = sl.portal := rfl
@[simp] theorem Slice.portal_modPortal (f) (sl : Slice) : (sl.modPortal f).portal = f sl.portal := rfl
@[simp] theorem Slice.portal_raise (e k c h) (sl : Slice) : (sl.raise e k c h).portal = sl.portal := rfl
@[simp] theorem Slice.portal_setMode (e a m) (sl : Slice) : (sl.setMode e a m).portal = sl.portal := rfl
@[simp] theorem Slice.portal_wantMode (e a m) (sl : Slice) : (sl.wantMode e a m).portal = sl.portal := by unfold Slice.wantMode; simp [apply_ite Slice.portal]
@[simp] theorem Slice.portal_startHoming (e a) (sl : Slice) : (sl.startHoming e a).portal = sl.portal := by unfold Slice.startHoming; simp
@[simp] theorem Slice.portal_askGrant (e a) (sl : Slice) : (sl.askGrant e a).portal = sl.portal := by unfold Slice.askGrant; split <;> rfl
@[simp] theorem Slice.portal_decideMove (e a m) (sl : Slice) : (sl.decideMove e a m).portal = sl.portal := by unfold Slice.decideMove; simp
@[simp] theorem Slice.portal_decideLeaf (e n p) (sl : Slice) : (sl.decideLeaf e n p).portal = sl.portal := by
  unfold Slice.decideLeaf; split
  · simp [apply_ite Slice.portal]
  · rfl
@[simp] theorem Slice.portal_decideAux (e p) (sl : Slice) : (sl.decideAux e p).portal = sl.portal := by
  unfold Slice.decideAux; rw [forAxes_keeps Slice.portal]; intros; split <;> simp
@[simp] theorem Slice.portal_decideStop (e) (sl : Slice) : (sl.decideStop e).portal = sl.portal := by
  unfold Slice.decideStop; rw [forAxes_keeps Slice.portal]; intros; split <;> rfl
@[simp] theorem Slice.portal_decideMode (e sel m) (sl : Slice) : (sl.decideMode e sel m).portal = sl.portal := by
  unfold Slice.decideMode; rw [forAxes_keeps Slice.portal]; intros; dsimp only; split
  · split <;> simp
  · rfl
@[simp] theorem Slice.portal_teachBreak (sl : Slice) : sl.teachBreak.portal = sl.portal := by
  unfold Slice.teachBreak; split
  · split
    · rfl
    · rw [forAxes_keeps Slice.portal _ (by intros; rfl)]
  · rfl
@[simp] theorem Slice.portal_withFollowers (e a) (f : Fin 3 → Slice → Slice) (h : ∀ b sl, (f b sl).portal = sl.portal) (sl : Slice) : (sl.withFollowers e a f).portal = sl.portal := by
  unfold Slice.withFollowers; rw [forAxes_keeps Slice.portal]; intro b sl; split <;> simp [h]
@[simp] theorem Slice.portal_teachHoming (e t k) (sl : Slice) : (sl.teachHoming e t k).portal = sl.portal := by
  unfold Slice.teachHoming; dsimp only; repeat' split
  all_goals simp
@[simp] theorem Slice.portal_teachMoves (e t k) (sl : Slice) : (sl.teachMoves e t k).portal = sl.portal := by
  unfold Slice.teachMoves; dsimp only; repeat' split
  all_goals first | (simp; done) | (show (Slice.withFollowers e k _ sl).portal = _; rw [Slice.portal_withFollowers]; intros; rfl)
/-- The teach cycle leaves the portal alone. -/
@[simp] theorem Slice.portal_teachStep (e cmd) (sl : Slice) : (sl.teachStep e cmd).portal = sl.portal := by
  unfold Slice.teachStep; repeat' split
  all_goals simp
@[simp] theorem Slice.portal_homeGrants (e) (sl : Slice) : (sl.homeGrants e).portal = sl.portal := by
  unfold Slice.homeGrants; dsimp only; rw [forAxes_keeps Slice.portal]; intros; split <;> simp
@[simp] theorem Slice.portal_issueCaught (e) (sl : Slice) : (sl.issueCaught e).portal = sl.portal := by
  unfold Slice.issueCaught; rw [forAxes_keeps Slice.portal]; intro a sl; dsimp only; split
  · rfl
  · rw [foldl_keeps Slice.portal _ (by intros; simp)]; rfl
theorem Slice.portal_decideChannels (e) (sl : Slice) : (sl.decideChannels e).portal = { sl.portal with lockDecided := (sl.decideChannels e).portal.lockDecided } := by
  have : ∀ p : Slice, (forChannels (fun k sl => let o := sl.channelOut e k; sl.modCh k fun c => { c with decided := o }) p).portal = p.portal := by
    intro p; rw [forChannels_keeps Slice.portal]; intros; rfl
  unfold Slice.decideChannels; simp only [Slice.modPortal]
  show _ = _
  congr 1

/-- What the transition of a sync point starts from: the command taken, the conditions noted. -/
def Slice.begun (e : Env) (p : Slice) : Slice :=
  p.modPortal fun q => { q with command := 0, crew := p.crewNext e, status := p.statusBits e, s2Alone := if p.s2 e && !p.s1 e then some (q.s2Alone.getD e.cyc) else none }
/-- What the transition of a sync point leaves. -/
def Slice.moved (e : Env) (p : Slice) : Slice := (p.begun e).transition e p.portal.command p.portal.sources

/-- An evaluation leaves the portal as its transition does, but for what it notes for the next one. -/
theorem Slice.evaluate_look (e : Env) (p : Slice) : (p.evaluate e).portal.look = (p.moved e).portal.look := by
  have h : (p.evaluate e) = (((((p.moved e).teachStep e p.portal.command).modPortal fun q => { q with prevS1 := ((p.moved e).teachStep e p.portal.command).s1 e, sources := p.closeSources e }).homeGrants e).issueCaught e).decideChannels e := rfl
  rw [h, Slice.portal_decideChannels]; simp [Portal.look]
theorem Slice.syncActive_look (e : Env) (sl : Slice) : (sl.syncActive e).portal.look = ((sl.prepared e).moved e).portal.look := by
  rw [← Slice.evaluate_look]; rfl

theorem Slice.endCycle_look (e st c) (sl : Slice) : (sl.endCycle e st c).portal.look = sl.portal.look := by
  unfold Slice.endCycle; split
  · dsimp only; split <;> rfl
  · rfl
/-- Entering a state: its timers start, the fault record stands. -/
theorem Slice.enter_look (e st ph) (sl : Slice) : (sl.enter e st ph).portal.look = (st, ph, (e.cyc : Int), sl.portal.faultCause, sl.portal.stateAtFault, sl.portal.restricted, sl.portal.emergFreed, none) := by
  have h : ∃ acc, sl.enter e st ph =
      (let s1 := sl.modPortal fun q =>
        { q with st := st, phase := ph, tState := e.cyc, acc := acc, issued := false, stopPause := none,
                 acting := if st = .reopening then q.acting else .none,
                 openStops := if st = .opening then q.openStops else 0,
                 reopenCount := if st = .locked ∨ st = .released then 0 else q.reopenCount }
      let s2 := if st = sl.portal.st then s1 else forAxes (fun a sl => sl.modM a fun m => { m with learnable := false }) s1
      if st.endsCycle then s2.endCycle e st (if st = .fault then s2.portal.faultCause else 0) else s2) := ⟨_, rfl⟩
  obtain ⟨acc, h⟩ := h
  rw [h]; dsimp only
  split
  · rw [Slice.endCycle_look]; split <;> rfl
  · split <;> rfl
theorem Slice.enterFault_look (e : Env) (c : Nat) (p : Slice) :
    (p.enterFault e c).portal.look = (.fault, .none, (e.cyc : Int), c, p.portal.st.code, p.portal.restricted, p.portal.emergFreed, none) := by
  unfold Slice.enterFault; dsimp only; rw [Slice.portal_raise, Slice.portal_decideMode, Slice.enter_look]; rfl
theorem Slice.enterOpen_look (e : Env) (r : Bool) (p : Slice) :
    (p.enterOpen e r).portal.look = (.open_, .none, (e.cyc : Int), p.portal.faultCause, p.portal.stateAtFault, r, p.portal.emergFreed, none) := by
  have h := p.enter_look e .open_ .none
  simp only [Portal.look, Prod.mk.injEq] at h
  unfold Slice.enterOpen; rw [Slice.portal_decideAux]; simp [Portal.look, h]
theorem Slice.enterOpening_look (e : Env) (p : Slice) :
    (p.enterOpening e).portal.look = (.opening, .none, (e.cyc : Int), p.portal.faultCause, p.portal.stateAtFault, p.portal.restricted, p.portal.emergFreed, none) := by
  have h := p.enter_look e .opening .none
  simp only [Portal.look, Prod.mk.injEq] at h
  unfold Slice.enterOpening; dsimp only; split <;> simp [Portal.look, h]

/-- The crew release is the same before and after the evaluation has noted it. -/
theorem Slice.begun_crew (e : Env) (p : Slice) : (p.begun e).crewNext e = p.crewNext e := by
  have h : (p.begun e).crewNext e = (e.isCrew && p.cabActive && p.zeroSpeed && !p.closeButton e && (p.crewNext e || p.openButton e)) := rfl
  rw [h]; unfold Slice.crewNext
  cases e.isCrew <;> cases p.cabActive <;> cases p.zeroSpeed <;> cases p.closeButton e <;> cases p.portal.crew <;> cases p.openButton e <;> rfl
theorem Slice.begun_released (e : Env) (p : Slice) : (p.begun e).released e = p.released e := by
  unfold Slice.released; rw [Slice.begun_crew]; rfl
theorem Slice.begun_sources (e : Env) (p : Slice) : (p.begun e).closeSources e = p.closeSources e := by
  unfold Slice.closeSources; rw [Slice.begun_released]; rfl
theorem Slice.begun_standing (e : Env) (p : Slice) (h : p.quiet e = true) : (p.begun e).standingCause e = 0 := by
  simp only [Slice.quiet, Bool.and_eq_true, Bool.not_eq_true', decide_eq_true_eq, Bool.or_eq_true] at h
  obtain ⟨⟨⟨⟨⟨⟨⟨a, b⟩, c⟩, d⟩, c10⟩, c11⟩, c6⟩, al⟩ := h
  have e10 : (p.begun e).cause10 e = false := c10
  have e11 : (p.begun e).portal.cause11 = false := c11
  have e6 : (p.begun e).cause6 e = false := c6
  have e7 : (p.begun e).cause7 e = false := by
    unfold Slice.cause7 Slice.begun
    rcases al with h | h <;> simp [h]
  simp [Slice.standingCause, e10, e11, e6, e7]

/-- With nothing of ranks 1 to 4 of R76 standing, the transition is the timer's fault or the row of the present state. -/
theorem Slice.moved_quiet (e : Env) (p : Slice) (h : p.quiet e = true) (hu : p.portal.st ≠ .unused) :
    p.moved e = if (p.begun e).timerCause e ≠ 0 then (p.begun e).enterFault e ((p.begun e).timerCause e) else (p.begun e).evalState e p.portal.command p.portal.sources := by
  have hs := p.begun_standing e h
  simp only [Slice.quiet, Bool.and_eq_true, Bool.not_eq_true', decide_eq_true_eq, Bool.or_eq_true] at h
  obtain ⟨⟨⟨⟨⟨⟨⟨a, b⟩, c'⟩, d⟩, c10⟩, c11⟩, c6⟩, al⟩ := h
  have a' : (p.begun e).handleEgress e = false := a
  have b' : (p.begun e).handleAccess e = false := b
  have c'' : (p.begun e).isoConfirmed e = false := c'
  have d' : (p.begun e).portal.obs = .none := d
  have hu' : (p.begun e).portal.st ≠ .unused := hu
  have od : (p.begun e).obstacleDecides = false := by
    unfold Slice.obstacleDecides; rw [d']; split <;> simp_all
  unfold Slice.moved Slice.transition; dsimp only
  simp [hu', a', b', c'', d', od, hs]

/-- The expiry of a portal timer that can act is the evaluation of the first sync point at which it has elapsed (R52). -/
theorem State.portalExpiry_acts (i : Fin 16) (due : Env → Slice → Option Int) (s : State) (t : Int) (hd : due (s.env i) s.slices[i] = some t) (ha : s.timerActs i t = true) :
    s.portalExpiry i due = (s.atSyncFrom i t).modSlice i fun sl => sl.syncActive ((s.atSyncFrom i t).envAhead i) := by
  unfold State.portalExpiry; rw [hd]
  simp only [ha, if_true]

/-! ### The sync point after an instant (R40, R52) -/

theorem State.tcyc_pos (s : State) : 0 < s.tcyc := by unfold State.tcyc cycleNs; split_ifs <;> decide

/-- At the sync point at which a timer acts its cycles have reached its due time (R52). -/
theorem State.cyc_ge (i : Fin 16) (t : Int) (s : State) : t ≤ (((s.atSyncFrom i t).envAhead i).cyc : Int) := by
  have h : ((s.atSyncFrom i t).envAhead i).cyc = (s.slices[i].cycleT : Int) + (s.cyclesTo i t * s.tcyc : Nat) := by
    unfold State.atSyncFrom State.openCycle; simp [State.envAhead, State.env, State.envAt, State.modSlice, State.advance]
  have hq : (0 : Int) < s.tcyc := by exact_mod_cast s.tcyc_pos
  have h1 := Int.lt_ediv_add_one_mul_self (t - s.slices[i].cycleT + s.tcyc - 1) hq
  rw [h]; unfold State.cyclesTo
  push_cast
  generalize (t - (s.slices[i].cycleT : Int) + s.tcyc - 1) / s.tcyc = d at *
  have h2 : d * s.tcyc ≤ (d.toNat : Int) * s.tcyc := mul_le_mul_of_nonneg_right (Int.self_le_toNat d) (le_of_lt hq)
  have h3 : (d + 1) * (s.tcyc : Int) = d * s.tcyc + s.tcyc := by ring
  omega

/-- What the evaluation finds has the portal's state and timers unchanged. -/
theorem State.found_std (i : Fin 16) (t : Int) (s : State) : (s.found i t).std = s.slices[i].std := by
  unfold State.found; rw [Slice.std_prepared]
  unfold State.atSyncFrom State.openCycle; dsimp only
  simp [State.modSlice, State.advance, Slice.std]

/-- The portal that the evaluation finds stands as it did. -/
theorem State.found_portal (i : Fin 16) (t : Int) (s : State) :
    (s.found i t).portal.st = s.slices[i].portal.st ∧ (s.found i t).portal.phase = s.slices[i].portal.phase ∧ (s.found i t).portal.tState = s.slices[i].portal.tState ∧
    (s.found i t).portal.reopenCount = s.slices[i].portal.reopenCount ∧ (s.found i t).portal.restricted = s.slices[i].portal.restricted ∧
    (s.found i t).portal.sources = s.slices[i].portal.sources ∧ (s.found i t).portal.stopPause = s.slices[i].portal.stopPause ∧
    (s.found i t).portal.emergFreed = s.slices[i].portal.emergFreed ∧ (s.found i t).portal.s2Alone = s.slices[i].portal.s2Alone ∧ (s.found i t).portal.faultCause = s.slices[i].portal.faultCause := by
  have h := State.found_std i t s
  generalize s.found i t = p at *
  generalize s.slices[i] = q at *
  simp only [Slice.std, Portal.stand, Prod.mk.injEq] at h
  obtain ⟨e1, e2, e3, e4, e5, e6, e7, e8, e9, e10, -⟩ := h
  exact ⟨e1, e2, e3, e4, e5, e6, e7, e8, e9, e10⟩

theorem Slice.begun_timerCause (e : Env) (p : Slice) : (p.begun e).timerCause e = p.timerCause e := rfl
/-- A timer that has expired gives its fault where nothing of a higher rank stands (R65, R76). -/
theorem Slice.moved_fault (e : Env) (p : Slice) (hq : p.quiet e = true) (hu : p.portal.st ≠ .unused) (h0 : p.timerCause e ≠ 0) :
    (p.moved e).portal.look = (.fault, .none, (e.cyc : Int), p.timerCause e, p.portal.st.code, p.portal.restricted, p.portal.emergFreed, none) := by
  rw [Slice.moved_quiet e p hq hu, Slice.begun_timerCause, if_pos h0, Slice.enterFault_look]; rfl
/-- The row of the present state decides where nothing of a higher rank stands (R65, R76). -/
theorem Slice.moved_row (e : Env) (p : Slice) (hq : p.quiet e = true) (hu : p.portal.st ≠ .unused) (h0 : p.timerCause e = 0) :
    p.moved e = (p.begun e).evalState e p.portal.command p.portal.sources := by
  rw [Slice.moved_quiet e p hq hu, Slice.begun_timerCause, if_neg (by simp [h0])]
theorem Slice.elapsed_of (e : Env) (n : Nat) (p : Slice) (h : p.portal.tState + ms n ≤ e.cyc) : p.elapsed e n = true := by
  unfold Slice.elapsed; simpa using h

/-! ### When each timer falls due (R52, R65) -/

theorem Slice.timerDue_of {n : Nat} {t : Int} {e : Env} {sl : Slice} (h : sl.timer e = (n, t)) : Slice.timerDue n e sl = some t := by simp [Slice.timerDue, h]
theorem Slice.due_warn (e : Env) (sl : Slice) (h : sl.portal.st = .closing ∨ sl.portal.st = .homing) (h' : sl.portal.phase = .warn) : Slice.timerDue 1 e sl = some (sl.portal.tState + ms (cfgPrtWarnTime e.p e.i)) :=
  Slice.timerDue_of (by unfold Slice.timer; rcases h with h | h <;> simp only [h, h'])
theorem Slice.due_lock (e : Env) (sl : Slice) (h : sl.portal.st = .locking) : Slice.timerDue 2 e sl = some (sl.portal.tState + ms (cfgPrtLockConfirmMs e.p e.i)) :=
  Slice.timerDue_of (by unfold Slice.timer; simp only [h])
theorem Slice.due_unlock (e : Env) (sl : Slice) (h : sl.portal.st = .unlocking) : Slice.timerDue 3 e sl = some (sl.portal.tState + ms (cfgPrtUnlockConfirmMs e.p e.i)) :=
  Slice.timerDue_of (by unfold Slice.timer; simp only [h])
theorem Slice.due_open (e : Env) (sl : Slice) (h : sl.portal.st = .opening) : Slice.openDue e sl = some (sl.portal.tState + ms (cfgPrtOpenTimeout e.p e.i)) := by
  unfold Slice.openDue; rw [if_pos h]
theorem Slice.due_close (e : Env) (sl : Slice) (h : sl.portal.st = .closing) (h' : sl.portal.phase = .move) : Slice.timerDue 5 e sl = some (sl.portal.tState + ms (cfgPrtCloseTimeout e.p e.i)) :=
  Slice.timerDue_of (by unfold Slice.timer; simp only [h, h'])
theorem Slice.due_stow (e : Env) (sl : Slice) (h : sl.portal.st = .closedUnlocked) : Slice.timerDue 6 e sl = some (sl.portal.tState + ms (cfgPrtStepStowTimeout e.p e.i)) :=
  Slice.timerDue_of (by unfold Slice.timer; simp only [h])
theorem Slice.due_pause (e : Env) (sl : Slice) (h : sl.portal.st = .reopening) (h' : sl.portal.phase = .pause) : Slice.timerDue 7 e sl = some (sl.portal.tState + ms (cfgPrtReclosePauseMs e.p e.i)) :=
  Slice.timerDue_of (by unfold Slice.timer; simp only [h, h'])
theorem Slice.due_stop (e : Env) (sl : Slice) (t : Int) (h : sl.portal.st = .opening) (h' : sl.portal.stopPause = some t) : Slice.timerDue 7 e sl = some (t + ms (cfgPrtReclosePauseMs e.p e.i)) :=
  Slice.timerDue_of (by unfold Slice.timer; simp only [h, h'])
theorem Slice.due_auto (e : Env) (sl : Slice) (h : sl.portal.st = .open_) (h' : cfgPrtAutoClose e.p e.i ≠ 0) : Slice.timerDue 8 e sl = some (sl.portal.tState + ms (cfgPrtAutoClose e.p e.i * 100)) :=
  Slice.timerDue_of (by unfold Slice.timer; simp only [h, h', if_false])
theorem Slice.due_egress (e : Env) (sl : Slice) (h : sl.portal.st = .emergency) (h' : sl.portal.emergFreed = false) (h2 : sl.zeroSpeed = false) : Slice.timerDue 9 e sl = some (sl.portal.tState + ms (cfgPrtEgressHoldMs e.p e.i)) :=
  Slice.timerDue_of (by unfold Slice.timer; simp [h, h', h2])
theorem Slice.due_pull (e : Env) (sl : Slice) (h : sl.portal.st = .locking) : Slice.lockPullDue e sl = some (sl.portal.tState + ms (cfgPrtLockPullMs e.p e.i)) := by
  unfold Slice.lockPullDue; rw [if_pos h]
theorem Slice.due_pulse (e : Env) (sl : Slice) (h : sl.portal.st = .unlocking) (h' : e.heldLock = false) : Slice.unlockPulseDue e sl = some (sl.portal.tState + ms (cfgPrtUnlockPulseMs e.p e.i)) := by
  unfold Slice.unlockPulseDue; rw [if_pos ⟨h, h'⟩]
theorem Slice.due_alone (e : Env) (sl : Slice) (t : Int) (h : sl.portal.s2Alone = some t) : Slice.s2AloneDue e sl = some (t + ms (cfgPrtLockConfirmMs e.p e.i) + 1) := by
  unfold Slice.s2AloneDue; rw [h]; rfl

/-! ### What a sync point decides for the lock outputs and the leaves -/

/-- A channel that the sequencer drives is decided from the portal's state alone (R201). -/
theorem Slice.channelOut_portal (e : Env) (k : Fin 6) (p q : Slice) (h : cfgLswChSource e.p e.i k.val = 1)
    (h1 : p.portal.st = q.portal.st) (h2 : p.portal.phase = q.portal.phase) (h3 : p.portal.tState = q.portal.tState) (h4 : p.portal.lockDecided = q.portal.lockDecided) :
    p.channelOut e k = q.channelOut e k := by
  have hel : ∀ t, p.elapsed e t = q.elapsed e t := by intro t; unfold Slice.elapsed; rw [h3]
  have g1 : p.lockOut e = q.lockOut e := by unfold Slice.lockOut; rw [h1, h4]; simp only [hel]
  have g2 : p.unlockOut e = q.unlockOut e := by unfold Slice.unlockOut; rw [h1]; simp only [hel]
  have g3 : p.lampOut e = q.lampOut e := by unfold Slice.lampOut; rw [h1]
  have g4 : p.buzzerOut e = q.buzzerOut e := by unfold Slice.buzzerOut; rw [h1, h2]; simp only [hel]
  unfold Slice.channelOut; rw [h]; simp only [g1, g2, g3, g4]
/-- What a sync point decides for a channel that the sequencer drives. -/
theorem Slice.decided_channel (e : Env) (k : Fin 6) (sl : Slice) (h : cfgLswChSource e.p e.i k.val = 1) : (sl.decideChannels e).sw.ch[k].decided = sl.channelOut e k := by
  have hc : ∀ (j : Fin 6) (f : Channel → Channel) (s : Slice), (s.modCh j f).portal = s.portal := fun _ _ _ => rfl
  have hs : ∀ (j : Fin 6) (f : Channel → Channel) (s : Slice) (m : Fin 6), (s.modCh j f).sw.ch[m] = if j = m then f s.sw.ch[j] else s.sw.ch[m] := by
    intro j f s m
    show (s.sw.ch.set j (f s.sw.ch[j]))[m] = _
    simp only [Fin.getElem_fin, Vector.getElem_set, Fin.ext_iff]
  have hm : ∀ (f : Portal → Portal) (s : Slice), (s.modPortal f).sw = s.sw := fun _ _ => rfl
  unfold Slice.decideChannels forChannels; dsimp only
  rw [hm]
  fin_cases k <;> simp only [hs] <;> simp <;> (try (exact Slice.channelOut_portal e _ _ _ h rfl rfl rfl rfl))

theorem Slice.emergencyLeaves_look (e : Env) (sl : Slice) : (sl.emergencyLeaves e).portal.st = sl.portal.st := by
  have ha : ∀ l (s : Slice), (s.assistOpen e l).portal = s.portal := by
    intro l s; unfold Slice.assistOpen; dsimp only; split
    · rfl
    · rw [Slice.portal_decideMove]; rfl
  have hf : ∀ s : Slice, ((s.decideMode e (fun a => decide (e.role a = 1)) .free).modPortal fun q => { q with emergFreed := true }).portal.st = s.portal.st := by
    intro s; rw [Slice.portal_modPortal, Slice.portal_decideMode]
  unfold Slice.emergencyLeaves; dsimp only
  split
  · rfl
  · split
    · split
      · split
        · rw [Slice.portal_modPortal, ha]
        · split
          · rfl
          · exact hf _
      · exact hf _
    · split
      · split
        · exact hf _
        · rw [Slice.portal_decideMode, Slice.portal_decideStop]
      · exact hf _
theorem Slice.enterEmergency_st (e : Env) (sl : Slice) : (sl.enterEmergency e).portal.st = .emergency := by
  have h := sl.enter_look e .emergency .none
  simp only [Portal.look, Prod.mk.injEq] at h
  unfold Slice.enterEmergency; dsimp only
  rw [Slice.portal_raise, Slice.portal_decideMode, forAxes_keeps Slice.portal _ (by intros; split <;> rfl), Slice.portal_modPortal]; exact h.1
theorem Slice.enterIsolated_st (e : Env) (sl : Slice) : (sl.enterIsolated e).portal.st = .isolated := by
  have h := sl.enter_look e .isolated .none
  simp only [Portal.look, Prod.mk.injEq] at h
  unfold Slice.enterIsolated; dsimp only
  rw [Slice.portal_raise, Slice.portal_decideMode, Slice.portal_modPortal]; exact h.1
theorem Slice.enter_st (e st ph) (sl : Slice) : (sl.enter e st ph).portal.st = st := congrArg Prod.fst (sl.enter_look e st ph)
theorem Slice.enterFault_st (e c) (sl : Slice) : (sl.enterFault e c).portal.st = .fault := congrArg Prod.fst (sl.enterFault_look e c)

/-- A portal that is still in LOCKING or UNLOCKING after a transition has not begun it anew: its timer runs on (R52). -/
theorem Slice.moved_runs_on (e : Env) (p : Slice) (hs : p.portal.st = .locking ∨ p.portal.st = .unlocking) (h : (p.moved e).portal.st = p.portal.st) : (p.moved e).portal.tState = p.portal.tState := by
  have g1 : (p.begun e).portal.st = p.portal.st := rfl
  have g3 : (p.begun e).portal.tState = p.portal.tState := rfl
  have ho : ∀ q : Slice, q.portal.st = p.portal.st → q.obstacleDecides = false := by
    intro q hq; unfold Slice.obstacleDecides; rw [hq]; rcases hs with hs | hs <;> rw [hs]
  have hob : ∀ q : Slice, q.portal.st = p.portal.st → q.evalObstacle e = q.modPortal fun q => { q with obs := .none } := by
    intro q hq; unfold Slice.evalObstacle; dsimp only; rw [hq]; rcases hs with hs | hs <;> rw [hs]
  have hev : ∀ (q : Slice) cmd prev, q.portal.st = p.portal.st → q.portal.tState = p.portal.tState → (q.evalState e cmd prev).portal.st = p.portal.st → (q.evalState e cmd prev).portal.tState = p.portal.tState := by
    intro q cmd prev hq ht hh
    unfold Slice.evalState at hh ⊢; rw [hq] at hh ⊢
    rcases hs with hs | hs <;> rw [hs] at hh ⊢ <;> dsimp only at hh ⊢
    · unfold Slice.evalLocking at hh ⊢; split at hh
      · rw [Slice.enter_st] at hh; cases hh
      · rename_i hn; rw [if_neg hn]; exact ht
    · unfold Slice.evalUnlocking at hh ⊢; split at hh
      · rw [Slice.enter_st] at hh; cases hh
      · rename_i hn; rw [if_neg hn]; exact ht
  have htail : ∀ q : Slice, q.portal.st = p.portal.st → q.portal.tState = p.portal.tState →
      (if p.portal.st.faultable && decide (q.standingCause e ≠ 0) then q.enterFault e (q.standingCause e)
        else if q.timerCause e ≠ 0 then q.enterFault e (q.timerCause e) else q.evalState e p.portal.command p.portal.sources).portal.st = p.portal.st →
      (if p.portal.st.faultable && decide (q.standingCause e ≠ 0) then q.enterFault e (q.standingCause e)
        else if q.timerCause e ≠ 0 then q.enterFault e (q.timerCause e) else q.evalState e p.portal.command p.portal.sources).portal.tState = p.portal.tState := by
    intro q hq ht
    split
    · intro hh; rw [Slice.enterFault_st] at hh; rw [← hh] at hs; rcases hs with hs | hs <;> cases hs
    · split
      · intro hh; rw [Slice.enterFault_st] at hh; rw [← hh] at hs; rcases hs with hs | hs <;> cases hs
      · exact hev q _ _ hq ht
  unfold Slice.moved Slice.transition at h ⊢
  dsimp only at h ⊢
  rw [g1] at h ⊢
  split at h
  · rename_i hu; rw [hu] at hs; rcases hs with hs | hs <;> cases hs
  · rename_i hu
    rw [if_neg hu]
    split at h
    · rw [Slice.emergencyLeaves_look, Slice.enterEmergency_st] at h; rw [← h] at hs; rcases hs with hs | hs <;> cases hs
    · rename_i h2; rw [if_neg h2]
      split at h
      · rw [Slice.enterIsolated_st] at h; rw [← h] at hs; rcases hs with hs | hs <;> cases hs
      · rename_i h3; rw [if_neg h3]
        rw [ho _ g1] at h ⊢
        rw [if_neg (by decide)] at h ⊢
        rw [hob _ g1] at h ⊢
        by_cases hn : (p.begun e).portal.obs = .none
        · rw [if_pos hn] at h ⊢; exact htail _ g1 g3 h
        · rw [if_neg hn] at h ⊢; exact htail _ g1 g3 h

/-- The drive mode decided for an axis, which the teach cycle and the grants leave alone. -/
def Slice.pends (a : Fin 3) (sl : Slice) : Option DriveMode := sl.axes[a].d.pendMode
@[simp] theorem Slice.pends_modM (a b f) (sl : Slice) : (sl.modM b f).pends a = sl.pends a := by
  show ((sl.axes.set b { sl.axes[b] with m := f sl.axes[b].m })[a]).d.pendMode = sl.axes[a].d.pendMode
  simp only [Fin.getElem_fin, Vector.getElem_set]; split
  · rename_i h; simp [h]
  · rfl
theorem Slice.pends_modD (a b f) (h : ∀ d : Drive, (f d).pendMode = d.pendMode) (sl : Slice) : (sl.modD b f).pends a = sl.pends a := by
  show ((sl.axes.set b { sl.axes[b] with d := f sl.axes[b].d })[a]).d.pendMode = sl.axes[a].d.pendMode
  simp only [Fin.getElem_fin, Vector.getElem_set]; split
  · rename_i h2; simp [h, h2]
  · rfl
@[simp] theorem Slice.pends_modPortal (a f) (sl : Slice) : (sl.modPortal f).pends a = sl.pends a := rfl
@[simp] theorem Slice.pends_modCh (a k f) (sl : Slice) : (sl.modCh k f).pends a = sl.pends a := rfl
@[simp] theorem Slice.pends_setMode (a b e m) (sl : Slice) : (sl.setMode e b m).pends a = sl.pends a := by
  unfold Slice.setMode; dsimp only; apply Slice.pends_modD; intro d; rfl
@[simp] theorem Slice.pends_wantMode (a b e m) (sl : Slice) : (sl.wantMode e b m).pends a = sl.pends a := by
  unfold Slice.wantMode; repeat' split
  all_goals first | simp | (apply Slice.pends_modD; intro d; rfl)
@[simp] theorem Slice.pends_startHoming (a b e) (sl : Slice) : (sl.startHoming e b).pends a = sl.pends a := by unfold Slice.startHoming; simp
@[simp] theorem Slice.pends_askGrant (a b e) (sl : Slice) : (sl.askGrant e b).pends a = sl.pends a := by unfold Slice.askGrant; split <;> simp
@[simp] theorem Slice.pends_decideMove (a b e m) (sl : Slice) : (sl.decideMove e b m).pends a = sl.pends a := by unfold Slice.decideMove; simp
@[simp] theorem Slice.pends_teach (a t) (sl : Slice) : Slice.pends a { sl with teach := t } = sl.pends a := rfl
@[simp] theorem Slice.pends_teachBreak (a) (sl : Slice) : sl.teachBreak.pends a = sl.pends a := by
  unfold Slice.teachBreak; repeat' split
  all_goals first | rfl | (rw [forAxes_keeps (Slice.pends a) _ (by intros; simp)]; rfl)
theorem Slice.pends_withFollowers (a e b) (f : Fin 3 → Slice → Slice) (h : ∀ c sl, (f c sl).pends a = sl.pends a) (sl : Slice) : (sl.withFollowers e b f).pends a = sl.pends a := by
  unfold Slice.withFollowers; rw [forAxes_keeps (Slice.pends a)]; intro c sl; split <;> simp [h]
@[simp] theorem Slice.pends_teachHoming (a e t k) (sl : Slice) : (sl.teachHoming e t k).pends a = sl.pends a := by
  unfold Slice.teachHoming; dsimp only; repeat' split
  all_goals first | (simp; done) | (rw [Slice.pends_teach]; simp)
@[simp] theorem Slice.pends_teachMoves (a e t k) (sl : Slice) : (sl.teachMoves e t k).pends a = sl.pends a := by
  unfold Slice.teachMoves; dsimp only; repeat' split
  all_goals first | (simp; done) | (rw [Slice.pends_teach]; first | simp | (apply Slice.pends_withFollowers; intro c s; apply Slice.pends_modD; intro d; rfl))
@[simp] theorem Slice.pends_teachStep (a e cmd) (sl : Slice) : (sl.teachStep e cmd).pends a = sl.pends a := by
  unfold Slice.teachStep; repeat' split
  all_goals simp
@[simp] theorem Slice.pends_homeGrants (a e) (sl : Slice) : (sl.homeGrants e).pends a = sl.pends a := by
  unfold Slice.homeGrants; dsimp only; rw [forAxes_keeps (Slice.pends a)]; intros; split <;> simp
@[simp] theorem Slice.pends_issueCaught (a e) (sl : Slice) : (sl.issueCaught e).pends a = sl.pends a := by
  unfold Slice.issueCaught; rw [forAxes_keeps (Slice.pends a)]; intro b sl; dsimp only; split
  · rfl
  · rw [foldl_keeps (Slice.pends a) _ (by intros; simp)]; simp
@[simp] theorem Slice.pends_decideChannels (a e) (sl : Slice) : (sl.decideChannels e).pends a = sl.pends a := by
  unfold Slice.decideChannels; dsimp only; rw [Slice.pends_modPortal, forChannels_keeps (Slice.pends a) _ (by intros; rfl)]

/-- A drive mode decided for the axes that a condition names. -/
theorem Slice.pends_decideMode (a : Fin 3) (e : Env) (sel : Fin 3 → Bool) (md : DriveMode) (sl : Slice) (h : (e.enabledAxis a && sel a) = true) : (sl.decideMode e sel md).pends a = some md := by
  have hd : ∀ (b : Fin 3) (s : Slice), (s.modD b fun d => { d with pendMode := some md }).pends a = if b = a then some md else s.pends a := by
    intro b s
    show ((s.axes.set b { s.axes[b] with d := { s.axes[b].d with pendMode := some md } })[a]).d.pendMode = _
    simp only [Fin.getElem_fin, Vector.getElem_set, Fin.ext_iff]; split <;> rfl
  have hf : ∀ (b : Fin 3) (s : Slice), (if e.enabledAxis b && sel b then
      (let s := (s.modD b fun d => { d with pendMode := some md }).modM b fun m => { m with pending := [] }
       if md.driven && decide (s.axes[b].d.mode = .free) then s.askGrant e b else s) else s).pends a =
      if b = a then some md else s.pends a := by
    intro b s
    by_cases hb : b = a
    · rw [hb, if_pos h, if_pos rfl]; dsimp only; split <;> simp [hd]
    · rw [if_neg hb]; split
      · dsimp only; split <;> simp [hd, hb]
      · rfl
  unfold Slice.decideMode forAxes
  rw [hf, hf, hf]
  fin_cases a <;> simp

/-- An evaluation decides the sequencer's channels from what its transition leaves, and no drive mode beyond those of the transition. -/
theorem Slice.syncActive_decides (e : Env) (sl : Slice) :
    (∀ k : Fin 6, cfgLswChSource e.p e.i k.val = 1 → (sl.syncActive e).sw.ch[k].decided = ((sl.prepared e).moved e).channelOut e k) ∧
    (∀ a : Fin 3, (sl.syncActive e).axes[a].d.pendMode = ((sl.prepared e).moved e).axes[a].d.pendMode) := by
  generalize hp : sl.prepared e = p
  have h : sl.syncActive e = (((((((p.moved e).teachStep e p.portal.command).modPortal fun q => { q with prevS1 := ((p.moved e).teachStep e p.portal.command).s1 e, sources := p.closeSources e }).homeGrants e).issueCaught e).decideChannels e).modTether
      fun t => { t with alive := if t.st = .lost || t.testRunning then t.alive else (t.alive + 1) % 256 }) := by rw [← hp]; rfl
  rw [h]
  refine ⟨fun k hk => ?_, fun a => ?_⟩
  · have hx : ∀ (f : Tether → Tether) (s : Slice) (k : Fin 6), (s.modTether f).sw.ch[k] = s.sw.ch[k] := fun _ _ _ => rfl
    rw [hx, Slice.decided_channel e k _ hk]
    apply Slice.channelOut_portal e k _ _ hk <;> simp
  · have hx : ∀ (f : Tether → Tether) (s : Slice), (s.modTether f).axes[a].d.pendMode = s.pends a := fun _ _ => rfl
    rw [hx, Slice.pends_decideChannels, Slice.pends_issueCaught, Slice.pends_homeGrants, Slice.pends_modPortal, Slice.pends_teachStep]; rfl

/-- An update of a slice depends on that slice alone. -/
theorem State.modSlice_at (i : Fin 16) (f : Slice → Slice) (s : State) : s.modSlice i f = s.modSlice i (fun _ => f s.slices[i]) := rfl

/-- What the expiry of a timer that can act leaves of the portal: the transition from what the evaluation finds. -/
theorem State.portalExpiry_look (i : Fin 16) (due : Env → Slice → Option Int) (s : State) (t : Int) (hd : due (s.env i) s.slices[i] = some t) (ha : s.timerActs i t = true) :
    ∃ x : Slice, s.portalExpiry i due = (s.atSyncFrom i t).modSlice i (fun _ => x) ∧
      x.portal.look = ((s.found i t).moved ((s.atSyncFrom i t).envAhead i)).portal.look ∧
      (∀ k : Fin 6, cfgLswChSource ((s.atSyncFrom i t).envAhead i).p ((s.atSyncFrom i t).envAhead i).i k.val = 1 → x.sw.ch[k].decided = ((s.found i t).moved ((s.atSyncFrom i t).envAhead i)).channelOut ((s.atSyncFrom i t).envAhead i) k) ∧
      (∀ a : Fin 3, x.axes[a].d.pendMode = ((s.found i t).moved ((s.atSyncFrom i t).envAhead i)).axes[a].d.pendMode) := by
  rw [State.portalExpiry_acts i due s t hd ha]
  generalize hE : (s.atSyncFrom i t).envAhead i = E
  have hf : s.found i t = (s.atSyncFrom i t).slices[i].prepared E := by rw [← hE]; rfl
  have h := Slice.syncActive_look E (s.atSyncFrom i t).slices[i]
  have h' := Slice.syncActive_decides E (s.atSyncFrom i t).slices[i]
  rw [← hf] at h h'
  generalize s.atSyncFrom i t = s1 at *
  generalize s.found i t = f at *
  exact ⟨s1.slices[i].syncActive E, s1.modSlice_at i _, h, h'.1, h'.2⟩

end Sys2Proof.Machine
end

