-- ==== Sys2Proof/WellFormed.lean ====
section
/-! DEFINITION. Which commands can occur: operands fit the fields that carry them. -/

namespace Sys2Proof

/-- A 32-bit word of the fabric (R519). -/
def isWord (n : Nat) : Bool := decide (n < 2 ^ 32)

/-- A 64-bit nonce (R294). -/
def isNonce (n : Nat) : Bool := decide (n < 2 ^ 64)

/-- A Hawser header's fields (R259). -/
def headerFits (h : HwsHeader) : Bool :=
  decide (h.flags < 256) && decide (h.sender < 256) && decide (h.mode < 8) && decide (h.dest ≤ 128) && isWord h.cycle && decide (h.health < 2 ^ 32)

/-- A frame of a car bus (R328): identifiers of 11 or 29 bits, at most 8 data bytes in a classic frame and 64 in an FD frame. -/
def canFits (f : CanFrame) : Bool :=
  decide (f.id < if f.ide then 2 ^ 29 else 2 ^ 11) && decide (f.dlc < 16) && decide (f.data.length ≤ if f.fdf then 64 else 8)

/-- A splice frame's fields (R370). -/
def spliceFits (f : SpliceFrame) : Bool :=
  decide (f.version < 256) && decide (f.op < 256) && decide (f.target < 256) && isWord f.address && decide (f.length < 65536)

/-- Tether frames are numbered modulo 16 (R214). -/
def tetherFits : TetherFrame → Bool
  | .toPower _ seq => decide (seq < 16)
  | .toEngine _ seq _ _ _ _ => decide (seq < 16)

/-- An access in a slice's window of 64 KiB (R517). -/
def hostFits (x : Machine.HostAccess) : Bool := decide (x.offset < 0x10000) && x.write.all isWord

/-- Every operand fits its field. -/
def Instr.wellFormed : Instr → Bool
  | .syncPoint .. => true
  | .pimWrite _ _ value => isWord value
  | .hostPortAccess _ _ x other => hostFits x && other.all hostFits
  | .timeTransfer .. => true
  | .clockStepApply .. => true
  | .holdoverEntry .. => true
  | .handshakeChannelStalled .. => true
  | .intakeOffer _ x => decide (x.src < 256) && decide (x.code < 256) && decide (x.detail < 65536)
  | .configurationHandover => true
  | .warnTimeExpiry .. => true
  | .lockPullExpiry .. => true
  | .lockConfirmTimeout .. => true
  | .s2WithoutS1Timeout .. => true
  | .unlockConfirmTimeout .. => true
  | .unlockPulseExpiry .. => true
  | .openTimeoutExpiry .. => true
  | .closeTimeoutExpiry .. => true
  | .stepStowTimeoutExpiry .. => true
  | .reclosePauseExpiry .. => true
  | .autoCloseExpiry .. => true
  | .egressHoldExpiry .. => true
  | .prtFaultReset .. => true
  | .prtEmergencyStaffReset .. => true
  | .prtRehome .. => true
  | .loopContactChange .. => true
  | .loopDiscrepancyTimeout .. => true
  | .loopTestDue => true
  | .loopTestOverdue .. => true
  | .nodeLoopTestCommand => true
  | .stepEdge .. => true
  | .axStop .. => true
  | .axTestMove .. => true
  | .homeConfirmEdge .. => true
  | .homeChatterWindowEnd .. => true
  | .homeConfirmWaitExpiry .. => true
  | .estimatorPeriod .. => true
  | .auxiliaryMoveReissue .. => true
  | .bridgeOvercurrentTrip .. => true
  | .isolatorConfirmed .. => true
  | .resistanceTrackingWindow .. => true
  | .teachCycle .. => true
  | .teachCycleEnd .. => true
  | .envelopeReset .. => true
  | .envelopeFreeze .. => true
  | .envelopeEndFreeze .. => true
  | .inputSample .. => true
  | .stuckTimeoutExpiry .. => true
  | .chatterQuietExpiry .. => true
  | .inputEdge .. => true
  | .twinCompareTimeout .. => true
  | .analogueSample .. => true
  | .excitationHoldEnd .. => true
  | .encoderEdge .. => true
  | .encoderLineBreak .. => true
  | .encoderSupplyLimit .. => true
  | .currentLimitEntry .. => true
  | .thermalTrip .. => true
  | .retryWaitEnd .. => true
  | .tripCountReset .. => true
  | .lswClearLatchOff .. => true
  | .clampPulseEnd .. => true
  | .offStateDiagnosticTest .. => true
  | .undercurrentTimeout .. => true
  | .tetherFrame _ f => tetherFits f
  | .tetherTimeout .. => true
  | .powerIslandLost .. => true
  | .tetherHandoverRepeat .. => true
  | .engineResume .. => true
  | .lswTetherTest .. => true
  | .groupSupplyRangeChange .. => true
  | .groupCurrentWarning .. => true
  | .groupOverTemperature .. => true
  | .arbitrationRound ⟨_, m⟩ => decide (m.loadV ≤ 1800 ∧ m.motorV ≤ 1800 ∧ m.loadI ≤ 600 ∧ m.motorI ≤ 600)
  | .belayGrantArrival .. => true
  | .inrushTimeExpiry .. => true
  | .deadlineMissed .. => true
  | .belayWatchdogBite .. => true
  | .arbiterFrameLoss .. => true
  | .arbitrationResume .. => true
  | .linkUp .. => true
  | .linkDown .. => true
  | .linkDelayMeasurement .. => true
  | .frameInsertion .. => true
  | .beaconReceive _ h b _ => headerFits h && decide (b.digest.length = 8) && decide (b.pendingMode < 8)
  | .hawserFrameReceive _ h _ _ _ _ => headerFits h
  | .ownFrameRemoval .. => true
  | .leftSchedule .. => true
  | .pollFrameReceive _ slots => decide (slots.length ≤ 32) && slots.all fun x => decide (x.position < 256)
  | .containerPass .. => true
  | .asyncBacklog .. => true
  | .hwsModeRequest mode => decide (mode < 8)
  | .modeSwitch => true
  | .channelDegraded .. => true
  | .autoReturn => true
  | .slotStale .. => true
  | .beaconLost => true
  | .hwsUnfoldPort .. => true
  | .relayDriveStop .. => true
  | .bypassRelayMismatch .. => true
  | .twinStateWaitEnd => true
  | .channelBAdmission => true
  | .listenWindowEnd nonce => isNonce nonce
  | .coldStartFrameSend => true
  | .coldStartFrameReceive _ nonce digest _ => isNonce nonce && decide (digest.length = 8)
  | .contestTimeout => true
  | .countReceive _ nonce generation hop _ => isNonce nonce && decide (generation < 2 ^ 32) && decide (hop < 128)
  | .reportReceive _ rs => rs.all fun r => decide (r.car.length = 10)
  | .countTimeout => true
  | .directoryReceive _ _ d => isNonce d.nonce && decide (d.entries.length ≤ 128)
  | .acceptanceCheck => true
  | .directorySwitch => true
  | .cancelOrResetReceive generation code _ => decide (generation < 2 ^ 32) && decide (code < 256)
  | .helloReceive _ _ h => isNonce h.nonce
  | .helloRepeat .. => true
  | .mergeStart _ _ _ _ _ fresh => isNonce fresh
  | .joiningSegmentTimeStep => true
  | .ringRepairCollectEnd => true
  | .deputyTakeover nonce => isNonce nonce
  | .splitConfirmExpiry => true
  | .insertionRequest position _ => decide (1 ≤ position) && decide (position ≤ 128)
  | .grantReceive position channel _ => decide (1 ≤ position) && decide (position ≤ 128) && decide (channel < 2)
  | .reintegration => true
  | .hwsBarrierArrive id => decide (id < 256)
  | .trainWideReset => true
  | .resetCycle => true
  | .canFrameReceive _ f => canFits f
  | .canFrameEnd .. => true
  | .basicCycleStart .. => true
  | .columnStart _ j _ => decide (j < 32)
  | .referenceLate .. => true
  | .cbsTxRequest _ bits => decide (bits < 65536)
  | .cbsTxCancel _ bits _ => decide (bits < 65536)
  | .cbsMatrixWrite _ value => decide (value < 65536)
  | .cbsBankSwitch .. => true
  | .cbsBankCopy .. => true
  | .canError _ kind _ _ _ => decide (kind < 8)
  | .busOffRecoveryComplete .. => true
  | .cbsRecoveryStart .. => true
  | .transceiverFault .. => true
  | .spliceWrite _ f => spliceFits f && decide (f.length = f.data.length)
  | .spliceRead _ f => spliceFits f
  | .fetchComplete .. => true
  | .bufferHoldExpiry .. => true
  | .readResponseReceive f => spliceFits f
  | .writeErrorReceive f => spliceFits f
  | .relayTimeout .. => true
  | .servicePortPacket .. => true
  | .splClearPostedErrors => true
  | .splFreeReadBuffers => true
  | .heartbeatReceive .. => true
  | .twinLinkChange .. => true
  | .mirrorReceive .. => true
  | .slowRecordApply .. => true
  | .authAssert => true
  | .authCommandLapse => true
  | .authCollision => true
  | .authSelfAssert => true
  | .authReadbackMismatch .. => true
  | .authInDisagreement => true
  | .catchInFlight _ _ _ angle => decide (angle < 1024)
  | .twnSwap => true
  | .twnWithdrawSwap => true
  | .twnEnterTestMode => true
  | .twnLeaveTestMode => true
  | .swapTimeout => true
  | .loaderRun => true
  | .cfgCheckSlot .. => true
  | .cfgActivateSlot .. => true
  | .cfgReturnToPrevious => true
  | .cfgEndProbation => true
  | .cfgEraseSlot .. => true
  | .probationProgress => true
  | .probationFailure .. => true
  | .plugFault .. => true
  | .lockstepMismatch => true
  | .eccError .. => true
  | .mssWatchdogExpiry => true
  | .mssStageOpen target => decide (target < 8)
  | .mssCommit bytes => decide (bytes < 2 ^ 24)
  | .mssCloseSession => true
  | .mssCheckInactiveBank => true
  | .mssActivateBank => true
  | .mssRestart => true
  | .mssOwnerCommand .. => true
  | .mssAttest => true
  | .mssEnrol .. => true
  | .mssIssueNonce fresh => decide (fresh.length = 32)
  | .mssExportAttestationKeys => true
  | .nonceExpiry => true
  | .firmwareConfirm => true
  | .sensorSample .. => true
  | .mssTimeSet _ value => decide (value < 2 ^ 31)
  | .recordTake => true
  | .flushStart => true
  | .flushIntervalExpiry => true
  | .flushComplete .. => true
  | .recorderTakingStop => true
  | .logFlushNow => true
  | .logClearLastWord => true
  | .logSnapshotOpen .. => true
  | .logSnapshotClose .. => true
  | .logReadSelect _ value => decide (value < 2 ^ 29)
  | .readWindowReady .. => true
  | .storeFailure _ cause => decide (cause < 16)
  | .journalMirrorReceive records => records.all fun b => decide (b.length = 64)
  | .mssIslandRestartRecovery .. => true
  | .recorderStart => true
  | .x1Qualified .. => true
  | .powerFailWarning .. => true
  | .powerFailWarningWithdrawn .. => true
  | .supplyLost => true
  | .shutdownRelease => true
  | .powerFailReset => true
  | .islandBrownOut .. => true
  | .bootBankSelect => true
  | .islandRestart .. => true
  | .plugPresenceChange _ image => image.all fun c => decide (c.1 < 0x4000000)
  | .eventDelivery .. => true
  | .nodeEventPop => true
  | .nodeRemotePop => true
  | .counterReadClear address => isWord address
  | .registerWrite address value => isWord address && isWord value
  | .islandSupervisorReset .. => true
  | .listenStart .. => true
  | .relayedRequestReceive .. => true
  | .servicePortLinkChange .. => true
  | .supercapacitorExhausted => true
  | .mssCommitComplete => true
  | .slotCheckComplete => true
  | .bankCheckComplete => true
  | .enrolmentComplete .. => true
  | .attestationComplete => true
  | .slotEraseComplete => true

end Sys2Proof
end

