-- ==== Sys2Proof/Tests/Slice0.lean ====
section
/-! SUPPORT. The model's own tests: ill-formed commands, figures of the worked cases of spec/, single steps on small states. -/

namespace Sys2Proof.Tests
open Sys2Proof Sys2Proof.Machine
set_option Elab.async false

/-! ### Small states -/

/-- The module with every island running and its parameters handed over. -/
def run (s : State) : State := { s with islands := Vector.replicate 34 ⟨true, 0, 0, none⟩, cfg := { s.cfg with state := 2 }, start := { s.start with stage := .running } }
/-- Bytes of the parameters. -/
def par (a : Nat) (l : List Byte) (s : State) : State := { s with params := memSetBytes ramDefault s.params a l }
/-- Change slice 0. -/
def sl (f : Slice → Slice) (s : State) : State := s.modSlice 0 f
/-- Change the motion of its axis 0. -/
def mo (f : Motion → Motion) (s : State) : State := s.modSlice 0 fun x => x.modM 0 f
/-- Change the drive of its axis 0. -/
def dr (f : Drive → Drive) (s : State) : State := s.modSlice 0 fun x => x.modD 0 f
/-- Change its portal. -/
def po (f : Portal → Portal) (s : State) : State := s.modSlice 0 fun x => x.modPortal f
/-- Change its channel 0. -/
def ch (f : Channel → Channel) (s : State) : State := s.modSlice 0 fun x => x.modCh 0 f
/-- The module holds the Hitch. -/
def hitch (s : State) : State := s.modTwn fun t => { t with hitch := true, gate := true, auth := { t.auth with out := true, readback := true, inp := false } }
/-- A running module, all else as after reset. -/
def base : State := run State.reset
/-- no input delivered, flagged or lit in slice 0; configuration inputs 0xFF -/
def calm (s : State) : State := s.modSlice 0 fun x => { x with waitsResume := false, inp := Inputs.reset }
/-- inputs 0 and 1 asserted -/
def low (s : State) : State := s.modSlice 0 fun x => x.modInp fun y => { y with dig := y.dig.set 1 { y.dig[1] with deb := true, delivered := true } }
/-- zero speed asserted and both release lines -/
def free (s : State) : State := s.modSlice 0 fun x => x.modInp fun y => { y with lines := Vector.ofFn fun k : Fin 5 => if k.val = 2 then ⟨false, none, false, 0⟩ else ⟨true, none, true, 0⟩ }
def din (k : Fin 16) (s : State) : State := s.modSlice 0 fun x => x.modInp fun y => { y with dig := y.dig.set k { y.dig[k] with level := true, raw := true, deb := true, delivered := true } }
/-- The surroundings of slice 0. -/
def evOf (s : State) : Env := s.env 0
/-- position 2 of 3 in a running ring, in schedule on both channels; mode 0 has static 8, 2 poll slots, responses of 4 bytes, 3 containers -/
def ringP (p m : Nat) (s : State) : State :=
  par 0x2000020 [0, 0, 0, 4, 8, 0, 8, 0, 2, 2, 4, 0, 4, 0, 3, 3, 128, 0, 128, 0, 0, 0, 2, 0]
    ({ run s with hws := { s.hws with position := p, master := m, n := 3, mode := 0, inSchedule := Vector.replicate 2 true, ports := s.hws.ports.map fun (x : HPort) => { x with linkUp := true, folded := false, beaconAt := some 1000 } },
                  ina := { s.ina with st := .running, phase := .none } })
/-- A directory entry. -/
def dirE (old : Nat) : DirEntry := ⟨7, 1, 1, false, false, false, false, true, false, false, 0, 0, old, false⟩
/-- A directory of three nodes. -/
def dir3 (g n sw : Nat) (bits : Nat) : Directory := ⟨g, n, sw, 1, false, false, 0, 5, bits, [dirE 1, dirE 2, dirE 3]⟩
/-- Splice up, its own policy of the MSS fallback: any read, writes of the MSS block -/
def svc (s : State) : State := { (ringP 2 1 s).modSpl fun x => { x with linkUp := true } with mss := { s.mss with recovery := false, paramFallback := true } }
/-- one rule that grants everything to the service port -/
def rule1 (s : State) : State := par 0x6000000 [0, 1] (par 0x6000020 [1, 3, 0, 0, 0, 0, 0, 0, 255, 255, 255, 255] { (ringP 2 1 s).modSpl fun x => { x with linkUp := true } with mss := { s.mss with recovery := false, paramFallback := false } })
/-- Change the twin state. -/
def twp (f : Twin → Twin) (s : State) : State := s.modTwn f
/-- A journal entry. -/
def je (prob prev : Nat) : JournalEntry := ⟨2, 7, 0, prev, prob, 5, 4, 9, 0⟩
/-- configured node with a plug and an entry in force -/
def cfgd (f : Cfg → Cfg) (s : State) : State := { run s with cfg := f { (run s).cfg with busy := .none, entry := some (je 0 1), returnPending := false, activationPending := false }, plug := { s.plug with present := true } }
/-- A management subsystem with no command busy. -/
def msm (f : Mss → Mss) (s : State) : State := (run s).modMss fun m => f { m with busy := .none, recovery := false }
/-- A recorder that takes entries. -/
def lgm (f : Logline → Logline) (s : State) : State := (run s).modLog fun l => f { l with recording := true, stopped := false, ledgerFailed := false, journalFailed := false, ledgerFull := false, journalFull := false }
/-- Change the start of a running module. -/
def stm (f : Start → Start) (s : State) : State := (run s).modStart f
/-- An island that is down. -/
def down (k : Fin 34) (s : State) : State := s.modIsland k fun (x : Island) => { x with running := false, downAt := some 5 }

/-- What a command left, where it answered a next state. -/
def after (o : Result) (p : State → Bool) : Bool := match o with | .next t => p t | _ => false

/-! ### Ill-formed commands are refused by the check, one for each condition -/

def hdr (flags sender mode cycle health : Nat) : HwsHeader := ⟨flags, sender, mode, cycle, 0, 0, health, 0⟩
def bcn (mode : Nat) (digest : List Byte) : Beacon := ⟨1, true, false, mode, 3, 0, 0, 0, 0, 0, 0, 0, 7, digest, 0⟩
def dg : List Byte := List.replicate 8 0
def frm (version op target address length : Nat) (data : List Byte) : SpliceFrame := ⟨version, op, 7, target, 0, false, false, 0, address, length, 0, data⟩
def can (id : Nat) (ide fdf : Bool) (dlc : Nat) (data : List Byte) : CanFrame := ⟨id, ide, fdf, false, false, false, dlc, data, 0⟩
def rep (car : List Byte) : Report := ⟨1, true, true, false, false, true, false, car, [], 5⟩

theorem test_wellFormed_words :
    (Instr.pimWrite .mss 0 (2 ^ 32)).wellFormed = false ∧ (Instr.hostPortAccess .splice 0 ⟨0x10000, none⟩ none).wellFormed = false ∧
    (Instr.hostPortAccess .splice 0 ⟨0, none⟩ (some ⟨0, some (2 ^ 32)⟩)).wellFormed = false ∧ (Instr.intakeOffer 0 ⟨1, 256, 0, 0, 0, false, 0, [], none⟩).wellFormed = false ∧
    (Instr.intakeOffer 0 ⟨1, 0, 256, 0, 0, false, 0, [], none⟩).wellFormed = false ∧ (Instr.intakeOffer 0 ⟨1, 0, 0, 65536, 0, false, 0, [], none⟩).wellFormed = false ∧
    (Instr.counterReadClear (2 ^ 32)).wellFormed = false ∧ (Instr.registerWrite (2 ^ 32) 0).wellFormed = false ∧ (Instr.registerWrite 0 (2 ^ 32)).wellFormed = false ∧
    (Instr.tetherFrame 0 (.toPower true 16)).wellFormed = false ∧
    (Instr.tetherFrame 0 (.toEngine true 16 (Vector.replicate 6 0) (Vector.replicate 6 0) (Vector.replicate 6 false) 0)).wellFormed = false ∧
    (Instr.catchInFlight 0 0 true 1024).wellFormed = false ∧
    (Instr.arbitrationRound ⟨0, 1801, 0, 0, 0⟩).wellFormed = false ∧ (Instr.arbitrationRound ⟨0, 0, 1801, 0, 0⟩).wellFormed = false ∧
    (Instr.arbitrationRound ⟨0, 0, 0, 601, 0⟩).wellFormed = false ∧ (Instr.arbitrationRound ⟨0, 0, 0, 0, 601⟩).wellFormed = false := by decide +kernel

theorem test_wellFormed_hawser :
    (Instr.beaconReceive 0 (hdr 256 1 0 0 0) (bcn 0 dg) 0).wellFormed = false ∧ (Instr.beaconReceive 0 (hdr 0 256 0 0 0) (bcn 0 dg) 0).wellFormed = false ∧
    (Instr.beaconReceive 0 (hdr 0 1 8 0 0) (bcn 0 dg) 0).wellFormed = false ∧ (Instr.beaconReceive 0 (hdr 0 1 0 (2 ^ 32) 0) (bcn 0 dg) 0).wellFormed = false ∧
    (Instr.beaconReceive 0 (hdr 0 1 0 0 (2 ^ 32)) (bcn 0 dg) 0).wellFormed = false ∧ (Instr.beaconReceive 0 (hdr 0 1 0 0 0) (bcn 8 dg) 0).wellFormed = false ∧
    (Instr.beaconReceive 0 (hdr 0 1 0 0 0) (bcn 0 []) 0).wellFormed = false ∧ (Instr.hawserFrameReceive 0 (hdr 0 1 8 0 0) (.static [] []) .valid 0 0).wellFormed = false ∧
    (Instr.pollFrameReceive 0 (List.replicate 33 ⟨1, 0, 0, 0⟩)).wellFormed = false ∧ (Instr.pollFrameReceive 0 [⟨256, 0, 0, 0⟩]).wellFormed = false ∧
    (Instr.hwsModeRequest 8).wellFormed = false ∧ (Instr.hwsBarrierArrive 256).wellFormed = false := by decide +kernel

theorem test_wellFormed_inauguration :
    (Instr.listenWindowEnd (2 ^ 64)).wellFormed = false ∧ (Instr.coldStartFrameReceive true (2 ^ 64) dg 0).wellFormed = false ∧ (Instr.coldStartFrameReceive true 0 [] 0).wellFormed = false ∧
    (Instr.countReceive true (2 ^ 64) 0 0 0).wellFormed = false ∧ (Instr.countReceive true 0 (2 ^ 32) 0 0).wellFormed = false ∧ (Instr.countReceive true 0 0 128 0).wellFormed = false ∧
    (Instr.reportReceive true [rep []]).wellFormed = false ∧ (Instr.directoryReceive true true ⟨7, 2 ^ 64, 0, 1, false, false, 0, 0, 0, []⟩).wellFormed = false ∧
    (Instr.directoryReceive true true ⟨7, 0, 0, 1, false, false, 0, 0, 0, List.replicate 129 (dirE 1)⟩).wellFormed = false ∧
    (Instr.cancelOrResetReceive (2 ^ 32) 0 0).wellFormed = false ∧ (Instr.cancelOrResetReceive 0 256 0).wellFormed = false ∧
    (Instr.helloReceive 0 0 ⟨1, true, false, 1, 2 ^ 64, 4, 77⟩).wellFormed = false ∧ (Instr.mergeStart true 1 1 [] 0 (2 ^ 64)).wellFormed = false ∧
    (Instr.deputyTakeover (2 ^ 64)).wellFormed = false ∧ (Instr.insertionRequest 0 ⟨1, 0, rep []⟩).wellFormed = false ∧ (Instr.insertionRequest 129 ⟨1, 0, rep []⟩).wellFormed = false ∧
    (Instr.grantReceive 0 0 0).wellFormed = false ∧ (Instr.grantReceive 129 0 0).wellFormed = false ∧ (Instr.grantReceive 1 2 0).wellFormed = false := by decide +kernel

theorem test_wellFormed_buses :
    (Instr.canFrameReceive 0 (can (2 ^ 11) false false 0 [])).wellFormed = false ∧ (Instr.canFrameReceive 0 (can (2 ^ 29) true false 0 [])).wellFormed = false ∧
    (Instr.canFrameReceive 0 (can 1 false false 16 [])).wellFormed = false ∧ (Instr.canFrameReceive 0 (can 1 false false 9 (List.replicate 9 0))).wellFormed = false ∧
    (Instr.canFrameReceive 0 (can 1 false true 15 (List.replicate 65 0))).wellFormed = false ∧ (Instr.columnStart 0 32 true).wellFormed = false ∧
    (Instr.cbsTxRequest 0 65536).wellFormed = false ∧ (Instr.cbsTxCancel 0 65536 true).wellFormed = false ∧ (Instr.cbsMatrixWrite 0 65536).wellFormed = false ∧
    (Instr.canError 0 8 false false false).wellFormed = false ∧ (Instr.spliceWrite (.hawser 1) (frm 256 1 0 0 0 [])).wellFormed = false ∧
    (Instr.spliceWrite (.hawser 1) (frm 1 256 0 0 0 [])).wellFormed = false ∧ (Instr.spliceRead (.hawser 1) (frm 1 2 256 0 4 [])).wellFormed = false ∧
    (Instr.spliceRead (.hawser 1) (frm 1 2 0 (2 ^ 32) 4 [])).wellFormed = false ∧ (Instr.spliceRead (.hawser 1) (frm 1 2 0 0 65536 [])).wellFormed = false ∧
    (Instr.spliceWrite (.hawser 1) (frm 1 1 0 0 4 [])).wellFormed = false ∧ (Instr.readResponseReceive (frm 256 3 0 0 0 [])).wellFormed = false ∧
    (Instr.writeErrorReceive (frm 256 4 0 0 0 [])).wellFormed = false := by decide +kernel

theorem test_wellFormed_management :
    (Instr.mssStageOpen 8).wellFormed = false ∧ (Instr.mssCommit (2 ^ 24)).wellFormed = false ∧ (Instr.mssIssueNonce []).wellFormed = false ∧
    (Instr.mssTimeSet (.hawser 1) (2 ^ 31)).wellFormed = false ∧ (Instr.logReadSelect 0 (2 ^ 29)).wellFormed = false ∧ (Instr.storeFailure true 16).wellFormed = false ∧
    (Instr.journalMirrorReceive [[]]).wellFormed = false ∧ (Instr.plugPresenceChange true [(0x4000000, 0)]).wellFormed = false := by decide +kernel

theorem test_wellFormed_accepts :
    (Instr.pimWrite .mss 0 (2 ^ 32 - 1)).wellFormed = true ∧ (Instr.beaconReceive 0 (hdr 255 255 7 0 0) (bcn 7 dg) 0).wellFormed = true ∧ (Instr.grantReceive 128 1 0).wellFormed = true ∧
    (Instr.canFrameReceive 0 (can (2 ^ 29 - 1) true true 15 (List.replicate 64 0))).wellFormed = true ∧ (Instr.spliceWrite (.hawser 1) (frm 1 1 0 0 1 [5])).wellFormed = true := by decide +kernel

/-! ### Figures of the worked cases -/

/-- R262, worked case of file 08: offsets y of positions 1, 2, 9 and 16 in mode 0, and L_s. -/
theorem test_static_slots : slotNs 256 = 2480 ∧ [0, 1, 8, 15].map (staticAt ⟨256, 0, 0, 0, 0⟩) = [1344, 4224, 24384, 44544] := by decide +kernel

/-- Worked case of file 08: the ring index of position p is p − 1 for a master at position 1. -/
theorem test_ring_index : [1, 2, 9, 16].map (ringIndex 1 16) = [0, 1, 8, 15] := by decide

/-- File 03: a reopen_distance of 2 000 becomes 101 859 microsteps with steps_per_mm 0x01FD_4BBA. -/
theorem test_microsteps : (evOf (par 0x1100004 [0xBA, 0x4B, 0xFD, 0x01] base)).microsteps 0 2000 = 101859 := by decide +kernel

/-- File 04: env_span 331 042 from 0; bin 14 runs from 72 416 to 77 587. -/
theorem test_envelope_bins : [72415, 72416, 77587, 77588].map ((evOf (par 0x1200028 [0x22, 0x0D, 0x05, 0x00] base)).bin 0) = [13, 14, 14, 15] := by decide +kernel

/-- Worked case of file 10: 270 µs, 214 µs and 150 µs on the bus. -/
theorem test_frame_times : frameTime 2 (1 / 2) false false false 8 = 270 ∧ frameTime 2 (1 / 2) false true true 16 = 214 ∧ frameTime 2 (1 / 2) false true true 8 = 150 := by decide +kernel

/-- R305: position 18 of Hawser A, B, the twin link and the service port. -/
theorem test_mac_addresses : [MacChannel.hawserA, .hawserB, .twin, .service].map (fun c => macAddress c 18) =
    [[0x02, 0x48, 0x56, 0x0A, 0, 0x12], [0x02, 0x48, 0x56, 0x0B, 0, 0x12], [0x02, 0x48, 0x56, 0x0E, 0, 0x12], [0x02, 0x48, 0x56, 0x0C, 0, 0x12]] := by decide

/-- R37, R38: after 1 ms a counter slewed by +200 ppm reads 200 ns more than one that is not. -/
theorem test_counter_rate : (Counter.reset.slew 0 200000).ns 1000000 = 1000200 ∧ (Counter.reset.slew 0 0).ns 1000000 = 1000000 := by decide

/-! ### Single steps -/

/-- R503, R507: a supply at 16.8 V starts a module that was off. -/
theorem test_start : after (exec (.x1Qualified 168) State.reset) (fun t => decide (t.start.stage = .qualified) && t.islands[33].running && !t.islands[32].running) = true := by decide +kernel

/-- R19: a slice writes its own region, and another's answers "not owner". -/
theorem test_not_owner : after (exec (.pimWrite (.slice 1) 0x2000 0x01020304) base) (fun t => decide (t.access.response = .done) && decide (t.sliceRegions[1].shadow = [(0, 4), (1, 3), (2, 2), (3, 1)])) = true ∧
    after (exec (.pimWrite (.slice 1) 0x0000 5) base) (fun t => decide (t.access.response = .notOwner) && decide (t.sliceRegions[0].shadow = [])) = true := by decide +kernel

/-- R40: the sync point lies at the next multiple of T_CYC, 1 ms here. -/
theorem test_sync_point : after (exec (.syncPoint .passed true) { par 0x2000020 [1] base with now := 2000001, lastSync := 2000000 }) (fun t => decide (t.lastSync = 3000000)) = true := by decide +kernel

/-- R351: error-passive from 128, bus-off above 255. -/
theorem test_error_states : [(127, 127), (128, 0), (0, 128), (255, 0), (256, 0)].map (fun x => errorState x.1 x.2) = [0, 1, 1, 1, 2] := by decide

/-- R521: a misaligned access, an address of no window, a stopped block. -/
theorem test_responses : after (exec (.counterReadClear 1) base) (fun t => decide (t.access.response = .alignment)) = true ∧
    after (exec (.counterReadClear 0x00200000) base) (fun t => decide (t.access.response = .noTarget)) = true ∧
    after (exec (.counterReadClear 0x04000000) (down 0 base)) (fun t => decide (t.access.response = .stalled)) = true := by decide +kernel

/-- R83: a discrepancy that lasts opens and latches the cell. -/
theorem test_discrepancy : after (exec (.loopDiscrepancyTimeout 3) (base.modLoop fun l => { l with discrepant := l.discrepant.set 3 (some 5), sw1 := true, sw2 := true })) (fun t => t.loop.latched && !t.loop.sw1 && !t.loop.sw2) = true := by decide +kernel

/-- R395, R410: both AUTH lines asserted close the gate. -/
theorem test_collision : after (exec .authCollision (twp (fun t => { t with auth := { t.auth with out := true, readback := true }, gate := true }) base)) (fun t => !t.gate && !t.twn.gate && !t.twn.auth.out) = true := by decide +kernel

/-- R494: the first failing store gives code 1 or 2, the second code 3. -/
theorem test_store_failure : after (exec (.storeFailure false 3) (lgm id base)) (fun t => decide (t.log.faultCode = 1)) = true ∧
    after (exec (.storeFailure true 3) (lgm (fun l => { l with ledgerFailed := true }) base)) (fun t => decide (t.log.faultCode = 3) && t.log.lastWord.isSome) = true := by decide +kernel

/-- One step takes the front command and leaves the rest; an idle module lets a tick pass. -/
theorem test_queue : after (step { base with pending := [.nonceExpiry, .mssAttest] }) (fun t => decide (t.pending = [.mssAttest])) = true ∧ after (step base) (fun t => decide (t.now = base.now + 5)) = true := by decide +kernel

end Sys2Proof.Tests
end

