-- ==== Sys2Proof/Tests/Witnesses.lean ====
section
/-! SUPPORT. For every statement with hypotheses, a state and operands that meet them together: one witness for each of its clauses, in the statement's order. -/

namespace Sys2Proof.Tests
open Sys2Proof Sys2Proof.Machine
set_option Elab.async false

theorem witness_StepTakesFrontCommand :
    (∃ (s : State), (s.pending = [])) :=
  ⟨{ base with pending := [] }, by decide +kernel⟩

theorem witness_ProcessImageWriteNeedsItsOwner :
    (∃ (g : Agent) (off : Nat) (r : RegionId) (k : Nat) (s : State), (s.agentUp g = true) ∧ (off % 4 = 0) ∧ (off < 0x40000) ∧ (s.regionOf off = (r, k)) ∧ (Agent.mayWrite g r k = true)) ∧
    (∃ (g : Agent) (off : Nat) (r : RegionId) (k : Nat) (s : State), (s.agentUp g = true) ∧ (off % 4 = 0) ∧ (off < 0x40000) ∧ (s.regionOf off = (r, k)) ∧ (Agent.mayWrite g r k = false)) ∧
    (∃ (g : Agent) (off : Nat) (s : State), (s.agentUp g = true) ∧ (off % 4 ≠ 0)) ∧
    (∃ (g : Agent) (off : Nat) (s : State), (s.agentUp g = true) ∧ (off % 4 = 0) ∧ (0x40000 ≤ off)) ∧
    (∃ (g : Agent) (s : State), (s.agentUp g = false)) ∧
    (∃ (r : RegionId), (r ≠ .reserved)) ∧
    (∃ (x : Region), (Memory.wf ramDefault x.shadow = true)) :=
  ⟨⟨(.slice 0), 8, (.slice 0), 8, (run base), by decide +kernel⟩,
   ⟨(.slice 1), 8, (.slice 0), 8, (run base), by decide +kernel⟩,
   ⟨.hawser, 2, (run base), by decide +kernel⟩,
   ⟨.hawser, 0x40000, (run base), by decide +kernel⟩,
   ⟨.hawser, { base with islands := Vector.replicate 34 Island.reset }, by decide +kernel⟩,
   ⟨(.slice 3), by decide +kernel⟩,
   ⟨⟨[], [(5, 7)], false, 0, false⟩, by decide +kernel⟩⟩

theorem witness_ProcessImageRegionsLieAsLaidOut :
    (∃ (i : Fin 16) (k : Nat) (s : State), (k < 0x2000) ∧ (i.val < s.sliceCount)) ∧
    (∃ (k : Nat), (k < 0x10000)) ∧
    (∃ (k : Nat), (k < 0x8000)) ∧
    (∃ (k : Nat), (k < 0x4000)) :=
  ⟨⟨0, 0x1fff, base, by decide +kernel⟩,
   ⟨0xffff, by decide +kernel⟩,
   ⟨0x7fff, by decide +kernel⟩,
   ⟨0x3fff, by decide +kernel⟩⟩

theorem witness_HostPortReachesSliceRegisters :
    (∃ (g : HostAgent) (i : Fin 16) (off : Nat) (s : State), let up (g : HostAgent) (s : State) : Bool := match g with | .splice => s.hawserUp | .mss => s.mssUp; let free (g : HostAgent) (i : Fin 16) (s : State) : Bool := !s.stalled.contains ⟨match g with | .splice => .splice | .mss => .mss, ⟨i.val, by omega⟩⟩; (up g s = true) ∧ (s.engineUp i = true) ∧ (free g i s = true) ∧ (off < 0xF000) ∧ (off % 4 = 0)) ∧
    (∃ (g : HostAgent) (i : Fin 16) (off : Nat) (s : State), let up (g : HostAgent) (s : State) : Bool := match g with | .splice => s.hawserUp | .mss => s.mssUp; let free (g : HostAgent) (i : Fin 16) (s : State) : Bool := !s.stalled.contains ⟨match g with | .splice => .splice | .mss => .mss, ⟨i.val, by omega⟩⟩; (up g s = true) ∧ (s.engineUp i = true) ∧ (free g i s = true) ∧ (off < 0xF000) ∧ (off % 4 = 0)) ∧
    (∃ (g : HostAgent) (i : Fin 16) (off : Nat) (s : State), let up (g : HostAgent) (s : State) : Bool := match g with | .splice => s.hawserUp | .mss => s.mssUp; let free (g : HostAgent) (i : Fin 16) (s : State) : Bool := !s.stalled.contains ⟨match g with | .splice => .splice | .mss => .mss, ⟨i.val, by omega⟩⟩; (up g s = true) ∧ (i.val < s.sliceCount) ∧ (off < 0x10000) ∧ (off % 4 = 0) ∧ ((free g i s = false ∨ s.islands[i.val].running = false))) ∧
    (∃ (s : State), (s.hawserUp = true) ∧ (s.mssUp = true)) :=
  ⟨⟨.splice, 0, 0, (run base), by decide +kernel⟩,
   ⟨.splice, 0, 0x020, (run base), by decide +kernel⟩,
   ⟨.mss, 0, 0xFFFC, { (run base) with stalled := [⟨.mss, 0⟩] }, by decide +kernel⟩,
   ⟨(run base), by decide +kernel⟩⟩

theorem witness_ClocksSlewStepAndHoldOver :
    (∃ (k : Fin 17) (s : State), (s.hawserUp = true) ∧ (s.islands[(State.islandOf k).val].running = true)) ∧
    (∃ (k : Fin 18) (d : Int) (s : State), ∃ _ : k.val < 17, (s.clocks[k.val].pendingStep = some d)) ∧
    (∃ (d : Int) (s : State), (s.hawserUp = true) ∧ (s.hws.pendingStep = some d) ∧ (s.hws.stepReady = true) ∧ (s.now ≤ s.lastSync + 3)) ∧
    (∃ (k : Fin 17) (s : State), (s.islands[(State.islandOf k).val].running = true) ∧ (4 ≤ s.clocks[k].missed)) :=
  ⟨⟨0, (run base), by decide +kernel⟩,
   ⟨16, (-3), (base.modClock 16 fun x => { x with pendingStep := some (-3), stepReady := true }), by decide, by decide +kernel⟩,
   ⟨500, ((run base).modHws fun h => { h with pendingStep := some 500, stepReady := true }), by decide +kernel⟩,
   ⟨0, (((run base)).modClock 0 fun x => { x with missed := 4 }), by decide +kernel⟩⟩

theorem witness_StalledChannelIsMarkedAndRaised :
    (∃ (w : Waiter) (k : Fin 35) (s : State), (((waiterIsland w).val = k.val ∨ (16 ≤ k.val ∧ k.val < 32) ∨ s.islands[waiterIsland w].running = false))) ∧
    (∃ (w : Waiter) (k : Fin 35) (s : State), ((waiterIsland w).val ≠ k.val) ∧ ((k.val < 16 ∨ 32 ≤ k.val)) ∧ (s.islands[waiterIsland w].running = true)) ∧
    (∃ (j : Fin 34) (s : State), (s.hasIsland j = true)) :=
  ⟨⟨(.slice 3), 3, base, by decide +kernel⟩,
   ⟨.mss, 34, (run base), by decide +kernel⟩,
   ⟨0, base, by decide +kernel⟩⟩

theorem witness_IntakeQueueTakesOrCountsLoss :
    (∃ (q : Fin 18) (x : Intake) (s : State), ((q.val < 16 → q.val < s.sliceCount)) ∧ ((s.intake q).entries.length < 32) ∧ (x.kind ≠ 3)) ∧
    (∃ (q : Fin 18) (s : State), ((q.val < 16 → q.val < s.sliceCount)) ∧ (32 ≤ (s.intake q).entries.length)) :=
  ⟨⟨0, ⟨1, 0, 0, 0, 0, false, 0, [], none⟩, (base.setIntake 0 ⟨[], 0, [], 0⟩), by decide +kernel⟩,
   ⟨0, (base.setIntake 0 ⟨List.replicate 32 ⟨1, 0, 0, 0, 0, false, 0, [], none⟩, 0, [], 0⟩), by decide +kernel⟩⟩

theorem witness_SliceCommandsStandInTheirRegisters :
    (∃ (i : Fin 16) (s : State), (s.engineUp i = true)) ∧
    (∃ (i : Fin 16) (s : State), (s.engineUp i = true)) ∧
    (∃ (i : Fin 16) (s : State), (s.engineUp i = true)) ∧
    (∃ (i : Fin 16) (s : State), (s.engineUp i = true)) ∧
    (∃ (i : Fin 16) (s : State), (s.engineUp i = true)) ∧
    (∃ (i : Fin 16) (s : State), (s.engineUp i = true)) ∧
    (∃ (i : Fin 16) (s : State), (s.engineUp i = true)) ∧
    (∃ (i : Fin 16) (s : State), (s.engineUp i = true)) ∧
    (∃ (i : Fin 16) (s : State), (s.engineUp i = true)) ∧
    (∃ (i : Fin 16) (s : State), (s.engineUp i = true)) ∧
    (∃ (i : Fin 16) (s : State), (s.engineUp i = true)) ∧
    (∃ (i : Fin 16) (s : State), (s.engineUp i = false)) :=
  ⟨⟨0, (run base), by decide +kernel⟩,
   ⟨0, (run base), by decide +kernel⟩,
   ⟨0, (run base), by decide +kernel⟩,
   ⟨0, (run base), by decide +kernel⟩,
   ⟨0, (run base), by decide +kernel⟩,
   ⟨0, (run base), by decide +kernel⟩,
   ⟨0, (run base), by decide +kernel⟩,
   ⟨0, (run base), by decide +kernel⟩,
   ⟨0, (run base), by decide +kernel⟩,
   ⟨0, (run base), by decide +kernel⟩,
   ⟨0, (run base), by decide +kernel⟩,
   ⟨0, { base with islands := Vector.replicate 34 Island.reset }, by decide +kernel⟩⟩

theorem witness_ExpiredPortalTimersGiveTheirFault :
    (∃ (i : Fin 16) (s : State), (s.slices[i].portal.st = .locking) ∧ let due : Int := s.slices[i].portal.tState + ms (cfgPrtLockConfirmMs s.params i); let u := s.atSyncFrom i due; let e := u.envAhead i; let p := s.found i due; (s.timerActs i due = true) ∧ (p.quiet e = true) ∧ (p.s2 e = false)) ∧
    (∃ (i : Fin 16) (s : State), (s.slices[i].portal.st = .unlocking) ∧ let due : Int := s.slices[i].portal.tState + ms (cfgPrtUnlockConfirmMs s.params i); let u := s.atSyncFrom i due; let e := u.envAhead i; let p := s.found i due; (s.timerActs i due = true) ∧ (p.quiet e = true) ∧ (p.s2 e = true)) ∧
    (∃ (i : Fin 16) (s : State), (s.slices[i].portal.st = .opening) ∧ let due : Int := s.slices[i].portal.tState + ms (cfgPrtOpenTimeout s.params i); let u := s.atSyncFrom i due; let e := u.envAhead i; let p := s.found i due; (s.timerActs i due = true) ∧ (p.quiet e = true)) ∧
    (∃ (i : Fin 16) (s : State), (s.slices[i].portal.st = .closing) ∧ (s.slices[i].portal.phase = .move) ∧ let due : Int := s.slices[i].portal.tState + ms (cfgPrtCloseTimeout s.params i); let u := s.atSyncFrom i due; let e := u.envAhead i; let p := s.found i due; (s.timerActs i due = true) ∧ (p.quiet e = true)) ∧
    (∃ (i : Fin 16) (s : State), (s.slices[i].portal.st = .closedUnlocked) ∧ let due : Int := s.slices[i].portal.tState + ms (cfgPrtStepStowTimeout s.params i); let u := s.atSyncFrom i due; let e := u.envAhead i; let p := s.found i due; (s.timerActs i due = true) ∧ (p.quiet e = true)) ∧
    (∃ (since : Int) (i : Fin 16) (s : State), (s.slices[i].portal.s2Alone = some since) ∧ (s.slices[i].portal.st.faultable = true) ∧ let due : Int := since + ms (cfgPrtLockConfirmMs s.params i) + 1; let u := s.atSyncFrom i due; let e := u.envAhead i; let p := s.found i due; (s.timerActs i due = true) ∧ (p.handleEgress e = false) ∧ (p.handleAccess e = false) ∧ (p.isoConfirmed e = false) ∧ (p.portal.obs = .none) ∧ (p.cause10 e = false) ∧ (p.portal.cause11 = false) ∧ (p.cause6 e = false) ∧ (p.s2 e = true) ∧ (p.s1 e = false)) :=
  ⟨⟨0, (po (fun q => { q with st := .locking, tState := 6, obs := .none, cause11 := false, prevS1 := true, s2Alone := none }) (sl (fun x => { x with cycleT := 5, evalAt := some 0 }) (calm (hitch (run base))))), by decide +kernel⟩,
   ⟨0, (din 0 (din 1 (po (fun q => { q with st := .unlocking, tState := 6, obs := .none, cause11 := false, prevS1 := true, s2Alone := none }) (sl (fun x => { x with cycleT := 5, evalAt := some 0 }) (calm (par 0x1000012 [0,1,255,255,5,255,255,255,255] (par 0x1000000 [1,0] (hitch (run base))))))))), by decide +kernel⟩,
   ⟨0, (po (fun q => { q with st := .opening, tState := 6, obs := .none, cause11 := false, prevS1 := true, s2Alone := none }) (sl (fun x => { x with cycleT := 5, evalAt := some 0 }) (calm (hitch (run base))))), by decide +kernel⟩,
   ⟨0, (po (fun q => { q with st := .closing, tState := 6, obs := .none, cause11 := false, prevS1 := true, s2Alone := none, phase := .move }) (sl (fun x => { x with cycleT := 5, evalAt := some 0 }) (calm (hitch (run base))))), by decide +kernel⟩,
   ⟨0, (po (fun q => { q with st := .closedUnlocked, tState := 6, obs := .none, cause11 := false, prevS1 := true, s2Alone := none }) (sl (fun x => { x with cycleT := 5, evalAt := some 0 }) (calm (hitch (run base))))), by decide +kernel⟩,
   ⟨6, 0, (din 1 (po (fun q => { q with st := .released, tState := 6, obs := .none, cause11 := false, prevS1 := true, s2Alone := some 6 }) (sl (fun x => { x with cycleT := 5, evalAt := some 0 }) (calm (par 0x1000012 [0,1,255,255,5,255,255,255,255] (par 0x1000000 [1,0] (hitch (run base)))))))), by decide +kernel⟩⟩

theorem witness_ExpiredPortalTimersMoveThePortalOn :
    (∃ (i : Fin 16) (s : State), ((s.slices[i].portal.st = .closing ∨ s.slices[i].portal.st = .homing)) ∧ (s.slices[i].portal.phase = .warn) ∧ let due : Int := s.slices[i].portal.tState + ms (cfgPrtWarnTime s.params i); let u := s.atSyncFrom i due; let e := u.envAhead i; let p := s.found i due; (s.timerActs i due = true) ∧ (p.quiet e = true)) ∧
    (∃ (i : Fin 16) (s : State), (s.slices[i].portal.st = .locking) ∧ let due : Int := s.slices[i].portal.tState + ms (cfgPrtLockPullMs s.params i); (s.timerActs i due = true)) ∧
    (∃ (i : Fin 16) (s : State), (s.slices[i].portal.st = .unlocking) ∧ ((s.env i).heldLock = false) ∧ let due : Int := s.slices[i].portal.tState + ms (cfgPrtUnlockPulseMs s.params i); (s.timerActs i due = true)) ∧
    (∃ (i : Fin 16) (s : State), (s.slices[i].portal.st = .reopening) ∧ (s.slices[i].portal.phase = .pause) ∧ let due : Int := s.slices[i].portal.tState + ms (cfgPrtReclosePauseMs s.params i); let u := s.atSyncFrom i due; let e := u.envAhead i; let p := s.found i due; (s.timerActs i due = true) ∧ (p.quiet e = true)) ∧
    (∃ (t0 : Int) (i : Fin 16) (s : State), (s.slices[i].portal.st = .opening) ∧ (s.slices[i].portal.stopPause = some t0) ∧ let due : Int := t0 + ms (cfgPrtReclosePauseMs s.params i); let u := s.atSyncFrom i due; let e := u.envAhead i; let p := s.found i due; (s.timerActs i due = true) ∧ (p.quiet e = true) ∧ ((e.cyc : Int) < s.slices[i].portal.tState + ms (cfgPrtOpenTimeout s.params i)) ∧ (p.closeSources e = 0) ∧ ((p.leavesOpen e = false ∨ p.deployed e = false ∨ p.portal.issued = false))) ∧
    (∃ (i : Fin 16) (s : State), (s.slices[i].portal.st = .open_) ∧ (cfgPrtAutoClose s.params i ≠ 0) ∧ ((s.slices[i].portal.restricted = false ∨ s.slices[i].portal.sources.testBit 4 = false)) ∧ let due : Int := s.slices[i].portal.tState + ms (cfgPrtAutoClose s.params i * 100); let u := s.atSyncFrom i due; let e := u.envAhead i; let p := s.found i due; (s.timerActs i due = true) ∧ (p.quiet e = true)) ∧
    (∃ (i : Fin 16) (s : State), (s.slices[i].portal.st = .emergency) ∧ (s.slices[i].portal.emergFreed = false) ∧ (s.slices[i].zeroSpeed = false) ∧ let due : Int := s.slices[i].portal.tState + ms (cfgPrtEgressHoldMs s.params i); let u := s.atSyncFrom i due; let e := u.envAhead i; let p := s.found i due; (s.timerActs i due = true) ∧ (p.handleEgress e = true) ∧ (p.zeroSpeed = false)) :=
  ⟨⟨0, (po (fun q => { q with st := .closing, tState := 6, obs := .none, cause11 := false, prevS1 := true, s2Alone := none, phase := .warn }) (sl (fun x => { x with cycleT := 5, evalAt := some 0 }) (calm (hitch (run base))))), by decide +kernel⟩,
   ⟨0, (po (fun q => { q with st := .locking, tState := 6, obs := .none, cause11 := false, prevS1 := true, s2Alone := none }) (sl (fun x => { x with cycleT := 5, evalAt := some 0 }) (calm (hitch (run base))))), by decide +kernel⟩,
   ⟨0, (po (fun q => { q with st := .unlocking, tState := 6, obs := .none, cause11 := false, prevS1 := true, s2Alone := none }) (sl (fun x => { x with cycleT := 5, evalAt := some 0 }) (calm (par 0x1400028 [1] (par 0x100001b [2] (par 0x1000011 [0] (hitch (run base)))))))), by decide +kernel⟩,
   ⟨0, (po (fun q => { q with st := .reopening, tState := 6, obs := .none, cause11 := false, prevS1 := true, s2Alone := none, phase := .pause }) (sl (fun x => { x with cycleT := 5, evalAt := some 0 }) (calm (hitch (run base))))), by decide +kernel⟩,
   ⟨6, 0, (free (po (fun q => { q with st := .opening, tState := 6, obs := .none, cause11 := false, prevS1 := true, s2Alone := none, stopPause := some 6, issued := false }) (sl (fun x => { x with cycleT := 5, evalAt := some 0 }) (calm (par 0x100002a [255,255] (par 0x1000002 [0,0,0] (par 0x1000022 [0,0] (par 0x1000012 [0,1,255,255,5,255,255,255,255] (par 0x1000000 [1,0] (hitch (run base))))))))))), by decide +kernel⟩,
   ⟨0, (po (fun q => { q with st := .open_, tState := 6, obs := .none, cause11 := false, prevS1 := true, s2Alone := none, restricted := false }) (sl (fun x => { x with cycleT := 5, evalAt := some 0 }) (calm (par 0x1000030 [1,0] (hitch (run base)))))), by decide +kernel⟩,
   ⟨0, (din 5 (po (fun q => { q with st := .emergency, tState := 6, obs := .none, cause11 := false, prevS1 := true, s2Alone := none, emergFreed := false }) (sl (fun x => { x with cycleT := 5, evalAt := some 0 }) (calm (par 0x1100000 [1] (par 0x1000012 [0,1,255,255,5,255,255,255,255] (par 0x1000000 [1,0] (hitch (run base))))))))), by decide +kernel⟩⟩

theorem witness_PortalTimersActOnlyWhereTheyRun :
    (∃ (i : Fin 16) (s : State) (t : Nat), (Slice.timerDue 1) (s.env i) s.slices[i] = some t ∧ s.timerActs i t = true) ∧ (∃ (i : Fin 16) (s : State), ∀ t : Nat, (Slice.timerDue 1) (s.env i) s.slices[i] = some t → s.timerActs i t = false) ∧
    (∃ (i : Fin 16) (s : State) (t : Nat), Slice.lockPullDue (s.env i) s.slices[i] = some t ∧ s.timerActs i t = true) ∧
    (∃ (i : Fin 16) (s : State) (t : Nat), (Slice.timerDue 2) (s.env i) s.slices[i] = some t ∧ s.timerActs i t = true) ∧
    (∃ (i : Fin 16) (s : State) (t : Nat), Slice.s2AloneDue (s.env i) s.slices[i] = some t ∧ s.timerActs i t = true) ∧
    (∃ (i : Fin 16) (s : State) (t : Nat), (Slice.timerDue 3) (s.env i) s.slices[i] = some t ∧ s.timerActs i t = true) ∧
    (∃ (i : Fin 16) (s : State) (t : Nat), Slice.unlockPulseDue (s.env i) s.slices[i] = some t ∧ s.timerActs i t = true) ∧
    (∃ (i : Fin 16) (s : State) (t : Nat), Slice.openDue (s.env i) s.slices[i] = some t ∧ s.timerActs i t = true) ∧
    (∃ (i : Fin 16) (s : State) (t : Nat), (Slice.timerDue 5) (s.env i) s.slices[i] = some t ∧ s.timerActs i t = true) ∧
    (∃ (i : Fin 16) (s : State) (t : Nat), (Slice.timerDue 6) (s.env i) s.slices[i] = some t ∧ s.timerActs i t = true) ∧
    (∃ (i : Fin 16) (s : State) (t : Nat), (Slice.timerDue 7) (s.env i) s.slices[i] = some t ∧ s.timerActs i t = true) ∧
    (∃ (i : Fin 16) (s : State) (t : Nat), (Slice.timerDue 8) (s.env i) s.slices[i] = some t ∧ s.timerActs i t = true) ∧
    (∃ (i : Fin 16) (s : State) (t : Nat), (Slice.timerDue 9) (s.env i) s.slices[i] = some t ∧ s.timerActs i t = true) :=
  ⟨⟨0, (po (fun q => { q with st := .closing, tState := 1000000, obs := .none, cause11 := false, prevS1 := true, s2Alone := none, phase := .warn }) (calm (hitch (run base)))), 1000000, by decide +kernel⟩, ⟨0, State.reset, fun _ _ => rfl⟩,
   ⟨0, (po (fun q => { q with st := .locking, tState := 1000000, obs := .none, cause11 := false, prevS1 := true, s2Alone := none }) (calm (hitch (run base)))), 1000000, by decide +kernel⟩,
   ⟨0, (po (fun q => { q with st := .locking, tState := 1000000, obs := .none, cause11 := false, prevS1 := true, s2Alone := none }) (calm (hitch (run base)))), 1000000, by decide +kernel⟩,
   ⟨0, (po (fun q => { q with st := .locked, tState := 1000000, obs := .none, cause11 := false, prevS1 := true, s2Alone := some 5 }) (calm (hitch (run base)))), 6, by decide +kernel⟩,
   ⟨0, (po (fun q => { q with st := .unlocking, tState := 1000000, obs := .none, cause11 := false, prevS1 := true, s2Alone := none }) (calm (hitch (run base)))), 1000000, by decide +kernel⟩,
   ⟨0, (po (fun q => { q with st := .unlocking, tState := 1000000, obs := .none, cause11 := false, prevS1 := true, s2Alone := none }) (calm (hitch (run base)))), 1000000, by decide +kernel⟩,
   ⟨0, (po (fun q => { q with st := .opening, tState := 1000000, obs := .none, cause11 := false, prevS1 := true, s2Alone := none }) (calm (hitch (run base)))), 1000000, by decide +kernel⟩,
   ⟨0, (po (fun q => { q with st := .closing, tState := 1000000, obs := .none, cause11 := false, prevS1 := true, s2Alone := none, phase := .move }) (calm (hitch (run base)))), 1000000, by decide +kernel⟩,
   ⟨0, (po (fun q => { q with st := .closedUnlocked, tState := 1000000, obs := .none, cause11 := false, prevS1 := true, s2Alone := none }) (calm (hitch (run base)))), 1000000, by decide +kernel⟩,
   ⟨0, (po (fun q => { q with st := .reopening, tState := 1000000, obs := .none, cause11 := false, prevS1 := true, s2Alone := none, phase := .pause }) (calm (hitch (run base)))), 1000000, by decide +kernel⟩,
   ⟨0, (po (fun q => { q with st := .open_, tState := 1000000, obs := .none, cause11 := false, prevS1 := true, s2Alone := none }) (calm (par 0x1000030 [1, 0] (hitch (run base))))), 101000000, by decide +kernel⟩,
   ⟨0, (po (fun q => { q with st := .emergency, tState := 1000000, obs := .none, cause11 := false, prevS1 := true, s2Alone := none, emergFreed := false }) (calm (hitch (run base)))), 1000000, by decide +kernel⟩⟩

theorem witness_SyncPointTakesSlicesCommands :
    (∃ (e : Env) (p : Slice), (p.handleEgress e = false) ∧ (p.handleAccess e = false) ∧ (p.isoConfirmed e = false) ∧ (p.portal.obs = .none) ∧ (p.portal.st = .fault) ∧ (p.portal.command = 1)) ∧
    (∃ (e : Env) (p : Slice), (p.handleEgress e = false) ∧ (p.handleAccess e = false) ∧ (p.portal.st = .emergency) ∧ (p.portal.command = 2)) ∧
    (∃ (e : Env) (p : Slice), (p.quiet e = true) ∧ (p.portal.st = .locked) ∧ (p.portal.command = 3)) ∧
    (∃ (a : Fin 3) (sl : Slice), (sl.axes[a].m.command = 1) ∧ (sl.teach = none)) ∧
    (∃ (e : Env) (a : Fin 3) (sl : Slice), (sl.axes[a].m.command = 2) ∧ (sl.teach = none) ∧ (sl.portal.st = .fault) ∧ (sl.zeroSpeed = true) ∧ (e.active = true) ∧ (sl.axes[a].d.fault = 0)) ∧
    (∃ (e : Env) (a : Fin 3) (sl : Slice), (sl.axes[a].m.command = 2) ∧ (sl.teach = none) ∧ ((sl.portal.st ≠ .fault ∨ sl.zeroSpeed = false ∨ e.active = false ∨ sl.axes[a].d.fault ≠ 0))) ∧
    (∃ (e : Env) (sl : Slice), (sl.axes[0].d.command = 1) ∧ (sl.teachAllowed e = true)) ∧
    (∃ (e : Env) (sl : Slice), (sl.axes[0].d.command = 1) ∧ (sl.teach = none) ∧ (sl.teachAllowed e = false)) ∧
    (∃ (e : Env) (a : Fin 3) (sl : Slice), (sl.axes[a].d.command = 2) ∧ (sl.teach = none) ∧ (sl.speedOf e a = 0)) ∧
    (∃ (e : Env) (a : Fin 3) (sl : Slice), (sl.axes[a].d.command = 2) ∧ (sl.teach = none) ∧ (sl.speedOf e a ≠ 0)) ∧
    (∃ (a : Fin 3) (sl : Slice), (sl.axes[a].d.command = 3) ∧ (sl.teach = none)) ∧
    (∃ (a : Fin 3) (sl : Slice), (sl.axes[a].d.command = 4) ∧ (sl.teach = none)) ∧
    (∃ (k : Fin 6) (sl : Slice), (sl.sw.command = 1) ∧ (sl.teach = none) ∧ (sl.sw.commandChannel = k.val) ∧ (sl.sw.ch[k].st = .latchedOff) ∧ (sl.sw.ch[k].deltaT + 20 ≤ sl.sw.tether.stored.dtTrip[k]) ∧ (sl.sw.ch[k].cmd = false)) ∧
    (∃ (k : Fin 6) (sl : Slice), (sl.sw.command = 1) ∧ (sl.teach = none) ∧ (sl.sw.commandChannel = k.val) ∧ (sl.sw.ch[k].st = .latchedOff) ∧ (sl.sw.tether.stored.dtTrip[k] < sl.sw.ch[k].deltaT + 20)) ∧
    (∃ (e : Env) (sl : Slice), (sl.sw.command = 2) ∧ (sl.teach = none) ∧ (sl.portal.st = .fault) ∧ (sl.zeroSpeed = true) ∧ (e.active = true)) ∧
    (∃ (t : TeachRun) (sl : Slice), (sl.teach = some t) ∧ (t.step ≠ 6)) :=
  ⟨⟨(((par 0x1000012 [0,1,255,255,5,255,255,255,255] (par 0x1000000 [1,0] (hitch (run base))))).env 0), ((calm (par 0x1000012 [0,1,255,255,5,255,255,255,255] (par 0x1000000 [1,0] (hitch (run base))))).slices[0].modPortal fun q => { q with st := .fault, command := 1, obs := .none }), by decide +kernel⟩,
   ⟨(((par 0x1000012 [0,1,255,255,5,255,255,255,255] (par 0x1000000 [1,0] (hitch (run base))))).env 0), ((calm (par 0x1000012 [0,1,255,255,5,255,255,255,255] (par 0x1000000 [1,0] (hitch (run base))))).slices[0].modPortal fun q => { q with st := .emergency, command := 2 }), by decide +kernel⟩,
   ⟨(((par 0x1000012 [0,1,255,255,5,255,255,255,255] (par 0x1000000 [1,0] (hitch (run base))))).env 0), ((calm (par 0x1000012 [0,1,255,255,5,255,255,255,255] (par 0x1000000 [1,0] (hitch (run base))))).slices[0].modPortal fun q => { q with st := .locked, command := 3, obs := .none, cause11 := false, prevS1 := true, s2Alone := none }), by decide +kernel⟩,
   ⟨1, { ((calm (run base)).slices[0].modM 1 fun m => { m with command := 1 }) with teach := none }, by decide +kernel⟩,
   ⟨{ ((run base).env 0) with active := true }, 2, { ((((free (calm (run base))).slices[0].modPortal fun q => { q with st := .fault }).modM 2 fun m => { m with command := 2, queue := [], home := none, rev := none, testTarget := 0 }).modD 2 fun m => { m with mode := .hold, fault := 0 }) with teach := none }, by decide +kernel⟩,
   ⟨((run base).env 0), 0, { (((free (calm (run base))).slices[0].modPortal fun q => { q with st := .fault }).modM 0 fun m => { m with command := 2 }).modD 0 fun m => { m with fault := 3 } with teach := none }, by decide +kernel⟩,
   ⟨((par 0x1100000 [1] (par 0x11000e0 [1] (par 0x11001c0 [1] (par 0x1000012 [0,1,255,255,5,255,255,255,255] (par 0x1000000 [1,0] (hitch (run base))))))).env 0), ((forAxes (fun a sl => sl.modM a fun m => { m with v := 0, queue := [] }) ({ ((free (calm (run base))).slices[0].modPortal fun q => { q with st := .fault }) with teach := none })).modD 0 fun m => { m with command := 1 }), by decide +kernel⟩,
   ⟨((run base).env 0), ({ (((free (calm (run base))).slices[0].modPortal fun q => { q with st := .fault }).modPortal fun q => { q with st := .open_ }).modD 0 fun m => { m with command := 1 } with teach := none }), by decide +kernel⟩,
   ⟨((run base).env 0), 2, { (((calm (run base)).slices[0].modD 2 fun m => { m with command := 2 }).modM 2 fun m => { m with v := 0 }) with teach := none }, by decide +kernel⟩,
   ⟨((run base).env 0), 2, { (((calm (run base)).slices[0].modD 2 fun m => { m with command := 2 }).modM 2 fun m => { m with v := 7 }) with teach := none }, by decide +kernel⟩,
   ⟨0, { ((calm (run base)).slices[0].modD 0 fun m => { m with command := 3 }) with teach := none }, by decide +kernel⟩,
   ⟨0, { ((calm (run base)).slices[0].modD 0 fun m => { m with command := 4 }) with teach := none }, by decide +kernel⟩,
   ⟨5, { ((((calm (run base)).slices[0].modSw fun m => { m with command := 1, commandChannel := 5 }).modCh 5 fun c => { c with st := .latchedOff, deltaT := 0, cmd := false }).modTether fun t => { t with stored := { t.stored with dtTrip := Vector.replicate 6 20 } }) with teach := none }, by decide +kernel⟩,
   ⟨5, { ((((calm (run base)).slices[0].modSw fun m => { m with command := 1, commandChannel := 5 }).modCh 5 fun c => { c with st := .latchedOff, deltaT := 1 }).modTether fun t => { t with stored := { t.stored with dtTrip := Vector.replicate 6 20 } }) with teach := none }, by decide +kernel⟩,
   ⟨{ ((run base).env 0) with active := true }, { (((free (calm (run base))).slices[0].modPortal fun q => { q with st := .fault }).modSw fun m => { m with command := 2 }) with teach := none }, by decide +kernel⟩,
   ⟨⟨4, 0, 0, false, 0, none, false, Vector.replicate 3 false, Vector.replicate 3 false⟩, { (calm (run base)).slices[0] with teach := some ⟨4, 0, 0, false, 0, none, false, Vector.replicate 3 false, Vector.replicate 3 false⟩ }, by decide +kernel⟩⟩

theorem witness_LoopChannelsFollowTheContacts :
    (∃ (i : Fin 16) (s : State), (s.configured = true) ∧ (i.val < s.sliceCount)) ∧
    (∃ (i : Fin 16) (k : Fin 3) (s : State), ((if k = 0 then cfgPrtInS1 s.params i else if k = 1 then cfgPrtInS2 s.params i else cfgPrtInIsolation s.params i) < 16)) :=
  ⟨⟨0, (run base), by decide +kernel⟩,
   ⟨0, 0, (par 0x1000012 [0,1,255,255,5,255,255,255,255] (par 0x1000000 [1,0] (hitch (run base)))), by decide +kernel⟩⟩

theorem witness_LoopTimersOpenAndTestTheCell :
    (∃ (i : Fin 16) (t0 : Nat) (s : State), (s.loop.discrepant[i] = some t0)) ∧
    (∃ (i : Fin 16) (s : State), (s.loop.discrepant[i] = none)) ∧
    (∃ (t0 : Nat) (s : State), (s.loop.lastTest = some t0)) ∧
    (∃ (s : State), (s.loop.lastTest = none)) ∧
    (∃ (s : State), (s.loop.overdue1 = false)) ∧
    (∃ (s : State), (s.loop.overdue2 = false)) ∧
    (∃ (s : State), (s.hawserUp = true)) :=
  ⟨⟨3, 5, (base.modLoop fun l => { l with discrepant := l.discrepant.set 3 (some 5) }), by decide +kernel⟩,
   ⟨3, (base.modLoop fun l => { l with discrepant := l.discrepant.set 3 none }), by decide +kernel⟩,
   ⟨9, (base.modLoop fun l => { l with lastTest := some 9 }), by decide +kernel⟩,
   ⟨(base.modLoop fun l => { l with lastTest := none }), by decide +kernel⟩,
   ⟨((run base).modLoop fun l => { l with overdue1 := false }), by decide +kernel⟩,
   ⟨((run base).modLoop fun l => { l with overdue2 := false }), by decide +kernel⟩,
   ⟨(run base), by decide +kernel⟩⟩

theorem witness_StepEdgeMovesOneMicrostep :
    (∃ (i : Fin 16) (a : Fin 3) (mv : Move) (rest : List Move) (s : State), (s.sliceRuns i = true) ∧ (s.slices[i].axes[a].d.mode.driven = true) ∧ (s.slices[i].axes[a].m.home = none) ∧ ((s.env i).geared a = false) ∧ (s.slices[i].axes[a].m.stopping = false) ∧ (s.slices[i].axes[a].m.rev = none) ∧ (s.slices[i].axes[a].m.queue = mv :: rest) ∧ ((s.slices[i].axes[a].m.running = false → mv.target ≠ s.slices[i].axes[a].m.pos))) ∧
    (∃ (i : Fin 16) (a : Fin 3) (h : HomeRun) (s : State), (s.sliceRuns i = true) ∧ (s.slices[i].axes[a].d.mode.driven = true) ∧ (s.slices[i].axes[a].m.home = some h) ∧ (h.stallAt = none)) ∧
    (∃ (i : Fin 16) (a : Fin 3) (s : State), (s.sliceRuns i = true) ∧ (s.slices[i].axes[a].d.mode.driven = true) ∧ (s.slices[i].axes[a].m.home = none) ∧ ((s.env i).geared a = true) ∧ (s.slices[i].axes[a].m.homed = true) ∧ (s.slices[i].axes[a].m.gearHold = false) ∧ let dem := (s.env i).limitDemand a ((s.env i).gearDemand a (s.slices[i].gearMaster (s.env i) a)); (s.slices[i].axes[a].m.pos ≠ dem)) ∧
    (∃ (i : Fin 16) (a : Fin 3) (s : State), (s.slices[i].axes[a].d.mode.driven = false)) :=
  ⟨⟨0, 0, ⟨100, 1, false, false⟩, [], (sl (fun x => { ((x.modM 0 fun m => { m with home := none, stopping := false, rev := none, queue := [⟨100, 1, false, false⟩], running := false, pos := 0 }).modD 0 fun y => { y with mode := .hold }) with waitsResume := false }) (run base)), by decide +kernel⟩,
   ⟨0, 0, ⟨0, none, none, none, false⟩, (sl (fun x => { ((x.modM 0 fun m => { m with home := some ⟨0, none, none, none, false⟩ }).modD 0 fun y => { y with mode := .hold }) with waitsResume := false }) (run base)), by decide +kernel⟩,
   ⟨0, 1, (sl (fun x => (x.modM 1 fun m => { m with home := none, homed := true, gearHold := false, pos := 5 }).modD 1 fun y => { y with mode := .strong }) (sl (fun x => { x with waitsResume := false }) (par 0x11000e1 [4] (run base)))), by decide +kernel⟩,
   ⟨0, 2, (sl (fun x => x.modD 2 fun y => { y with mode := .free }) base), by decide +kernel⟩⟩

theorem witness_HomingConfirmsLatchesAndFails :
    (∃ (i : Fin 16) (a : Fin 3) (h : HomeRun) (s : State), (s.sliceRuns i = true) ∧ (s.slices[i].axes[a].m.home = some h) ∧ (cfgAxHomeConfirmInput s.params i a ≠ 0xFF) ∧ (h.chatterAt = none) ∧ (h.latch = none) ∧ (h.stallAt = none)) ∧
    (∃ (i : Fin 16) (a : Fin 3) (h : HomeRun) (t0 : Nat) (s : State), (s.sliceRuns i = true) ∧ (s.slices[i].axes[a].m.home = some h) ∧ (cfgAxHomeConfirmInput s.params i a ≠ 0xFF) ∧ (h.chatterAt = none) ∧ (h.latch = none) ∧ (h.stallAt = some t0)) ∧
    (∃ (i : Fin 16) (a : Fin 3) (h : HomeRun) (l : Int) (s : State), (s.sliceRuns i = true) ∧ (s.slices[i].axes[a].m.home = some h) ∧ (cfgAxHomeConfirmInput s.params i a ≠ 0xFF) ∧ (h.chatterAt = none) ∧ (h.latch = some l) ∧ (h.stallAt = none)) ∧
    (∃ (i : Fin 16) (a : Fin 3) (h : HomeRun) (t0 : Nat) (n : Nat) (s : State), ∃ _ : n < 16, (s.sliceRuns i = true) ∧ (s.slices[i].axes[a].m.home = some h) ∧ (h.chatterAt = some t0) ∧ (cfgAxHomeConfirmInput s.params i a = n)) ∧
    (∃ (i : Fin 16) (a : Fin 3) (h : HomeRun) (t0 : Nat) (s : State), (s.sliceRuns i = true) ∧ (s.slices[i].axes[a].m.home = some h) ∧ (h.stallAt = some t0)) :=
  ⟨⟨0, 0, ⟨3, none, none, none, true⟩, (sl (fun x => { ((x.modM 0 fun m => { m with home := some ⟨3, none, none, none, true⟩ }).modD 0 fun y => { y with mode := .hold }) with waitsResume := false }) (par 0x1100010 [0,0,0,0] (run base))), by decide +kernel⟩,
   ⟨0, 0, ⟨3, none, none, (some 4), true⟩, 4, (sl (fun x => { ((x.modM 0 fun m => { m with home := some ⟨3, none, none, (some 4), true⟩ }).modD 0 fun y => { y with mode := .hold }) with waitsResume := false }) (par 0x1100010 [0,0,0,0] (run base))), by decide +kernel⟩,
   ⟨0, 0, ⟨3, (some (-7)), none, none, true⟩, (-7), (sl (fun x => { ((x.modM 0 fun m => { m with home := some ⟨3, (some (-7)), none, none, true⟩ }).modD 0 fun y => { y with mode := .hold }) with waitsResume := false }) (par 0x1100010 [0,0,0,0] (run base))), by decide +kernel⟩,
   ⟨0, 0, ⟨3, (some (-7)), (some 9), none, true⟩, 9, 0, (sl (fun x => { ((x.modM 0 fun m => { m with home := some ⟨3, (some (-7)), (some 9), none, true⟩ }).modD 0 fun y => { y with mode := .hold }) with waitsResume := false }) (par 0x1100010 [0,0,0,0] (run base))), by decide, by decide +kernel⟩,
   ⟨0, 0, ⟨3, none, none, (some 4), true⟩, 4, (sl (fun x => { ((x.modM 0 fun m => { m with home := some ⟨3, none, none, (some 4), true⟩ }).modD 0 fun y => { y with mode := .hold }) with waitsResume := false }) (par 0x1100010 [0,0,0,0] (run base))), by decide +kernel⟩⟩

theorem witness_DriveFaultsIsolatorsAndEstimator :
    (∃ (i : Fin 16) (a : Fin 3) (s : State), (s.sliceRuns i = true) ∧ (s.slices[i].axes[a].d.mode ≠ .free)) ∧
    (∃ (i : Fin 16) (a : Fin 3) (s : State), (s.slices[i].axes[a].d.mode = .free)) ∧
    (∃ (i : Fin 16) (a : Fin 3) (md : DriveMode) (s : State), (s.sliceRuns i = true) ∧ (s.slices[i].axes[a].d.wanted = some md) ∧ (s.gate = true) ∧ (md ≠ .free)) ∧
    (∃ (i : Fin 16) (a : Fin 3) (md : DriveMode) (s : State), (s.sliceRuns i = true) ∧ (s.slices[i].axes[a].d.wanted = some md) ∧ (s.gate = true)) ∧
    (∃ (i : Fin 16) (a : Fin 3) (ia : Nat) (ib : Nat) (s : State), (s.sliceRuns i = true) ∧ (s.slices[i].axes[a].d.mode = .hold) ∧ (s.slices[i].speedOf (s.env i) a = 0) ∧ (300 ≤ cfgDrvHoldCurrent s.params i a) ∧ (ia ≠ 0) ∧ (ib ≠ 0)) ∧
    (∃ (i : Fin 16) (s : State), (s.sliceRuns i = true)) ∧
    (∃ (i : Fin 16) (s : State), (s.sliceRuns i = false)) :=
  ⟨⟨0, 0, (sl (fun x => { ((x.modM 0 fun m => { m with v := 5 }).modD 0 fun y => { y with mode := .hold }) with waitsResume := false }) (run base)), by decide +kernel⟩,
   ⟨0, 1, (sl (fun x => x.modD 1 fun y => { y with mode := .free }) base), by decide +kernel⟩,
   ⟨0, 0, .hold, ((sl (fun x => { ((x.modM 0 fun m => { m with v := 0 }).modD 0 fun y => { y with mode := .free, wanted := some .hold }) with waitsResume := false }) (run base)).modAuth fun a => { a with readback := true, inp := false }), by decide +kernel⟩,
   ⟨0, 0, .hold, ((sl (fun x => { ((x.modM 0 fun m => { m with v := 0 }).modD 0 fun y => { y with mode := .free, wanted := some .hold }) with waitsResume := false }) (run base)).modAuth fun a => { a with readback := true, inp := false }), by decide +kernel⟩,
   ⟨0, 0, 1000, 1000, (sl (fun x => { ((x.modM 0 fun m => { m with v := 0 }).modD 0 fun y => { y with mode := .hold }) with waitsResume := false }) (par 0x1200004 [44,1] (run base))), by decide +kernel⟩,
   ⟨0, (sl (fun x => { x with waitsResume := false }) (run base)), by decide +kernel⟩,
   ⟨0, { base with islands := Vector.replicate 34 Island.reset }, by decide +kernel⟩⟩

theorem witness_AuxiliaryReissueAndTeachEnd :
    (∃ (i : Fin 16) (a : Fin 3) (mv : Move) (t0 : Nat) (s : State), (s.sliceRuns i = true) ∧ (s.slices[i].axes[a].m.interrupted = some (mv, t0)) ∧ (s.slices[i].axes[a].m.v = 0) ∧ (mv.replace = false)) ∧
    (∃ (i : Fin 16) (a : Fin 3) (r : TeachRun) (s : State), (s.sliceRuns i = true) ∧ (s.slices[i].axes[a].d.teachRunning = true) ∧ (s.slices[i].teach = some r) ∧ (r.step = 6)) ∧
    (∃ (i : Fin 16) (a : Fin 3) (s : State), ((s.slices[i].axes[a].d.teachRunning = false ∨ s.slices[i].teach = none))) ∧
    (∃ (i : Fin 16) (r : TeachRun) (s : State), (s.slices[i].teach = some r) ∧ (r.step ≠ 6)) :=
  ⟨⟨0, 0, ⟨5, 0, false, false⟩, 77, (sl (fun x => { ((x.modM 0 fun m => { m with interrupted := some (⟨5, 0, false, false⟩, 77), v := 0, queue := [], home := none, rev := none, pos := 0 }).modD 0 fun y => { y with mode := .hold }) with waitsResume := false }) { (run base) with params := [] }), by decide +kernel⟩,
   ⟨0, 0, ⟨6, 0, 0, false, 0, none, false, Vector.replicate 3 false, Vector.replicate 3 false⟩, (sl (fun x => { x with teach := some ⟨6, 0, 0, false, 0, none, false, Vector.replicate 3 false, Vector.replicate 3 false⟩ }) (sl (fun x => { ((x.modM 0 fun m => { m with v := 0 }).modD 0 fun y => { y with teachRunning := true }) with waitsResume := false }) (run base))), by decide +kernel⟩,
   ⟨0, 0, (sl (fun x => x.modD 0 fun y => { y with teachRunning := false }) base), by decide +kernel⟩,
   ⟨0, ⟨4, 0, 0, false, 0, none, false, Vector.replicate 3 false, Vector.replicate 3 false⟩, (sl (fun x => { x with teach := some ⟨4, 0, 0, false, 0, none, false, Vector.replicate 3 false, Vector.replicate 3 false⟩ }) (sl (fun x => { ((x.modM 0 fun m => { m with v := 0 }).modD 0 fun y => { y with teachRunning := true }) with waitsResume := false }) (run base))), by decide +kernel⟩⟩

theorem witness_InputSamplesAreDebounced :
    (∃ (i : Fin 16) (s : State), (s.sliceRuns i = true)) :=
  ⟨0, (sl (fun x => { x with waitsResume := false }) (run base)), by decide +kernel⟩

theorem witness_InputSupervisionFlags :
    (∃ (i : Fin 16) (k : Fin 16) (s : State), (s.sliceRuns i = true) ∧ (s.slices[i].inp.dig[k].deb = true) ∧ (s.slices[i].inp.dig[k].stuck = false) ∧ (cfgInpStuckTimeout s.params i k ≠ 0)) ∧
    (∃ (i : Fin 16) (k : Fin 16) (s : State), (s.sliceRuns i = true) ∧ (s.slices[i].inp.dig[k].chatter = true)) ∧
    (∃ (i : Fin 16) (k : Fin 16) (t0 : Nat) (s : State), (s.sliceRuns i = true) ∧ (s.slices[i].inp.dig[k].diffAt = some t0) ∧ (s.slices[i].inp.dig[k].diff = false) ∧ (cfgInpTwinCompareMs s.params i ≠ 0)) ∧
    (∃ (i : Fin 16) (s : State), (s.sliceRuns i = true)) :=
  ⟨⟨0, 15, (sl (fun x => x.modDig 15 fun y => { y with deb := true, stuck := false }) (par 0x130008c [1,0] (sl (fun x => { x with waitsResume := false }) (run base)))), by decide +kernel⟩,
   ⟨0, 3, (sl (fun x => x.modDig 3 fun y => { y with chatter := true }) (sl (fun x => { x with waitsResume := false }) (run base))), by decide +kernel⟩,
   ⟨0, 3, 77, (sl (fun x => x.modDig 3 fun y => { y with diffAt := some 77, diff := false }) (par 0x13000ca [1,0] (sl (fun x => { x with waitsResume := false }) (run base)))), by decide +kernel⟩,
   ⟨0, (sl (fun x => { x with waitsResume := false }) (run base)), by decide +kernel⟩⟩

theorem witness_AnalogueAndEncoderInputs :
    (∃ (i : Fin 16) (k : Fin 4) (s : State), (s.sliceRuns i = true) ∧ (cfgInpAnMode s.params i k = 2)) ∧
    (∃ (i : Fin 16) (k : Fin 4) (s : State), (s.sliceRuns i = true) ∧ (cfgInpAnMode s.params i k = 1)) ∧
    (∃ (i : Fin 16) (t0 : Nat) (s : State), (s.sliceRuns i = true) ∧ (s.slices[i].inp.settleAt = some t0)) ∧
    (∃ (i : Fin 16) (k : Fin 3) (s : State), (s.sliceRuns i = true) ∧ (cfgInpEncMode s.params i k ≠ 0)) ∧
    (∃ (i : Fin 16) (k : Fin 3) (s : State), (cfgInpEncMode s.params i k = 0)) ∧
    (∃ (i : Fin 16) (k : Fin 3) (c : Fin 3) (s : State), (s.sliceRuns i = true) ∧ (cfgInpEncMode s.params i k = 1) ∧ (s.slices[i].inp.enc[k].fault = 0) ∧ ((c.val ≤ 1 ∨ (cfgInpEncFlags s.params i k).testBit 3 = true))) ∧
    (∃ (i : Fin 16) (k : Fin 3) (s : State), (s.sliceRuns i = true) ∧ (cfgInpEncMode s.params i k = 1) ∧ ((cfgInpEncFlags s.params i k).testBit 3 = false) ∧ (s.slices[i].inp.enc[k].lineBroken[0] = false) ∧ (s.slices[i].inp.enc[k].lineBroken[1] = false)) ∧
    (∃ (i : Fin 16) (s : State), (s.sliceRuns i = true) ∧ ((cfgInpEncSupply s.params i = 1 ∨ cfgInpEncSupply s.params i = 2))) :=
  ⟨⟨0, 3, (par 0x13000a8 [2] (sl (fun x => { x with waitsResume := false }) (run base))), by decide +kernel⟩,
   ⟨0, 3, (par 0x13000a8 [1] (sl (fun x => { x with waitsResume := false }) (run base))), by decide +kernel⟩,
   ⟨0, 9, (sl (fun x => x.modInp fun y => { y with settleAt := some 9 }) (sl (fun x => { x with waitsResume := false }) (run base))), by decide +kernel⟩,
   ⟨0, 0, (par 0x13000b0 [1] (sl (fun x => { x with waitsResume := false }) (run base))), by decide +kernel⟩,
   ⟨0, 0, (par 0x13000b0 [0] (sl (fun x => { x with waitsResume := false }) (run base))), by decide +kernel⟩,
   ⟨0, 1, 1, (sl (fun x => x.modInp fun y => { y with enc := y.enc.set 1 { y.enc[1] with fault := 0 } }) (par 0x13000b8 [1] (sl (fun x => { x with waitsResume := false }) (run base)))), by decide +kernel⟩,
   ⟨0, 1, (sl (fun x => x.modInp fun y => { y with enc := y.enc.set 1 { y.enc[1] with lineBroken := Vector.replicate 3 false } }) (par 0x13000b8 [1,0] (sl (fun x => { x with waitsResume := false }) (run base)))), by decide +kernel⟩,
   ⟨0, (par 0x13000c8 [1] (sl (fun x => { x with waitsResume := false }) (run base))), by decide +kernel⟩⟩

theorem witness_SwitchProtectionTripsAndRetries :
    (∃ (i : Fin 16) (k : Fin 6) (s : State), (s.powerUp i = true) ∧ (s.slices[i].sw.ch[k].st = .on) ∧ (s.slices[i].sw.ch[k].limiting = false)) ∧
    (∃ (i : Fin 16) (k : Fin 6) (dt : Nat) (s : State), (s.powerUp i = true) ∧ (s.slices[i].sw.ch[k].st = .on) ∧ (min (s.slices[i].sw.tether.stored.dtTrip[k] : Int) (175 - s.slices[i].sw.caseT) ≤ dt)) ∧
    (∃ (i : Fin 16) (k : Fin 6) (dt : Nat) (s : State), ((dt : Int) < min (s.slices[i].sw.tether.stored.dtTrip[k] : Int) (175 - s.slices[i].sw.caseT))) ∧
    (∃ (i : Fin 16) (k : Fin 6) (dt : Nat) (s : State), (s.powerUp i = true) ∧ (s.slices[i].sw.ch[k].st = .thermalOff) ∧ (dt + 20 ≤ s.slices[i].sw.tether.stored.dtTrip[k])) ∧
    (∃ (i : Fin 16) (k : Fin 6) (s : State), (s.powerUp i = true) ∧ (s.slices[i].sw.ch[k].st = .on)) ∧
    (∃ (i : Fin 16) (k : Fin 6) (s : State), (s.powerUp i = true) ∧ (s.slices[i].sw.ch[k].st ≠ .on) ∧ (s.slices[i].sw.ch[k].cmd = false)) ∧
    (∃ (i : Fin 16) (s : State), (s.powerUp i = true)) :=
  ⟨⟨0, 0, (sl (fun x => x.modCh 0 fun y => { y with st := .on, limiting := false }) (sl (fun x => { x with waitsResume := false }) (run base))), by decide +kernel⟩,
   ⟨0, 5, 60, (sl (fun x => x.modCh 5 fun y => { y with st := .on, trips := 0 }) (sl (fun x => x.modTether fun t => { t with stored := { t.stored with dtTrip := Vector.replicate 6 60 } }) (sl (fun x => { x with waitsResume := false }) (run base)))), by decide +kernel⟩,
   ⟨0, 5, 59, (sl (fun x => x.modCh 5 fun y => { y with st := .on }) (sl (fun x => x.modTether fun t => { t with stored := { t.stored with dtTrip := Vector.replicate 6 60 } }) (sl (fun x => { x with waitsResume := false }) (run base)))), by decide +kernel⟩,
   ⟨0, 2, 40, (sl (fun x => x.modCh 2 fun y => { y with st := .thermalOff }) (sl (fun x => x.modTether fun t => { t with stored := { t.stored with dtTrip := Vector.replicate 6 60 } }) (sl (fun x => { x with waitsResume := false }) (run base)))), by decide +kernel⟩,
   ⟨0, 0, (sl (fun x => x.modCh 0 fun y => { y with st := .on }) (sl (fun x => { x with waitsResume := false }) (run base))), by decide +kernel⟩,
   ⟨0, 0, (sl (fun x => x.modCh 0 fun y => { y with st := .off, cmd := false }) (sl (fun x => { x with waitsResume := false }) (run base))), by decide +kernel⟩,
   ⟨0, (sl (fun x => { x with waitsResume := false }) (run base)), by decide +kernel⟩⟩

theorem witness_SwitchDiagnosticsFlag :
    (∃ (i : Fin 16) (k : Fin 6) (s : State), (s.powerUp i = true) ∧ (s.slices[i].sw.ch[k].st = .off) ∧ (s.slices[i].sw.ch[k].commanded = false) ∧ (s.slices[i].sw.ch[k].cmd = false) ∧ ((s.env i).diagOff k = true) ∧ (s.slices[i].sw.enabled = true) ∧ (s.slices[i].sw.supply = true)) ∧
    (∃ (i : Fin 16) (k : Fin 6) (s : State), (s.powerUp i = true) ∧ (s.slices[i].sw.ch[k].st = .on) ∧ (s.slices[i].sw.ch[k].limiting = false) ∧ (cfgLswMinCurrent s.params i k ≠ 0)) :=
  ⟨⟨0, 0, ((sl (fun x => x.modCh 0 fun y => { y with st := .off, commanded := false, decided := false, cmd := false }) (par 0x1400009 [255] (sl (fun x => x.modSw fun w => { w with enabled := true, supply := true }) (sl (fun x => { x with waitsResume := false }) (run base))))).modAuth fun a => { a with readback := true, inp := false }), by decide +kernel⟩,
   ⟨0, 0, (sl (fun x => x.modCh 0 fun y => { y with st := .on, limiting := false }) (par 0x1400016 [9,0] (sl (fun x => { x with waitsResume := false }) (run base)))), by decide +kernel⟩⟩

theorem witness_TetherRefreshesAndFailsSafe :
    (∃ (i : Fin 16) (seq : Nat) (s : State), (s.powerUp i = true) ∧ (s.engineUp i = true) ∧ (s.slices[i].waitsResume = false) ∧ (seqInOrder s.slices[i].sw.tether.seqToPower seq = true) ∧ (s.slices[i].sw.tether.alive ≠ s.slices[i].sw.tether.lastAlive) ∧ (s.slices[i].sw.tether.safe = false) ∧ (s.slices[i].sw.tether.st ≠ .lost) ∧ (s.now < s.slices[i].sw.tether.lastRefresh + s.slices[i].sw.tether.stored.timeoutMs * 1050000 + 50000)) ∧
    (∃ (i : Fin 16) (seq : Nat) (s : State), (s.powerUp i = true) ∧ (s.sliceRuns i = true) ∧ (seqInOrder s.slices[i].sw.tether.seqToEngine seq = true)) ∧
    (∃ (i : Fin 16) (s : State), (s.powerUp i = true) ∧ (s.sliceRuns i = true)) ∧
    (∃ (i : Fin 16) (s : State), (s.powerUp i = true) ∧ (s.slices[i].sw.tether.storedValid = true) ∧ (s.slices[i].sw.tether.safe = false) ∧ (s.slices[i].sw.tether.st ≠ .lost) ∧ (s.slices[i].sw.tether.testRunning = false) ∧ (s.slices[i].sw.tether.lastRefresh < s.now) ∧ (s.slices[i].sw.enabled = true)) ∧
    (∃ (i : Fin 16) (s : State), (s.sliceRuns i = true) ∧ (s.slices[i].sw.tether.st ≠ .lost)) ∧
    (∃ (i : Fin 16) (s : State), (s.powerUp i = true) ∧ (s.sliceRuns i = true) ∧ ((s.slices[i].sw.tether.st = .lost ∨ s.slices[i].sw.tether.storedValid = false))) :=
  ⟨⟨0, 3, (sl (fun x => x.modTether fun t => { t with seqToPower := 2, alive := 5, lastAlive := 4, st := .refreshed }) (sl (fun x => { x with waitsResume := false }) (run base))), by decide +kernel⟩,
   ⟨0, 3, (sl (fun x => x.modTether fun t => { t with seqToEngine := 2 }) (sl (fun x => { x with waitsResume := false }) (run base))), by decide +kernel⟩,
   ⟨0, (sl (fun x => { x with waitsResume := false }) (run base)), by decide +kernel⟩,
   ⟨0, ((sl (fun x => x.modTether fun t => { t with storedValid := true, st := .refreshed, testRunning := false, safe := false, lastRefresh := 5 }) { (sl (fun x => x.modSw fun w => { w with enabled := true }) (sl (fun x => { x with waitsResume := false }) (run base))) with now := 9 }).modAuth fun a => { a with readback := true, inp := false }), by decide +kernel⟩,
   ⟨0, (sl (fun x => x.modTether fun t => { t with st := .refreshed, missing := 3 }) (sl (fun x => { x with waitsResume := false }) (run base))), by decide +kernel⟩,
   ⟨0, (sl (fun x => x.modTether fun t => { t with st := .lost }) (sl (fun x => { x with waitsResume := false }) (run base))), by decide +kernel⟩⟩

theorem witness_EngineResumesFromItsPowerIsland :
    (∃ (i : Fin 16) (s : State), (s.configured = true) ∧ (s.engineUp i = true) ∧ (s.slices[i].waitsResume = true) ∧ (s.slices[i].sw.tether.storedValid = true)) ∧
    (∃ (i : Fin 16) (a : Fin 3) (s : State), (s.configured = true) ∧ (s.engineUp i = true) ∧ (s.slices[i].waitsResume = true) ∧ (s.slices[i].sw.tether.storedValid = false) ∧ (s.active = true) ∧ ((s.env i).enabledAxis a = true)) ∧
    (∃ (i : Fin 16) (s : State), (s.slices[i].waitsResume = false)) :=
  ⟨⟨0, (sl (fun x => { x with waitsResume := true }) (sl (fun x => x.modTether fun t => { t with storedValid := true }) (par 0x1000012 [0,1,255,255,5,255,255,255,255] (par 0x1000000 [1,0] (hitch (run base)))))), by decide +kernel⟩,
   ⟨0, 0, (sl (fun x => { x with waitsResume := true }) (sl (fun x => x.modTether fun t => { t with storedValid := false }) (par 0x1100000 [1] (par 0x1000012 [0,1,255,255,5,255,255,255,255] (par 0x1000000 [1,0] (hitch (run base))))))), by decide +kernel⟩,
   ⟨0, (sl (fun x => { x with waitsResume := false }) base), by decide +kernel⟩⟩

theorem witness_GroupMonitorsRaiseAndStopLoads :
    (∃ (g : Fin 2) (dv : Nat) (s : State), (s.hasGroup g = true) ∧ (s.groups[g].loadOut = false) ∧ ((dv < 168 ∨ 1650 < dv))) ∧
    (∃ (g : Fin 2) (dv : Nat) (s : State), (s.hasGroup g = true) ∧ (s.groups[g].motorOut = false) ∧ ((dv < 168 ∨ 1650 < dv))) ∧
    (∃ (g : Fin 2) (l : Nat) (m : Nat) (s : State), (s.configured = true) ∧ (s.hasGroup g = true) ∧ (s.groups[g].warning = false) ∧ (cfgBlyCurrentWarn s.params g < l + m)) ∧
    (∃ (g : Fin 2) (l : Nat) (m : Nat) (s : State), (s.configured = true) ∧ (s.hasGroup g = true) ∧ (s.groups[g].warning = true) ∧ (l + m ≤ cfgBlyCurrentWarn s.params g)) ∧
    (∃ (g : Fin 2) (d : Int) (s : State), (s.hasGroup g = true) ∧ (1000 ≤ d) ∧ (s.groups[g].overTemp = false)) ∧
    (∃ (g : Fin 2) (d : Int) (s : State), (s.hasGroup g = true) ∧ (d ≤ 950)) ∧
    (∃ (s : State), (s.small = true)) :=
  ⟨⟨0, 167, ((run base).modGroup 0 fun x => { x with loadOut := false }), by decide +kernel⟩,
   ⟨0, 167, (((par 0x1000012 [0,1,255,255,5,255,255,255,255] (par 0x1000000 [1,0] (hitch (run base)))).modAuth fun a => { a with readback := true, inp := false }).modGroup 0 fun x => { x with motorOut := false }), by decide +kernel⟩,
   ⟨0, 65535, 1, ((run base).modGroup 0 fun x => { x with warning := false }), by decide +kernel⟩,
   ⟨0, 0, 0, ((run base).modGroup 0 fun x => { x with warning := true }), by decide +kernel⟩,
   ⟨0, 1000, (base.modGroup 0 fun x => { x with overTemp := false }), by decide +kernel⟩,
   ⟨0, 950, base, by decide +kernel⟩,
   ⟨{ base with small := true }, by decide +kernel⟩⟩

theorem witness_ArbitrationKeepsTheBudget :
    (∃ (g : Fin 2) (s : State), (s.configured = true) ∧ (s.hasGroup g = true) ∧ (s.start.stage ≠ .off)) ∧
    (∃ (g : Fin 2) (r : Requester) (s : State), (s.configured = true) ∧ (s.hasGroup g = true) ∧ (s.start.stage ≠ .off) ∧ ((s.requesters g).length ≤ 24) ∧ (s.waiting g = [r]) ∧ (s.allocated g + s.inrushI r ≤ cfgBlyBudget s.params g)) ∧
    (∃ (g : Fin 2) (s : State), (s.configured = false) ∧ (s.hasGroup g = true) ∧ (s.start.stage ≠ .off)) ∧
    (∃ (g : Fin 2) (s : State), ((s.hasGroup g = false ∨ s.start.stage = .off))) :=
  ⟨⟨0, (((run base)).modStart fun x => { x with stage := .running }), by decide +kernel⟩,
   ⟨0, (0, 0), (((sl (fun x => x.modCh 0 fun c => { c with st := .waiting, req := .waiting 5 90000 false }) { (run base) with slices := Vector.replicate 16 Slice.reset, params := memSetBytes ramDefault (memSetBytes ramDefault [] 0x1500000 [255,255]) 0x1000000 [1] })).modStart fun x => { x with stage := .running }), by decide +kernel⟩,
   ⟨0, (({ base with cfg := { base.cfg with state := 0 } }).modStart fun x => { x with stage := .running }), by decide +kernel⟩,
   ⟨0, (base.modStart fun x => { x with stage := .off }), by decide +kernel⟩⟩

theorem witness_GrantsSwitchOnAndEnd :
    (∃ (i : Fin 16) (k : Fin 6) (s : State), (s.powerUp i = true) ∧ (s.slices[i].sw.ch[k].st = .waiting) ∧ (s.slices[i].sw.ch[k].req.isGranted = true)) ∧
    (∃ (i : Fin 16) (k : Fin 6) (s : State), (s.slices[i].sw.ch[k].req.isGranted = true) ∧ (s.slices[i].sw.ch[k].st = .on) ∧ (s.slices[i].sw.ch[k].limiting = false)) ∧
    (∃ (i : Fin 16) (a : Fin 3) (t0 : Nat) (f : Nat) (s : State), (s.slices[i].axes[a].m.req = .granted t0) ∧ (s.slices[i].axes[a].m.firstAt = some f) ∧ (t0 ≤ f)) ∧
    (∃ (i : Fin 16) (j : Fin 9) (t0 : Nat) (d : Nat) (s : State), (s.req (i, j) = .waiting t0 d false)) ∧
    (∃ (i : Fin 16) (j : Fin 9) (s : State), ∀ t0 d, s.req (i, j) ≠ .waiting t0 d false) ∧
    (∃ (g : Fin 2) (s : State), (s.granted g ≠ []) ∧ (s.waiting g ≠ [])) ∧
    (∃ (i : Fin 16) (s : State), (s.powerUp i = true) ∧ (s.slices[i].sw.unarbitrated = false)) ∧
    (∃ (i : Fin 16) (s : State), (s.slices[i].sw.unarbitrated = true)) :=
  ⟨⟨0, 5, (sl (fun x => x.modCh 5 fun y => { y with st := .waiting, req := .granted 9 }) (sl (fun x => { x with waitsResume := false }) (run base))), by decide +kernel⟩,
   ⟨0, 0, (sl (fun x => x.modCh 0 fun y => { y with st := .on, limiting := false, req := .granted 9 }) (sl (fun x => { x with waitsResume := false }) (run base))), by decide +kernel⟩,
   ⟨0, 2, 3, 4, (sl (fun x => x.modM 2 fun m => { m with req := .granted 3, v := 9, firstAt := some 4 }) base), by decide +kernel⟩,
   ⟨0, 0, 5, 90000, (sl (fun x => x.modCh 0 fun c => { c with req := .waiting 5 90000 false }) base), by decide +kernel⟩,
   ⟨0, 8, base, by intro t0 d h; revert h; exact (by decide +kernel : (base.req (0, 8)) = .idle) ▸ fun h => nomatch h⟩,
   ⟨0, (sl (fun x => (x.modCh 0 fun c => { c with st := .waiting, req := .waiting 5 90000 false }).modCh 1 fun c => { c with st := .on, req := .granted 3 }) { (run base) with params := memSetBytes ramDefault [] 0x1000000 [1] }), by decide +kernel⟩,
   ⟨0, (sl (fun x => x.modSw fun w => { w with unarbitrated := false }) (run base)), by decide +kernel⟩,
   ⟨0, (sl (fun x => x.modSw fun w => { w with unarbitrated := true }) base), by decide +kernel⟩⟩

theorem witness_CarBusObjectsTakeAndSend :
    (∃ (i : Fin 16) (f : CanFrame) (r : Fin 32) (s : State), (s.sliceRuns i = true) ∧ ((s.slices[i].can.mode = .normal ∨ s.slices[i].can.mode = .monitor)) ∧ (f.remote = false) ∧ ((s.env i).isConflict f = false) ∧ ((s.env i).rxObject f = some r)) ∧
    (∃ (i : Fin 16) (f : CanFrame) (s : State), (s.sliceRuns i = true) ∧ ((s.slices[i].can.mode = .normal ∨ s.slices[i].can.mode = .monitor)) ∧ (f.remote = false) ∧ ((s.env i).isConflict f = false) ∧ ((s.env i).rxObject f = none)) ∧
    (∃ (i : Fin 16) (t : Fin 16) (d : List Byte) (s : State), (s.sliceRuns i = true) ∧ (s.slices[i].can.onBus = .object t d false)) ∧
    (∃ (i : Fin 16) (s : State), (s.sliceRuns i = true) ∧ (s.slices[i].can.mode = .normal)) ∧
    (∃ (i : Fin 16) (s : State), (s.sliceRuns i = true) ∧ (s.slices[i].can.mode = .monitor)) ∧
    (∃ (i : Fin 16) (s : State), (s.sliceRuns i = true)) :=
  ⟨⟨0, ⟨5, false, false, false, false, false, 3, [1, 2, 3], 9⟩, 0, (sl (fun x => x.modCan fun c => { c with mode := .normal }) (par 0x3000000 [1] (par 0x300000c [77,0,0,0] (par 0x3000140 [5,0,0,0,255,7,0,0,8] (sl (fun x => { x with waitsResume := false }) (run base)))))), by decide +kernel⟩,
   ⟨0, ⟨5, false, false, false, false, false, 3, [1, 2, 3], 9⟩, (sl (fun x => x.modCan fun c => { c with mode := .normal }) { (sl (fun x => { x with waitsResume := false }) (run base)) with params := [] }), by decide +kernel⟩,
   ⟨0, 3, [1, 2], (sl (fun x => x.modCan fun c => { c with onBus := .object 3 [1, 2] false }) (sl (fun x => { x with waitsResume := false }) (run base))), by decide +kernel⟩,
   ⟨0, (sl (fun x => x.modCan fun c => { c with mode := .normal }) (sl (fun x => { x with waitsResume := false }) (run base))), by decide +kernel⟩,
   ⟨0, (sl (fun x => x.modCan fun c => { c with mode := .monitor }) (sl (fun x => { x with waitsResume := false }) (run base))), by decide +kernel⟩,
   ⟨0, (sl (fun x => { x with waitsResume := false }) (run base)), by decide +kernel⟩⟩

theorem witness_CarBusScheduleRuns :
    (∃ (i : Fin 16) (s : State), (s.sliceRuns i = true) ∧ ((s.env i).busEnable = true) ∧ ((s.env i).ttEnable = true) ∧ (s.slices[i].can.armed = true) ∧ (s.slices[i].can.mode = .normal) ∧ (s.slices[i].can.onBus = .idle)) ∧
    (∃ (i : Fin 16) (s : State), (s.slices[i].can.armed = false)) ∧
    (∃ (i : Fin 16) (j : Nat) (t : Fin 16) (s : State), (s.sliceRuns i = true) ∧ ((s.env i).ttEnable = true) ∧ (s.slices[i].can.ttRunning = true) ∧ (0 < j) ∧ (j < cfgBusColCount s.params i) ∧ (s.slices[i].can.mode = .normal) ∧ let c := s.slices[i].can; let cell := (c.bank c.activeBank).cell c.basicCycle j; (cell % 16 = t.val) ∧ (fieldOf cell 5 2 ≠ 0) ∧ (cell.testBit 4 = true) ∧ ((s.env i).txMode t.val = 1)) ∧
    (∃ (i : Fin 16) (s : State), (s.sliceRuns i = true) ∧ (s.slices[i].can.ttRunning = true) ∧ (s.slices[i].can.mode = .normal) ∧ (s.slices[i].can.ttHeld = false) ∧ (s.slices[i].can.refSent = false) ∧ (s.slices[i].can.refLate = false)) ∧
    (∃ (i : Fin 16) (s : State), (s.slices[i].can.refSent = true)) :=
  ⟨⟨0, (sl (fun x => x.modCan fun c => { c with armed := true, mode := .normal, onBus := .idle }) (par 0x3000000 [5] (par 0x3000012 [1,2] (par 0x30000c4 [1] (sl (fun x => { x with waitsResume := false }) (run base)))))), by decide +kernel⟩,
   ⟨0, (sl (fun x => x.modCan fun c => { c with armed := false }) base), by decide +kernel⟩,
   ⟨0, 1, 0, (sl (fun x => x.modCan fun c => { c with ttRunning := true, mode := .normal, basicCycle := 0, bank0 := ⟨[(1, 48)], [(1, 200)]⟩, bank1 := ⟨[(1, 48)], [(1, 200)]⟩, onBus := .idle }) (par 0x3000000 [5] (par 0x3000012 [1,2] (par 0x30000c4 [1] (sl (fun x => { x with waitsResume := false }) (run base)))))), by decide +kernel⟩,
   ⟨0, (sl (fun x => x.modCan fun c => { c with ttRunning := true, mode := .normal, refSent := false, refLate := false }) (sl (fun x => { x with waitsResume := false }) (run base))), by decide +kernel⟩,
   ⟨0, (sl (fun x => x.modCan fun c => { c with refSent := true }) base), by decide +kernel⟩⟩

theorem witness_CarBusBanksAndErrors :
    (∃ (i : Fin 16) (s : State), (s.engineUp i = true) ∧ (s.slices[i].can.selectBank ≠ s.slices[i].can.activeBank)) ∧
    (∃ (i : Fin 16) (s : State), (s.engineUp i = true) ∧ (s.slices[i].can.selectBank = s.slices[i].can.activeBank)) ∧
    (∃ (i : Fin 16) (s : State), (s.sliceRuns i = true) ∧ ((s.env i).bankFailure (shortestCycle s.params) (s.slices[i].can.bank (!s.slices[i].can.activeBank)) = none)) ∧
    (∃ (i : Fin 16) (b : Nat) (j : Nat) (s : State), (s.sliceRuns i = true) ∧ ((s.env i).bankFailure (shortestCycle s.params) (s.slices[i].can.bank (!s.slices[i].can.activeBank)) = some (b, j))) ∧
    (∃ (i : Fin 16) (s : State), (s.sliceRuns i = true)) ∧
    (∃ (i : Fin 16) (s : State), (s.sliceRuns i = true) ∧ (s.slices[i].can.mode = .normal)) ∧
    (∃ (i : Fin 16) (s : State), (s.sliceRuns i = true) ∧ (s.slices[i].can.mode = .busOff)) ∧
    (∃ (i : Fin 16) (s : State), (s.slices[i].can.mode ≠ .busOff)) ∧
    (∃ (i : Fin 16) (s : State), (s.sliceRuns i = true) ∧ (s.slices[i].can.mode = .waiting) ∧ (s.active = true)) ∧
    (∃ (i : Fin 16) (s : State), (s.sliceRuns i = true)) :=
  ⟨⟨0, (sl (fun x => x.modCan fun c => { c with selectBank := true, activeBank := false }) (sl (fun x => { x with waitsResume := false }) (run base))), by decide +kernel⟩,
   ⟨0, (sl (fun x => x.modCan fun c => { c with selectBank := true, activeBank := true }) (sl (fun x => { x with waitsResume := false }) (run base))), by decide +kernel⟩,
   ⟨0, (sl (fun x => x.modCan fun c => { c with activeBank := false }) (par 0x3000013 [0] { (sl (fun x => { x with waitsResume := false }) (run base)) with params := [] })), by decide +kernel⟩,
   ⟨0, 0, 0, (sl (fun x => x.modCan fun c => { c with activeBank := true }) (par 0x3000013 [1] { (sl (fun x => { x with waitsResume := false }) (run base)) with params := [] })), by decide +kernel⟩,
   ⟨0, (sl (fun x => { x with waitsResume := false }) (run base)), by decide +kernel⟩,
   ⟨0, (sl (fun x => x.modCan fun c => { c with mode := .normal, tec := 248 }) (sl (fun x => { x with waitsResume := false }) (run base))), by decide +kernel⟩,
   ⟨0, (sl (fun x => x.modCan fun c => { c with mode := .busOff }) (sl (fun x => { x with waitsResume := false }) (run base))), by decide +kernel⟩,
   ⟨0, (sl (fun x => x.modCan fun c => { c with mode := .normal }) base), by decide +kernel⟩,
   ⟨0, (sl (fun x => x.modCan fun c => { c with mode := .waiting }) (hitch (sl (fun x => { x with waitsResume := false }) (run base)))), by decide +kernel⟩,
   ⟨0, (sl (fun x => { x with waitsResume := false }) (run base)), by decide +kernel⟩⟩

theorem witness_HawserFramesEnterTheRing :
    (∃ (c : Fin 2) (s : State), (s.inserts c = true) ∧ (s.isMaster = true)) ∧
    (∃ (c : Fin 2) (s : State), (s.inserts c = true) ∧ (s.quiet = false) ∧ ((s.chanMode c).static ≠ 0)) ∧
    (∃ (c : Fin 2) (s : State), (s.inserts c = true) ∧ (s.quiet = false) ∧ (s.isMaster = true) ∧ ((s.chanMode c).slots ≠ 0)) ∧
    (∃ (c : Fin 2) (j : Nat) (e : PollSlot) (s : State), (s.inserts c = true) ∧ (s.quiet = false) ∧ ((s.chanMode c).slots ≠ 0) ∧ ((s.hws.listedNow[c])[j]? = some e) ∧ (e.position = s.hws.position)) ∧
    (∃ (c : Fin 2) (j : Nat) (s : State), (s.inserts c = true) ∧ (s.quiet = false) ∧ (s.isMaster = true) ∧ (j < (s.chanMode c).containers)) ∧
    (∃ (c : Fin 2) (s : State), (s.inserts c = false)) ∧
    (∃ (c : Fin 2) (k l : Nat) (f : AsyncFrame) (rest : List AsyncFrame) (s : State), s.inserts c = true ∧ s.quiet = false ∧ s.hws.async[c] = f :: rest ∧ k < (s.chanMode c).containers ∧ s.hws.filled[c] < cfgHwsAsyncQuota s.params s.hws.mode ∧ s.hws.lastFilled[c] = some l ∧ k ≠ l ∧ k ≠ l + 1) ∧
    (∃ (c : Fin 2) (e : Bool) (s : State), ((e = false ∨ ∀ f ∈ s.hws.async[c], (s.chanMode c).contLen < s.payloadLen c.val f.body))) :=
  ⟨⟨0, (ringP 1 1 base), by decide +kernel⟩,
   ⟨0, (ringP 2 1 base), by decide +kernel⟩,
   ⟨0, (ringP 1 1 base), by decide +kernel⟩,
   ⟨0, 1, ⟨2, 0, 0, 0⟩, ((ringP 2 1 base).modHws fun h => { h with listedNow := Vector.replicate 2 [⟨1, 0, 0, 0⟩, ⟨2, 0, 0, 0⟩] }), by decide +kernel⟩,
   ⟨0, 2, (ringP 1 1 base), by decide +kernel⟩,
   ⟨0, { base with islands := Vector.replicate 34 Island.reset }, by decide +kernel⟩,
   ⟨0, 2, 0, ⟨.cancel 3, 5, 0, false, 0⟩, [], ((ringP 2 1 base).modHws fun h => { h with async := Vector.replicate 2 [⟨.cancel 3, 5, 0, false, 0⟩], filled := Vector.replicate 2 0, lastFilled := Vector.replicate 2 (some 0) }), by decide +kernel⟩,
   ⟨0, false, (ringP 2 1 base), by decide +kernel⟩⟩

theorem witness_HawserFramesAreReceived :
    (∃ (i : Fin 4) (h : HwsHeader) (t0 : Nat) (t1 : Nat) (s : State), (s.hawserRuns = true) ∧ (s.hws.position ≠ 0) ∧ (s.ina.st ≠ .passive) ∧ (s.hws.ports[i].linkUp = true) ∧ (s.hws.ports[i].folded = false) ∧ ((s.advance t1).windowOf i h.sender t0 = none)) ∧
    (∃ (i : Fin 4) (h : HwsHeader) (t0 : Nat) (t1 : Nat) (p : Nat) (off : Nat) (len : Nat) (te : Nat) (s : State), (s.hawserRuns = true) ∧ (s.hws.position ≠ 0) ∧ (s.ina.st ≠ .passive) ∧ (s.hws.position ≠ p) ∧ (s.hws.ports[i].linkUp = true) ∧ (s.hws.ports[i].folded = false) ∧ ((s.advance t1).windowOf i h.sender t0 = some (⟨.static, some p, off, len⟩, te)) ∧ (h.sender = p) ∧ ((s.hws.slot (portChannel i) (pos128 p)).got = .nothing)) ∧
    (∃ (s : State), (s.hawserRuns = true)) ∧
    (∃ (c : Fin 2) (s : State), (s.inserts c = true) ∧ (s.isMaster = true) ∧ (s.quiet = false)) ∧
    (∃ (c : Fin 2) (s : State), (s.inserts c = true) ∧ (s.hws.sentNow[c] = true)) ∧
    (∃ (c : Fin 2) (s : State), (s.hawserRuns = true) ∧ (s.hws.inSchedule[c] = true) ∧ (3 ≤ s.hws.ownRun[c])) ∧
    (∃ (c : Fin 2) (l : List AsyncFrame) (s : State), (s.hawserRuns = true) ∧ (markBacklog s.hws.cycle s.hws.async[c] = some l)) ∧
    (∃ (f : AsyncFrame) (n : Nat), (16 < n - f.since) ∧ (f.raised = false)) ∧
    (∃ (p : Fin 128) (c : Fin 2) (s : State), (s.hawserRuns = true) ∧ (p.val < s.hws.n) ∧ (cfgHwsStaleLimit s.params ≤ (s.hws.slot c p).age) ∧ ((s.hws.slot c p).raised = false)) ∧
    (∃ (p : Fin 128) (c : Fin 2) (s : State), (((s.hws.slot c p).raised = true ∨ s.hws.n ≤ p.val))) ∧
    (∃ (s : State), (s.ina.st ≠ .running) ∧ (s.ina.st ≠ .reintegrating)) ∧
    (∃ (i : Fin 4) (s : State), (s.hawserRuns = true) ∧ (s.ina.st = .passive) ∧ (s.hws.ports[i].linkUp = true) ∧ (s.hws.ports[i].folded = false)) ∧
    (∃ (s : State), (s.hawserRuns = true) ∧ ((s.ina.st = .running ∨ s.ina.st = .reintegrating)) ∧ (4 ≤ s.hws.beaconMissed) ∧ (s.hws.lostRaised = false)) :=
  ⟨⟨0, ⟨0, 1, 0, 5, 8, 0, 9, 0⟩, 5, 9, ((ringP 2 1 base).modHws fun h => { h with ports := h.ports.map fun (x : HPort) => { x with beaconAt := none } }), by decide +kernel⟩,
   ⟨0, ⟨0, 1, 0, 5, 8, 0, 9, 0⟩, ((((ringP 2 1 base).modHws fun h => { h with slotsA := h.slotsA.map fun (x : Slot) => { x with got := .nothing } }).expectedAt 0 (ringIndex 1 3 1) (staticAt (((ringP 2 1 base).modHws fun h => { h with slotsA := h.slotsA.map fun (x : Slot) => { x with got := .nothing } }).chanMode 0) (ringIndex 1 3 1))).getD 0), (((((ringP 2 1 base).modHws fun h => { h with slotsA := h.slotsA.map fun (x : Slot) => { x with got := .nothing } }).expectedAt 0 (ringIndex 1 3 1) (staticAt (((ringP 2 1 base).modHws fun h => { h with slotsA := h.slotsA.map fun (x : Slot) => { x with got := .nothing } }).chanMode 0) (ringIndex 1 3 1))).getD 0) + slotNs 8 + 100), 1, (staticAt (((ringP 2 1 base).modHws fun h => { h with slotsA := h.slotsA.map fun (x : Slot) => { x with got := .nothing } }).chanMode 0) (ringIndex 1 3 1)), (slotNs 8), ((((ringP 2 1 base).modHws fun h => { h with slotsA := h.slotsA.map fun (x : Slot) => { x with got := .nothing } }).expectedAt 0 (ringIndex 1 3 1) (staticAt (((ringP 2 1 base).modHws fun h => { h with slotsA := h.slotsA.map fun (x : Slot) => { x with got := .nothing } }).chanMode 0) (ringIndex 1 3 1))).getD 0), ((ringP 2 1 base).modHws fun h => { h with slotsA := h.slotsA.map fun (x : Slot) => { x with got := .nothing } }), by decide +kernel⟩,
   ⟨(run base), by decide +kernel⟩,
   ⟨0, (ringP 1 1 base), by decide +kernel⟩,
   ⟨0, ((ringP 2 1 base).modHws fun h => { h with sentNow := Vector.replicate 2 true }), by decide +kernel⟩,
   ⟨0, ((ringP 2 1 base).modHws fun h => { h with ownRun := Vector.replicate 2 3 }), by decide +kernel⟩,
   ⟨0, [⟨.cancel 3, 5, 0, true, 0⟩], ((ringP 2 1 base).modHws fun h => { h with cycle := 17, async := Vector.replicate 2 [⟨.cancel 3, 5, 0, false, 0⟩] }), by decide +kernel⟩,
   ⟨⟨.cancel 3, 5, 0, false, 0⟩, 17, by decide +kernel⟩,
   ⟨127, 0, ((ringP 2 1 base).modHws fun h => { h with n := 128, slotsA := h.slotsA.map fun (x : Slot) => { x with age := 255, raised := false } }), by decide +kernel⟩,
   ⟨127, 0, ((ringP 2 1 base).modHws fun h => { h with slotsA := h.slotsA.map fun (x : Slot) => { x with age := 255, raised := true } }), by decide +kernel⟩,
   ⟨((ringP 2 1 base).modIna fun x => { x with st := .inaugurating }), by decide +kernel⟩,
   ⟨0, ((ringP 2 1 base).modIna fun x => { x with st := .passive }), by decide +kernel⟩,
   ⟨(((ringP 2 1 base).modIna fun x => { x with st := .running }).modHws fun h => { h with beaconMissed := 4, lostRaised := false }), by decide +kernel⟩⟩

theorem witness_HawserClockModesAndRelays :
    (∃ (i : Fin 4) (b : Beacon) (s : State), (s.hawserRuns = true) ∧ (s.hws.ports[i].linkUp = true) ∧ (s.isMaster = false) ∧ (b.generation = s.ina.generation) ∧ (b.master = s.hws.master) ∧ ((s.ina.st = .running ∨ b.nonce = s.ina.nonce)) ∧ (i = s.firstPort (portChannel i)) ∧ (s.hws.beaconNow[portChannel i] = false)) ∧
    (∃ (i : Fin 4) (s : State), (s.hawserRuns = true) ∧ (s.hws.ports[i].linkUp = true) ∧ (s.hws.measureIn = 0)) ∧
    (∃ (s : State), (s.hawserUp = true)) ∧
    (∃ (s : State), (s.hawserUp = true)) ∧
    (∃ (s : State), (s.hawserRuns = true) ∧ (s.hws.switchPending = true) ∧ (s.hws.switchCycle ≤ s.hws.cycle) ∧ ((∀ c : Fin 2, s.hws.fallbackDue[c] = false))) ∧
    (∃ (s : State), ((s.hws.switchPending = false ∨ s.hws.cycle < s.hws.switchCycle))) ∧
    (∃ (c : Fin 2) (s : State), (s.hawserRuns = true) ∧ (s.isMaster = true) ∧ (3 ≤ s.badCycles c) ∧ (s.hws.degraded[c] = false)) ∧
    (∃ (m : Nat) (s : State), (s.hawserRuns = true) ∧ (s.isMaster = true) ∧ (s.hws.leftMode = some m) ∧ ((cfgHwsHwsFlags s.params).testBit 0 = true) ∧ (cfgHwsAutoReturnCycles s.params ≤ s.hws.clearRun) ∧ (s.hws.switchPending = false) ∧ (s.inaugurating = false)) ∧
    (∃ (c : Fin 2) (s : State), (s.hws.relays[c].drive = false) ∧ (s.hws.relays[c].open_ = true) ∧ (s.hws.relays[c].mismatchRaised = false)) ∧
    (∃ (c : Fin 2) (s : State), ((s.hws.relays[c].drive = true ∨ s.hws.relays[c].open_ = false ∨ s.hws.relays[c].mismatchRaised = true))) ∧
    (∃ (c : Fin 2) (o : Bool) (s : State), (s.hawserRuns = true) ∧ (o ≠ s.hws.relays[c].drive) ∧ (s.hws.relays[c].mismatchRaised = false)) ∧
    (∃ (c : Fin 2) (o : Bool) (s : State), (s.hawserRuns = true) ∧ (o ≠ s.hws.relays[c].drive) ∧ (s.hws.relays[c].mismatchRaised = true)) ∧
    (∃ (c : Fin 2) (o : Bool) (s : State), (s.hawserRuns = true) ∧ (o = s.hws.relays[c].drive)) :=
  ⟨⟨(State.firstPort 0 ((ringP 2 1 base).modIna fun x => { x with generation := 7 })), ⟨1, true, false, 0, 3, 0, 65536, 0, 9, 3, 4, 1000, 7, [], 8⟩, (((ringP 2 1 base).modIna fun x => { x with generation := 7 }).modHws fun h => { h with beaconNow := Vector.replicate 2 false }), by decide +kernel⟩,
   ⟨0, ((ringP 2 1 base).modHws fun h => { h with measureIn := 0 }), by decide +kernel⟩,
   ⟨(run base), by decide +kernel⟩,
   ⟨(run base), by decide +kernel⟩,
   ⟨(((ringP 2 1 base).modHws fun h => { h with switchPending := true, switchCycle := 5, cycle := 5, fallbackDue := Vector.replicate 2 false, pendingMode := 1 })), by decide +kernel⟩,
   ⟨(((ringP 2 1 base).modHws fun h => { h with switchPending := false })), by decide +kernel⟩,
   ⟨0, ((ringP 1 1 base).modHws fun h => { h with faultRun := Vector.replicate 2 3, degraded := Vector.replicate 2 false }), by decide +kernel⟩,
   ⟨1, ((par 0x2000004 [1] ((ringP 1 1 base).modIna fun x => { x with pendingDir := none, collect := none })).modHws fun h => { h with leftMode := some 1, clearRun := 65535, switchPending := false }), by decide +kernel⟩,
   ⟨0, (base.modHws fun h => { h with relays := h.relays.map fun (x : Relay) => { x with drive := false, open_ := true, mismatchRaised := false } }), by decide +kernel⟩,
   ⟨0, (base.modHws fun h => { h with relays := h.relays.map fun (x : Relay) => { x with drive := true } }), by decide +kernel⟩,
   ⟨0, true, ((ringP 2 1 base).modHws fun h => { h with relays := h.relays.map fun (x : Relay) => { x with drive := false, mismatchRaised := false } }), by decide +kernel⟩,
   ⟨0, true, ((ringP 2 1 base).modHws fun h => { h with relays := h.relays.map fun (x : Relay) => { x with drive := false, mismatchRaised := true } }), by decide +kernel⟩,
   ⟨1, true, ((ringP 2 1 base).modHws fun h => { h with relays := h.relays.map fun (x : Relay) => { x with drive := true } }), by decide +kernel⟩⟩

theorem witness_LinksGreetAndNodesAreAdmitted :
    (∃ (i : Fin 4) (s : State), (s.hawserRuns = true) ∧ (s.hws.ports[i].linkUp = false) ∧ (s.hws.relays[portChannel i].open_ = true)) ∧
    (∃ (i : Fin 4) (j : Fin 4) (s : State), (s.hawserRuns = true) ∧ (s.hws.ports[i].linkUp = true) ∧ (s.facesGrant i = false) ∧ (j ≠ i) ∧ (portAft j = portAft i)) ∧
    (∃ (i : Fin 4) (s : State), (s.hawserRuns = true) ∧ (s.hws.ports[i].linkUp = true) ∧ (s.facesGrant i = true)) ∧
    (∃ (i : Fin 4) (s : State), (s.hawserRuns = true) ∧ (s.hws.ports[i].linkUp = true)) ∧
    (∃ (i : Fin 4) (s : State), (s.hawserRuns = true) ∧ (s.hws.ports[i].linkUp = true) ∧ (s.hws.ports[i].folded = true)) ∧
    (∃ (i : Fin 4) (s : State), (s.hws.ports[i].folded = false)) ∧
    (∃ (t0 : Nat) (s : State), (s.hawserRuns = true) ∧ (s.ina.handoverAt = some t0) ∧ (s.twinRunning = true)) ∧
    (∃ (t0 : Nat) (s : State), (s.hawserRuns = true) ∧ (s.ina.handoverAt = some t0) ∧ (s.twinRunning = false)) ∧
    (∃ (s : State), (s.hawserRuns = true) ∧ (s.ina.admitted[(0 : Fin 2)] = true) ∧ (s.ina.admitted[(1 : Fin 2)] = false) ∧ (s.ina.announced = false) ∧ (s.ina.runningHello = false)) ∧
    (∃ (s : State), (s.hawserRuns = true) ∧ (s.ina.admitted[(0 : Fin 2)] = true) ∧ (s.ina.st = .offline) ∧ (s.hws.ports[(0 : Fin 4)].linkUp = true) ∧ (s.hws.ports[(1 : Fin 4)].linkUp = true)) ∧
    (∃ (s : State), (s.hawserRuns = true) ∧ (s.ina.admitted[(0 : Fin 2)] = true) ∧ (s.ina.st = .inaugurating) ∧ (s.ina.leader = false) ∧ (s.ina.pendingDir = none) ∧ (s.ina.startAt + 33000000 ≤ s.now) ∧ (s.hws.ports[(0 : Fin 4)].linkUp = true) ∧ (s.hws.ports[(1 : Fin 4)].linkUp = true)) ∧
    (∃ (t0 : Nat) (s : State), (s.hawserRuns = true) ∧ (s.ina.st = .listen) ∧ (s.ina.heardAny = false) ∧ (s.ina.listenEnd = some t0)) :=
  ⟨⟨0, (((ringP 2 1 base).modHws fun h => { h with ports := h.ports.map fun (x : HPort) => { x with linkUp := false } }).modHws fun h => { h with relays := h.relays.map fun (x : Relay) => { x with open_ := true } }), by decide +kernel⟩,
   ⟨0, 2, (((ringP 2 1 base).modIna fun x => { x with grant := none }).modHws fun h => { h with ports := h.ports.map fun (x : HPort) => { x with linkUp := true } }), by decide +kernel⟩,
   ⟨0, (((ringP 2 1 base).modIna fun x => { x with dir := [dirE 1, dirE 2, dirE 3], grant := some ⟨2, 0, 5, some base.now, false⟩, orientation := some false }).modHws fun h => { h with ports := h.ports.map fun (x : HPort) => { x with linkUp := true } }), by decide +kernel⟩,
   ⟨0, (ringP 2 1 base), by decide +kernel⟩,
   ⟨1, ((ringP 2 1 base).modHws fun h => { h with ports := h.ports.map fun (x : HPort) => { x with folded := true } }), by decide +kernel⟩,
   ⟨3, (base.modHws fun h => { h with ports := h.ports.map fun (x : HPort) => { x with folded := false } }), by decide +kernel⟩,
   ⟨77, ((fun (s : State) => s.modTwn fun t => { t with link := true, beat := some ⟨AuthRec.zero, 0, 1, [], 4, 1, 0⟩ }) ((ringP 2 1 base).modIna fun x => { x with handoverAt := some 77 })), by decide +kernel⟩,
   ⟨77, ((fun (s : State) => s.modTwn fun t => { t with link := false }) ((ringP 2 1 base).modIna fun x => { x with handoverAt := some 77 })), by decide +kernel⟩,
   ⟨((ringP 2 1 base).modIna fun x => { x with admitted := ⟨#[true, false], rfl⟩, announced := false, runningHello := false }), by decide +kernel⟩,
   ⟨((ringP 2 1 base).modIna fun x => { x with admitted := Vector.replicate 2 true, st := .offline }), by decide +kernel⟩,
   ⟨({ (ringP 2 1 base) with now := 33000000 }.modIna fun x => { x with admitted := Vector.replicate 2 true, st := .inaugurating, leader := false, pendingDir := none, startAt := 0 }), by decide +kernel⟩,
   ⟨99, ((ringP 2 1 base).modIna fun x => { x with st := .listen, heardAny := false, listenEnd := some 99 }), by decide +kernel⟩⟩

theorem witness_ColdStartElectsALeader :
    (∃ (s : State), (s.hawserRuns = true) ∧ (s.ina.st = .contest) ∧ (s.hws.ports[(0 : Fin 4)].linkUp = true) ∧ (s.hws.ports[(1 : Fin 4)].linkUp = true)) ∧
    (∃ (s : State), (s.hawserRuns = true) ∧ (s.ina.st = .contest)) ∧
    (∃ (s : State), (s.hawserRuns = true) ∧ (s.ina.st = .listen)) ∧
    (∃ (t0 : Nat) (s : State), (s.hawserRuns = true) ∧ (s.ina.st = .contest) ∧ (s.ina.contestAt = some t0)) ∧
    (∃ (aft : Bool) (n : Nat) (s : State), (s.hawserRuns = true) ∧ ((s.ina.st = .listen ∨ (s.ina.st = .contest ∧ n < s.ina.ownNonce) ∨ (s.ina.st = .inaugurating ∧ s.ina.leader = false))) ∧ (s.hws.ports[portAt 0 aft].linkUp = true) ∧ (s.hws.ports[portAt 0 (!aft)].linkUp = true)) ∧
    (∃ (s : State), (s.hawserRuns = true) ∧ (s.ina.st = .running)) ∧
    (∃ (c : Collect) (s : State), (s.hawserRuns = true) ∧ (s.ina.collect = some c)) ∧
    (∃ (s : State), (s.hawserRuns = true) ∧ (s.ina.collect = none) ∧ (s.ina.st = .inaugurating) ∧ (s.hws.ports[portAt 0 s.ina.toLeader].linkUp = true)) ∧
    (∃ (s : State), (s.hawserRuns = true) ∧ (s.ina.collect = none) ∧ (s.ina.st = .running) ∧ (s.ina.leader = false)) ∧
    (∃ (c : Collect) (s : State), (s.hawserRuns = true) ∧ (s.ina.leader = true) ∧ (s.ina.collect = some c)) :=
  ⟨⟨((ringP 2 1 base).modIna fun x => { x with st := .contest, lastCold := none }), by decide +kernel⟩,
   ⟨((ringP 2 1 base).modIna fun x => { x with st := .contest, ownNonce := 5 }), by decide +kernel⟩,
   ⟨((ringP 2 1 base).modIna fun x => { x with st := .listen }), by decide +kernel⟩,
   ⟨99, (((ringP 2 1 base).modIna fun x => { x with st := .contest, contestAt := some 99 }).modHws fun h => { h with ports := h.ports.map fun (x : HPort) => { x with linkUp := true } }), by decide +kernel⟩,
   ⟨true, 3, ((ringP 2 1 base).modIna fun x => { x with st := .listen }), by decide +kernel⟩,
   ⟨(base.modIna fun x => { x with st := .running }), by decide +kernel⟩,
   ⟨⟨[], 77, 0⟩, ((ringP 2 1 base).modIna fun x => { x with collect := some ⟨[], 77, 0⟩ }), by decide +kernel⟩,
   ⟨((ringP 2 1 base).modIna fun x => { x with collect := none, st := .inaugurating }), by decide +kernel⟩,
   ⟨((ringP 2 1 base).modIna fun x => { x with collect := none, leader := false, dir := [dirE 1, dirE 2, dirE 3], reports := [] }), by decide +kernel⟩,
   ⟨⟨[], 77, 0⟩, ((ringP 2 1 base).modIna fun x => { x with leader := true, collect := some ⟨[], 77, 0⟩ }), by decide +kernel⟩⟩

theorem witness_DirectoriesSpreadAndSwitch :
    (∃ (d : Directory) (s : State), (s.hawserRuns = true) ∧ ((s.ina.leader = false ∨ s.ina.nonce ≠ d.nonce)) ∧ (s.ina.generation < d.generation)) ∧
    (∃ (d : Directory) (s : State), (s.hawserRuns = true) ∧ ((s.ina.leader = false ∨ s.ina.nonce ≠ d.nonce)) ∧ (d.generation ≤ s.ina.generation)) ∧
    (∃ (d : Directory) (q : Directory) (s : State), (s.hawserRuns = true) ∧ (s.ina.leader = true) ∧ (s.ina.nonce = d.nonce) ∧ (s.ina.pendingDir = some q) ∧ (q.generation = d.generation) ∧ (q.switchCycle = d.switchCycle)) ∧
    (∃ (d : Directory) (s : State), (s.hawserRuns = true) ∧ (s.ina.leader = true) ∧ (s.ina.nonce = d.nonce) ∧ (s.ina.pendingDir = some d) ∧ (d.switchCycle ≤ s.hws.cycle + 1)) ∧
    (∃ (s : State), (s.ina.pendingDir = none)) ∧
    (∃ (d : Directory) (p : Nat) (s : State), (s.ina.pendingDir = some d) ∧ (s.switchDue d = true) ∧ (s.ownPlace d = some p)) ∧
    (∃ (d : Directory) (s : State), (s.ina.pendingDir = some d) ∧ (s.switchDue d = true) ∧ (s.ownPlace d = none)) ∧
    (∃ (g : Nat) (d : Directory) (s : State), (s.hawserRuns = true) ∧ (s.ina.pendingDir = some d) ∧ (d.generation = g)) ∧
    (∃ (s : State), (s.hawserRuns = true)) ∧
    (∃ (c : Nat) (s : State), (s.hawserRuns = true) ∧ (s.ina.resetCycle = some c) ∧ (c ≤ s.hws.cycle)) ∧
    (∃ (s : State), (s.hawserUp = true)) ∧
    (∃ (s : State), (s.hawserUp = true)) :=
  ⟨⟨(dir3 8 9 20 0), ((ringP 2 1 base).modIna fun x => { x with leader := false, generation := 7 }), by decide +kernel⟩,
   ⟨(dir3 8 9 20 0), ((ringP 2 1 base).modIna fun x => { x with leader := false, generation := 8 }), by decide +kernel⟩,
   ⟨(dir3 8 9 20 6), (dir3 8 9 20 1), ((ringP 2 1 base).modIna fun x => { x with leader := true, nonce := 9, pendingDir := some (dir3 8 9 20 1) }), by decide +kernel⟩,
   ⟨(dir3 8 9 20 7), (((ringP 2 1 base).modIna fun x => { x with leader := true, nonce := 9, pendingDir := some (dir3 8 9 20 7) }).modHws fun h => { h with cycle := 19 }), by decide +kernel⟩,
   ⟨(base.modIna fun x => { x with pendingDir := none }), by decide +kernel⟩,
   ⟨(dir3 8 9 20 7), 2, (((ringP 2 1 base).modIna fun x => { x with leader := false, nonce := 9, pendingDir := some (dir3 8 9 20 7) }).modHws fun h => { h with cycle := 20 }), by decide +kernel⟩,
   ⟨(dir3 8 9 20 7), (((ringP 2 1 base).modIna fun x => { x with leader := false, nonce := 9, grant := none, pendingDir := some (dir3 8 9 20 7) }).modHws fun h => { h with cycle := 20, position := 0 }), by decide +kernel⟩,
   ⟨8, (dir3 8 9 20 7), ((ringP 2 1 base).modIna fun x => { x with pendingDir := some (dir3 8 9 20 7) }), by decide +kernel⟩,
   ⟨(ringP 2 1 base), by decide +kernel⟩,
   ⟨5, ((((ringP 2 1 base).modIna fun x => { x with resetCycle := some 5, leader := true }).modHws fun h => { h with ports := h.ports.map fun (x : HPort) => { x with linkUp := true } }).modHws fun h => { h with cycle := 5 }), by decide +kernel⟩,
   ⟨(run base), by decide +kernel⟩,
   ⟨(run base), by decide +kernel⟩⟩

theorem witness_SegmentsMergeSplitAndTakeIn :
    (∃ (s : State), (s.hawserRuns = true) ∧ (s.ina.st = .running) ∧ (s.inaugurating = false) ∧ (s.ina.merge = none) ∧ (s.ina.leader = true)) ∧
    (∃ (d : Directory) (s : State), (s.hawserRuns = true) ∧ (s.ina.st = .running) ∧ (s.ina.pendingDir = some d) ∧ (s.ina.nonce ≠ d.nonce) ∧ (s.hws.pendingStep = none)) ∧
    (∃ (t0 : Nat) (s : State), (s.hawserRuns = true) ∧ (s.ina.leader = true) ∧ (s.inaugurating = false) ∧ (s.ina.repairAt = some t0)) ∧
    (∃ (s : State), (s.hawserRuns = true) ∧ (s.hws.position ≠ 0) ∧ (s.isMaster = false) ∧ (2 ≤ s.hws.beaconMissed) ∧ (s.deputyOf = true)) ∧
    (∃ (s : State), (s.isMaster = true)) ∧
    (∃ (t0 : Nat) (s : State), (s.hawserRuns = true) ∧ (s.ina.leader = true) ∧ (s.inaugurating = false) ∧ (s.ina.merge = none) ∧ (s.ina.splitAt = some t0)) ∧
    (∃ (r : InaRequest) (s : State), (s.hawserRuns = true) ∧ (s.ina.st = .running) ∧ (s.ina.leader = true) ∧ (r.code = 1) ∧ (s.ina.insertion = none) ∧ (s.inaugurating = false) ∧ (s.hws.switchPending = false) ∧ (r.report.digest = s.modeDigest) ∧ (r.report.twinRunning = true)) ∧
    (∃ (p : Nat) (r : InaRequest) (s : State), (s.hawserRuns = true) ∧ (s.ina.st = .running) ∧ (s.ina.leader = true) ∧ (r.code = 1) ∧ (s.ina.insertion = none) ∧ (s.inaugurating = false) ∧ (s.hws.switchPending = false) ∧ (r.report.digest = s.modeDigest) ∧ (r.report.twinRunning = false) ∧ ((s.insertPlace p r.report).2.1 = true)) ∧
    (∃ (r : InaRequest) (s : State), (s.hawserRuns = true) ∧ (s.ina.st = .running) ∧ (s.ina.leader = true) ∧ (r.code = 1) ∧ (s.ina.insertion = none) ∧ (s.inaugurating = false) ∧ (s.hws.switchPending = false) ∧ (r.report.digest ≠ s.modeDigest) ∧ (r.report.twinRunning = true)) ∧
    (∃ (s : State), (s.hawserRuns = true) ∧ (s.ina.st = .running) ∧ (s.ina.leader = false)) ∧
    (∃ (s : State), (s.hawserRuns = true) ∧ (s.ina.stepA = .requested)) ∧
    (∃ (s : State), (s.hawserRuns = true) ∧ (s.ina.stepA ≠ .requested)) ∧
    (∃ (s : State), (s.hawserRuns = true) ∧ (s.hws.position ≠ 0) ∧ ((s.ina.st = .reintegrating ∨ s.ina.st = .running)) ∧ (2 ≤ s.hws.beaconRun) ∧ ((∃ c : Fin 2, s.ina.admitted[c] = true ∧ s.hws.inSchedule[c] = false ∧ (s.ina.st = .reintegrating ∨ s.hws.leftRaised[c] = true)))) ∧
    (∃ (s : State), ((s.hws.beaconRun < 2 ∨ (s.ina.st ≠ .reintegrating ∧ s.ina.st ≠ .running)))) :=
  ⟨⟨((ringP 2 1 base).modIna fun x => { x with leader := true, phase := .none, pendingDir := none, collect := none, merge := none, nonce := 5, dir := [dirE 1, dirE 2, dirE 3], reports := [] }), by decide +kernel⟩,
   ⟨(dir3 8 9 20 7), ((ringP 2 1 base).modIna fun x => { x with nonce := 3, pendingDir := some (dir3 8 9 20 7) }), by decide +kernel⟩,
   ⟨99, ((ringP 2 1 base).modIna fun x => { x with leader := true, phase := .none, pendingDir := none, collect := none, repairAt := some 99, dir := [dirE 1, dirE 2, dirE 3] }), by decide +kernel⟩,
   ⟨((((ringP 2 1 base).modHws fun h => { h with ports := h.ports.map fun (x : HPort) => { x with linkUp := false, lost := true } }).modIna fun x => { x with dir := [dirE 1, dirE 2, dirE 3], orientation := some false }).modHws fun h => { h with beaconMissed := 2, rx := h.rx.map fun (x : NodeRx) => { x with now := true } }), by decide +kernel⟩,
   ⟨(ringP 1 1 base), by decide +kernel⟩,
   ⟨99, ((ringP 2 1 base).modIna fun x => { x with leader := true, phase := .none, pendingDir := none, collect := none, merge := none, splitAt := some 99, dir := [dirE 1, dirE 2, dirE 3] }), by decide +kernel⟩,
   ⟨⟨1, 0, { (⟨3, true, true, false, false, true, false, [7,0,1,0], [], 5⟩ : Report) with twinRunning := true, digest := (ringP 2 1 base).modeDigest }⟩, (((ringP 2 1 base).modIna fun x => { x with leader := true, phase := .none, pendingDir := none, collect := none, insertion := none }).modHws fun h => { h with switchPending := false }), by (repeat' apply And.intro) <;> first | decide +kernel | rfl | exact fun h => List.cons_ne_self _ _ h⟩,
   ⟨2, ⟨1, 0, { (⟨3, true, true, false, false, true, false, [7,0,1,0], [], 5⟩ : Report) with car := (((ringP 2 1 base)).ownReport 0 false false).car, digest := ((ringP 2 1 base)).modeDigest }⟩, (((ringP 2 1 base).modIna fun x => { x with leader := true, phase := .none, pendingDir := none, collect := none, insertion := none, reports := [], dir := [{ dirE 0 with reserved := true, roleS := false }, dirE 2] }).modHws fun h => { h with switchPending := false }), by (repeat' apply And.intro) <;> first | decide +kernel | rfl | exact fun h => List.cons_ne_self _ _ h⟩,
   ⟨⟨1, 0, { (⟨3, true, true, false, false, true, false, [7,0,1,0], [], 5⟩ : Report) with twinRunning := true, digest := 7 :: (ringP 2 1 base).modeDigest }⟩, (((ringP 2 1 base).modIna fun x => { x with leader := true, phase := .none, pendingDir := none, collect := none, insertion := none }).modHws fun h => { h with switchPending := false }), by (repeat' apply And.intro) <;> first | decide +kernel | rfl | exact fun h => List.cons_ne_self _ _ h⟩,
   ⟨((ringP 2 1 base).modIna fun x => { x with leader := false }), by decide +kernel⟩,
   ⟨((ringP 2 1 base).modIna fun x => { x with stepA := .requested }), by decide +kernel⟩,
   ⟨((ringP 2 1 base).modIna fun x => { x with stepA := .none }), by decide +kernel⟩,
   ⟨(((ringP 2 1 base).modIna fun x => { x with admitted := Vector.replicate 2 true, st := .reintegrating }).modHws fun h => { h with inSchedule := Vector.replicate 2 false, beaconRun := 2 }), by decide +kernel⟩,
   ⟨((ringP 2 1 base).modHws fun h => { h with beaconRun := 1 }), by decide +kernel⟩⟩

theorem witness_SpliceServesItsOwnRequests :
    (∃ (o : Origin) (f : SpliceFrame) (s : State), (s.passes o f = true) ∧ (f.op = 1) ∧ (f.length = 4) ∧ (s.mustHold o f = false) ∧ (s.noPrefetch f.address 4) ∧ let u := s.fabricWrite .splice (some o) f.address (leNat (f.data.take 4)); (u.access.response = .done)) ∧
    (∃ (o : Origin) (f : SpliceFrame) (s : State), (s.passes o f = true) ∧ (f.op = 1) ∧ (s.mustHold o f = true) ∧ (s.noPrefetch f.address f.length)) ∧
    (∃ (a : Nat) (p : Nat) (f : SpliceFrame) (s : State), (s.ownRequest (.udp a p) f = true) ∧ (f.op = 1) ∧ ((f.exclusive = true ∨ frameFits f = false))) ∧
    (∃ (a : Nat) (p : Nat) (f : SpliceFrame) (s : State), (s.ownRequest (.udp a p) f = true) ∧ (f.op = 2) ∧ ((f.exclusive = true ∨ frameFits f = false))) ∧
    (∃ (a : Nat) (p : Nat) (f : SpliceFrame) (s : State), let inHold : State → Prop := fun s => ∀ b : Fin 16, s.spl.bufs[b].st = .ready ∨ s.spl.bufs[b].st = .prefetched → s.now < s.spl.bufs[b].since + ms (cfgSplBufferHold s.params); (s.passes (.udp a p) f = true) ∧ (f.op = 2) ∧ ((∀ b : Fin 16, s.spl.bufs[b].st ≠ .free → s.spl.bufs[b].origin ≠ .udp a p)) ∧ (inHold s)) ∧
    (∃ (a : Nat) (p : Nat) (f : SpliceFrame) (b : Fin 16) (s : State), let inHold : State → Prop := fun s => ∀ b : Fin 16, s.spl.bufs[b].st = .ready ∨ s.spl.bufs[b].st = .prefetched → s.now < s.spl.bufs[b].since + ms (cfgSplBufferHold s.params); (s.passes (.udp a p) f = true) ∧ (f.op = 2) ∧ (s.spl.bufs[b].st = .ready) ∧ (s.spl.bufs[b].origin = .udp a p) ∧ (s.spl.bufs[b].tag = f.tag) ∧ (s.spl.bufs[b].address = f.address) ∧ (s.spl.bufs[b].length = f.length) ∧ (s.spl.bufs[b].status = 0) ∧ (inHold s) ∧ ((∀ c : Fin 16, c ≠ b → s.spl.bufs[c].origin = .udp a p → s.spl.bufs[c].st ≠ .ready))) ∧
    (∃ (b : Fin 16) (s : State), (s.spliceUp = true) ∧ (s.spl.bufs[b].st = .fetching) ∧ (s.holdsFor s.spl.bufs[b].origin = false)) ∧
    (∃ (b : Fin 16) (s : State), (s.spliceUp = true) ∧ (s.configured = true) ∧ (s.spl.bufs[b].st = .ready)) ∧
    (∃ (b : Fin 16) (s : State), (s.holdsFor s.spl.bufs[b].origin = true)) ∧
    (∃ (b : Fin 16) (s : State), (s.spl.bufs[b].st = .free)) :=
  ⟨⟨(.udp 5 6), ⟨1, 1, 7, 0, 0, false, false, 0, 0x02000010, 4, 0, [1, 2, 3, 4]⟩, ((svc base).modSpl fun x => { x with bufs := Vector.replicate 16 ReadBuf.reset }), by unfold State.noPrefetch; decide +kernel⟩,
   ⟨(.udp 5 6), ⟨1, 1, 7, 0, 0, false, false, 0, 0x03032000, 4, 0, [1, 2, 3, 4]⟩, { rule1 base with now := 980000, lastSync := 0 }, by unfold State.noPrefetch; decide +kernel⟩,
   ⟨5, 6, ⟨1, 1, 7, 0, 0, true, false, 0, 0x02000010, 4, 0, [1, 2, 3, 4]⟩, (svc base), by decide +kernel⟩,
   ⟨5, 6, ⟨1, 2, 7, 0, 0, true, false, 0, 0x02000010, 4, 0, []⟩, (svc base), by decide +kernel⟩,
   ⟨5, 6, ⟨1, 2, 7, 0, 0, false, false, 0, 0x02000010, 8, 0, []⟩, ((svc base).modSpl fun x => { x with bufs := Vector.replicate 16 ReadBuf.reset }), by decide +kernel⟩,
   ⟨5, 6, ⟨1, 2, 7, 0, 0, false, false, 0, 0x02000010, 8, 0, []⟩, 15, ((svc base).modSpl fun x => { x with bufs := (Vector.replicate 16 ReadBuf.reset).set 15 ⟨.ready, .udp 5 6, 7, 0x02000010, 8, [1,2,3,4,5,6,7,8], 0, false, 9⟩ }), by decide +kernel⟩,
   ⟨0, ((svc base).modSpl fun x => { x with bufs := (Vector.replicate 16 ReadBuf.reset).set 0 ⟨.fetching, .udp 5 6, 7, 0x02000010, 8, [], 0, false, 9⟩ }), by decide +kernel⟩,
   ⟨3, ((svc base).modSpl fun x => { x with bufs := x.bufs.set 3 ⟨.ready, .udp 5 6, 7, 0x02000010, 8, [], 0, true, 9⟩ }), by decide +kernel⟩,
   ⟨2, (base.modSpl fun x => { x with held := [⟨.udp 5 6, ⟨1, 1, 7, 0, 0, false, false, 0, 0x02000010, 4, 0, [1, 2, 3, 4]⟩⟩], bufs := Vector.replicate 16 { ReadBuf.reset with origin := .udp 5 6 } }), by decide +kernel⟩,
   ⟨2, (base.modSpl fun x => { x with bufs := Vector.replicate 16 ReadBuf.reset }), by decide +kernel⟩⟩

theorem witness_SpliceRelaysAndServicePort :
    (∃ (f : SpliceFrame) (s : State), (s.spliceUp = true) ∧ (s.spl.linkUp = true) ∧ (f.version = 1) ∧ (f.target ≠ 0) ∧ (f.target ≠ s.hws.position) ∧ ((f.op = 1 ∨ f.op = 2)) ∧ ((cfgSplSplFlags s.params).testBit 0 = true) ∧ (s.configured = true) ∧ (s.present f.target = true) ∧ ((∀ n, s.spliceRoom = some n → spliceSize f ≤ n))) ∧
    (∃ (f : SpliceFrame) (r : RelayEntry) (rest : List RelayEntry) (s : State), (s.hawserRuns = true) ∧ (s.spl.linkUp = true) ∧ (f.version = 1) ∧ (s.spl.relays = r :: rest) ∧ (r.isRead = true) ∧ (r.tag = f.tag) ∧ (r.target = f.target)) ∧
    (∃ (s : State), (s.spl.relays = [])) ∧
    (∃ (f : SpliceFrame) (s : State), (s.hawserRuns = true) ∧ (f.version = 1)) ∧
    (∃ (k : Nat) (r : RelayEntry) (s : State), (s.hawserRuns = true) ∧ (s.spl.relays[k]? = some r)) ∧
    (∃ (s : State), (s.spliceUp = true) ∧ (s.spl.linkUp = true)) ∧
    (∃ (a : Nat) (s : State), (a ≠ s.ipAddress)) ∧
    (∃ (s : State), (s.spliceUp = true)) ∧
    (∃ (s : State), (s.hawserUp = true)) ∧
    (∃ (f : SpliceFrame), (f.version ≠ 1)) ∧
    (∃ (from_ : Nat) (sport : Nat) (sum : Nat) (d : List Byte) (f : SpliceFrame) (s : State), (s.spliceUp = true) ∧ (s.spl.linkUp = true) ∧ (spliceOf d = some f) ∧ ((sum = 0 ∨ sum = udpChecksum from_ s.ipAddress sport s.udpPort d))) ∧
    (∃ (a : Nat) (from_ : Nat) (sport : Nat) (dport : Nat) (sum : Nat) (frag : Bool) (d : List Byte) (s : State), ((a ≠ s.ipAddress ∨ dport ≠ s.udpPort ∨ frag = true ∨ (sum ≠ 0 ∧ sum ≠ udpChecksum from_ a sport dport d) ∨ d.length < 16))) ∧
    (∃ (s : State), (s.spl.linkUp = false)) :=
  ⟨⟨⟨1, 1, 7, 3, 0, false, false, 0, 0x02000010, 4, 0, [1, 2, 3, 4]⟩, ((par 0x210000B [1] (par 0x2000020 [0,0,0,4,8,0,8,0,2,2,4,0,4,0,3,3,220,5,220,5] ((ringP 2 1 base).modIna fun x => { x with dir := [dirE 1, dirE 2, dirE 3] }))).modSpl fun x => { x with relays := [], linkUp := true }), by decide +kernel⟩,
   ⟨⟨1, 130, 7, 3, 0, false, false, 0, 0x02000010, 8, 0, [1, 2, 3, 4]⟩, ⟨5, 6, 7, 3, true, 9⟩, [], ((svc base).modSpl fun x => { x with relays := [⟨5, 6, 7, 3, true, 9⟩] }), by decide +kernel⟩,
   ⟨(base.modSpl fun x => { x with relays := [] }), by decide +kernel⟩,
   ⟨⟨1, 129, 7, 3, 0, false, false, 0, 0x02000010, 8, 0, [1, 2, 3, 4]⟩, ((svc base).modSpl fun x => { x with relays := [⟨5, 6, 7, 3, false, 9⟩] }), by decide +kernel⟩,
   ⟨0, ⟨5, 6, 7, 3, true, 9⟩, ((svc base).modSpl fun x => { x with relays := [⟨5, 6, 7, 3, true, 9⟩] }), by decide +kernel⟩,
   ⟨((svc base).modSpl fun x => { x with linkUp := true }), by decide +kernel⟩,
   ⟨5, { base with cfg := { base.cfg with state := 0 } }, by decide +kernel⟩,
   ⟨(svc base), by decide +kernel⟩,
   ⟨(svc base), by decide +kernel⟩,
   ⟨⟨2, 0x82, 7, 3, 0, false, false, 0, 5, 0, 0, []⟩, by decide +kernel⟩,
   ⟨7, 9, 0, [1, 2, 7, 0, 0, 0, 0, 0, 16, 0, 0, 2, 4, 0, 0, 0], ⟨1, 2, 7, 0, 0, false, false, 0, 0x02000010, 4, 0, []⟩, (svc base), by decide +kernel⟩,
   ⟨5, 7, 9, 0, 0, false, [], base, by decide +kernel⟩,
   ⟨(base.modSpl fun x => { x with linkUp := false }), by decide +kernel⟩⟩

theorem witness_AuthLogicDrivesTheGate :
    (∃ (s : State), (s.twn.auth.hold = true) ∧ (s.twn.auth.lapsed = false) ∧ (s.twn.auth.out = false) ∧ (max s.now s.assertAt < s.nextSync)) ∧
    (∃ (s : State), ((s.twn.auth.hold = false ∨ s.twn.auth.lapsed = true ∨ s.twn.auth.out = true ∨ s.nextSync ≤ max s.now s.assertAt))) ∧
    (∃ (s : State), (s.hawserRuns = false) ∧ (s.twn.auth.lapsed = false)) ∧
    (∃ (s : State), (s.twn.auth.out = true)) ∧
    (∃ (s : State), (s.twn.auth.out = false)) ∧
    (∃ (s : State), (s.twn.auth.lapsed = true) ∧ (s.configured = true) ∧ (s.twn.auth.out = false)) ∧
    (∃ (s : State), (s.hawserRuns = true) ∧ (3 < s.twn.run3) ∧ (s.twn.fault3 = false)) ∧
    (∃ (s : State), (s.hawserRuns = true) ∧ (s.twn.run3 ≤ 3) ∧ (3 < s.twn.run4) ∧ (s.twn.fault4 = false)) ∧
    (∃ (s : State), (s.twn.run3 ≤ 3) ∧ (s.twn.run4 ≤ 3)) :=
  ⟨⟨(twp (fun t => { t with auth := { t.auth with hold := true, lapsed := false, out := false, inp := false, releasedAt := 0 } }) { (run base) with lastSync := base.now }), by decide +kernel⟩,
   ⟨(twp (fun t => { t with auth := { t.auth with hold := false } }) (run base)), by decide +kernel⟩,
   ⟨(twp (fun t => { t with auth := { t.auth with lapsed := false, out := true, inp := false } }) { base with islands := Vector.replicate 34 Island.reset }), by decide +kernel⟩,
   ⟨(twp (fun t => { t with auth := { t.auth with out := true } }) (run base)), by decide +kernel⟩,
   ⟨(twp (fun t => { t with auth := { t.auth with out := false } }) (run base)), by decide +kernel⟩,
   ⟨(twp (fun t => { t with auth := { t.auth with lapsed := true, out := false, inp := true, collided := true } }) (run base)), by decide +kernel⟩,
   ⟨(twp (fun t => { t with run3 := 4, fault3 := false }) (run base)), by decide +kernel⟩,
   ⟨(twp (fun t => { t with run3 := 3, run4 := 4, fault4 := false }) (run base)), by decide +kernel⟩,
   ⟨(twp (fun t => { t with run3 := 3, run4 := 3 }) (run base)), by decide +kernel⟩⟩

theorem witness_TwinLinkAndMirrorAreKept :
    (∃ (s : State), (s.hawserUp = true) ∧ (s.twn.phyUp = true) ∧ (s.twn.beatNow = false)) ∧
    (∃ (s : State), (s.twn.beatNow = true)) ∧
    (∃ (s : State), (s.hawserUp = true)) ∧
    (∃ (s : State), (s.hawserRuns = true) ∧ (s.twinPresent = true) ∧ (s.twn.phyUp = true) ∧ (s.drives = false)) ∧
    (∃ (s : State), (s.drives = true)) ∧
    (∃ (i : Fin 16) (a : Fin 3) (r : AxisRecord) (s : State), (s.hawserRuns = true) ∧ (s.twinPresent = true) ∧ (s.drives = false) ∧ (s.twn.foreign = false) ∧ (s.channelStands .hawser ⟨i.val, by omega⟩ = false) ∧ (r.axis = 3 * i.val + a.val)) ∧
    (∃ (i : Fin 16) (a : Fin 3) (s : State) (c : Catch), (s.sliceRuns i = true) ∧ (s.slices[i].catchReady (s.env i) a = true) ∧ ((s.env i).geared a = false) ∧ (s.slices[i].axes[a].m.catching = some c)) ∧
    (∃ (i : Fin 16) (a : Fin 3) (s : State), (s.slices[i].catchReady (s.env i) a = false)) ∧
    (∃ (t0 : Nat) (s : State), (s.hawserRuns = true) ∧ (s.twn.swapAt = some t0)) ∧
    (∃ (s : State), (s.twn.swapAt = none)) ∧
    (∃ (s : State), (s.hawserUp = true)) :=
  ⟨⟨(twp (fun t => { t with phyUp := true, beatNow := false, link := false, valid := 2 }) (run base)), by decide +kernel⟩,
   ⟨(twp (fun t => { t with beatNow := true }) (run base)), by decide +kernel⟩,
   ⟨(twp (fun t => { t with link := true }) (run base)), by decide +kernel⟩,
   ⟨(twp (fun t => { t with phyUp := true, hitch := false, layer := 0 }) (par 0x4000000 [1] (run base))), by decide +kernel⟩,
   ⟨(twp (fun t => { t with hitch := true }) (run base)), by decide +kernel⟩,
   ⟨3, 2, ⟨11, true, 0, ⟨1,2,3,4,5,6,7⟩, Vector.replicate 128 EnvBin.reset⟩, (twp (fun t => { t with hitch := false, layer := 0, foreign := false }) (par 0x4000000 [1] (run base))), by decide +kernel⟩,
   ⟨0, 1, (sl (fun x => (x.modM 1 fun m => { m with catching := some ⟨-5, 77, true, 3, [⟨1, 1, false, false⟩], true⟩ }).modD 1 fun d => { d with mode := .free, wanted := some .strong, isolators := true, readback := true }) (calm (twp (fun t => { t with auth := { t.auth with readback := true, inp := false } }) (run base)))), ⟨-5, 77, true, 3, [⟨1, 1, false, false⟩], true⟩, by decide +kernel⟩,
   ⟨0, 1, (sl (fun x => x.modM 1 fun m => { m with catching := none }) base), by decide +kernel⟩,
   ⟨77, (twp (fun t => { t with swapAt := some 77 }) (run base)), by decide +kernel⟩,
   ⟨(twp (fun t => { t with swapAt := none }) (run base)), by decide +kernel⟩,
   ⟨(run base), by decide +kernel⟩⟩

theorem witness_LoaderRunsToItsVerdict :
    (∃ (k : Nat) (e : JournalEntry) (s : State), (s.start.stage = .booted) ∧ (s.plug.present = true) ∧ (journalInForce s.plug.nor = some (k, e))) ∧
    (∃ (s : State), (s.start.stage = .booted) ∧ (s.plug.present = false)) ∧
    (∃ (s : State), (s.start.stage ≠ .booted)) ∧
    (∃ (s : State), (s.mssUp = true) ∧ (2 ≤ s.cfg.state)) ∧
    (∃ (s : State), (s.plug.present = false)) ∧
    (∃ (s : State), (s.plug.present = true)) :=
  ⟨⟨0, (je 0 1), ({ base with plug := { base.plug with present := true, nor := memSetBytes norDefault [] (journalAt 0) ((je 0 1)).bytes } }.modStart fun x => { x with stage := .booted }), by decide +kernel⟩,
   ⟨((base.modStart fun x => { x with stage := .booted }) |> fun s => { s with plug := { s.plug with present := false } }), by decide +kernel⟩,
   ⟨(base.modStart fun x => { x with stage := .running }), by decide +kernel⟩,
   ⟨(cfgd id base), by decide +kernel⟩,
   ⟨{ base with plug := { base.plug with present := false } }, by decide +kernel⟩,
   ⟨{ base with plug := { base.plug with present := true } }, by decide +kernel⟩⟩

theorem witness_SlotCommandsAndProbation :
    (∃ (s : State), (s.cfgReady = true)) ∧
    (∃ (s : State), (s.cfgReady = false)) ∧
    (∃ (i : Fin 4) (s : State), (s.cfg.busy = .checkSlot i.val)) ∧
    (∃ (e : JournalEntry) (s : State), (s.cfgReady = true) ∧ (s.cfg.entry = some e)) ∧
    (∃ (e : JournalEntry) (s : State), (s.cfgReady = true) ∧ (s.cfg.entry = some e)) ∧
    (∃ (i : Fin 4) (s : State), (s.cfg.busy = .eraseSlot i.val) ∧ (s.plug.present = true)) ∧
    (∃ (s : State), (s.cfg.busy = .none)) ∧
    (∃ (e : JournalEntry) (s : State), (s.mssUp = true) ∧ (s.onProbation = true) ∧ (s.cfg.entry = some e) ∧ (s.plug.present = true) ∧ (cfgRoleProbationMode s.params = 1) ∧ (s.twn.hitch = false) ∧ (cfgRoleProbationLimit s.params ≤ s.cfg.progress)) ∧
    (∃ (k : Fin 6) (e : JournalEntry) (s : State), (s.mssUp = true) ∧ (s.failsProbation = true) ∧ (s.hasCause k = true) ∧ (s.cfg.entry = some e) ∧ (s.plug.present = true) ∧ ((cfgRoleProbationTriggers s.params).testBit k.val = true) ∧ (e.previous ≠ 0xFF)) :=
  ⟨⟨(cfgd (fun c => { c with state := 2 }) base), by decide +kernel⟩,
   ⟨(cfgd (fun c => { c with state := 0 }) base), by decide +kernel⟩,
   ⟨2, (cfgd (fun c => { c with busy := .checkSlot 2 }) base), by decide +kernel⟩,
   ⟨(je 1 1), (cfgd (fun c => { c with entry := some (je 1 1) }) base), by decide +kernel⟩,
   ⟨(je 0 1), (cfgd (fun c => { c with returnPending := true }) base), by decide +kernel⟩,
   ⟨3, (cfgd (fun c => { c with busy := .eraseSlot 3 }) base), by decide +kernel⟩,
   ⟨(cfgd (fun c => { c with busy := .none }) base), by decide +kernel⟩,
   ⟨(je 1 1), (twp (fun t => { t with hitch := false }) (par 0x100004 [1] (cfgd (fun c => { c with entry := some (je 1 1), progress := 4294967295 }) base))), by decide +kernel⟩,
   ⟨2, (je 1 1), ((fun (s : State) => { s with dq := { s.dq with causes := 63 } }) (par 0x100006 [63] (cfgd (fun c => { c with entry := some (je 1 1), healthLost := true }) base))), by decide +kernel⟩⟩

theorem witness_FirmwareBanksAreStagedAndTried :
    (∃ (s : State), (s.mssUp = true) ∧ (s.mss.staging.open_ = false) ∧ (s.mss.trial = false)) ∧
    (∃ (s : State), (s.mssUp = true) ∧ (s.mss.staging.open_ = false) ∧ (s.mss.trial = true)) ∧
    (∃ (s : State), (s.mssUp = true) ∧ (s.mss.staging.open_ = false) ∧ (s.loads = false)) ∧
    (∃ (s : State), (s.mssUp = true) ∧ (s.loads = true)) ∧
    (∃ (n : Nat) (s : State), (s.mssUp = true) ∧ (s.mss.busy = .none) ∧ (s.mss.recovery = false) ∧ (s.mss.staging.open_ = true) ∧ ((s.mss.staging.target < 2 ∨ s.loads = false)) ∧ (0 < n) ∧ (n ≤ 65536)) ∧
    (∃ (n : Nat) (s : State), (s.mss.busy = .commit n) ∧ (s.mss.staging.target = 1)) ∧
    (∃ (s : State), (s.mssUp = true) ∧ (s.mss.busy = .none) ∧ (s.mss.recovery = false) ∧ (s.mss.staging.open_ = true) ∧ (s.mss.staging.target = 1)) ∧
    (∃ (s : State), (s.mssUp = true) ∧ (s.mss.busy = .none) ∧ (s.mss.recovery = false)) ∧
    (∃ (s : State), (s.mss.busy = .checkBank)) ∧
    (∃ (s : State), (s.mssUp = true) ∧ (s.mss.busy = .none) ∧ (s.mss.recovery = false)) ∧
    (∃ (t0 : Nat) (s : State), (s.trialRuns = true) ∧ (s.mss.confirmFrom = some t0)) ∧
    (∃ (s : State), (s.mss.confirmFrom = none)) ∧
    (∃ (s : State), (s.mssUp = true) ∧ (s.mss.busy = .none) ∧ (s.mss.recovery = false)) ∧
    (∃ (s : State), (s.mssUp = true)) :=
  ⟨⟨(msm (fun m => { m with staging := ⟨0, false, 0, 0, 0⟩, trial := false }) base), by decide +kernel⟩,
   ⟨(msm (fun m => { m with staging := ⟨0, false, 0, 0, 0⟩, trial := true }) base), by decide +kernel⟩,
   ⟨(cfgd id (msm (fun m => { m with staging := ⟨0, false, 0, 0, 0⟩ }) base)), by decide +kernel⟩,
   ⟨(stm (fun x => { x with stage := .loading }) base), by decide +kernel⟩,
   ⟨65536, (msm (fun m => { m with staging := ⟨1, true, 1, 0, 0⟩ }) base), by decide +kernel⟩,
   ⟨70, (msm (fun m => { m with staging := ⟨1, true, 1, 0, 65536⟩, busy := .commit 70 }) base), by decide +kernel⟩,
   ⟨(msm (fun m => { m with staging := ⟨1, true, 1, 0, 0⟩ }) base), by decide +kernel⟩,
   ⟨(msm (fun m => { m with busy := .none }) base), by decide +kernel⟩,
   ⟨(msm (fun m => { m with busy := .checkBank }) base), by decide +kernel⟩,
   ⟨((msm (fun m => { m with busy := .none }) base).modBank true fun b => { b with checked := true }), by decide +kernel⟩,
   ⟨7, ((twp (fun t => { t with hitch := true }) (msm (fun m => { m with trial := true, trialOver := false, confirmFrom := some 7 }) base))), by decide +kernel⟩,
   ⟨(msm (fun m => { m with confirmFrom := none }) base), by decide +kernel⟩,
   ⟨(twp (fun t => { t with hitch := false, layer := 0 }) (msm (fun m => { m with busy := .none }) base)), by decide +kernel⟩,
   ⟨(msm (fun m => { m with busy := .none }) base), by decide +kernel⟩⟩

theorem witness_KeysSensorsAndTimeAreServed :
    (∃ (k : Anchor) (n : List Byte) (t0 : Nat) (s : State), (s.mssUp = true) ∧ (s.mss.busy = .none) ∧ (s.mss.recovery = false) ∧ (s.ownerKey = some k) ∧ (s.windowBytes 0 4 = [0x48, 0x56, 0x4F, 0x43]) ∧ (leNat (s.windowBytes 4 1) = 3) ∧ (leNat (s.windowBytes 6 2) ≤ 8192) ∧ (leNat (s.windowBytes 5 1) + 1 = s.mss.owners.length) ∧ (s.mss.nonce = some (n, t0)) ∧ (n = s.windowBytes 8 32) ∧ (s.now ≤ t0 + 300000000000)) ∧
    (∃ (k : Anchor) (s : State), (s.mssUp = true) ∧ (s.mss.busy = .none) ∧ (s.mss.recovery = false) ∧ (s.ownerKey = some k) ∧ (s.windowBytes 0 4 = [0x48, 0x56, 0x4F, 0x43]) ∧ (1 ≤ leNat (s.windowBytes 4 1)) ∧ (leNat (s.windowBytes 4 1) ≤ 4) ∧ (leNat (s.windowBytes 6 2) ≤ 8192) ∧ (leNat (s.windowBytes 5 1) + 1 ≠ s.mss.owners.length)) ∧
    (∃ (s : State), (s.mssUp = true) ∧ (s.mss.busy = .none) ∧ (s.mss.recovery = false)) ∧
    (∃ (ch : List Byte) (q : Nat) (s : State), (s.mss.busy = .attest ch) ∧ (s.mss.attest = some q)) ∧
    (∃ (s : State), (s.mssUp = true) ∧ (s.mss.busy = .none) ∧ (s.mss.recovery = false)) ∧
    (∃ (key : List Byte) (s : State), (s.mss.busy = .enrol key)) ∧
    (∃ (s : State), (s.mss.busy = .none)) ∧
    (∃ (fr : List Byte) (s : State), (s.mssUp = true) ∧ (s.mss.busy = .none) ∧ (s.mss.recovery = false) ∧ (fr.length = 32) ∧ (Memory.wf ramDefault s.mss.window = true)) ∧
    (∃ (x : List Byte × Nat) (s : State), (s.mss.nonce = some x)) ∧
    (∃ (s : State), (s.mss.nonce = none)) ∧
    (∃ (s : State), (s.mssUp = true)) ∧
    (∃ (s : State), (s.mssUp = true)) :=
  ⟨⟨⟨List.replicate 32 1, List.replicate 1952 2⟩, (List.replicate 32 7), 5, (msm (fun m => { m with owners := [⟨List.replicate 32 1, List.replicate 1952 2⟩], window := (memSetBytes ramDefault [] 0 ([0x48, 0x56, 0x4F, 0x43, 3, 0, 0, 0] ++ List.replicate 32 7)), nonce := some (List.replicate 32 7, 5) }) base), by decide +kernel⟩,
   ⟨⟨List.replicate 32 1, List.replicate 1952 2⟩, (msm (fun m => { m with owners := [⟨List.replicate 32 1, List.replicate 1952 2⟩], window := (memSetBytes ramDefault [] 0 ([0x48, 0x56, 0x4F, 0x43, 1, 3, 0, 0] ++ List.replicate 32 7)) }) base), by decide +kernel⟩,
   ⟨(msm (fun m => { m with attest := none }) base), by decide +kernel⟩,
   ⟨[1,2], 5, (msm (fun m => { m with busy := .attest [1,2], attest := some 5 }) base), by decide +kernel⟩,
   ⟨(msm (fun m => { m with owners := [] }) base), by decide +kernel⟩,
   ⟨[1,2,3], (msm (fun m => { m with busy := .enrol [1,2,3] }) base), by decide +kernel⟩,
   ⟨(msm (fun m => { m with busy := .none }) base), by decide +kernel⟩,
   ⟨(List.replicate 32 7), (msm (fun m => { m with window := [] }) base), by decide +kernel⟩,
   ⟨([1,2], 77), (msm (fun m => { m with nonce := some ([1,2], 77) }) base), by decide +kernel⟩,
   ⟨(msm (fun m => { m with nonce := none }) base), by decide +kernel⟩,
   ⟨(msm (fun m => { m with busy := .none }) base), by decide +kernel⟩,
   ⟨(run base), by decide +kernel⟩⟩

theorem witness_RecorderTakesAndFlushes :
    (∃ (q : Fin 18) (x : Intake) (rest : List Intake) (s : State), (s.takes = true) ∧ (s.nextQueue = some q) ∧ ((s.intake q).entries = x :: rest) ∧ (x.kind = 1) ∧ (s.log.fill + 64 ≤ bufferSize)) ∧
    (∃ (s : State), (s.takes = false)) ∧
    (∃ (tr : Nat) (s : State), (s.mssUp = true) ∧ (s.log.flushNext = some tr) ∧ (s.log.flush = none)) ∧
    (∃ (s : State), (s.log.flushNext = none)) ∧
    (∃ (s : State), (s.mssUp = true) ∧ (s.log.recording = true)) ∧
    (∃ (s : State), (s.mssUp = true)) ∧
    (∃ (bad : Nat) (f : Flush) (s : State), (s.mssUp = true) ∧ (s.log.flush = some f) ∧ (s.log.buffer.Pairwise (fun a b => a.seq ≤ b.seq)) ∧ (s.log.ledgerFailed = false) ∧ (s.log.journalFailed = false) ∧ (s.log.ledgerFull = false) ∧ (s.log.journalFull = false) ∧ let due := s.log.buffer.filter fun r => decide (r.seq ≤ f.upTo); ((s.log.ledger.length + (due.filter fun r => r.ledger).length < (262144 - min 262144 (s.log.badBlocks + bad)) * 64 * 16)) ∧ ((s.log.journal.length + (due.filter fun r => !r.ledger).length < journalCapacity))) ∧
    (∃ (s : State), (s.log.flush = none)) ∧
    (∃ (s : State), (s.mssUp = true) ∧ ((s.start.warning = true ∨ s.start.lost = true))) ∧
    (∃ (s : State), (s.mssUp = true) ∧ (s.log.recording = false) ∧ (s.log.control.valid = true)) ∧
    (∃ (s : State), (s.mssUp = true) ∧ (s.log.recording = false)) ∧
    (∃ (b : List Byte) (s : State), (s.takes = true) ∧ (b.length = 64) ∧ (crcGood b = true) ∧ (s.log.fill + 64 ≤ bufferSize)) ∧
    (∃ (b : List Byte) (s : State), ((s.takes = false ∨ crcGood b = false))) ∧
    (∃ (s : State), (s.mssUp = true) ∧ (s.log.recording = false) ∧ (s.log.control.valid = false)) ∧
    (∃ (q : Fin 18) (x : Intake) (rest : List Intake) (s : State), (s.takes = true) ∧ (s.nextQueue = some q) ∧ ((s.intake q).entries = x :: rest) ∧ (x.kind = 2) ∧ (s.log.ledgerFailed = false) ∧ (s.log.fill + 256 ≤ bufferSize)) ∧
    (∃ (q : Fin 18) (a : Fin 48) (r : AxisRecord) (x : Intake) (rest : List Intake) (s : State), (s.takes = true) ∧ (s.nextQueue = some q) ∧ ((s.intake q).entries = x :: rest) ∧ (x.kind = 3) ∧ (x.axis = some r) ∧ (r.axis = a.val) ∧ (s.log.journalFailed = false) ∧ (s.log.fill ≤ bufferSize)) ∧
    (∃ (q : Fin 18) (x : Intake) (s : State), ((q.val < 16 → q.val < s.sliceCount)) ∧ ((s.intake q).entries.length < 32) ∧ (x.kind = 3)) :=
  ⟨⟨3, ⟨1, 5, 0, 0, 0, false, 0, [], none⟩, [], ((lgm (fun l => { l with buffer := [], turn := 0 }) base).setIntake 3 ⟨[⟨1, 5, 0, 0, 0, false, 0, [], none⟩], 0, [], 0⟩), by decide +kernel⟩,
   ⟨(lgm (fun l => { l with recording := false }) base), by decide +kernel⟩,
   ⟨3, (lgm (fun l => { l with flushNext := some 3, flush := none }) base), by decide +kernel⟩,
   ⟨(lgm (fun l => { l with flushNext := none }) base), by decide +kernel⟩,
   ⟨(lgm (fun l => { l with lastFlush := 9 }) base), by decide +kernel⟩,
   ⟨(lgm (fun l => { l with lastFlush := 9 }) base), by decide +kernel⟩,
   ⟨2, ⟨3, 5, 7⟩, (lgm (fun l => { l with flush := some ⟨3, 5, 7⟩, badBlocks := 0, buffer := [⟨6, true, 0, List.replicate 64 5⟩, ⟨7, false, 0, List.replicate 64 5⟩, ⟨8, false, 0, List.replicate 64 5⟩] }) base), by decide +kernel⟩,
   ⟨(lgm (fun l => { l with flush := none }) base), by decide +kernel⟩,
   ⟨(stm (fun x => { x with warning := true, warningAt := 5 }) base), by decide +kernel⟩,
   ⟨(lgm (fun l => { l with recording := false, controls := l.controls.map fun (c : ControlArea) => { c with valid := true, flushState := .running } }) base), by decide +kernel⟩,
   ⟨(lgm (fun l => { l with recording := false, buffer := [⟨6, true, 0, List.replicate 64 5⟩, ⟨7, false, 0, List.replicate 64 5⟩] }) base), by decide +kernel⟩,
   ⟨(leBytes 4 9 ++ List.replicate 56 0 ++ leBytes 4 (crc32c (leBytes 4 9 ++ List.replicate 56 0))), (lgm (fun l => { l with buffer := [] }) base), by decide +kernel⟩,
   ⟨(leBytes 4 9 ++ List.replicate 56 0 ++ leBytes 4 (crc32c (leBytes 4 9 ++ List.replicate 56 0))), (lgm (fun l => { l with recording := false }) base), by decide +kernel⟩,
   ⟨(lgm (fun l => { l with recording := false, controls := l.controls.map fun (c : ControlArea) => { c with valid := false } }) base), by decide +kernel⟩,
   ⟨3, ⟨2, 3, 0, 0, 0, false, 0, [7, 8], none⟩, [], ((lgm (fun l => { l with buffer := [], turn := 3, ledgerFailed := false, journalFailed := false }) base).setIntake 3 ⟨[⟨2, 3, 0, 0, 0, false, 0, [7, 8], none⟩], 0, [], 0⟩), by decide +kernel⟩,
   ⟨3, 47, ⟨47, true, 0, Drive.reset.teach, Drive.reset.env⟩, ⟨3, 0, 47, 0, 0, false, 0, [], some ⟨47, true, 0, Drive.reset.teach, Drive.reset.env⟩⟩, [], ((lgm (fun l => { l with buffer := [], turn := 3, ledgerFailed := false, journalFailed := false }) base).setIntake 3 ⟨[⟨3, 0, 47, 0, 0, false, 0, [], some ⟨47, true, 0, Drive.reset.teach, Drive.reset.env⟩⟩], 0, [], 0⟩), by decide +kernel⟩,
   ⟨0, ⟨3, 0, 0, 0, 0, false, 0, [], none⟩, (base.setIntake 0 ⟨[], 4, [], 0⟩), by decide +kernel⟩⟩

theorem witness_RecorderStoresAreReadAndFail :
    (∃ (s : State), (s.mssUp = true)) ∧
    (∃ (s : State), (s.mssUp = true)) ∧
    (∃ (h : Fin 4) (s : State), (s.mssUp = true) ∧ (s.log.handles[h].waiting = true) ∧ (s.log.handles[h].open_ = true)) ∧
    (∃ (h : Fin 4) (s : State), (s.mssUp = true) ∧ (s.log.handles[h].waiting = true) ∧ (s.log.handles[h].open_ = false)) ∧
    (∃ (h : Fin 4) (s : State), (s.log.handles[h].waiting = false)) ∧
    (∃ (s : State), (s.mssUp = true)) ∧
    (∃ (s : State), (s.mssUp = true) ∧ (s.log.ledgerFailed = false) ∧ (s.log.journalFailed = false)) ∧
    (∃ (s : State), (s.mssUp = true) ∧ (s.log.ledgerFailed = true) ∧ (s.log.journalFailed = false)) :=
  ⟨⟨(lgm (fun l => { l with journal := [⟨6, false, 0, List.replicate 64 5⟩], ledger := [⟨7, true, 0, List.replicate 64 5⟩] }) base), by decide +kernel⟩,
   ⟨(lgm (fun l => { l with journal := [⟨6, false, 0, List.replicate 64 5⟩], ledger := [⟨7, true, 0, List.replicate 64 5⟩] }) base), by decide +kernel⟩,
   ⟨1, ((lgm (fun l => { l with journal := [⟨6, false, 0, List.replicate 64 5⟩], ledger := [⟨7, true, 0, List.replicate 64 5⟩] }) base).modHandle 1 fun x => { x with waiting := true, open_ := true, select := 268435456, journal := 1 }), by decide +kernel⟩,
   ⟨1, ((lgm (fun l => { l with journal := [⟨6, false, 0, List.replicate 64 5⟩], ledger := [⟨7, true, 0, List.replicate 64 5⟩] }) base).modHandle 1 fun x => { x with waiting := true, open_ := false }), by decide +kernel⟩,
   ⟨1, ((lgm (fun l => { l with journal := [⟨6, false, 0, List.replicate 64 5⟩], ledger := [⟨7, true, 0, List.replicate 64 5⟩] }) base).modHandle 1 fun x => { x with waiting := false }), by decide +kernel⟩,
   ⟨(lgm (fun l => { l with journal := [⟨6, false, 0, List.replicate 64 5⟩], ledger := [⟨7, true, 0, List.replicate 64 5⟩] }) base), by decide +kernel⟩,
   ⟨(lgm (fun l => { l with journal := [⟨6, false, 0, List.replicate 64 5⟩], ledger := [⟨7, true, 0, List.replicate 64 5⟩] }) base), by decide +kernel⟩,
   ⟨(lgm (fun l => { l with ledgerFailed := true, journalFailed := false }) base), by decide +kernel⟩⟩

theorem witness_StartRunsToTheHandover :
    (∃ (dv : Nat) (s : State), (168 ≤ dv) ∧ (s.start.stage = .off)) ∧
    (∃ (dv : Nat) (s : State), (dv < 168 ∨ s.start.stage ≠ .off)) ∧
    (∃ (s : State), (s.start.stage = .qualified)) ∧
    (∃ (s : State), (s.start.stage ≠ .qualified)) ∧
    (∃ (p : Mem) (v : Nat) (dg : List Byte) (s : State), (s.start.stage = .loading) ∧ (s.cfg.outcome = 2 ∨ s.cfg.outcome = 3) ∧ (s.cfg.loaded = some (p, v, dg))) ∧
    (∃ (s : State), (s.start.stage = .loading) ∧ (s.cfg.outcome = 4)) ∧
    (∃ (s : State), (s.start.stage ≠ .loading)) :=
  ⟨⟨168, State.reset, by decide +kernel⟩,
   ⟨167, base, by decide +kernel⟩,
   ⟨((stm (fun x => { x with stage := .qualified }) base).modMss fun m => { m with boot := { m.boot with trialNamed := true, trialStarted := true } }), by decide +kernel⟩,
   ⟨(stm (fun x => { x with stage := .running }) base), by decide +kernel⟩,
   ⟨[(0, 5)], 7, [1], ((stm (fun x => { x with stage := .loading }) base).modCfg fun c => { c with outcome := 2, slot := 0, loaded := some ([(0, 5)], 7, [1]), loadEvents := [(1, 5), (0, 1)] }), by decide +kernel⟩,
   ⟨((stm (fun x => { x with stage := .loading }) base).modCfg fun c => { c with outcome := 4, loadEvents := [(3, 1), (1, 1), (0, 2)] }), by decide +kernel⟩,
   ⟨(stm (fun x => { x with stage := .running }) base), by decide +kernel⟩⟩

theorem witness_ResetIslandsLoseTheirBlocksOnly :
    (∃ (k : Fin 34) (c : Instr) (cause : Nat) (s : State), (s.islands[k].running = true) ∧ (s.start.stage = .running) ∧ (((c = .islandBrownOut k ∧ cause = 1) ∨ (c = .islandSupervisorReset k ∧ k.val < 16 ∧ cause = 3) ∨ (c = .islandSupervisorReset k ∧ k.val = 32 ∧ cause = 2) ∨ (c = .lockstepMismatch ∧ k.val = 33 ∧ cause = 2) ∨ (c = .mssWatchdogExpiry ∧ k.val = 33 ∧ cause = 3) ∨ (c = .eccError true ∧ k.val = 33 ∧ cause = 4)))) ∧
    (∃ (k : Fin 34) (s : State), (s.islands[k].running = false)) ∧
    (∃ (k : Fin 34) (s : State), (s.islands[k].running = true) ∧ (s.start.stage = .booted ∨ s.start.stage = .loading)) ∧
    (∃ (s : State), (s.mssUp = true)) ∧
    (∃ (k : Fin 34) (s : State), (s.islands[k].running = true ∨ s.islands[k].downAt = none ∨ s.start.stage = .off)) ∧
    (∃ (k : Fin 34) (at_ : Nat) (s : State), (s.islands[k].running = false) ∧ (s.islands[k].downAt = some at_) ∧ (s.start.stage ≠ .off) ∧ (s.hasIsland k = true)) :=
  ⟨⟨5, (.islandBrownOut 5), 1, (run base), by decide +kernel⟩,
   ⟨33, (down 33 (run base)), by decide +kernel⟩,
   ⟨33, (stm (fun x => { x with stage := .booted }) base), by decide +kernel⟩,
   ⟨(run base), by decide +kernel⟩,
   ⟨4, (run base), by decide +kernel⟩,
   ⟨0, 5, (down 0 (run base)), by decide +kernel⟩⟩

theorem witness_SupplyLossRunsItsOrder :
    (∃ (dv : Nat) (s : State), (s.start.qualified = true) ∧ (s.start.warning = false) ∧ (dv < 168)) ∧
    (∃ (dv : Nat) (s : State), (s.start.qualified = false ∨ s.start.warning = true ∨ 168 ≤ dv)) ∧
    (∃ (dv : Nat) (s : State), (s.start.warning = true) ∧ (s.start.lost = false) ∧ (168 ≤ dv)) ∧
    (∃ (dv : Nat) (s : State), (s.start.warning = false ∨ s.start.lost = true ∨ dv < 168)) ∧
    (∃ (s : State), (s.start.warning = true) ∧ (s.start.lost = false) ∧ (s.start.stage = .running ∨ s.start.stage = .unconfigured)) ∧
    (∃ (s : State), (s.start.warning = true) ∧ (s.start.lost = false) ∧ (s.start.stage ≠ .running) ∧ (s.start.stage ≠ .unconfigured)) ∧
    (∃ (s : State), (s.start.warning = false ∨ s.start.lost = true)) ∧
    (∃ (s : State), (s.start.released = false) ∧ ((s.start.lost = true ∨ (s.start.commanded = true ∧ s.flushed = true)))) ∧
    (∃ (s : State), (s.start.released = true ∨ (s.start.lost = false ∧ (s.start.commanded = false ∨ s.flushed = false)))) ∧
    (∃ (s : State), (s.start.released = true)) ∧
    (∃ (s : State), (s.start.released = false)) :=
  ⟨⟨167, (stm (fun x => { x with qualified := true, warning := false, lost := false, commanded := false, released := false, releasedAt := 9, warningAt := 7, stage := .running }) base), by decide +kernel⟩,
   ⟨167, (stm (fun x => { x with qualified := true, warning := true, lost := false, commanded := false, released := false, releasedAt := 9, warningAt := 7, stage := .running }) base), by decide +kernel⟩,
   ⟨168, (stm (fun x => { x with qualified := true, warning := true, lost := false, commanded := false, released := false, releasedAt := 9, warningAt := 7, stage := .running }) base), by decide +kernel⟩,
   ⟨168, (stm (fun x => { x with qualified := true, warning := false, lost := false, commanded := false, released := false, releasedAt := 9, warningAt := 7, stage := .running }) base), by decide +kernel⟩,
   ⟨(stm (fun x => { x with qualified := true, warning := true, lost := false, commanded := false, released := false, releasedAt := 9, warningAt := 7, stage := .running }) base), by decide +kernel⟩,
   ⟨(stm (fun x => { x with qualified := true, warning := true, lost := false, commanded := false, released := false, releasedAt := 9, warningAt := 7, stage := .loading }) base), by decide +kernel⟩,
   ⟨(stm (fun x => { x with qualified := true, warning := false, lost := false, commanded := false, released := false, releasedAt := 9, warningAt := 7, stage := .running }) base), by decide +kernel⟩,
   ⟨(stm (fun x => { x with qualified := true, warning := true, lost := true, commanded := false, released := false, releasedAt := 9, warningAt := 7, stage := .running }) base), by decide +kernel⟩,
   ⟨(stm (fun x => { x with qualified := true, warning := true, lost := true, commanded := false, released := true, releasedAt := 9, warningAt := 7, stage := .running }) base), by decide +kernel⟩,
   ⟨(stm (fun x => { x with qualified := true, warning := true, lost := true, commanded := false, released := true, releasedAt := 9, warningAt := 7, stage := .running }) base), by decide +kernel⟩,
   ⟨(stm (fun x => { x with qualified := true, warning := true, lost := true, commanded := false, released := false, releasedAt := 9, warningAt := 7, stage := .running }) base), by decide +kernel⟩⟩

theorem witness_EventsAreDeliveredAndPopped :
    (∃ (q : Fin 18) (x : Ev) (rest : List Ev) (s : State), ((s.intake q).undelivered = x :: rest) ∧ (s.hawserUp = true) ∧ (s.eventChannel q = true)) ∧
    (∃ (q : Fin 18) (x : Ev) (rest : List Ev) (s : State), ((s.intake q).undelivered = x :: rest) ∧ ((s.hawserUp = false ∨ s.eventChannel q = false))) ∧
    (∃ (q : Fin 18) (s : State), ((s.intake q).undelivered = [])) ∧
    (∃ (s : State), (s.mssUp = true) ∧ (s.windowStalled .mss .node = false)) ∧
    (∃ (i : Fin 16) (s : State), (s.mssUp = true) ∧ (s.windowStalled .mss (.slice i) = false) ∧ (i.val < s.sliceCount)) ∧
    (∃ (a : Nat) (s : State), (s.mssUp = true) ∧ (a % 4 ≠ 0)) ∧
    (∃ (a : Nat) (s : State), (s.mssUp = true) ∧ (a % 4 = 0) ∧ (s.window a = none)) ∧
    (∃ (a : Nat) (off : Nat) (w : Block) (s : State), (s.mssUp = true) ∧ (a % 4 = 0) ∧ (s.window a = some (w, off))) ∧
    (∃ (s : State), (s.mssUp = false)) ∧
    (∃ (s : State), (s.mssUp = true) ∧ (s.windowStalled .mss .node = true)) :=
  ⟨⟨3, ⟨37, 1, 2, 3⟩, [], (((run base).setIntake 3 ⟨[], 0, [⟨37, 1, 2, 3⟩], 0⟩) |> fun (s : State) => { s with node := { s.node with local_ := List.replicate 63 ⟨1,2,3,4⟩ } }), by decide +kernel⟩,
   ⟨3, ⟨37, 1, 2, 3⟩, [], { (((run base).setIntake 3 ⟨[], 0, [⟨37, 1, 2, 3⟩], 0⟩) |> fun (s : State) => { s with node := { s.node with local_ := List.replicate 0 ⟨1,2,3,4⟩ } }) with stalled := [⟨.slice 3, 32⟩] }, by decide +kernel⟩,
   ⟨3, ((run base).setIntake 3 ⟨[], 0, [], 0⟩), by decide +kernel⟩,
   ⟨(((run base).setIntake 3 ⟨[], 0, [⟨37, 1, 2, 3⟩], 0⟩) |> fun (s : State) => { s with node := { s.node with local_ := List.replicate 0 ⟨1,2,3,4⟩ } }), by decide +kernel⟩,
   ⟨0, (run base), by decide +kernel⟩,
   ⟨1, (run base), by decide +kernel⟩,
   ⟨0x00200000, (run base), by decide +kernel⟩,
   ⟨0xFF000, 0xFF000, .node, (run base), by decide +kernel⟩,
   ⟨(down 33 (run base)), by decide +kernel⟩,
   ⟨(down 32 (run base)), by decide +kernel⟩⟩

theorem witness_SyncPointSwitchesTheRegions :
    (∃ (r : Region), (r.completed = true)) ∧
    (∃ (r : Region), (r.completed = false)) ∧
    (∃ (n : Int), (1 ≤ n)) :=
  ⟨⟨⟨[], [(1, 2)], true, 5, false⟩, by decide +kernel⟩,
   ⟨⟨[], [(1, 2)], false, 255, false⟩, by decide +kernel⟩,
   ⟨1, by decide +kernel⟩⟩

theorem witness_LoopLatchStaysSafe :
    (∃ s t : State, s.loopSafe ∧ step s = .next t) :=
  ⟨State.reset, _, by unfold State.loopSafe; decide +kernel, rfl⟩

theorem witness_GateFollowsAuthLines :
    (∃ s t : State, s.gateSafe ∧ step s = .next t) :=
  ⟨State.reset, _, by unfold State.gateSafe; decide +kernel, rfl⟩

theorem witness_MemoriesQueueAndPartAreKept :
    (∃ s t : State, s.memSafe ∧ step s = .next t) ∧
    (∃ (c : Instr) (rest : List Instr) (s t : State), s.pending = c :: rest ∧ step s = .next t) :=
  ⟨⟨State.reset, _, by unfold State.memSafe; decide +kernel, rfl⟩,
   ⟨.mssAttest, [.nonceExpiry], { State.reset with pending := [.mssAttest, .nonceExpiry] }, _, rfl, rfl⟩⟩

theorem witness_ClockRatesStayWithinTheirLimit :
    (∃ s t : State, s.ratesSafe ∧ step s = .next t) :=
  ⟨State.reset, _, by unfold State.ratesSafe; decide +kernel, rfl⟩

end Sys2Proof.Tests
end

section
/-! PROOFS. The configuration handover: the parameters that it hands over, and why `State.memSafe` alone is not kept by it. -/

namespace Sys2Proof.Machine

section
variable (s : State)

@[simp] theorem State.cfgEvent_params (e c : Nat) : (s.cfgEvent e c).params = s.params := by simp [State.cfgEvent]

@[simp] theorem State.tellEntry_params : s.tellEntry.params = s.params := by
  unfold State.tellEntry
  repeat' split
  all_goals simp

@[simp] theorem State.scheduleReturn_params : s.scheduleReturn.params = s.params := by
  unfold State.scheduleReturn
  repeat' split
  all_goals simp

/-- What CONFIGURATION_HANDOVER puts into the parameters: the memory the loader has kept, and none where no bundle passed (R24, R443). -/
def State.handedOver : Mem := if s.cfg.outcome = 4 then [] else (s.cfg.loaded.getD ([], 0, [])).1

theorem State.cfgHandover_params : s.cfgHandover.params = s.handedOver := by
  have hfold : ∀ (l : List (Nat × Nat)) (t : State), (l.foldl (fun (t : State) x => t.cfgEvent x.1 x.2) t).params = t.params :=
    foldl_keeps State.params _ fun t x => t.cfgEvent_params x.1 x.2
  unfold State.cfgHandover State.handedOver
  simp only [apply_ite State.params, State.scheduleReturn_params, ite_self, hfold, State.tellEntry_params, State.modCfg_params, apply_ite Prod.fst]

@[simp] theorem State.belayHandover_params : s.belayHandover.params = s.params :=
  foldl_keeps State.params (fun s g => s.modGroup g _) (fun _ _ => rfl) _ s

@[simp] theorem State.hawserStart_params : s.hawserStart.params = s.params := rfl

@[simp] theorem State.sliceHandover_params (i : Fin 16) : (s.sliceHandover i).params = s.params := by
  unfold State.sliceHandover
  split <;> rfl

@[simp] theorem State.closeCell_params (held : Bool) : (s.closeCell held).params = s.params := by
  unfold State.closeCell
  dsimp only
  repeat' split
  all_goals simp

@[simp] theorem State.settleLoop_params (held : Bool) (ma : Nat) : (s.settleLoop held ma).params = s.params := by
  unfold State.settleLoop
  dsimp only
  repeat' split
  all_goals simp

theorem State.handover_params (h : s.start.stage = .loading) : s.handover.params = s.handedOver := by
  rw [← s.cfgHandover_params]
  unfold State.handover
  rw [if_neg (by simp [h])]
  dsimp only
  split
  · rfl
  · simp [State.eachSlice_keeps State.params _ fun i t => t.sliceHandover_params i]

end

/-- A module before its handover whose loader has kept a memory that is not in canonical form: it lists a byte that reads as RAM nothing has written. -/
def State.looseBundle : State :=
  { State.reset with
    start := { Start.reset with stage := .loading }
    cfg := { Cfg.reset with outcome := 2, loaded := some ([(0, ramDefault)], 0, []) }
    pending := [.configurationHandover] }

theorem State.looseBundle_memSafe : State.looseBundle.memSafe := by
  unfold State.memSafe
  decide

/-- Refutes O59, by its first clause: `State.memSafe` says nothing of the memory that the loader keeps until the handover (`Cfg.loaded`, R24), so a module whose nine memories are in canonical form can hand over one that is not.
The loader itself keeps canonical memories alone (`slotParams_wf`): an invariant that also asked this of `Cfg.loaded` would not meet the counterexample. The other two clauses are not what fails. -/
theorem not_memoriesQueueAndPartAreKept : ¬ Obligations.MemoriesQueueAndPartAreKept := by
  intro ⟨hmem, _, _⟩
  have hstep : step State.looseBundle = .next ({ State.looseBundle with pending := [] } : State).handover.draw := rfl
  have hafter : ({ State.looseBundle with pending := [] } : State).handover.draw.params = [(0, ramDefault)] :=
    State.handover_params { State.looseBundle with pending := [] } rfl
  obtain ⟨_, _, _, _, hparams, _⟩ := hmem _ _ State.looseBundle_memSafe hstep
  rw [hafter] at hparams
  exact absurd hparams (by decide)

end Sys2Proof.Machine
end

section
/-! PROOFS. What every command answers, and what reset leaves. -/

namespace Sys2Proof.Machine

/-! ### Every command completes -/

theorem State.complete_isNext (s : State) : ∃ t, State.complete s = .next t := ⟨_, rfl⟩

/-- Settles O2: every arm of `exec` completes. -/
theorem everyCommandAnswersNextState : Obligations.EveryCommandAnswersNextState := by
  intro c s
  cases c <;> exact State.complete_isNext _

/-! ### The registers after reset (R16, R518) -/

theorem State.reset_slice (i : Fin 16) : State.reset.slices[i] = Slice.reset := by simp [State.reset]

theorem Slice.reset_axis (a : Fin 3) : Slice.reset.axes[a] = Axis.reset := by simp [Slice.reset]

/-- Settles O3: the figures of the node stand in `State.reset` itself, those of slices, regions, events and islands are looked up place by place. -/
theorem resetRegistersReadAsStated : Obligations.ResetRegistersReadAsStated := by
  refine ⟨by decide, fun i a => ?_, by decide, rfl, rfl, rfl, rfl, rfl, rfl, rfl, rfl, rfl, rfl, rfl, by decide, by decide, rfl⟩
  rw [State.reset_slice, Slice.reset_axis]
  exact ⟨rfl, rfl, rfl⟩

end Sys2Proof.Machine
end

section
/-! PROOFS. The command registers of a slice's portal, axes, drives and switches. -/

namespace Sys2Proof.Machine

/-! ### The registers that take a slice's commands (R11) -/

section
variable (i : Fin 16) (a : Fin 3) (off v : Nat) (s : State)

theorem State.complete_sliceRegister_up (h : s.engineUp i = true) : State.complete (s.sliceRegister i off v) = .next (s.writeSlice i off v).1.draw := by
  rw [State.sliceRegister, if_pos h]
  rfl

theorem State.complete_sliceRegister_down (h : s.engineUp i = false) : State.complete (s.sliceRegister i off v) = .next s.draw := by
  rw [State.sliceRegister, if_neg (by simp [h])]
  rfl

/-- PRT_COMMAND takes a code. -/
theorem State.portalCommand_stands (h : s.engineUp i = true) :
    State.complete (s.sliceRegister i 0x0010 v) = .next (s.modSlice i fun sl => sl.modPortal fun q => { q with command := v % 16 }).draw :=
  s.complete_sliceRegister_up i 0x0010 v h

/-- AX_COMMAND of an axis takes a code. -/
theorem State.axisCommand_stands (h : s.engineUp i = true) :
    State.complete (s.sliceRegister i (axisOffset a + 0x028) v) = .next (s.modSlice i fun sl => sl.modM a fun m => { m with command := v % 4 }).draw := by
  rw [s.complete_sliceRegister_up i _ v h]
  fin_cases a <;> rfl

/-- AX_DRIVE_COMMAND of an axis takes a code. -/
theorem State.driveCommand_stands (h : s.engineUp i = true) :
    State.complete (s.sliceRegister i (axisOffset a + 0x06C) v) = .next (s.modSlice i fun sl => sl.modD a fun d => { d with command := v % 8 }).draw := by
  rw [s.complete_sliceRegister_up i _ v h]
  fin_cases a <;> rfl

/-- LSW_COMMAND takes a code and a channel. -/
theorem State.switchCommand_stands (h : s.engineUp i = true) (n : Nat) (k : Fin 6) (hn : n < 16) :
    State.complete (s.sliceRegister i 0x504C (n + 16 * k.val)) = .next (s.modSlice i fun sl => sl.modSw fun x => { x with command := n, commandChannel := k.val }).draw := by
  have hcode : (n + 16 * k.val) % 16 = n := by omega
  have hchannel : (n + 16 * k.val) / 16 % 8 = k.val := by omega
  rw [s.complete_sliceRegister_up i _ _ h]
  show Host.Outcome.next (s.modSlice i fun sl => sl.modSw fun x => { x with command := (n + 16 * k.val) % 16, commandChannel := (n + 16 * k.val) / 16 % 8 }).draw = _
  rw [hcode, hchannel]

end

/-- Settles O11: each of the commands is a write to a command register of the slice's window, which takes it while the engine runs. -/
theorem sliceCommandsStandInTheirRegisters : Obligations.SliceCommandsStandInTheirRegisters := by
  refine ⟨fun i s => s.portalCommand_stands i 1, fun i s => s.portalCommand_stands i 2, fun i s => s.portalCommand_stands i 3, fun i a s => s.axisCommand_stands i a 1,
    fun i a s => s.axisCommand_stands i a 2, fun i s => s.driveCommand_stands i 0 1, fun i a s => s.driveCommand_stands i a 2, fun i a s => s.driveCommand_stands i a 3,
    fun i a s => s.driveCommand_stands i a 4, fun i k s h => s.switchCommand_stands i h 1 k (by decide), fun i s h => s.switchCommand_stands i h 2 0 (by decide), fun i a k s h => ?_⟩
  have still (off v : Nat) := s.complete_sliceRegister_down i off v h
  exact ⟨still _ _, still _ _, still _ _, still _ _, still _ _, still _ _, still _ _, still _ _, still _ _, still _ _, still _ _⟩

end Sys2Proof.Machine
end

section
/-! PROOFS. The monitors of the power groups and what a lost supply does to the slices of a group. -/

namespace Sys2Proof.Machine

/-! ### A function on chosen slices -/

section
variable (p : Fin 16 → Prop) [DecidablePred p] (F : Env → Slice → Slice) (s : State)

/-- The surroundings of a slice do not see the other slices. -/
theorem State.env_of_slice_eq (i : Fin 16) (sls : Vector Slice 16) (h : sls[i] = s.slices[i]) : ({ s with slices := sls } : State).env i = s.env i := by
  show { s.env i with cyc := sls[i].cycleT } = { s.env i with cyc := s.slices[i].cycleT }
  rw [h]

/-- One slice is changed in its surroundings, if it is chosen and the part has it. -/
def State.changeOne (j : Fin 16) : State := if j.val < s.sliceCount then (if p j then s.modSlice j (F (s.env j)) else s) else s

theorem State.changeOne_eq (j : Fin 16) : s.changeOne p F j = { s with slices := (s.changeOne p F j).slices } := by
  unfold State.changeOne
  repeat' split
  all_goals rfl

theorem State.changeOne_same (j : Fin 16) :
    (s.changeOne p F j).slices[j] = if p j ∧ j.val < s.sliceCount then F (s.env j) s.slices[j] else s.slices[j] := by
  unfold State.changeOne
  by_cases hj : j.val < s.sliceCount <;> by_cases hp : p j <;> simp [hj, hp]

theorem State.changeOne_other (j i : Fin 16) (h : i ≠ j) : (s.changeOne p F j).slices[i] = s.slices[i] := by
  have hne : j.val ≠ i.val := fun e => h (Fin.ext e.symm)
  unfold State.changeOne
  repeat' split
  all_goals simp [hne]

/-- Slices taken one after another are each changed in the surroundings that they had before. -/
theorem State.foldl_changeOne (l : List (Fin 16)) (hl : l.Nodup) :
    ∃ sls : Vector Slice 16, l.foldl (fun s j => s.changeOne p F j) s = { s with slices := sls } ∧
      ∀ i : Fin 16, sls[i] = if i ∈ l ∧ p i ∧ i.val < s.sliceCount then F (s.env i) s.slices[i] else s.slices[i] := by
  induction l generalizing s with
  | nil => exact ⟨s.slices, rfl, fun i => by simp⟩
  | cons j t ih =>
    obtain ⟨hj, ht⟩ := List.nodup_cons.mp hl
    obtain ⟨sls, heq, hget⟩ := ih (s.changeOne p F j) ht
    refine ⟨sls, by rw [List.foldl_cons, heq, State.changeOne_eq], fun i => ?_⟩
    have hcount : (s.changeOne p F j).sliceCount = s.sliceCount := by rw [State.changeOne_eq]; rfl
    rw [hget i, hcount]
    by_cases hij : i = j
    · subst hij
      rw [if_neg (by simp [hj]), State.changeOne_same]
      simp
    · have henv : (s.changeOne p F j).env i = s.env i := by
        rw [State.changeOne_eq]; exact s.env_of_slice_eq i _ (s.changeOne_other p F j i hij)
      rw [henv, State.changeOne_other p F s j i hij]
      simp [hij]

theorem State.eachSlice_changes :
    ∃ sls : Vector Slice 16, s.eachSlice (fun i s => if p i then s.modSlice i (F (s.env i)) else s) = { s with slices := sls } ∧
      ∀ i : Fin 16, sls[i] = if p i ∧ i.val < s.sliceCount then F (s.env i) s.slices[i] else s.slices[i] := by
  obtain ⟨sls, heq, hget⟩ := s.foldl_changeOne p F (List.finRange 16) (List.nodup_finRange 16)
  exact ⟨sls, heq, fun i => by simpa using hget i⟩

end

/-! ### Events of the power groups (R560) -/

section
variable (g : Fin 2) (e code item : Nat) (s : State)

@[simp] theorem State.blyEvent_now : (s.blyEvent g e code item).now = s.now := by simp [State.blyEvent]
@[simp] theorem State.blyEvent_small : (s.blyEvent g e code item).small = s.small := by simp [State.blyEvent]
@[simp] theorem State.blyEvent_slices : (s.blyEvent g e code item).slices = s.slices := by simp [State.blyEvent]
@[simp] theorem State.blyEvent_sliceCount : (s.blyEvent g e code item).sliceCount = s.sliceCount := by simp [State.sliceCount]
@[simp] theorem State.modGroup_sliceCount (f : Group → Group) : (s.modGroup g f).sliceCount = s.sliceCount := rfl
@[simp] theorem State.blyEvent_hws : (s.blyEvent g e code item).hws = s.hws := by simp [State.blyEvent]
@[simp] theorem State.blyEvent_loop : (s.blyEvent g e code item).loop = s.loop := by simp [State.blyEvent]

/-- An event of a group stands in its BLY_FAULT and counters. -/
theorem State.blyEvent_group : (s.blyEvent g e code item).groups[g] = { s.groups[g] with
    faultEvent := e + 1
    faultInput := if e = 2 then (if code = 2 ∨ code = 4 then 1 else 0) else s.groups[g].faultInput
    faultIndex := if e = 0 ∨ e = 3 then item else s.groups[g].faultIndex
    cntBites := if e = 0 then satInc 15 s.groups[g].cntBites else s.groups[g].cntBites
    cntWarnings := if e = 1 then satInc 15 s.groups[g].cntWarnings else s.groups[g].cntWarnings
    cntMisses := if e = 3 then satInc 255 s.groups[g].cntMisses else s.groups[g].cntMisses } := by
  simp [State.blyEvent]

theorem State.blyEvent_group_other (h : Fin 2) (hh : h ≠ g) : (s.blyEvent g e code item).groups[h] = s.groups[h] := by
  have hne : g.val ≠ h.val := fun e => hh (Fin.ext e.symm)
  simp [State.blyEvent, hne]

theorem State.modGroup_group (f : Group → Group) : (s.modGroup g f).groups[g] = f s.groups[g] := by simp

theorem State.modGroup_group_other (f : Group → Group) (h : Fin 2) (hh : h ≠ g) : (s.modGroup g f).groups[h] = s.groups[h] := by
  have hne : g.val ≠ h.val := fun e => hh (Fin.ext e.symm)
  simp [hne]

@[simp] theorem State.raise_env (n d : Nat) (i : Fin 16) : (s.raise n code d).env i = s.env i := by
  unfold State.raise
  split <;> rfl

@[simp] theorem State.modGroup_env (f : Group → Group) (i : Fin 16) : (s.modGroup g f).env i = s.env i := rfl

@[simp] theorem State.blyEvent_env (i : Fin 16) : (s.blyEvent g e code item).env i = s.env i := by simp [State.blyEvent]

end

/-! ### Load supply and motor supply of a slice (R208, R168) -/

section
variable (e : Env) (sl : Slice)

/-- One function on every channel. -/
theorem forChannels_modCh (f : Channel → Channel) : forChannels (fun k sl => sl.modCh k f) sl = { sl with sw := { sl.sw with ch := sl.sw.ch.map f } } := by
  have hch : (forChannels (fun k sl => sl.modCh k f) sl).sw.ch = sl.sw.ch.map f := by
    refine Vector.ext fun k hk => ?_
    unfold forChannels
    interval_cases k <;> simp
  show ({ sl with sw := { sl.sw with ch := (forChannels (fun k sl => sl.modCh k f) sl).sw.ch } } : Slice) = _
  rw [hch]

/-- Without its load supply every channel that is on or waits goes off (R208). -/
theorem Slice.loadSupply_lost :
    sl.loadSupply e false = { sl with sw := { sl.sw with supply := false, ch := sl.sw.ch.map fun c => if c.st = .on ∨ c.st = .waiting then c.off e.now else c } } := by
  unfold Slice.loadSupply
  simp only [Bool.false_eq_true, if_false]
  exact forChannels_modCh _ _

theorem Slice.loadSupply_lost_channel (k : Fin 6) (h : sl.sw.ch[k].st = .on ∨ sl.sw.ch[k].st = .waiting) :
    (sl.loadSupply e false).sw.ch[k].st = .off ∧ (sl.loadSupply e false).sw.ch[k].req = .idle := by
  have hoff : (sl.loadSupply e false).sw.ch[k] = sl.sw.ch[k].off e.now := by
    simp only [Slice.loadSupply_lost, Fin.getElem_fin, Vector.getElem_map]
    exact if_pos h
  rw [hoff]
  exact ⟨rfl, rfl⟩

theorem Slice.loadSupply_lost_shown (k : Fin 6) (h : sl.sw.enabled = true ∨ sl.sw.tether.storedValid = false) : (sl.loadSupply e false).sw.shown k = .noSupply := by
  have hopen : ¬(sl.sw.tether.storedValid && !sl.sw.enabled) = true := by rcases h with h | h <;> simp [h]
  rw [Slice.loadSupply_lost, Switches.shown, if_neg hopen]
  rfl

/-- What the loss of a motor supply does to one axis: the flags that stand with it, and drive fault 4 where the axis is enabled and the module drives. -/
def Slice.motorLost (high : Bool) (a : Fin 3) : Slice :=
  let sl := sl.modD a fun d => { d with standing := d.standing - d.standing / 16 % 2 * 16 - d.standing / 1024 % 2 * 1024 + 16 + (if high then 1024 else 0) }
  if e.gate && e.enabledAxis a then sl.driveFault e a 4 high else sl

/-- The drive fault of an axis. -/
def Slice.faultOf (a : Fin 3) : Nat := sl.axes[a].d.fault

@[simp] theorem Slice.faultOf_modM (a b : Fin 3) (f : Motion → Motion) : (sl.modM b f).faultOf a = sl.faultOf a := by
  by_cases h : b.val = a.val <;> simp [Slice.faultOf, h]

theorem Slice.faultOf_modD_other (a b : Fin 3) (f : Drive → Drive) (h : a ≠ b) : (sl.modD b f).faultOf a = sl.faultOf a := by
  have hne : b.val ≠ a.val := fun e => h (Fin.ext e.symm)
  simp [Slice.faultOf, hne]

theorem Slice.faultOf_modD (a b : Fin 3) (f : Drive → Drive) (hf : ∀ d, (f d).fault = d.fault) : (sl.modD b f).faultOf a = sl.faultOf a := by
  by_cases h : b.val = a.val <;> simp [Slice.faultOf, h, hf]

@[simp] theorem Slice.faultOf_setMode (a b : Fin 3) (md : DriveMode) : (sl.setMode e b md).faultOf a = sl.faultOf a :=
  Slice.faultOf_modD _ a b _ fun _ => rfl

@[simp] theorem Slice.faultOf_wantMode (a b : Fin 3) (md : DriveMode) : (sl.wantMode e b md).faultOf a = sl.faultOf a := by
  unfold Slice.wantMode
  repeat' split
  · simp
  · rfl
  · exact Slice.faultOf_modD _ a b _ fun _ => rfl
  · simp

@[simp] theorem Slice.setMode_sw (b : Fin 3) (md : DriveMode) : (sl.setMode e b md).sw = sl.sw := rfl
@[simp] theorem Slice.wantMode_sw (b : Fin 3) (md : DriveMode) : (sl.wantMode e b md).sw = sl.sw := by
  unfold Slice.wantMode
  repeat' split
  all_goals simp

/-- A drive fault before the portal, the teach cycle and the event queue learn of it: its code stands, the axis halts and takes the fault's drive mode (R168). -/
def Slice.driveHalts (a : Fin 3) (code : Nat) (high : Bool) : Slice :=
  let stays := decide (sl.axes[a].d.mode = .free) && (decide (sl.portal.st = .emergency) || sl.faulted a)
  let sl := sl.modD a fun d => { d with fault := code, wanted := none, pendMode := none }
  let sl := sl.modM a fun m => { m.halt with homed := m.homed && decide (code ≠ 6) }
  if driveFaultMode code high = .free then sl.setMode e a .free else if stays then sl else sl.wantMode e a (driveFaultMode code high)

theorem Slice.driveHalts_fault (a b : Fin 3) (code : Nat) (high : Bool) : (sl.driveHalts e b code high).faultOf a = if a = b then code else sl.faultOf a := by
  have hcode : (sl.modD b fun d => { d with fault := code, wanted := none, pendMode := none }).faultOf a = if a = b then code else sl.faultOf a := by
    by_cases h : a = b
    · subst h; simp [Slice.faultOf]
    · rw [Slice.faultOf_modD_other _ _ _ _ h, if_neg h]
  rw [← hcode]
  unfold Slice.driveHalts
  dsimp only
  repeat' split
  all_goals simp

theorem Slice.driveHalts_portal (a : Fin 3) (code : Nat) (high : Bool) : (sl.driveHalts e a code high).portal = sl.portal := by
  unfold Slice.driveHalts
  dsimp only
  repeat' split
  all_goals simp

theorem Slice.driveHalts_sw (a : Fin 3) (code : Nat) (high : Bool) : (sl.driveHalts e a code high).sw = sl.sw := by
  unfold Slice.driveHalts
  dsimp only
  repeat' split
  all_goals simp

theorem Slice.driveFault_fault (a b : Fin 3) (code : Nat) (high : Bool) : (sl.driveFault e b code high).faultOf a = if a = b then code else sl.faultOf a :=
  sl.driveHalts_fault e a b code high

theorem Slice.driveFault_portal (a : Fin 3) (code : Nat) (high : Bool) : (sl.driveFault e a code high).portal = { sl.portal with cause11 := true } := by
  rw [← sl.driveHalts_portal e a code high]; rfl

theorem Slice.driveFault_sw (a : Fin 3) (code : Nat) (high : Bool) : (sl.driveFault e a code high).sw = sl.sw :=
  sl.driveHalts_sw e a code high

theorem Slice.motorLost_fault (high : Bool) (a : Fin 3) (h : e.gate && e.enabledAxis a) : (sl.motorLost e high a).faultOf a = 4 ∧ (sl.motorLost e high a).portal.cause11 = true := by
  unfold Slice.motorLost
  dsimp only
  rw [if_pos h]
  exact ⟨by rw [Slice.driveFault_fault, if_pos rfl], by rw [Slice.driveFault_portal]⟩

theorem Slice.motorLost_fault_other (high : Bool) (a b : Fin 3) (h : a ≠ b) : (sl.motorLost e high b).faultOf a = sl.faultOf a := by
  unfold Slice.motorLost
  dsimp only
  split
  · rw [Slice.driveFault_fault, if_neg h, Slice.faultOf_modD_other _ _ _ _ h]
  · exact Slice.faultOf_modD_other _ _ _ _ h

theorem Slice.motorLost_cause11 (high : Bool) (b : Fin 3) (h : sl.portal.cause11 = true) : (sl.motorLost e high b).portal.cause11 = true := by
  unfold Slice.motorLost
  dsimp only
  split
  · rw [Slice.driveFault_portal]
  · exact h

theorem Slice.motorLost_sw (high : Bool) (b : Fin 3) : (sl.motorLost e high b).sw = sl.sw := by
  unfold Slice.motorLost
  dsimp only
  split
  · rw [Slice.driveFault_sw]; rfl
  · rfl

/-- A lost motor supply faults every enabled axis of a slice that drives, whatever it does to the other axes before or after. -/
theorem Slice.motorLost_all (high : Bool) (a : Fin 3) (h : e.gate && e.enabledAxis a) :
    (forAxes (fun b sl => sl.motorLost e high b) sl).faultOf a = 4 ∧ (forAxes (fun b sl => sl.motorLost e high b) sl).portal.cause11 = true := by
  have here (x : Slice) := x.motorLost_fault e high a h
  have after (b : Fin 3) (hb : a ≠ b) (x : Slice) (hx : x.faultOf a = 4 ∧ x.portal.cause11 = true) :
      (x.motorLost e high b).faultOf a = 4 ∧ (x.motorLost e high b).portal.cause11 = true :=
    ⟨(x.motorLost_fault_other e high a b hb).trans hx.1, x.motorLost_cause11 e high b hx.2⟩
  unfold forAxes
  fin_cases a
  · exact after 2 (by decide) _ (after 1 (by decide) _ (here _))
  · exact after 2 (by decide) _ (here _)
  · exact here _

end

/-! ### The monitors of a power group (R231 to R233) -/

section
variable (g : Fin 2) (dv : Nat) (s : State)

/-- A load supply that leaves its range: the flag and the event of the group, and its slices without a supply. -/
theorem State.supplyRange_load (hg : s.hasGroup g = true) (hwas : s.groups[g].loadOut = false) (hdv : dv < 168 ∨ 1650 < dv) :
    ∃ sls : Vector Slice 16, s.supplyRange g false true dv = { (s.modGroup g fun x => { x with loadV := dv, loadOut := true }).blyEvent g 2 1 0 with slices := sls } ∧
      ∀ i : Fin 16, sls[i] = if groupOf i = g ∧ i.val < s.sliceCount then s.slices[i].loadSupply (s.env i) false else s.slices[i] := by
  obtain ⟨sls, heq, hget⟩ := ((s.modGroup g fun x => { x with loadV := dv, loadOut := true }).blyEvent g 2 1 0).eachSlice_changes (fun i => groupOf i = g) (fun e sl => sl.loadSupply e false)
  refine ⟨sls, ?_, fun i => by simpa using hget i⟩
  rw [← heq, State.supplyRange]
  dsimp only
  rw [if_neg (by simpa [hg, hdv] using hwas)]
  rfl

/-- A motor supply that leaves its range: the flag and the event of the group, and the axes of its slices in fault. -/
theorem State.supplyRange_motor (hg : s.hasGroup g = true) (hwas : s.groups[g].motorOut = false) (hdv : dv < 168 ∨ 1650 < dv) :
    ∃ sls : Vector Slice 16, s.supplyRange g true true dv = { (s.modGroup g fun x => { x with motorV := dv, motorOut := true }).blyEvent g 2 2 0 with slices := sls } ∧
      ∀ i : Fin 16, sls[i] = if groupOf i = g ∧ i.val < s.sliceCount then forAxes (fun a sl => sl.motorLost (s.env i) (decide (1650 < dv)) a) s.slices[i] else s.slices[i] := by
  obtain ⟨sls, heq, hget⟩ := ((s.modGroup g fun x => { x with motorV := dv, motorOut := true }).blyEvent g 2 2 0).eachSlice_changes (fun i => groupOf i = g)
    (fun e sl => forAxes (fun a sl => sl.motorLost e (decide (1650 < dv)) a) sl)
  refine ⟨sls, ?_, fun i => by simpa using hget i⟩
  rw [← heq, State.supplyRange]
  dsimp only
  rw [if_neg (by simpa [hg, hdv] using hwas)]
  rfl

theorem State.currentWarning_set (l m : Nat) (hc : s.configured = true) (hg : s.hasGroup g = true) (hw : s.groups[g].warning = false) (h : cfgBlyCurrentWarn s.params g < l + m) :
    s.currentWarning g true l m = (s.modGroup g fun x => { x with warning := true, loadI := l, motorI := m }).blyEvent g 1 1 0 := by
  rw [State.currentWarning]
  dsimp only
  rw [if_neg (by simpa [hc, hg, h] using hw), if_pos rfl]

theorem State.currentWarning_cleared (l m : Nat) (hc : s.configured = true) (hg : s.hasGroup g = true) (hw : s.groups[g].warning = true) (h : l + m ≤ cfgBlyCurrentWarn s.params g) :
    s.currentWarning g false l m = s.modGroup g fun x => { x with warning := false, loadI := l, motorI := m } := by
  rw [State.currentWarning]
  dsimp only
  rw [if_neg (by simpa [hc, hg, h] using hw), if_neg (by decide)]

theorem State.overTemperature_set (d : Int) (hg : s.hasGroup g = true) (hd : 1000 ≤ d) (ho : s.groups[g].overTemp = false) :
    s.overTemperature g d = (s.modGroup g fun x => { x with overTemp := true }).blyEvent g 5 1 0 := by
  rw [State.overTemperature, if_neg (by simp [hg]), if_pos ⟨hd, ho⟩]

theorem State.overTemperature_cleared (d : Int) (hg : s.hasGroup g = true) (hd : d ≤ 950) : s.overTemperature g d = s.modGroup g fun x => { x with overTemp := false } := by
  rw [State.overTemperature, if_neg (by simp [hg]), if_neg (by omega), if_pos hd]

/-- A part without the group takes none of its monitors' commands (R1). -/
theorem State.monitors_without_group (hg : s.hasGroup g = false) (motor out set : Bool) (l m : Nat) (d : Int) :
    s.supplyRange g motor out dv = s ∧ s.currentWarning g set l m = s ∧ s.overTemperature g d = s := by
  refine ⟨?_, ?_, ?_⟩
  · rw [State.supplyRange]; exact if_pos (by simp [hg])
  · rw [State.currentWarning]; exact if_pos (by simp [hg])
  · rw [State.overTemperature]; exact if_pos (by simp [hg])

/-- What a monitor's event leaves alone and what of its group it changes. -/
theorem State.groupEvent_eq (e code : Nat) (f : Group → Group) :
    let t := (s.modGroup g f).blyEvent g e code 0
    t.now = s.now ∧ t.slices = s.slices ∧ t.hws = s.hws ∧ t.loop = s.loop ∧ ∀ h : Fin 2, h ≠ g → t.groups[h] = s.groups[h] :=
  ⟨by simp, by simp, by simp, by simp, fun h hh => by rw [State.blyEvent_group_other _ _ _ _ _ h hh, State.modGroup_group_other _ _ _ h hh]⟩

end

/-- Settles O29: each monitor changes its group and raises the group's event, and a lost supply acts on the slices of the group, each in its own surroundings. -/
theorem groupMonitorsRaiseAndStopLoads : Obligations.GroupMonitorsRaiseAndStopLoads := by
  refine ⟨fun g dv s hg hwas hdv => ?_, fun g dv s hg hwas hdv => ?_, fun g l m s hc hg hw h => ?_, fun g l m s hc hg hw h => ?_, fun g d s hg hd ho => ?_, fun g d s hg hd => ?_,
    fun motor out set dv l m d s hs => ?_⟩
  case refine_1 =>
    obtain ⟨sls, heq, hget⟩ := s.supplyRange_load g dv hg hwas hdv
    obtain ⟨hnow, _, hhws, hloop, hother⟩ := s.groupEvent_eq g 2 1 fun x => { x with loadV := dv, loadOut := true }
    have hgroup := ((s.modGroup g fun x => { x with loadV := dv, loadOut := true })).blyEvent_group g 2 1 0
    rw [State.modGroup_group] at hgroup
    have hlost (i : Fin 16) (hi : groupOf i = g) (hp : i.val < s.sliceCount) : sls[i] = s.slices[i].loadSupply (s.env i) false := (hget i).trans (if_pos ⟨hi, hp⟩)
    refine ⟨_, congrArg State.complete heq, hnow, ?_, ?_, ?_, ?_, hother, hhws, hloop, fun i hi => ?_, fun i k hi hp => ?_, fun i hi hp => ?_⟩
    · exact congrArg Group.loadOut hgroup
    · exact congrArg Group.loadV hgroup
    · exact congrArg Group.faultEvent hgroup
    · exact congrArg Group.faultInput hgroup
    · exact (hget i).trans (if_neg fun h => hi h.1)
    · show (_ → sls[i].sw.ch[k].st = _ ∧ sls[i].sw.ch[k].req = _) ∧ (_ → sls[i].sw.shown k = _)
      rw [hlost i hi hp]
      exact ⟨Slice.loadSupply_lost_channel _ _ k, Slice.loadSupply_lost_shown _ _ k⟩
    · show sls[i].sw.supply = false ∧ sls[i].portal = _ ∧ sls[i].axes = _
      rw [hlost i hi hp, Slice.loadSupply_lost]
      exact ⟨rfl, rfl, rfl⟩
  case refine_2 =>
    obtain ⟨sls, heq, hget⟩ := s.supplyRange_motor g dv hg hwas hdv
    obtain ⟨hnow, _, hhws, hloop, hother⟩ := s.groupEvent_eq g 2 2 fun x => { x with motorV := dv, motorOut := true }
    have hgroup := ((s.modGroup g fun x => { x with motorV := dv, motorOut := true })).blyEvent_group g 2 2 0
    rw [State.modGroup_group] at hgroup
    refine ⟨_, congrArg State.complete heq, hnow, ?_, ?_, ?_, ?_, hother, hhws, hloop, fun i hi => ?_, fun i a hi hp hgate ha => ?_⟩
    · exact congrArg Group.motorOut hgroup
    · exact congrArg Group.motorV hgroup
    · exact congrArg Group.faultEvent hgroup
    · exact congrArg Group.faultInput hgroup
    · exact (hget i).trans (if_neg fun h => hi h.1)
    · have hfault : sls[i] = forAxes (fun a sl => sl.motorLost (s.env i) (decide (1650 < dv)) a) s.slices[i] := (hget i).trans (if_pos ⟨hi, hp⟩)
      show sls[i].faultOf a = 4 ∧ sls[i].portal.cause11 = true ∧ sls[i].sw.ch = _
      obtain ⟨hcode, hcause⟩ := s.slices[i].motorLost_all (s.env i) (decide (1650 < dv)) a (by rw [ha, Bool.and_true]; exact hgate)
      rw [hfault]
      exact ⟨hcode, hcause, congrArg Switches.ch (forAxes_keeps Slice.sw _ (fun b sl => sl.motorLost_sw _ _ b) _)⟩
  case refine_3 =>
    obtain ⟨_, hslices, _, _, hother⟩ := s.groupEvent_eq g 1 1 fun x => { x with warning := true, loadI := l, motorI := m }
    have hgroup := (s.modGroup g fun x => { x with warning := true, loadI := l, motorI := m }).blyEvent_group g 1 1 0
    rw [State.modGroup_group] at hgroup
    exact ⟨_, congrArg State.complete (s.currentWarning_set g l m hc hg hw h), congrArg Group.warning hgroup, congrArg Group.loadI hgroup, congrArg Group.motorI hgroup,
      congrArg Group.faultEvent hgroup, congrArg Group.cntWarnings hgroup, hslices, hother⟩
  case refine_4 => exact congrArg State.complete (s.currentWarning_cleared g l m hc hg hw h)
  case refine_5 =>
    obtain ⟨_, hslices, _, _, hother⟩ := s.groupEvent_eq g 5 1 fun x => { x with overTemp := true }
    have hgroup := (s.modGroup g fun x => { x with overTemp := true }).blyEvent_group g 5 1 0
    rw [State.modGroup_group] at hgroup
    exact ⟨_, congrArg State.complete (s.overTemperature_set g d hg hd ho), congrArg Group.overTemp hgroup, congrArg Group.faultEvent hgroup, hslices, hother⟩
  case refine_6 => exact congrArg State.complete (s.overTemperature_cleared g d hg hd)
  case refine_7 =>
    obtain ⟨hsupply, hwarning, htemp⟩ := s.monitors_without_group 1 dv (by simp [State.hasGroup, hs]) motor out set l m d
    exact ⟨congrArg State.complete hsupply, congrArg State.complete hwarning, congrArg State.complete htemp⟩

end Sys2Proof.Machine
end

section
/-! PROOFS. The delivery of events, the registers of the NODE block, and the responses of the fabric. -/

namespace Sys2Proof.Machine

/-! ### Bits of a register -/

/-- The bits of a number that another has and those that it has not make up the number. -/
theorem ldiff_add_and (m n : Nat) : Nat.ldiff m n + (m &&& n) = m := by
  induction m using Nat.binaryRec generalizing n with
  | zero => simp [Nat.ldiff]
  | bit a m ih =>
    induction n using Nat.bitCasesOn with
    | bit b n =>
      rw [Nat.ldiff_bit, Nat.land_bit]
      have := ih n
      cases a <;> cases b <;> simp only [Nat.bit_val, Bool.not_true, Bool.not_false, Bool.and_true, Bool.and_false, Bool.toNat_true, Bool.toNat_false] <;> omega

/-- A W1C write clears the bits it names and no other (R11). -/
theorem clearBits_testBit (old v j : Nat) : (clearBits old v).testBit j = (old.testBit j && !v.testBit j) := by
  have h : clearBits old v = Nat.ldiff old v := by
    have := ldiff_add_and old v
    unfold clearBits
    omega
  rw [h, Nat.testBit_ldiff]

/-- The same for the word that a write carries. -/
theorem clearBits_word_testBit (old v j : Nat) (hj : j < 32) : (clearBits old (v % 2 ^ 32)).testBit j = (old.testBit j && !v.testBit j) := by
  rw [clearBits_testBit, Nat.testBit_mod_two_pow, decide_eq_true hj, Bool.true_and]

theorem setBit_testBit (n i : Nat) : (setBit n i).testBit i = true := by
  unfold setBit
  split
  · assumption
  · rename_i h
    rw [Nat.add_comm, Nat.testBit_two_pow_add_eq]
    simpa using h

/-! ### Intake queues -/

section
variable (q : Fin 18) (y : IntakeQ) (s : State)

/-- An intake queue stands in a slice or in one of the node's two. -/
theorem State.setIntake_eq : ∃ sls dq mq, s.setIntake q y = { s with slices := sls, dq := dq, mq := mq } := by
  unfold State.setIntake
  repeat' split
  · exact ⟨_, s.dq, s.mq, rfl⟩
  · exact ⟨s.slices, y, s.mq, rfl⟩
  · exact ⟨s.slices, s.dq, y, rfl⟩

theorem State.intake_setIntake : (s.setIntake q y).intake q = y := by
  unfold State.setIntake State.intake
  repeat' split
  · simp
  · rfl
  · rfl

end

/-! ### Delivery of an event (R527) -/

/-- What the delivery of an event does to the NODE block: its pending bit, and the local queue of 64. -/
def NodeEvents.note (x : Ev) (n : NodeEvents) : NodeEvents :=
  let n : NodeEvents := { n with pending := n.pending.set (x.src / 32 % 8) (setBit n.pending[x.src / 32 % 8] (x.src % 32)) }
  if n.local_.length < 64 then { n with local_ := n.local_ ++ [⟨x.src, x.code, x.detail, x.at_⟩] } else { n with localLostFlag := true, cntLocal := satInc 255 n.cntLocal }

section
variable (x : Ev) (n : NodeEvents)

theorem NodeEvents.note_pending : (n.note x).pending = n.pending.set (x.src / 32 % 8) (setBit n.pending[x.src / 32 % 8] (x.src % 32)) := by
  unfold NodeEvents.note
  dsimp only
  split <;> rfl

theorem NodeEvents.note_pending_bit : ((n.note x).pending[x.src / 32 % 8]).testBit (x.src % 32) = true := by
  simp [NodeEvents.note_pending, setBit_testBit]

theorem NodeEvents.note_pending_other (j : Fin 8) (h : j ≠ ⟨x.src / 32 % 8, Nat.mod_lt _ (by decide)⟩) : (n.note x).pending[j] = n.pending[j] := by
  have hne : x.src / 32 % 8 ≠ j.val := fun e => h (Fin.ext e.symm)
  simp [NodeEvents.note_pending, hne]

theorem NodeEvents.note_subscribe : (n.note x).subscribe = n.subscribe := by
  unfold NodeEvents.note
  dsimp only
  split <;> rfl

theorem NodeEvents.note_remote : (n.note x).remote = n.remote := by
  unfold NodeEvents.note
  dsimp only
  split <;> rfl

theorem NodeEvents.note_of_room (h : n.local_.length < 64) :
    (n.note x).local_ = n.local_ ++ [⟨x.src, x.code, x.detail, x.at_⟩] ∧ (n.note x).cntLocal = n.cntLocal := by
  unfold NodeEvents.note
  dsimp only
  rw [if_pos h]
  exact ⟨rfl, rfl⟩

theorem NodeEvents.note_of_full (h : 64 ≤ n.local_.length) :
    (n.note x).local_ = n.local_ ∧ (n.note x).localLostFlag = true ∧ (n.note x).cntLocal = satInc 255 n.cntLocal := by
  unfold NodeEvents.note
  dsimp only
  rw [if_neg (by omega)]
  exact ⟨rfl, rfl, rfl⟩

end

section
variable (s : State)

theorem State.offerMessage_of_room (m : EventMsg) (h : s.spl.events.length + s.spl.eventsNew.length < 64) :
    s.offerMessage m = s.modSpl fun x => { x with eventsNew := x.eventsNew ++ [m] } := if_pos h

/-- A message offered to Hawser changes Splice, and the data-plane queue where E228 is raised (R383). -/
theorem State.offerMessage_eq (m : EventMsg) : ∃ spl dq, s.offerMessage m = { s with spl := spl, dq := dq } := by
  unfold State.offerMessage
  dsimp only
  repeat' split
  · exact ⟨_, s.dq, rfl⟩
  · obtain ⟨spl, dq, h⟩ := State.splEvent_eq 4 0 0 0 ((s.modSpl fun x => { x with eventsLost := satInc 65535 x.eventsLost }).modSpl fun x => { x with e228At := some s.now }) (by decide)
    exact ⟨spl, dq, h⟩
  · exact ⟨_, s.dq, rfl⟩

/-- The NODE_EVENT_SUBSCRIBE bit of an event. -/
def State.subscribed (x : Ev) : Bool := (s.node.subscribe[x.src / 32 % 8]).testBit (x.src % 32)

/-- Delivery notes the event in the NODE block, and offers it to Hawser where it is subscribed. -/
theorem State.deliver_eq (x : Ev) :
    s.deliver x = if s.subscribed x then (s.modNode fun n => n.note x).offerMessage ⟨x.src, x.code, x.detail, x.at_⟩ else s.modNode fun n => n.note x := by
  have h : (s.modNode fun n => n.note x).subscribed x = s.subscribed x := by
    simp only [State.subscribed, State.modNode_node, NodeEvents.note_subscribe]
  rw [← h]
  rfl

end

section
variable (q : Fin 18) (x : Ev) (rest : List Ev) (s : State)

/-- All that a delivery changes: the NODE block, Splice where the event is subscribed, and the data-plane queue where Splice loses it. -/
theorem State.deliver_changes : ∃ spl dq, s.deliver x = { s with node := s.node.note x, spl := spl, dq := dq } ∧
    (s.subscribed x = false → spl = s.spl) ∧ (s.subscribed x = false ∨ s.spl.events.length + s.spl.eventsNew.length < 64 → dq = s.dq) ∧
    (s.subscribed x = true → s.spl.events.length + s.spl.eventsNew.length < 64 → spl.eventsNew = s.spl.eventsNew ++ [⟨x.src, x.code, x.detail, x.at_⟩]) := by
  rw [State.deliver_eq]
  by_cases hsub : s.subscribed x = true
  · rw [if_pos hsub]
    by_cases hroom : s.spl.events.length + s.spl.eventsNew.length < 64
    · rw [State.offerMessage_of_room (s.modNode fun n => n.note x) _ hroom]
      exact ⟨_, s.dq, rfl, by simp [hsub], fun _ => rfl, fun _ _ => rfl⟩
    · obtain ⟨spl, dq, heq⟩ := (s.modNode fun n => n.note x).offerMessage_eq ⟨x.src, x.code, x.detail, x.at_⟩
      exact ⟨spl, dq, heq, by simp [hsub], by simp [hsub, hroom], fun _ h => absurd h hroom⟩
  · rw [if_neg hsub]
    exact ⟨s.spl, s.dq, rfl, fun _ => rfl, fun _ => rfl, fun h => absurd h hsub⟩

theorem State.eventDelivery_empty (h : (s.intake q).undelivered = []) : s.eventDelivery q = s := by
  unfold State.eventDelivery
  rw [h]

/-- An event that stands in a queue leaves it, and is delivered where the Hawser island runs and no channel is stalled (R527, R532). -/
theorem State.eventDelivery_takes (h : (s.intake q).undelivered = x :: rest) :
    s.eventDelivery q = if s.hawserUp && s.eventChannel q then (s.setIntake q { s.intake q with undelivered := rest }).deliver x
      else s.setIntake q { s.intake q with undelivered := rest } := by
  have hup : (s.setIntake q { s.intake q with undelivered := rest }).hawserUp = s.hawserUp := by
    obtain ⟨_, _, _, heq⟩ := s.setIntake_eq q { s.intake q with undelivered := rest }
    rw [heq]; rfl
  have hchannel : (s.setIntake q { s.intake q with undelivered := rest }).eventChannel q = s.eventChannel q := by
    obtain ⟨_, _, _, heq⟩ := s.setIntake_eq q { s.intake q with undelivered := rest }
    rw [heq]; rfl
  unfold State.eventDelivery
  rw [h]
  dsimp only
  rw [hup, hchannel]

end

/-! ### Accesses over the fabric (R519 to R521) -/

section
variable (g : HostAgent) (o : Option Origin) (a off v : Nat) (w : Block) (f : State → State) (s : State)

theorem State.complete_mssAccess_up (h : s.mssUp = true) : State.complete (s.mssAccess f) = .next (f s).draw := by
  rw [State.mssAccess, if_pos h]; rfl

theorem State.complete_mssAccess_down (h : s.mssUp = false) : State.complete (s.mssAccess f) = .next s.draw := by
  rw [State.mssAccess, if_neg (by simp [h])]; rfl

theorem State.window_node (h : a < 0x00100000) : s.window a = some (.node, a) := if_pos h

theorem State.window_slice (i : Fin 16) (h : off < 0x10000) (hi : i.val < s.sliceCount) : s.window (0x04000000 + i.val * 0x10000 + off) = some (.slice i, off) := by
  have hdiv : (0x04000000 + i.val * 0x10000 + off - 0x04000000) / 0x10000 = i.val := by omega
  have hmod : (0x04000000 + i.val * 0x10000 + off) % 0x10000 = off := by omega
  have hin : 0x04000000 ≤ 0x04000000 + i.val * 0x10000 + off ∧ 0x04000000 + i.val * 0x10000 + off < 0x04100000 := by omega
  unfold State.window
  iterate 10 rw [if_neg (by omega)]
  simp only [hin, hdiv, hmod, hi, and_self, dite_true, if_true]

theorem State.fabricRead_misaligned (h : a % 4 ≠ 0) : s.fabricRead g a = s.respond .alignment 0 false := if_pos h

theorem State.fabricRead_noTarget (h : a % 4 = 0) (hw : s.window a = none) : s.fabricRead g a = s.respond .noTarget 0 false := by
  rw [State.fabricRead, if_neg (by omega), hw]

theorem State.fabricRead_stalled (h : a % 4 = 0) (hw : s.window a = some (w, off)) (hs : s.windowStalled g w = true) : s.fabricRead g a = s.respond .stalled 0 false := by
  rw [State.fabricRead, if_neg (by omega), hw]
  exact if_pos hs

theorem State.fabricRead_plain (h : a % 4 = 0) (hw : s.window a = some (w, off)) (hs : s.windowStalled g w = false) (ha : w.action off = false) :
    s.fabricRead g a = s.respond .done (s.readPlain w off) false := by
  rw [State.fabricRead, if_neg (by omega), hw]
  simp only [hs, ha, Bool.false_eq_true, if_false]

theorem State.fabricRead_action (h : a % 4 = 0) (hw : s.window a = some (w, off)) (hs : s.windowStalled g w = false) (ha : w.action off = true) :
    s.fabricRead g a = (s.readAction w off).2.respond .done (s.readAction w off).1 (decide ((s.readAction w off).1 ≠ 0)) := by
  rw [State.fabricRead, if_neg (by omega), hw]
  simp only [hs, ha, Bool.false_eq_true, if_false, if_true]

theorem State.fabricWrite_misaligned (h : a % 4 ≠ 0) : s.fabricWrite g o a v = s.respond .alignment 0 false := if_pos h

theorem State.fabricWrite_noTarget (h : a % 4 = 0) (hw : s.window a = none) : s.fabricWrite g o a v = s.respond .noTarget 0 false := by
  unfold State.fabricWrite
  dsimp only
  rw [if_neg (by omega), hw]

theorem State.fabricWrite_stalled (h : a % 4 = 0) (hw : s.window a = some (w, off)) (hs : s.windowStalled g w = true) : s.fabricWrite g o a v = s.respond .stalled 0 false := by
  unfold State.fabricWrite
  dsimp only
  rw [if_neg (by omega), hw]
  exact if_pos hs

theorem State.fabricWrite_action (h : a % 4 = 0) (hw : s.window a = some (w, off)) (hs : s.windowStalled g w = false) (ha : w.action off = true) :
    s.fabricWrite g o a v = s.respond .done 0 false := by
  unfold State.fabricWrite
  dsimp only
  rw [if_neg (by omega), hw]
  simp only [hs, ha, Bool.false_eq_true, if_false, if_true]

/-- A write to a register of the NODE block below its action page. -/
theorem State.fabricWrite_node (h : off % 4 = 0) (ho : off < 0xFF000) (hs : s.windowStalled g .node = false) :
    s.fabricWrite g o off v = (s.writeNode off (v % 2 ^ 32)).respond .done 0 false := by
  have ha : Block.node.action off = false := by simp [Block.action, ho]
  unfold State.fabricWrite
  dsimp only
  rw [if_neg (by omega), s.window_node off (by omega)]
  simp only [hs, ha, Bool.false_eq_true, if_false]

/-- A read of the action page of the NODE block. -/
theorem State.fabricRead_nodeAction (h : off % 4 = 0) (ho : 0xFF000 ≤ off) (ho' : off < 0x100000) (hs : s.windowStalled g .node = false) :
    s.fabricRead g off = (s.countsNode off).2.respond .done (s.countsNode off).1 (decide ((s.countsNode off).1 ≠ 0)) :=
  s.fabricRead_action g off off .node h (s.window_node off ho') hs (by simp [Block.action, ho])

/-- NODE_COUNTS_RC: four counters of the node, cleared as they are read (R12). -/
theorem State.countsNode_counters : s.countsNode 0xFF008 =
    (bits 0 8 s.node.cntLocal + bits 8 8 s.node.cntRemote + bits 16 8 s.loop.cntAborted + bits 24 8 s.loop.cntRefused,
      (s.modNode fun n => { n with cntLocal := 0, cntRemote := 0 }).modLoop fun l => { l with cntAborted := 0, cntRefused := 0 }) := rfl

/-- NODE_EVENT_PENDING, W1C. -/
theorem State.writeNode_pending (k : Fin 8) : s.writeNode (0x080 + 4 * k.val) v = s.modNode fun n => { n with pending := n.pending.set k (clearBits n.pending[k] v) } := by
  fin_cases k <;> rfl

/-- NODE_EVENT_SUBSCRIBE. -/
theorem State.writeNode_subscribe (k : Fin 8) : s.writeNode (0x0A0 + 4 * k.val) v = s.modNode fun n => { n with subscribe := n.subscribe.set k v } := by
  fin_cases k <;> rfl

/-- A read by the MSS: what the fabric leaves, with the free values drawn. -/
theorem State.counterReadClear_eq {t : State} (h : s.mssUp = true) (ht : s.fabricRead .mss a = t) : exec (.counterReadClear a) s = .next t.draw :=
  ht ▸ s.complete_mssAccess_up (·.fabricRead .mss a) h

/-- A write by the MSS. -/
theorem State.registerWrite_eq {t : State} (h : s.mssUp = true) (ht : s.fabricWrite .mss none a v = t) : exec (.registerWrite a v) s = .next t.draw :=
  ht ▸ s.complete_mssAccess_up (·.fabricWrite .mss none a v) h

end

/-! ### The registers of the NODE block that the MSS reads and writes (R526 to R528) -/

section
variable (s : State) (hm : s.mssUp = true) (hs : s.windowStalled .mss .node = false)
include hm hs

theorem State.counterReadClear_node (off : Nat) (h : off % 4 = 0) (ho : 0xFF000 ≤ off) (ho' : off < 0x100000) :
    exec (.counterReadClear off) s = .next ((s.countsNode off).2.respond .done (s.countsNode off).1 (decide ((s.countsNode off).1 ≠ 0))).draw :=
  s.counterReadClear_eq off hm (s.fabricRead_nodeAction .mss off h ho ho' hs)

theorem State.registerWrite_node (off v : Nat) (h : off % 4 = 0) (ho : off < 0xFF000) : exec (.registerWrite off v) s = .next ((s.writeNode off (v % 2 ^ 32)).respond .done 0 false).draw :=
  s.registerWrite_eq off v hm (s.fabricWrite_node .mss none off v h ho hs)

/-- NODE_EVENT_POP tells how many events wait and takes the head. -/
theorem State.nodeEventPop_takes : ∃ t, exec .nodeEventPop s = .next t ∧ t = { s with access := t.access, node := { s.node with local_ := s.node.local_.drop 1 }, freeCount := s.freeCount + 1 } ∧
    t.access.response = .done ∧ t.access.data = s.node.local_.length % 128 + (if s.node.local_ = [] then 0 else 128) := by
  refine ⟨_, s.counterReadClear_node hm hs 0xFF000 (by decide) (by decide) (by decide), rfl, rfl, ?_⟩
  show bits 0 7 s.node.local_.length + bit1 7 (!s.node.local_.isEmpty) = _
  cases s.node.local_ <;> simp [bits, bit1]

/-- NODE_REMOTE_POP takes the head, and reads 0 where none waits. -/
theorem State.nodeRemotePop_takes : ∃ t, exec .nodeRemotePop s = .next t ∧ t = { s with access := t.access, node := { s.node with remote := s.node.remote.drop 1 }, freeCount := s.freeCount + 1 } ∧
    t.access.response = .done ∧ (s.node.remote = [] → t.access.data = 0) := by
  refine ⟨_, s.counterReadClear_node hm hs 0xFF004 (by decide) (by decide) (by decide), rfl, rfl, fun h => ?_⟩
  show s.popRemote.1 = 0
  simp [State.popRemote, h, bits, bit1]

/-- A read of NODE_COUNTS_RC answers its four counters and clears them (R12). -/
theorem State.nodeCounts_cleared : ∃ t, exec (.counterReadClear 0xFF008) s = .next t ∧ t.access.response = .done ∧ t.access.data % 256 = s.node.cntLocal % 256 ∧
    t.node = { s.node with cntLocal := 0, cntRemote := 0 } ∧ t.loop = { s.loop with cntAborted := 0, cntRefused := 0 } ∧ t.slices = s.slices ∧ t.hws = s.hws := by
  have hread := s.counterReadClear_node hm hs 0xFF008 (by decide) (by decide) (by decide)
  rw [State.countsNode_counters] at hread
  refine ⟨_, hread, rfl, ?_, ?_, ?_, ?_, ?_⟩
  · simp only [State.respond, State.draw_access, bits]
    omega
  · rfl
  · rfl
  · rfl
  · rfl

theorem State.nodeMask_written (v : Nat) : exec (.registerWrite 0x030 v) s = .next { s with node := { s.node with mask := v % 4 }, access := ⟨.done, 0, false⟩, freeCount := s.freeCount + 1 } := by
  have hmask : v % 2 ^ 32 % 4 = v % 4 := by omega
  rw [s.registerWrite_node hm hs _ v (by decide) (by decide), ← hmask]
  rfl

theorem State.nodeSubscribe_written (k : Fin 8) (v : Nat) : exec (.registerWrite (0x0A0 + 4 * k.val) v) s =
    .next { s with node := { s.node with subscribe := s.node.subscribe.set k.val (v % 2 ^ 32) }, access := ⟨.done, 0, false⟩, freeCount := s.freeCount + 1 } := by
  rw [s.registerWrite_node hm hs _ v (by omega) (by omega), State.writeNode_subscribe]
  rfl

/-- A write to a word of NODE_EVENT_PENDING clears the bits it names (R14). -/
theorem State.nodePending_cleared (k : Fin 8) (v j : Nat) : ∃ t, exec (.registerWrite (0x080 + 4 * k.val) v) s = .next t ∧
    t = { s with access := ⟨.done, 0, false⟩, node := { s.node with pending := t.node.pending }, freeCount := s.freeCount + 1 } ∧
    (j < 32 → t.node.pending[k].testBit j = (s.node.pending[k].testBit j && !v.testBit j)) ∧ ∀ i : Fin 8, i ≠ k → t.node.pending[i] = s.node.pending[i] := by
  have hclear := s.registerWrite_node hm hs (0x080 + 4 * k.val) v (by omega) (by omega)
  rw [State.writeNode_pending] at hclear
  refine ⟨_, hclear, rfl, fun hj => ?_, fun i hi => ?_⟩
  · exact (congrArg (Nat.testBit · j) (Vector.getElem_set_self _)).trans (clearBits_word_testBit _ v j hj)
  · exact Vector.getElem_set_ne k.isLt i.isLt fun e => hi (Fin.ext e.symm)

end

/-- What the delivery of a queue's oldest event leaves (R527 to R529). -/
theorem State.eventDelivery_delivered (q : Fin 18) (x : Ev) (rest : List Ev) (s : State) (h : (s.intake q).undelivered = x :: rest) (hup : s.hawserUp = true) (hc : s.eventChannel q = true) :
    ∃ sls dq mq spl, s.eventDelivery q = { s with slices := sls, dq := dq, mq := mq, spl := spl, node := s.node.note x } ∧
      (s.subscribed x = false ∨ s.spl.events.length + s.spl.eventsNew.length < 64 →
        ((s.eventDelivery q).intake q).entries = (s.intake q).entries ∧ ((s.eventDelivery q).intake q).undelivered = rest) ∧
      (s.subscribed x = false → spl = s.spl) ∧
      (s.subscribed x = true → s.spl.events.length + s.spl.eventsNew.length < 64 → spl.eventsNew = s.spl.eventsNew ++ [⟨x.src, x.code, x.detail, x.at_⟩]) := by
  obtain ⟨sls, dq, mq, hset⟩ := s.setIntake_eq q { s.intake q with undelivered := rest }
  have hintake := s.intake_setIntake q { s.intake q with undelivered := rest }
  have htakes := s.eventDelivery_takes q x rest h
  rw [if_pos (by simp [hup, hc]), hset] at htakes
  rw [hset] at hintake
  obtain ⟨spl, dq', hdeliver, hspl, hdq, hnew⟩ := ({ s with slices := sls, dq := dq, mq := mq } : State).deliver_changes x
  rw [hdeliver] at htakes
  refine ⟨sls, dq', mq, spl, htakes, fun hfree => ?_, hspl, hnew⟩
  have hkept : (s.eventDelivery q).intake q = { s.intake q with undelivered := rest } := by rw [htakes, hdq hfree]; exact hintake
  rw [hkept]
  exact ⟨rfl, rfl⟩

/-- Settles O55: delivery by what it does to the NODE block and to Splice, the four register commands by the response of the fabric to the MSS. -/
theorem eventsAreDeliveredAndPopped : Obligations.EventsAreDeliveredAndPopped := by
  refine ⟨fun q x rest s h hup hc => ?_, fun q x rest s h hstop => ?_, fun q s h => ?_, fun s hm hs => ?_, fun i s hm hs hi => ?_, fun a v s hm ha => ?_, fun a v s hm ha hw => ?_,
    fun a v off w s hm ha hw => ?_, fun a v s hm => ?_, fun s hm hs => ?_⟩
  case refine_1 =>
    obtain ⟨sls, dq, mq, spl, heq, hintake, hspl, hnew⟩ := s.eventDelivery_delivered q x rest h hup hc
    rw [heq] at hintake
    refine ⟨_, congrArg State.complete heq, rfl, hintake, s.node.note_pending_bit x, s.node.note_pending_other x,
      s.node.note_of_room x, s.node.note_of_full x, s.node.note_remote x, hnew, hspl, rfl, rfl, rfl, rfl⟩
  case refine_2 =>
    refine congrArg State.complete ((s.eventDelivery_takes q x rest h).trans (if_neg ?_))
    rcases hstop with hstop | hstop <;> simp [hstop]
  case refine_3 => exact congrArg State.complete (s.eventDelivery_empty q h)
  case refine_4 => exact ⟨s.nodeEventPop_takes hm hs, s.nodeRemotePop_takes hm hs, s.nodeCounts_cleared hm hs, s.nodeMask_written hm hs, s.nodeSubscribe_written hm hs, s.nodePending_cleared hm hs⟩
  case refine_5 =>
    have hw : s.window (0x0400F000 + 0x10000 * i.val) = some (.slice i, 0xF000) := by
      rw [← s.window_slice 0xF000 i (by decide) hi]
      congr 1
      omega
    exact ⟨_, s.counterReadClear_eq _ hm (s.fabricRead_action .mss _ _ _ (by omega) hw hs rfl), rfl, rfl, rfl, rfl, rfl⟩
  case refine_6 => exact ⟨s.registerWrite_eq a v hm (s.fabricWrite_misaligned _ _ a v ha), s.counterReadClear_eq a hm (s.fabricRead_misaligned _ a ha)⟩
  case refine_7 => exact ⟨s.registerWrite_eq a v hm (s.fabricWrite_noTarget _ _ a v ha hw), s.counterReadClear_eq a hm (s.fabricRead_noTarget _ a ha hw)⟩
  case refine_8 =>
    exact ⟨fun hs => ⟨s.registerWrite_eq a v hm (s.fabricWrite_stalled _ _ a off v w ha hw hs), s.counterReadClear_eq a hm (s.fabricRead_stalled _ a off w ha hw hs)⟩,
      fun hs hact => s.registerWrite_eq a v hm (s.fabricWrite_action _ _ a off v w ha hw hs hact), fun hs hact => s.counterReadClear_eq a hm (s.fabricRead_plain _ a off w ha hw hs hact)⟩
  case refine_9 =>
    have still (f : State → State) := s.complete_mssAccess_down f hm
    exact ⟨still _, still _, still _, still _⟩
  case refine_10 =>
    have hstalled (off : Nat) (h : off % 4 = 0) (ho : off < 0x100000) := s.counterReadClear_eq off hm (s.fabricRead_stalled .mss off off .node h (s.window_node off ho) hs)
    exact ⟨hstalled 0xFF000 (by decide) (by decide), hstalled 0xFF004 (by decide) (by decide)⟩

end Sys2Proof.Machine
end

section
/-! PROOFS. What the operations of the module leave alone, in two views: the AUTH lines with the gate, the paces of the counters and the ground that a cycle's work stands on; and with them the car side. Then the operations of State, Frames and Mapping. -/

namespace Sys2Proof.Machine

/-- The two AUTH lines and the power gate that they command (R395). -/
structure Wires where
  readback : Bool
  inp : Bool
  gate : Bool

/-- How far every time counter runs off its pace, and the pace that the servo of Hawser returns to (R38, R275). -/
structure Rates where
  clocks : Vector Int 17
  hawser : Int
  servo : Option Int

/-- What of a region of the process image its readers see: bytes and age (R21, R23). -/
def Region.seen (r : Region) : Mem × Nat := (r.visible, r.age)

/-- What the work of a cycle leaves alone: time, queue, part, plug, parameters, islands with their clocks, and the visible process image. -/
structure Ground where
  now : Nat
  lastSync : Nat
  pending : List Instr
  small : Bool
  params : Mem
  plug : Plug
  freeCount : Nat
  islands : Vector Island 34
  clocks : Vector Clock 17
  slices : Vector (Mem × Nat) 16
  hawser : Mem × Nat
  splice : Mem × Nat
  mss : Mem × Nat

/-- What the work of the car side leaves alone. -/
structure Core where
  wires : Wires
  rates : Rates
  ground : Ground

/-- What the work of the train side and of the management leaves alone. -/
structure View where
  core : Core
  cars : Vector Slice 16 × Vector Group 2 × LoopCell

def State.view (s : State) : View where
  core :=
    { wires := ⟨s.twn.auth.readback, s.twn.auth.inp, s.twn.gate⟩
      rates := ⟨s.clocks.map fun c => c.counter.rate, s.hws.clock.rate, s.hws.servo.map fun v => v.rate⟩
      ground := ⟨s.now, s.lastSync, s.pending, s.small, s.params, s.plug, s.freeCount, s.islands, s.clocks,
        s.sliceRegions.map Region.seen, s.hwsRegion.seen, s.splRegion.seen, s.mssRegion.seen⟩ }
  cars := (s.slices, s.groups, s.loop)

@[simp] theorem State.ite_view (c : Prop) [Decidable c] (s t : State) : (if c then s else t).view = if c then s.view else t.view := apply_ite State.view c s t

@[simp] theorem State.dite_view (c : Prop) [Decidable c] (f : c → State) (g : ¬c → State) : (dite c f g).view = dite c (fun h => (f h).view) fun h => (g h).view := apply_dite State.view c f g

@[simp] theorem View.dite_core (c : Prop) [Decidable c] (f : c → View) (g : ¬c → View) : (dite c f g).core = dite c (fun h => (f h).core) fun h => (g h).core := apply_dite View.core c f g

@[simp] theorem View.ite_core (c : Prop) [Decidable c] (v w : View) : (if c then v else w).core = if c then v.core else w.core := apply_ite View.core c v w

@[simp] theorem View.ite_cars (c : Prop) [Decidable c] (v w : View) : (if c then v else w).cars = if c then v.cars else w.cars := apply_ite View.cars c v w

@[simp] theorem Core.ite_wires (c : Prop) [Decidable c] (v w : Core) : (if c then v else w).wires = if c then v.wires else w.wires := apply_ite Core.wires c v w

@[simp] theorem Core.ite_rates (c : Prop) [Decidable c] (v w : Core) : (if c then v else w).rates = if c then v.rates else w.rates := apply_ite Core.rates c v w

@[simp] theorem Core.ite_ground (c : Prop) [Decidable c] (v w : Core) : (if c then v else w).ground = if c then v.ground else w.ground := apply_ite Core.ground c v w

@[simp] theorem Hawser.ite_clock (c : Prop) [Decidable c] (v w : Hawser) : (if c then v else w).clock = if c then v.clock else w.clock := apply_ite Hawser.clock c v w

@[simp] theorem Hawser.ite_servo (c : Prop) [Decidable c] (v w : Hawser) : (if c then v else w).servo = if c then v.servo else w.servo := apply_ite Hawser.servo c v w

@[simp] theorem Hawser.setSlot_clock (c : Fin 2) (p : Fin 128) (x : Slot) (h : Hawser) : (h.setSlot c p x).clock = h.clock := by simp [Hawser.setSlot]

@[simp] theorem Hawser.setSlot_servo (c : Fin 2) (p : Fin 128) (x : Slot) (h : Hawser) : (h.setSlot c p x).servo = h.servo := by simp [Hawser.setSlot]

@[simp] theorem Counter.step_rate (d : Int) (x : Counter) : (x.step d).rate = x.rate := (rfl)

@[simp] theorem Region.write_age (off : Nat) (b : List Byte) (r : Region) : (r.write off b).age = r.age := (rfl)

section
variable (s : State)

@[simp] theorem State.foldl_view {α : Type} (f : State → α → State) (h : ∀ s x, (f s x).view = s.view) (l : List α) : (l.foldl f s).view = s.view := foldl_keeps _ f h l s

@[simp] theorem State.foldl_core {α : Type} (f : State → α → State) (h : ∀ s x, (f s x).view.core = s.view.core) (l : List α) : (l.foldl f s).view.core = s.view.core := foldl_keeps (fun s => s.view.core) f h l s

@[simp] theorem State.foldl_rates {α : Type} (f : State → α → State) (h : ∀ s x, (f s x).view.core.rates = s.view.core.rates) (l : List α) : (l.foldl f s).view.core.rates = s.view.core.rates := foldl_keeps (fun s => s.view.core.rates) f h l s

@[simp] theorem State.foldl_ground {α : Type} (f : State → α → State) (h : ∀ s x, (f s x).view.core.ground = s.view.core.ground) (l : List α) : (l.foldl f s).view.core.ground = s.view.core.ground := foldl_keeps (fun s => s.view.core.ground) f h l s

@[simp] theorem State.foldl_wires {α : Type} (f : State → α → State) (h : ∀ s x, (f s x).view.core.wires = s.view.core.wires) (l : List α) : (l.foldl f s).view.core.wires = s.view.core.wires := foldl_keeps (fun s => s.view.core.wires) f h l s

@[simp] theorem State.eachSlice_rates (f : Fin 16 → State → State) (h : ∀ i s, (f i s).view.core.rates = s.view.core.rates) : (s.eachSlice f).view.core.rates = s.view.core.rates := State.eachSlice_keeps (fun s => s.view.core.rates) f h s

@[simp] theorem State.eachSlice_ground (f : Fin 16 → State → State) (h : ∀ i s, (f i s).view.core.ground = s.view.core.ground) : (s.eachSlice f).view.core.ground = s.view.core.ground := State.eachSlice_keeps (fun s => s.view.core.ground) f h s

@[simp] theorem State.eachSlice_wires (f : Fin 16 → State → State) (h : ∀ i s, (f i s).view.core.wires = s.view.core.wires) : (s.eachSlice f).view.core.wires = s.view.core.wires := State.eachSlice_keeps (fun s => s.view.core.wires) f h s

@[simp] theorem State.eachSlice_core (f : Fin 16 → State → State) (h : ∀ i s, (f i s).view.core = s.view.core) : (s.eachSlice f).view.core = s.view.core := State.eachSlice_keeps (fun s => s.view.core) f h s

@[simp] theorem State.modSlice_core (i : Fin 16) (f : Slice → Slice) : (s.modSlice i f).view.core = s.view.core := (rfl)

@[simp] theorem State.modGroup_core (g : Fin 2) (f : Group → Group) : (s.modGroup g f).view.core = s.view.core := (rfl)

@[simp] theorem State.modLoop_core (f : LoopCell → LoopCell) : (s.modLoop f).view.core = s.view.core := (rfl)

@[simp] theorem State.modIna_view (f : Inaug → Inaug) : (s.modIna f).view = s.view := (rfl)

@[simp] theorem State.modSpl_view (f : Splice → Splice) : (s.modSpl f).view = s.view := (rfl)

@[simp] theorem State.modCfg_view (f : Cfg → Cfg) : (s.modCfg f).view = s.view := (rfl)

@[simp] theorem State.modMss_view (f : Mss → Mss) : (s.modMss f).view = s.view := (rfl)

@[simp] theorem State.modLog_view (f : Logline → Logline) : (s.modLog f).view = s.view := (rfl)

@[simp] theorem State.modNode_view (f : NodeEvents → NodeEvents) : (s.modNode f).view = s.view := (rfl)

@[simp] theorem State.modStart_view (f : Start → Start) : (s.modStart f).view = s.view := (rfl)

@[simp] theorem State.modTwn_rest (f : Twin → Twin) : (s.modTwn f).view.core.rates = s.view.core.rates ∧ (s.modTwn f).view.core.ground = s.view.core.ground ∧ (s.modTwn f).view.cars = s.view.cars := ⟨rfl, rfl, rfl⟩

@[simp] theorem State.modAuth_rest (f : Auth → Auth) : (s.modAuth f).view.core.rates = s.view.core.rates ∧ (s.modAuth f).view.core.ground = s.view.core.ground ∧ (s.modAuth f).view.cars = s.view.cars := ⟨rfl, rfl, rfl⟩

@[simp] theorem State.modHws_rest (f : Hawser → Hawser) : (s.modHws f).view.core.wires = s.view.core.wires ∧ (s.modHws f).view.core.ground = s.view.core.ground ∧ (s.modHws f).view.cars = s.view.cars := ⟨rfl, rfl, rfl⟩

@[simp] theorem State.modIsland_rest (k : Fin 34) (f : Island → Island) : (s.modIsland k f).view.core.wires = s.view.core.wires ∧ (s.modIsland k f).view.core.rates = s.view.core.rates ∧ (s.modIsland k f).view.cars = s.view.cars := ⟨rfl, rfl, rfl⟩

@[simp] theorem State.modClock_rest (k : Fin 17) (f : Clock → Clock) : (s.modClock k f).view.core.wires = s.view.core.wires ∧ (s.modClock k f).view.cars = s.view.cars := ⟨rfl, rfl⟩

/-- A clock whose pace stands keeps the rates. -/
@[simp] theorem State.modClock_rates (k : Fin 17) (f : Clock → Clock) (h : ∀ c, (f c).counter.rate = c.counter.rate) : (s.modClock k f).view.core.rates = s.view.core.rates := by
  have hset : (s.clocks.set k (f s.clocks[k])).map (fun c => c.counter.rate) = s.clocks.map fun c => c.counter.rate := by
    ext j hj
    by_cases hjk : k.val = j <;> simp [hjk, h]
  unfold State.view
  simp only [State.modClock, hset]

/-- The Hawser engine's own work leaves its counter and servo. -/
@[simp] theorem State.modHws_view (f : Hawser → Hawser) (hc : ∀ h, (f h).clock.rate = h.clock.rate) (hv : ∀ h, (f h).servo = h.servo) : (s.modHws f).view = s.view := by
  unfold State.view; simp only [State.modHws, hc, hv]

@[simp] theorem State.modTwn_view (f : Twin → Twin) (ha : ∀ t, (f t).auth = t.auth) (hg : ∀ t, (f t).gate = t.gate) : (s.modTwn f).view = s.view := by
  unfold State.view; simp only [State.modTwn, ha, hg]

@[simp] theorem State.modAuth_view (f : Auth → Auth) (hr : ∀ a, (f a).readback = a.readback) (hi : ∀ a, (f a).inp = a.inp) : (s.modAuth f).view = s.view := by
  unfold State.view; simp only [State.modAuth, State.modTwn, hr, hi]

@[simp] theorem State.modRegion_view (r : RegionId) (f : Region → Region) (h : ∀ x, (f x).seen = x.seen) : (s.modRegion r f).view = s.view := by
  cases r with
  | slice i =>
    have hset : (s.sliceRegions.set i (f s.sliceRegions[i])).map Region.seen = s.sliceRegions.map Region.seen := by
      refine Vector.ext fun j hj => ?_
      by_cases hij : i.val = j <;> simp [hij, h]
    unfold State.view State.modRegion; simp only [hset]
  | hawser | splice | mss => unfold State.view State.modRegion; simp only [h]
  | reserved => rfl

@[simp] theorem State.withHwsRegion_view (r : Region) (hv : r.visible = s.hwsRegion.visible) (ha : r.age = s.hwsRegion.age) : ({ s with hwsRegion := r } : State).view = s.view := by
  unfold State.view Region.seen; simp only [hv, ha]

@[simp] theorem State.withSplRegion_view (r : Region) (hv : r.visible = s.splRegion.visible) (ha : r.age = s.splRegion.age) : ({ s with splRegion := r } : State).view = s.view := by
  unfold State.view Region.seen; simp only [hv, ha]

@[simp] theorem State.withMssRegion_view (r : Region) (hv : r.visible = s.mssRegion.visible) (ha : r.age = s.mssRegion.age) : ({ s with mssRegion := r } : State).view = s.view := by
  unfold State.view Region.seen; simp only [hv, ha]

@[simp] theorem State.withDq_view (q : IntakeQ) : ({ s with dq := q } : State).view = s.view := (rfl)

@[simp] theorem State.withMq_view (q : IntakeQ) : ({ s with mq := q } : State).view = s.view := (rfl)

@[simp] theorem State.withGroups_core (g : Vector Group 2) : ({ s with groups := g } : State).view.core = s.view.core := (rfl)

@[simp] theorem State.withStalled_view (l : List Handshake) : ({ s with stalled := l } : State).view = s.view := (rfl)

@[simp] theorem State.withPlug_view (p : Plug) : ({ s with plug := p } : State).view.core.wires = s.view.core.wires ∧ ({ s with plug := p } : State).view.core.rates = s.view.core.rates ∧ ({ s with plug := p } : State).view.cars = s.view.cars := ⟨rfl, rfl, rfl⟩

@[simp] theorem State.raise_view (n code detail : Nat) : (s.raise n code detail).view = s.view := by
  unfold State.raise
  split <;> rfl

@[simp] theorem State.hwsEvent_view (e p c q : Nat) : (s.hwsEvent e p c q).view = s.view := State.raise_view _ _ _ _

@[simp] theorem State.inaEvent_view (e c q : Nat) : (s.inaEvent e c q).view = s.view := State.raise_view _ _ _ _

@[simp] theorem State.twnEvent_view (e c : Nat) : (s.twnEvent e c).view = s.view := State.raise_view _ _ _ _

@[simp] theorem State.splEvent_view (e p n a : Nat) : (s.splEvent e p n a).view = s.view := State.raise_view _ _ _ _

@[simp] theorem State.logEvent_view (e c d : Nat) : (s.logEvent e c d).view = s.view := State.raise_view _ _ _ _

@[simp] theorem State.mssEvent_view (e c d : Nat) : (s.mssEvent e c d).view = s.view := State.raise_view _ _ _ _

@[simp] theorem State.cfgEvent_view (e c : Nat) : (s.cfgEvent e c).view = s.view := State.raise_view _ _ _ _

@[simp] theorem State.blyEvent_core (g : Fin 2) (e c i : Nat) : (s.blyEvent g e c i).view.core = s.view.core := by rw [State.blyEvent, State.raise_view, State.modGroup_core]

/-- Time that passes leaves all but the time. -/
@[simp] theorem State.advance_view (t : Nat) : (s.advance t).view.core.wires = s.view.core.wires ∧ (s.advance t).view.core.rates = s.view.core.rates ∧ (s.advance t).view.cars = s.view.cars := ⟨rfl, rfl, rfl⟩

@[simp] theorem State.draw_view : s.draw.view.core.wires = s.view.core.wires ∧ s.draw.view.core.rates = s.view.core.rates ∧ s.draw.view.cars = s.view.cars := ⟨rfl, rfl, rfl⟩

end

@[simp] theorem State.settleGate_rest (s : State) : s.settleGate.view.core.rates = s.view.core.rates ∧ s.settleGate.view.core.ground = s.view.core.ground := by
  unfold State.settleGate
  dsimp only
  split
  · exact ⟨rfl, rfl⟩
  · simp

@[simp] theorem State.modPort_view (i : Fin 4) (f : HPort → HPort) (s : State) : (s.modPort i f).view = s.view := by
  simp [State.modPort]

@[simp] theorem State.modRelay_view (c : Fin 2) (f : Relay → Relay) (s : State) : (s.modRelay c f).view = s.view := by
  simp [State.modRelay]

@[simp] theorem State.openCycle_core (i : Fin 16) (m : Int) (gap : Nat) (s : State) : (s.openCycle i m gap).view.core = s.view.core := by
  simp [State.openCycle]

@[simp] theorem State.onSlice_core (i : Fin 16) (f : Env → Slice → Slice) (s : State) : (s.onSlice i f).view.core = s.view.core := by
  simp [State.onSlice]

@[simp] theorem State.onPower_core (i : Fin 16) (f : Env → Slice → Slice) (s : State) : (s.onPower i f).view.core = s.view.core := by
  simp [State.onPower]

@[simp] theorem State.send_view (w : Sent) (s : State) : (s.send w).view = s.view := by
  simp [State.send]

@[simp] theorem State.noteStale_view (num : Nat) (m : MapEntry) (age : Nat) (s : State) : (s.noteStale num m age).view = s.view := by
  simp [State.noteStale]

@[simp] theorem State.receiveEntries_view (p : Fin 128) (c : Fin 2) (data : List Byte) (s : State) : (s.receiveEntries p c data).view = s.view := by
  simp [State.receiveEntries]

@[simp] theorem State.placeEntries_view (p : Fin 128) (c : Fin 2) (s : State) : (s.placeEntries p c).view = s.view := by
  simp [State.placeEntries]

@[simp] theorem State.staleEntries_view (s : State) : (s.staleEntries).view = s.view := by
  simp [State.staleEntries]

@[simp] theorem State.mappingPass_view (s : State) : (s.mappingPass).view = s.view := by
  simp [State.mappingPass]

@[simp] theorem State.assemble_view (c : Fin 2) (ref n : Nat) (head : List Byte) (s : State) : (s.assemble c ref n head).1.view = s.view := by
  unfold State.assemble
  refine foldl_keeps (fun (x : State × Mem × Bool) => x.1.view) _ (fun x y => ?_) _ _
  dsimp only
  split <;> simp

end Sys2Proof.Machine
end

section
/-! PROOFS. What the operations of the car side, the groups, the Hawser and the recorder leave alone. -/

namespace Sys2Proof.Machine

@[simp] theorem State.sendRing_view (c : Fin 2) (dest : Nat) (empty repeated : Bool) (dataLen eventLen : Nat) (body : Body) (s : State) : (s.sendRing c dest empty repeated dataLen eventLen body).view = s.view := by
  simp [State.sendRing]

@[simp] theorem State.queueAsync_view (dest : Nat) (body : Body) (s : State) : (s.queueAsync dest body).view = s.view := by
  simp [State.queueAsync]

@[simp] theorem State.moveAsync_view (s : State) : (s.moveAsync).view = s.view := by
  simp [State.moveAsync]

@[simp] theorem State.sendPort_view (i : Fin 4) (body : Body) (s : State) : (s.sendPort i body).view = s.view := by
  simp [State.sendPort]

@[simp] theorem State.calendarFollow_view (b : Beacon) (s : State) : (s.calendarFollow b).view = s.view := by
  simp [State.calendarFollow]

@[simp] theorem State.announce_view (a m : Nat) (s : State) : (s.announce a m).view = s.view := by
  simp [State.announce]

@[simp] theorem State.fallBack_view (c : Fin 2) (s : State) : (s.fallBack c).view = s.view := by
  simp [State.fallBack]

@[simp] theorem State.dueChannel_view (c : Fin 2) (s : State) : (s.dueChannel c).view = s.view := by
  simp [State.dueChannel]

@[simp] theorem State.dueFallback_view (s : State) : (s.dueFallback).view = s.view := by
  simp [State.dueFallback]

@[simp] theorem State.takeModeRequest_view (s : State) : (s.takeModeRequest).view = s.view := by
  simp [State.takeModeRequest]

@[simp] theorem State.modeSwitch_view (s : State) : (s.modeSwitch).view = s.view := by
  simp [State.modeSwitch]

@[simp] theorem State.channelDegraded_view (c : Fin 2) (s : State) : (s.channelDegraded c).view = s.view := by
  simp [State.channelDegraded]

@[simp] theorem State.autoReturn_view (s : State) : (s.autoReturn).view = s.view := by
  unfold State.autoReturn
  repeat' split
  all_goals simp

@[simp] theorem State.insertFrame_rest (c : Fin 2) (what : Slotted) (s : State) : (s.insertFrame c what).view.core.wires = s.view.core.wires ∧ (s.insertFrame c what).view.core.rates = s.view.core.rates ∧ (s.insertFrame c what).view.cars = s.view.cars := by
  unfold State.insertFrame
  repeat' split
  all_goals simp

@[simp] theorem State.containerPass_view (c : Fin 2) (index : Nat) (empty : Bool) (s : State) : (s.containerPass c index empty).view = s.view := by
  unfold State.containerPass
  dsimp only
  repeat' split
  all_goals simp

@[simp] theorem State.asyncBacklog_view (c : Fin 2) (s : State) : (s.asyncBacklog c).view = s.view := by
  unfold State.asyncBacklog
  repeat' split
  all_goals simp

@[simp] theorem State.guardAct_view (i : Fin 4) (truncated : Bool) (s : State) : (s.guardAct i truncated).view = s.view := by
  simp [State.guardAct]

@[simp] theorem State.noteHealth_view (p : Nat) (health : Nat) (s : State) : (s.noteHealth p health).view = s.view := by
  simp [State.noteHealth]

@[simp] theorem State.noteEvents_view (p : Nat) (evs : List EventMsg) (s : State) : (s.noteEvents p evs).view = s.view := by
  simp [State.noteEvents]

@[simp] theorem State.copyStatic_view (c : Fin 2) (p : Nat) (h : HwsHeader) (data : List Byte) (evs : List EventMsg) (ok : Bool) (s : State) : (s.copyStatic c p h data evs ok).view = s.view := by
  simp [State.copyStatic]

@[simp] theorem State.copyResponse_view (c : Fin 2) (j : Nat) (h : HwsHeader) (ok : Bool) (s : State) : (s.copyResponse c j h ok).view = s.view := by
  unfold State.copyResponse
  repeat' split
  all_goals simp

@[simp] theorem State.pollReceive_view (c : Fin 2) (slots : List PollSlot) (s : State) : (s.pollReceive c slots).view = s.view := by
  simp [State.pollReceive]

@[simp] theorem State.passOn_view (i : Fin 4) (cut : Bool) (h : HwsHeader) (body : Body) (s : State) : (s.passOn i cut h body).view = s.view := by
  simp [State.passOn]

@[simp] theorem State.hawserFrame_rest (i : Fin 4) (h : HwsHeader) (body : Body) (arrival : Arrival) (startAt endAt : Nat) (s : State) : (s.hawserFrame i h body arrival startAt endAt).view.core.wires = s.view.core.wires ∧ (s.hawserFrame i h body arrival startAt endAt).view.core.rates = s.view.core.rates ∧ (s.hawserFrame i h body arrival startAt endAt).view.cars = s.view.cars := by
  unfold State.hawserFrame
  dsimp only
  repeat' split
  all_goals simp

@[simp] theorem State.ownRemoval_view (c : Fin 2) (what : Slotted) (ok : Bool) (ringNs : Nat) (s : State) : (s.ownRemoval c what ok ringNs).view = s.view := by
  unfold State.ownRemoval
  dsimp only
  repeat' split
  all_goals simp

@[simp] theorem State.leftSchedule_view (c : Fin 2) (s : State) : (s.leftSchedule c).view = s.view := by
  simp [State.leftSchedule]

@[simp] theorem State.beaconLost_view (s : State) : (s.beaconLost).view = s.view := by
  simp [State.beaconLost]

@[simp] theorem State.slotStale_view (p : Fin 128) (c : Fin 2) (s : State) : (s.slotStale p c).view = s.view := by
  simp [State.slotStale]

@[simp] theorem State.takeHwsCommand_view (s : State) : (s.takeHwsCommand).view = s.view := by
  simp [State.takeHwsCommand]

@[simp] theorem State.measureLink_rest (i : Fin 4) (t1 t2 t3 t4 : Int) (s : State) : (s.measureLink i t1 t2 t3 t4).view.core.wires = s.view.core.wires ∧ (s.measureLink i t1 t2 t3 t4).view.core.rates = s.view.core.rates ∧ (s.measureLink i t1 t2 t3 t4).view.cars = s.view.cars := by
  simp [State.measureLink]

@[simp] theorem State.noteSwitch_view (b : Beacon) (s : State) : (s.noteSwitch b).view = s.view := by
  simp [State.noteSwitch]

@[simp] theorem State.askDirectory_view (i : Fin 4) (b : Beacon) (s : State) : (s.askDirectory i b).view = s.view := by
  simp [State.askDirectory]

@[simp] theorem State.passBeacon_view (i : Fin 4) (h : HwsHeader) (b : Beacon) (s : State) : (s.passBeacon i h b).view = s.view := by
  simp [State.passBeacon]

@[simp] theorem State.beaconReceive_rest (i : Fin 4) (h : HwsHeader) (b : Beacon) (rx : Nat) (s : State) : (s.beaconReceive i h b rx).view.core.wires = s.view.core.wires ∧ (s.beaconReceive i h b rx).view.core.ground = s.view.core.ground ∧ (s.beaconReceive i h b rx).view.cars = s.view.cars := by
  simp [State.beaconReceive]

@[simp] theorem State.applyHwsStep_view (s : State) : (s.applyHwsStep).view = s.view := by
  unfold State.applyHwsStep
  repeat' split
  all_goals simp

@[simp] theorem State.openRelay_view (c : Fin 2) (s : State) : (s.openRelay c).view = s.view := by
  simp [State.openRelay]

@[simp] theorem State.stopRelays_view (s : State) : (s.stopRelays).view = s.view := by
  simp [State.stopRelays]

@[simp] theorem State.relayDriveStop_rest (c : Fin 2) (s : State) : (s.relayDriveStop c).view.core.wires = s.view.core.wires ∧ (s.relayDriveStop c).view.core.rates = s.view.core.rates ∧ (s.relayDriveStop c).view.cars = s.view.cars := by
  simp [State.relayDriveStop]

@[simp] theorem State.relayMismatch_view (c : Fin 2) (open_ : Bool) (s : State) : (s.relayMismatch c open_).view = s.view := by
  simp [State.relayMismatch]

@[simp] theorem State.watchChannels_view (s : State) : (s.watchChannels).view = s.view := by
  simp [State.watchChannels]

@[simp] theorem State.writeStatus_view (s : State) : (s.writeStatus).view = s.view := by
  simp [State.writeStatus]

@[simp] theorem Hawser.watchOwn_clock (c : Fin 2) (h : Hawser) : (h.watchOwn c).clock = h.clock := by simp [Hawser.watchOwn]

@[simp] theorem Hawser.watchOwn_servo (c : Fin 2) (h : Hawser) : (h.watchOwn c).servo = h.servo := by simp [Hawser.watchOwn]

@[simp] theorem Hawser.closeSlots_clock (h : Hawser) : h.closeSlots.clock = h.clock := (rfl)

@[simp] theorem Hawser.closeSlots_servo (h : Hawser) : h.closeSlots.servo = h.servo := (rfl)

@[simp] theorem State.hwsCycleEnd_view (s : State) : s.hwsCycleEnd.view = s.view := by
  simp [State.hwsCycleEnd]

@[simp] theorem State.closeEvents_view (s : State) : (s.closeEvents).view = s.view := by
  simp [State.closeEvents]

@[simp] theorem State.hwsCycleStart_rest (s : State) : s.hwsCycleStart.view.core.wires = s.view.core.wires ∧ s.hwsCycleStart.view.core.ground = s.view.core.ground ∧ s.hwsCycleStart.view.cars = s.view.cars := by
  simp [State.hwsCycleStart]

@[simp] theorem State.setIntake_core (q : Fin 18) (x : IntakeQ) (s : State) : (s.setIntake q x).view.core = s.view.core := by
  simp [State.setIntake]

@[simp] theorem State.intakeOffer_core (q : Fin 18) (x : Intake) (s : State) : (s.intakeOffer q x).view.core = s.view.core := by
  simp [State.intakeOffer]

@[simp] theorem State.flushTrigger_view (tr : Nat) (s : State) : (s.flushTrigger tr).view = s.view := by
  simp [State.flushTrigger]

@[simp] theorem State.noteLosses_view (q : Fin 18) (n : Nat) (s : State) : (s.noteLosses q n).view = s.view := by
  simp [State.noteLosses]

@[simp] theorem State.pushRecord_view (r : LogRec) (s : State) : (s.pushRecord r).view = s.view := by
  unfold State.pushRecord
  dsimp only
  repeat' split
  all_goals simp

@[simp] theorem State.storeTeach_view (r : AxisRecord) (s : State) : (s.storeTeach r).view = s.view := by
  simp [State.storeTeach]

@[simp] theorem State.recordTake_core (s : State) : (s.recordTake).view.core = s.view.core := by
  unfold State.recordTake
  dsimp only
  repeat' split
  all_goals simp

@[simp] theorem State.flushStart_view (s : State) : (s.flushStart).view = s.view := by
  unfold State.flushStart
  repeat' split
  all_goals simp

@[simp] theorem State.flushInterval_rest (s : State) : (s.flushInterval).view.core.wires = s.view.core.wires ∧ (s.flushInterval).view.core.rates = s.view.core.rates ∧ (s.flushInterval).view.cars = s.view.cars := by
  simp [State.flushInterval]

@[simp] theorem State.commitLedger_view (r : LogRec) (s : State) : (s.commitLedger r).view = s.view := by
  simp [State.commitLedger]

@[simp] theorem State.commitJournal_view (r : LogRec) (s : State) : (s.commitJournal r).view = s.view := by
  simp [State.commitJournal]

@[simp] theorem State.commit_view (r : LogRec) (s : State) : (s.commit r).view = s.view := by
  simp [State.commit]

@[simp] theorem State.mirrorJournal_view (rs : List LogRec) (s : State) : (s.mirrorJournal rs).view = s.view := by
  simp [State.mirrorJournal]

@[simp] theorem State.flushComplete_view (bad : Nat) (s : State) : (s.flushComplete bad).view = s.view := by
  unfold State.flushComplete
  repeat' split
  all_goals simp

@[simp] theorem State.recorderWarning_view (s : State) : (s.recorderWarning).view = s.view := by
  simp [State.recorderWarning]

@[simp] theorem State.recorderResume_view (s : State) : (s.recorderResume).view = s.view := by
  simp [State.recorderResume]

@[simp] theorem State.recorderStop_rest (s : State) : (s.recorderStop).view.core.wires = s.view.core.wires ∧ (s.recorderStop).view.core.rates = s.view.core.rates ∧ (s.recorderStop).view.cars = s.view.cars := by
  simp [State.recorderStop]

@[simp] theorem State.logFlushNow_view (s : State) : (s.logFlushNow).view = s.view := by
  simp [State.logFlushNow]

@[simp] theorem State.logClearLastWord_view (s : State) : (s.logClearLastWord).view = s.view := by
  simp [State.logClearLastWord]

@[simp] theorem State.modHandle_view (h : Fin 4) (f : Handle → Handle) (s : State) : (s.modHandle h f).view = s.view := by
  simp [State.modHandle]

@[simp] theorem State.snapshotOpen_view (h : Fin 4) (s : State) : (s.snapshotOpen h).view = s.view := by
  simp [State.snapshotOpen]

@[simp] theorem State.snapshotClose_view (h : Fin 4) (s : State) : (s.snapshotClose h).view = s.view := by
  simp [State.snapshotClose]

@[simp] theorem State.readSelect_view (h : Fin 4) (v : Nat) (s : State) : (s.readSelect h v).view = s.view := by
  simp [State.readSelect]

@[simp] theorem State.readReady_view (h : Fin 4) (uncorrectable : Bool) (s : State) : (s.readReady h uncorrectable).view = s.view := by
  unfold State.readReady
  extract_lets x journal ix n b
  split
  · split
    · rfl
    · split <;> rfl
  · rfl

@[simp] theorem State.refreshLastWord_view (s : State) : (s.refreshLastWord).view = s.view := by
  unfold State.refreshLastWord
  repeat' split
  all_goals simp

@[simp] theorem State.storeFailure_view (journal : Bool) (cause : Nat) (s : State) : (s.storeFailure journal cause).view = s.view := by
  simp [State.storeFailure]

@[simp] theorem State.journalMirrorReceive_view (records : List (List Byte)) (s : State) : (s.journalMirrorReceive records).view = s.view := by
  simp [State.journalMirrorReceive]

@[simp] theorem State.restartRecovery_view (failed : List Nat) (s : State) : (s.restartRecovery failed).view = s.view := by
  unfold State.restartRecovery
  dsimp only
  repeat' split
  all_goals simp

@[simp] theorem State.recorderStart_view (s : State) : (s.recorderStart).view = s.view := by
  unfold State.recorderStart
  dsimp only
  repeat' split
  all_goals simp

@[simp] theorem State.recorderLost_view (s : State) : (s.recorderLost).view = s.view := by
  simp [State.recorderLost]

@[simp] theorem State.setReq_core (r : Requester) (q : Req) (s : State) : (s.setReq r q).view.core = s.view.core := by
  simp [State.setReq]

@[simp] theorem State.grant_core (g : Fin 2) (t : Nat) (r : Requester) (s : State) : (s.grant g t r).view.core = s.view.core := by
  simp [State.grant]

@[simp] theorem State.noteViews_core (g : Fin 2) (t : Nat) (s : State) : (s.noteViews g t).view.core = s.view.core := by
  simp [State.noteViews]

@[simp] theorem State.grantLoop_core (g : Fin 2) (t n free : Nat) (s : State) : (s.grantLoop g t n free).view.core = s.view.core := by
  induction n generalizing free s with
  | zero => rfl
  | succ n ih =>
    unfold State.grantLoop
    dsimp only
    split
    · rfl
    · split
      · simp
      · split <;> simp [ih]

@[simp] theorem State.arbitrate_rest (g : Fin 2) (m : GroupInputs) (s : State) : (s.arbitrate g m).view.core.wires = s.view.core.wires ∧ (s.arbitrate g m).view.core.rates = s.view.core.rates := by
  simp [State.arbitrate]

@[simp] theorem State.grantArrival_core (i : Fin 16) (j : Fin 9) (s : State) : (s.grantArrival i j).view.core = s.view.core := by
  simp [State.grantArrival]

@[simp] theorem State.inrushExpiry_rest (i : Fin 16) (j : Fin 9) (s : State) : (s.inrushExpiry i j).view.core.wires = s.view.core.wires ∧ (s.inrushExpiry i j).view.core.rates = s.view.core.rates := by
  unfold State.inrushExpiry
  repeat' split
  all_goals simp

@[simp] theorem State.deadlineMissed_rest (i : Fin 16) (j : Fin 9) (s : State) : (s.deadlineMissed i j).view.core.wires = s.view.core.wires ∧ (s.deadlineMissed i j).view.core.rates = s.view.core.rates := by
  unfold State.deadlineMissed
  dsimp only
  repeat' split
  all_goals simp

@[simp] theorem State.watchdogBite_rest (g : Fin 2) (s : State) : (s.watchdogBite g).view.core.wires = s.view.core.wires ∧ (s.watchdogBite g).view.core.rates = s.view.core.rates := by
  unfold State.watchdogBite
  dsimp only
  repeat' split
  all_goals simp

@[simp] theorem State.arbiterLost_core (i : Fin 16) (s : State) : (s.arbiterLost i).view.core = s.view.core := by
  simp [State.arbiterLost]

@[simp] theorem State.arbiterBack_core (i : Fin 16) (s : State) : (s.arbiterBack i).view.core = s.view.core := by
  simp [State.arbiterBack]

@[simp] theorem State.supplyRange_core (g : Fin 2) (motor out : Bool) (dv : Nat) (s : State) : (s.supplyRange g motor out dv).view.core = s.view.core := by
  simp [State.supplyRange]

@[simp] theorem State.currentWarning_core (g : Fin 2) (set : Bool) (loadDa motorDa : Nat) (s : State) : (s.currentWarning g set loadDa motorDa).view.core = s.view.core := by
  simp [State.currentWarning]

@[simp] theorem State.overTemperature_core (g : Fin 2) (t : Int) (s : State) : (s.overTemperature g t).view.core = s.view.core := by
  simp [State.overTemperature]

@[simp] theorem State.belayHandover_core (s : State) : (s.belayHandover).view.core = s.view.core := by
  simp [State.belayHandover]

end Sys2Proof.Machine
end

section
/-! PROOFS. What the operations of the inauguration, the door-loop cell and the twin leave alone. -/

namespace Sys2Proof.Machine

@[simp] theorem State.sendHello_view (i : Fin 4) (s : State) : (s.sendHello i).view = s.view := by
  simp [State.sendHello]

@[simp] theorem State.sendBothA_view (b : Body) (s : State) : (s.sendBothA b).view = s.view := by
  simp [State.sendBothA]

@[simp] theorem State.toPartner_view (b : Body) (s : State) : (s.toPartner b).view = s.view := by
  unfold State.toPartner
  repeat' split
  all_goals simp

@[simp] theorem State.askLeader_view (code channel : Nat) (s : State) : (s.askLeader code channel).view = s.view := by
  simp [State.askLeader]

@[simp] theorem State.trigger_view (t : Nat) (s : State) : (s.trigger t).view = s.view := by
  simp [State.trigger]

@[simp] theorem State.issue_view (num : Numbering) (countBased free : Bool) (offset : Int) (base mode : Nat) (s : State) : (s.issue num countBased free offset base mode).view = s.view := by
  simp [State.issue]

@[simp] theorem State.learnStart_view (d : Directory) (s : State) : (s.learnStart d).view = s.view := by
  simp [State.learnStart]

@[simp] theorem State.directoryReceive_view (aft container : Bool) (d : Directory) (s : State) : (s.directoryReceive aft container d).view = s.view := by
  unfold State.directoryReceive
  repeat' split
  all_goals simp

@[simp] theorem State.failInsertion_view (s : State) : (s.failInsertion).view = s.view := by
  simp [State.failInsertion]

@[simp] theorem State.acceptanceCheck_view (s : State) : (s.acceptanceCheck).view = s.view := by
  unfold State.acceptanceCheck
  repeat' split
  all_goals simp

@[simp] theorem State.placeData_view (s : State) : (s.placeData).view = s.view := by
  simp [State.placeData]

@[simp] theorem Hawser.moveSlots_clock (a b) (h : Hawser) : (h.moveSlots a b).clock = h.clock := by simp [Hawser.moveSlots]

@[simp] theorem Hawser.moveSlots_servo (a b) (h : Hawser) : (h.moveSlots a b).servo = h.servo := by simp [Hawser.moveSlots]

@[simp] theorem State.takeDirectory_view (d : Directory) (s : State) : (s.takeDirectory d).view = s.view := by
  unfold State.takeDirectory
  dsimp only
  split
  · simp
  · simp

@[simp] theorem State.cancelOrReset_view (generation code resetCycle : Nat) (s : State) : (s.cancelOrReset generation code resetCycle).view = s.view := by
  unfold State.cancelOrReset
  repeat' split
  all_goals simp

@[simp] theorem State.twinWaitEnd_rest (s : State) : (s.twinWaitEnd).view.core.wires = s.view.core.wires ∧ (s.twinWaitEnd).view.core.rates = s.view.core.rates ∧ (s.twinWaitEnd).view.cars = s.view.cars := by
  unfold State.twinWaitEnd
  repeat' split
  all_goals simp

@[simp] theorem State.admitB_rest (s : State) : (s.admitB).view.core.wires = s.view.core.wires ∧ (s.admitB).view.core.rates = s.view.core.rates ∧ (s.admitB).view.cars = s.view.cars := by
  simp [State.admitB]

@[simp] theorem State.listenStart_view (r : Nat) (s : State) : (s.listenStart r).view = s.view := by
  simp [State.listenStart]

@[simp] theorem State.hearNonce_view (nonce : Nat) (s : State) : (s.hearNonce nonce).view = s.view := by
  simp [State.hearNonce]

@[simp] theorem State.listenEnd_rest (nonce : Nat) (s : State) : (s.listenEnd nonce).view.core.wires = s.view.core.wires ∧ (s.listenEnd nonce).view.core.rates = s.view.core.rates ∧ (s.listenEnd nonce).view.cars = s.view.cars := by
  unfold State.listenEnd
  repeat' split
  all_goals simp

@[simp] theorem State.coldSend_rest (s : State) : (s.coldSend).view.core.wires = s.view.core.wires ∧ (s.coldSend).view.core.rates = s.view.core.rates ∧ (s.coldSend).view.cars = s.view.cars := by
  unfold State.coldSend
  repeat' split
  all_goals simp

@[simp] theorem State.coldReceive_view (aft : Bool) (nonce : Nat) (digest : List Byte) (r : Nat) (s : State) : (s.coldReceive aft nonce digest r).view = s.view := by
  unfold State.coldReceive
  dsimp only
  repeat' split
  all_goals simp

@[simp] theorem State.numberCount_view (c : Collect) (s : State) : (s.numberCount c).view = s.view := by
  simp [State.numberCount]

@[simp] theorem State.startCount_view (trig : Nat) (s : State) : (s.startCount trig).view = s.view := by
  unfold State.startCount
  dsimp only
  repeat' split
  all_goals simp

@[simp] theorem State.contestTimeout_rest (s : State) : (s.contestTimeout).view.core.wires = s.view.core.wires ∧ (s.contestTimeout).view.core.rates = s.view.core.rates ∧ (s.contestTimeout).view.cars = s.view.cars := by
  unfold State.contestTimeout
  repeat' split
  all_goals simp

@[simp] theorem State.countReceive_view (aft : Bool) (nonce generation hop side : Nat) (s : State) : (s.countReceive aft nonce generation hop side).view = s.view := by
  simp [State.countReceive]

@[simp] theorem State.reportReceive_view (aft : Bool) (rs : List Report) (s : State) : (s.reportReceive aft rs).view = s.view := by
  unfold State.reportReceive
  repeat' split
  all_goals simp

@[simp] theorem State.countTimeout_rest (s : State) : (s.countTimeout).view.core.wires = s.view.core.wires ∧ (s.countTimeout).view.core.rates = s.view.core.rates ∧ (s.countTimeout).view.cars = s.view.cars := by
  unfold State.countTimeout
  repeat' split
  all_goals simp

@[simp] theorem State.dropInauguration_view (s : State) : (s.dropInauguration).view = s.view := by
  unfold State.dropInauguration
  repeat' split
  all_goals simp

@[simp] theorem State.checkCut_view (aft : Bool) (s : State) : (s.checkCut aft).view = s.view := by
  simp [State.checkCut]

@[simp] theorem State.linkDown_view (i : Fin 4) (s : State) : (s.linkDown i).view = s.view := by
  simp [State.linkDown]

@[simp] theorem State.linkUp_view (i : Fin 4) (phyMaster : Bool) (s : State) : (s.linkUp i phyMaster).view = s.view := by
  simp [State.linkUp]

@[simp] theorem State.helloReceive_view (i : Fin 4) (cycle : Nat) (h : Hello) (s : State) : (s.helloReceive i cycle h).view = s.view := by
  unfold State.helloReceive
  dsimp only
  repeat' split
  all_goals simp

@[simp] theorem State.helloRepeat_rest (i : Fin 4) (s : State) : (s.helloRepeat i).view.core.wires = s.view.core.wires ∧ (s.helloRepeat i).view.core.rates = s.view.core.rates ∧ (s.helloRepeat i).view.cars = s.view.cars := by
  simp [State.helloRepeat]

@[simp] theorem State.mergeStart_rest (far : Bool) (partner generation : Nat) (reports : List (Nat × Report)) (offset : Int) (fresh : Nat) (s : State) :
    (s.mergeStart far partner generation reports offset fresh).view.core.wires = s.view.core.wires ∧ (s.mergeStart far partner generation reports offset fresh).view.core.rates = s.view.core.rates ∧
      (s.mergeStart far partner generation reports offset fresh).view.cars = s.view.cars := by
  unfold State.mergeStart
  split
  · simp
  · extract_lets t
    have ht : t.view.core.wires = s.view.core.wires ∧ t.view.core.rates = s.view.core.rates ∧ t.view.cars = s.view.cars := by
      unfold t
      split <;> simp
    clear_value t
    simp [ht]

@[simp] theorem State.joinTimeStep_view (s : State) : (s.joinTimeStep).view = s.view := by
  unfold State.joinTimeStep
  repeat' split
  all_goals simp

@[simp] theorem State.repairEnd_rest (s : State) : (s.repairEnd).view.core.wires = s.view.core.wires ∧ (s.repairEnd).view.core.rates = s.view.core.rates ∧ (s.repairEnd).view.cars = s.view.cars := by
  unfold State.repairEnd
  repeat' split
  all_goals simp

@[simp] theorem State.deputyTakeover_view (nonce : Nat) (s : State) : (s.deputyTakeover nonce).view = s.view := by
  simp [State.deputyTakeover]

@[simp] theorem State.splitConfirm_rest (s : State) : (s.splitConfirm).view.core.wires = s.view.core.wires ∧ (s.splitConfirm).view.core.rates = s.view.core.rates ∧ (s.splitConfirm).view.cars = s.view.cars := by
  unfold State.splitConfirm
  repeat' split
  all_goals simp

@[simp] theorem State.grantChannel_view (c : Fin 2) (p : Nat) (s : State) : (s.grantChannel c p).view = s.view := by
  simp [State.grantChannel]

@[simp] theorem State.insertDirectory_view (i : Insertion) (s : State) : (s.insertDirectory i).view = s.view := by
  simp [State.insertDirectory]

@[simp] theorem State.announceReset_view (s : State) : (s.announceReset).view = s.view := by
  simp [State.announceReset]

@[simp] theorem State.leaderRequest_view (position : Nat) (r : InaRequest) (s : State) : (s.leaderRequest position r).view = s.view := by
  unfold State.leaderRequest
  repeat' split
  all_goals simp

@[simp] theorem State.relayRequest_view (r : InaRequest) (s : State) : (s.relayRequest r).view = s.view := by
  simp [State.relayRequest]

@[simp] theorem State.grantReceive_view (position channel switchCycle : Nat) (s : State) : (s.grantReceive position channel switchCycle).view = s.view := by
  simp [State.grantReceive]

@[simp] theorem State.reintegrate_view (s : State) : (s.reintegrate).view = s.view := by
  simp [State.reintegrate]

@[simp] theorem State.resetCycleDue_view (s : State) : (s.resetCycleDue).view = s.view := by
  unfold State.resetCycleDue
  dsimp only
  repeat' split
  all_goals simp

@[simp] theorem State.takeInaugCommand_view (s : State) : (s.takeInaugCommand).view = s.view := by
  unfold State.takeInaugCommand
  dsimp only
  repeat' split
  all_goals simp

@[simp] theorem State.grantDue_view (s : State) : (s.grantDue).view = s.view := by
  unfold State.grantDue
  repeat' split
  all_goals simp

@[simp] theorem State.goInsertion_view (s : State) : (s.goInsertion).view = s.view := by
  unfold State.goInsertion
  dsimp only
  repeat' split
  all_goals simp

@[simp] theorem State.seeCuts_view (s : State) : (s.seeCuts).view = s.view := by
  simp [State.seeCuts]

@[simp] theorem State.barrierCheck_view (s : State) : (s.barrierCheck).view = s.view := by
  simp [State.barrierCheck]

@[simp] theorem State.inaugAtSync_view (s : State) : (s.inaugAtSync).view = s.view := by
  simp [State.inaugAtSync]

@[simp] theorem State.closeCell_core (held : Bool) (s : State) : (s.closeCell held).view.core = s.view.core := by
  simp [State.closeCell]

@[simp] theorem State.settleLoop_core (held : Bool) (ma : Nat) (s : State) : (s.settleLoop held ma).view.core = s.view.core := by
  simp [State.settleLoop]

@[simp] theorem State.watchDiscrepancy_core (i : Fin 16) (s : State) : (s.watchDiscrepancy i).view.core = s.view.core := by
  simp [State.watchDiscrepancy]

@[simp] theorem State.loopContact_core (i : Fin 16) (channel : Fin 2) (contact : Fin 3) (dv : Int) (held : Bool) (ma : Nat) (s : State) : (s.loopContact i channel contact dv held ma).view.core = s.view.core := by
  simp [State.loopContact]

@[simp] theorem State.loopDiscrepancy_rest (i : Fin 16) (s : State) : (s.loopDiscrepancy i).view.core.wires = s.view.core.wires ∧ (s.loopDiscrepancy i).view.core.rates = s.view.core.rates := by
  unfold State.loopDiscrepancy
  repeat' split
  all_goals simp

@[simp] theorem State.pulse_core (second : Bool) (p : Pulse) (s : State) : (s.pulse second p).view.core = s.view.core := by
  unfold State.pulse
  repeat' split
  all_goals simp

@[simp] theorem State.loopAtSync_core (p : Pulse) (s : State) : (s.loopAtSync p).view.core = s.view.core := by
  simp [State.loopAtSync]

@[simp] theorem State.loopTestDue_rest (s : State) : (s.loopTestDue).view.core.wires = s.view.core.wires ∧ (s.loopTestDue).view.core.rates = s.view.core.rates := by
  unfold State.loopTestDue
  repeat' split
  all_goals simp

@[simp] theorem State.loopOverdue_rest (second : Bool) (s : State) : (s.loopOverdue second).view.core.wires = s.view.core.wires ∧ (s.loopOverdue second).view.core.rates = s.view.core.rates := by
  simp [State.loopOverdue]

@[simp] theorem State.twinLinkChange_view (up : Bool) (s : State) : (s.twinLinkChange up).view = s.view := by
  simp [State.twinLinkChange]

@[simp] theorem State.heartbeatReceive_view (cycle : Nat) (h : Heartbeat) (s : State) : (s.heartbeatReceive cycle h).view = s.view := by
  simp [State.heartbeatReceive]

@[simp] theorem State.twinLinkSync_view (s : State) : (s.twinLinkSync).view = s.view := by
  simp [State.twinLinkSync]

@[simp] theorem State.twinSend_view (s : State) : (s.twinSend).view = s.view := by
  simp [State.twinSend]

@[simp] theorem State.mirrorReceive_view (complete : Bool) (m : Mirror) (s : State) : (s.mirrorReceive complete m).view = s.view := by
  simp [State.mirrorReceive]

@[simp] theorem State.slowApply_core (r : AxisRecord) (s : State) : (s.slowApply r).view.core = s.view.core := by
  simp [State.slowApply]

@[simp] theorem State.mirrorApply_core (s : State) : s.mirrorApply.view.core = s.view.core := by
  unfold State.mirrorApply
  split
  · extract_lets _ _ t r
    have ht : t.view.core = s.view.core := by simp [t]
    have hr : r.view.core = t.view.core := rfl
    split
    · simp [ht]
    · rw [← ht, ← hr]
      simp
  · simp

@[simp] theorem State.syncChange_core (s : State) : (s.syncChange).view.core = s.view.core := by
  simp [State.syncChange]

@[simp] theorem State.noteCompletion_view (s : State) : (s.noteCompletion).view = s.view := by
  simp [State.noteCompletion]

@[simp] theorem State.twinVerdict_view (s : State) : (s.twinVerdict).view = s.view := by
  simp [State.twinVerdict]

@[simp] theorem State.refereeSync_view (s : State) : (s.refereeSync).view = s.view := by
  simp [State.refereeSync]

@[simp] theorem State.refereeRenumbered_view (old : Option (List Nat × List Nat)) (s : State) : (s.refereeRenumbered old).view = s.view := by
  simp [State.refereeRenumbered]

@[simp] theorem State.setAuthOut_rest (on : Bool) (s : State) : (s.setAuthOut on).view.core.rates = s.view.core.rates ∧ (s.setAuthOut on).view.core.ground = s.view.core.ground := by
  simp [State.setAuthOut]

@[simp] theorem State.collide_rest (s : State) : (s.collide).view.core.rates = s.view.core.rates ∧ (s.collide).view.core.ground = s.view.core.ground := by
  simp [State.collide]

@[simp] theorem State.setAuthIn_rest (on : Bool) (s : State) : (s.setAuthIn on).view.core.rates = s.view.core.rates ∧ (s.setAuthIn on).view.core.ground = s.view.core.ground := by
  simp [State.setAuthIn]

@[simp] theorem State.authCollision_rest (s : State) : (s.authCollision).view.core.rates = s.view.core.rates ∧ (s.authCollision).view.core.ground = s.view.core.ground := by
  simp [State.authCollision]

@[simp] theorem State.noteTaken_view (s : State) : (s.noteTaken).view = s.view := by
  simp [State.noteTaken]

@[simp] theorem State.authAssert_rates (s : State) : (s.authAssert).view.core.rates = s.view.core.rates := by
  simp [State.authAssert]

@[simp] theorem State.authLapse_rates (s : State) : (s.authLapse).view.core.rates = s.view.core.rates := by
  unfold State.authLapse
  dsimp only
  repeat' split
  all_goals simp

@[simp] theorem State.authReadback_rest (readback : Bool) (s : State) : (s.authReadback readback).view.core.rates = s.view.core.rates ∧ (s.authReadback readback).view.core.ground = s.view.core.ground := by
  simp [State.authReadback]

@[simp] theorem State.authDisagree_view (s : State) : (s.authDisagree).view = s.view := by
  simp [State.authDisagree]

@[simp] theorem State.authWatch_view (s : State) : (s.authWatch).view = s.view := by
  simp [State.authWatch]

@[simp] theorem State.authCommand_rest (hold : Bool) (s : State) : (s.authCommand hold).view.core.rates = s.view.core.rates ∧ (s.authCommand hold).view.core.ground = s.view.core.ground := by
  unfold State.authCommand
  dsimp only
  repeat' split
  all_goals simp

@[simp] theorem State.takeover_core (s : State) : (s.takeover).view.core = s.view.core := by
  simp [State.takeover]

@[simp] theorem State.holderIs_view (h : Nat) (s : State) : (s.holderIs h).view = s.view := by
  simp [State.holderIs]

@[simp] theorem State.decideHolder_core (x : Option Bool) (layer : Nat) (s : State) : (s.decide_ x layer).view.core = s.view.core := by
  simp [State.decide_]

@[simp] theorem State.hitchCommand_rest (s : State) : (s.hitchCommand).view.core.rates = s.view.core.rates ∧ (s.hitchCommand).view.core.ground = s.view.core.ground := by
  simp [State.hitchCommand]

@[simp] theorem State.hitchSync_core (s : State) : (s.hitchSync).view.core = s.view.core := by
  unfold State.hitchSync
  dsimp only
  repeat' split
  all_goals simp

@[simp] theorem State.authSelf_rates (s : State) : (s.authSelf).view.core.rates = s.view.core.rates := by
  simp [State.authSelf]

@[simp] theorem State.takeTwnCommand_view (s : State) : (s.takeTwnCommand).view = s.view := by
  simp [State.takeTwnCommand]

@[simp] theorem State.swapSync_view (s : State) : (s.swapSync).view = s.view := by
  simp [State.swapSync]

@[simp] theorem State.swapTimeout_rest (s : State) : (s.swapTimeout).view.core.wires = s.view.core.wires ∧ (s.swapTimeout).view.core.rates = s.view.core.rates ∧ (s.swapTimeout).view.cars = s.view.cars := by
  unfold State.swapTimeout
  repeat' split
  all_goals simp

@[simp] theorem State.twinAtSync_rest (authIn : Bool) (s : State) : (s.twinAtSync authIn).view.core.rates = s.view.core.rates ∧ (s.twinAtSync authIn).view.core.ground = s.view.core.ground := by
  simp [State.twinAtSync]

end Sys2Proof.Machine
end

section
/-! PROOFS. What the operations of the plug and of the management leave alone. -/

namespace Sys2Proof.Machine

@[simp] theorem State.setSlotState_rest (i st : Nat) (s : State) : (s.setSlotState i st).view.core.wires = s.view.core.wires ∧ (s.setSlotState i st).view.core.rates = s.view.core.rates ∧ (s.setSlotState i st).view.cars = s.view.cars := by
  simp [State.setSlotState]

@[simp] theorem State.putJournal_rest (k : Nat) (e : JournalEntry) (s : State) : (s.putJournal k e).view.core.wires = s.view.core.wires ∧ (s.putJournal k e).view.core.rates = s.view.core.rates ∧ (s.putJournal k e).view.cars = s.view.cars := by
  simp [State.putJournal]

@[simp] theorem State.writeJournal_rest (e : JournalEntry) (s : State) : (s.writeJournal e).1.view.core.wires = s.view.core.wires ∧ (s.writeJournal e).1.view.core.rates = s.view.core.rates ∧ (s.writeJournal e).1.view.cars = s.view.cars := by
  unfold State.writeJournal
  repeat' split
  all_goals simp

@[simp] theorem State.appendJournal_rest (e : JournalEntry) (s : State) : (s.appendJournal e).1.view.core.wires = s.view.core.wires ∧ (s.appendJournal e).1.view.core.rates = s.view.core.rates ∧ (s.appendJournal e).1.view.cars = s.view.cars := by
  unfold State.appendJournal
  dsimp only
  repeat' split
  all_goals simp

@[simp] theorem State.loadSlot_view (i : Nat) (s : State) : (s.loadSlot i).view = s.view := by
  simp [State.loadSlot]

@[simp] theorem State.loaderRun_rest (s : State) : (s.loaderRun).view.core.wires = s.view.core.wires ∧ (s.loaderRun).view.core.rates = s.view.core.rates ∧ (s.loaderRun).view.cars = s.view.cars := by
  unfold State.loaderRun
  dsimp only
  repeat' split
  all_goals simp

@[simp] theorem State.scheduleReturn_view (s : State) : (s.scheduleReturn).view = s.view := by
  unfold State.scheduleReturn
  repeat' split
  all_goals simp

@[simp] theorem State.tellEntry_view (s : State) : (s.tellEntry).view = s.view := by
  unfold State.tellEntry
  repeat' split
  all_goals simp

@[simp] theorem State.cfgHandover_rest (s : State) : s.cfgHandover.view.core.wires = s.view.core.wires ∧ s.cfgHandover.view.core.rates = s.view.core.rates := by
  unfold State.cfgHandover
  extract_lets events got a b _ _ c d e
  have hc : c.view.core.wires = s.view.core.wires ∧ c.view.core.rates = s.view.core.rates := ⟨rfl, rfl⟩
  have he : e.view.core.wires = c.view.core.wires ∧ e.view.core.rates = c.view.core.rates := by simp [e, d]
  rw [← hc.1, ← hc.2, ← he.1, ← he.2]
  simp

@[simp] theorem State.probationCount_view (s : State) : (s.probationCount).view = s.view := by
  simp [State.probationCount]

@[simp] theorem State.probationProgress_rest (s : State) : (s.probationProgress).view.core.wires = s.view.core.wires ∧ (s.probationProgress).view.core.rates = s.view.core.rates ∧ (s.probationProgress).view.cars = s.view.cars := by
  unfold State.probationProgress
  dsimp only
  repeat' split
  all_goals simp

@[simp] theorem State.probationFailure_rest (cause : Fin 6) (s : State) : (s.probationFailure cause).view.core.wires = s.view.core.wires ∧ (s.probationFailure cause).view.core.rates = s.view.core.rates ∧ (s.probationFailure cause).view.cars = s.view.cars := by
  unfold State.probationFailure
  repeat' split
  all_goals simp

@[simp] theorem State.cfgDone_view (s : State) : (s.cfgDone).view = s.view := by
  simp [State.cfgDone]

@[simp] theorem State.cfgRefuse_view (code : Nat) (s : State) : (s.cfgRefuse code).view = s.view := by
  simp [State.cfgRefuse]

@[simp] theorem State.cfgFailed_view (s : State) : (s.cfgFailed).view = s.view := by
  simp [State.cfgFailed]

@[simp] theorem State.slotInfo_view (i : Fin 4) (f : SlotInfo → SlotInfo) (s : State) : (s.slotInfo i f).view = s.view := by
  simp [State.slotInfo]

@[simp] theorem State.slotCommand_view (i : Fin 4) (s : State) : (s.slotCommand i).view = s.view := by
  simp [State.slotCommand]

@[simp] theorem State.cfgCheckSlot_view (i : Fin 4) (s : State) : (s.cfgCheckSlot i).view = s.view := by
  simp [State.cfgCheckSlot]

@[simp] theorem State.slotCheckComplete_view (s : State) : (s.slotCheckComplete).view = s.view := by
  unfold State.slotCheckComplete
  dsimp only
  repeat' split
  all_goals simp

@[simp] theorem State.cfgActivateSlot_rest (i : Fin 4) (s : State) : (s.cfgActivateSlot i).view.core.wires = s.view.core.wires ∧ (s.cfgActivateSlot i).view.core.rates = s.view.core.rates ∧ (s.cfgActivateSlot i).view.cars = s.view.cars := by
  unfold State.cfgActivateSlot
  repeat' split
  all_goals simp

@[simp] theorem State.cfgReturn_rest (s : State) : (s.cfgReturn).view.core.wires = s.view.core.wires ∧ (s.cfgReturn).view.core.rates = s.view.core.rates ∧ (s.cfgReturn).view.cars = s.view.cars := by
  unfold State.cfgReturn
  repeat' split
  all_goals simp

@[simp] theorem State.cfgEndProbation_rest (s : State) : (s.cfgEndProbation).view.core.wires = s.view.core.wires ∧ (s.cfgEndProbation).view.core.rates = s.view.core.rates ∧ (s.cfgEndProbation).view.cars = s.view.cars := by
  unfold State.cfgEndProbation
  repeat' split
  all_goals simp

@[simp] theorem State.cfgEraseSlot_rest (i : Fin 4) (s : State) : (s.cfgEraseSlot i).view.core.wires = s.view.core.wires ∧ (s.cfgEraseSlot i).view.core.rates = s.view.core.rates ∧ (s.cfgEraseSlot i).view.cars = s.view.cars := by
  simp [State.cfgEraseSlot]

@[simp] theorem State.slotEraseComplete_rest (s : State) :
    s.slotEraseComplete.view.core.wires = s.view.core.wires ∧ s.slotEraseComplete.view.core.rates = s.view.core.rates ∧ s.slotEraseComplete.view.cars = s.view.cars := by
  unfold State.slotEraseComplete
  split
  · extract_lets t
    have ht : t.view = s.view := rfl
    rw [← ht]
    clear_value t
    split <;> simp
  · simp

@[simp] theorem State.cfgCommand_rest (v : Nat) (s : State) : (s.cfgCommand v).view.core.wires = s.view.core.wires ∧ (s.cfgCommand v).view.core.rates = s.view.core.rates ∧ (s.cfgCommand v).view.cars = s.view.cars := by
  unfold State.cfgCommand
  repeat' split
  all_goals simp

@[simp] theorem State.plugFault_rest (f : PlugError) (s : State) : (s.plugFault f).view.core.wires = s.view.core.wires ∧ (s.plugFault f).view.core.rates = s.view.core.rates ∧ (s.plugFault f).view.cars = s.view.cars := by
  unfold State.plugFault
  repeat' split
  all_goals simp

@[simp] theorem State.plugPresence_rest (present : Bool) (image : List (Nat × Byte)) (s : State) : (s.plugPresence present image).view.core.wires = s.view.core.wires ∧ (s.plugPresence present image).view.core.rates = s.view.core.rates ∧ (s.plugPresence present image).view.cars = s.view.cars := by
  simp [State.plugPresence]

@[simp] theorem State.modBank_view (b : Bool) (f : Bank8 → Bank8) (s : State) : (s.modBank b f).view = s.view := by
  simp [State.modBank]

@[simp] theorem State.runBank_view (b trial : Bool) (s : State) : (s.runBank b trial).view = s.view := by
  simp [State.runBank]

@[simp] theorem State.bootBankSelect_view (s : State) : (s.bootBankSelect).view = s.view := by
  simp [State.bootBankSelect]

@[simp] theorem State.trialWatch_view (s : State) : (s.trialWatch).view = s.view := by
  simp [State.trialWatch]

@[simp] theorem State.firmwareConfirm_rest (s : State) : (s.firmwareConfirm).view.core.wires = s.view.core.wires ∧ (s.firmwareConfirm).view.core.rates = s.view.core.rates ∧ (s.firmwareConfirm).view.cars = s.view.cars := by
  unfold State.firmwareConfirm
  repeat' split
  all_goals simp

@[simp] theorem State.mssBegin_view (code : Nat) (s : State) : (s.mssBegin code).view = s.view := by
  simp [State.mssBegin]

@[simp] theorem State.mssDone_view (code : Nat) (s : State) : (s.mssDone code).view = s.view := by
  simp [State.mssDone]

@[simp] theorem State.mssFail_view (code reason : Nat) (s : State) : (s.mssFail code reason).view = s.view := by
  simp [State.mssFail]

@[simp] theorem State.mssRefuse_view (code reason : Nat) (s : State) : (s.mssRefuse code reason).view = s.view := by
  simp [State.mssRefuse]

@[simp] theorem State.mssTake_view (code : Nat) (f : State → State) (s : State) (h : ∀ t, (f t).view = t.view) : (s.mssTake code f).view = s.view := by
  simp [State.mssTake, h]

@[simp] theorem State.mssTake_rest (code : Nat) (f : State → State) (s : State)
    (h : ∀ t, (f t).view.core.wires = t.view.core.wires ∧ (f t).view.core.rates = t.view.core.rates ∧ (f t).view.cars = t.view.cars) :
    (s.mssTake code f).view.core.wires = s.view.core.wires ∧ (s.mssTake code f).view.core.rates = s.view.core.rates ∧ (s.mssTake code f).view.cars = s.view.cars := by
  unfold State.mssTake
  split
  · simp
  · split
    · simp
    · exact h s

@[simp] theorem State.mssArgument_view (v : Nat) (s : State) : (s.mssArgument v).view = s.view := by
  simp [State.mssArgument]

@[simp] theorem State.stageSelect_view (target : Nat) (s : State) : (s.stageSelect target).view = s.view := by
  simp [State.stageSelect]

@[simp] theorem State.stageOpen_rest (target : Nat) (s : State) : (s.stageOpen target).view.core.wires = s.view.core.wires ∧ (s.stageOpen target).view.core.rates = s.view.core.rates ∧ (s.stageOpen target).view.cars = s.view.cars := by
  simp [State.stageOpen]

@[simp] theorem State.mssCommit_view (bytes : Nat) (s : State) : (s.mssCommit bytes).view = s.view := by
  simp [State.mssCommit]

@[simp] theorem State.commitComplete_rest (s : State) : (s.commitComplete).view.core.wires = s.view.core.wires ∧ (s.commitComplete).view.core.rates = s.view.core.rates ∧ (s.commitComplete).view.cars = s.view.cars := by
  unfold State.commitComplete
  repeat' split
  all_goals simp

@[simp] theorem State.mssClose_rest (s : State) : s.mssClose.view.core.wires = s.view.core.wires ∧ s.mssClose.view.core.rates = s.view.core.rates ∧ s.mssClose.view.cars = s.view.cars := by
  refine State.mssTake_rest _ _ _ fun t => ?_
  split
  · simp
  · extract_lets target u w
    have hu : u.view = t.view := rfl
    rw [← hu]
    clear_value u
    simp [w]

@[simp] theorem State.mssCheckBank_view (s : State) : (s.mssCheckBank).view = s.view := by
  simp [State.mssCheckBank]

@[simp] theorem State.bankCheckComplete_view (s : State) : (s.bankCheckComplete).view = s.view := by
  unfold State.bankCheckComplete
  dsimp only
  repeat' split
  all_goals simp

@[simp] theorem State.mssActivate_view (s : State) : (s.mssActivate).view = s.view := by
  simp [State.mssActivate]

@[simp] theorem State.beginRestart_view (s : State) : (s.beginRestart).view = s.view := by
  simp [State.beginRestart]

@[simp] theorem State.mssRestart_view (s : State) : (s.mssRestart).view = s.view := by
  simp [State.mssRestart]

@[simp] theorem State.dueRestart_view (s : State) : (s.dueRestart).view = s.view := by
  simp [State.dueRestart]

@[simp] theorem State.putWindow_view (a : Nat) (b : List Byte) (s : State) : (s.putWindow a b).view = s.view := by
  simp [State.putWindow]

@[simp] theorem State.putAttestKeys_view (seed : Nat) (s : State) : (s.putAttestKeys seed).view = s.view := by
  simp [State.putAttestKeys]

@[simp] theorem State.ownerOp_view (op seed : Nat) (payload : List Byte) (s : State) : (s.ownerOp op seed payload).view = s.view := by
  unfold State.ownerOp
  repeat' split
  all_goals simp

@[simp] theorem State.mssOwner_view (seed : Nat) (s : State) : (s.mssOwner seed).view = s.view := by
  refine State.mssTake_view _ _ _ fun t => ?_
  dsimp only
  repeat' split
  all_goals simp

@[simp] theorem State.mssAttest_view (s : State) : (s.mssAttest).view = s.view := by
  simp [State.mssAttest]

@[simp] theorem State.attestationComplete_view (s : State) : (s.attestationComplete).view = s.view := by
  unfold State.attestationComplete
  repeat' split
  all_goals simp

@[simp] theorem State.mssEnrol_view (o : Option Origin) (s : State) : (s.mssEnrol o).view = s.view := by
  unfold State.mssEnrol
  repeat' split
  all_goals simp

@[simp] theorem State.enrolmentComplete_view (seed : Nat) (s : State) : (s.enrolmentComplete seed).view = s.view := by
  unfold State.enrolmentComplete
  repeat' split
  all_goals simp

@[simp] theorem State.mssNonce_view (fresh : List Byte) (s : State) : (s.mssNonce fresh).view = s.view := by
  simp [State.mssNonce]

@[simp] theorem State.nonceExpiry_rest (s : State) : (s.nonceExpiry).view.core.wires = s.view.core.wires ∧ (s.nonceExpiry).view.core.rates = s.view.core.rates ∧ (s.nonceExpiry).view.cars = s.view.cars := by
  unfold State.nonceExpiry
  repeat' split
  all_goals simp

@[simp] theorem State.mssExport_view (s : State) : s.mssExport.view = s.view := by
  refine State.mssTake_view _ _ _ fun t => ?_
  split <;> simp

@[simp] theorem State.mssCommand_rest (o : Option Origin) (v : Nat) (s : State) :
    (s.mssCommand o v).view.core.wires = s.view.core.wires ∧ (s.mssCommand o v).view.core.rates = s.view.core.rates ∧ (s.mssCommand o v).view.cars = s.view.cars := by
  unfold State.mssCommand
  split <;> simp

@[simp] theorem State.casePoint_view (x : Readings) (k : Fin 24) (s : State) : (s.casePoint x k).view = s.view := by
  simp [State.casePoint]

@[simp] theorem State.caseLimit_view (x : Readings) (s : State) : (s.caseLimit x).view = s.view := by
  simp [State.caseLimit]

@[simp] theorem State.railLimit_view (x : Readings) (r : Fin 12) (s : State) : (s.railLimit x r).view = s.view := by
  simp [State.railLimit]

@[simp] theorem State.humidityLimit_view (x : Readings) (s : State) : (s.humidityLimit x).view = s.view := by
  simp [State.humidityLimit]

@[simp] theorem State.impactLimit_view (x : Readings) (s : State) : (s.impactLimit x).view = s.view := by
  unfold State.impactLimit
  dsimp only
  split <;> rfl

@[simp] theorem State.sensorSample_view (x : Readings) (s : State) : (s.sensorSample x).view = s.view := by
  simp [State.sensorSample]

@[simp] theorem State.timeSet_view (o : Option Origin) (v : Nat) (s : State) : (s.timeSet o v).view = s.view := by
  simp [State.timeSet]

@[simp] theorem State.supercapExhausted_view (s : State) : (s.supercapExhausted).view = s.view := by
  simp [State.supercapExhausted]

@[simp] theorem State.tellTimeLost_view (s : State) : (s.tellTimeLost).view = s.view := by
  simp [State.tellTimeLost]

@[simp] theorem State.mssRegionWrite_view (s : State) : (s.mssRegionWrite).view = s.view := by
  simp [State.mssRegionWrite]

@[simp] theorem State.refuseAccess_view (o : Origin) (s : State) : (s.refuseAccess o).view = s.view := by
  simp [State.refuseAccess]

@[simp] theorem State.mssLost_view (s : State) : (s.mssLost).view = s.view := by
  simp [State.mssLost]

@[simp] theorem State.eccCorrected_view (s : State) : (s.eccCorrected).view = s.view := by
  simp [State.eccCorrected]

end Sys2Proof.Machine
end

section
/-! PROOFS. What starts and resets leave alone; the gate follows the AUTH lines, and every pace stays within its limit. -/

namespace Sys2Proof.Machine

/-! ### The gate and the rates -/

/-- A bound that holds of every rate. -/
def Rates.within (r : Rates) : Prop :=
  (∀ k : Fin 17, -rateLimit ≤ r.clocks[k] ∧ r.clocks[k] ≤ rateLimit) ∧ (-rateLimit ≤ r.hawser ∧ r.hawser ≤ rateLimit) ∧ ∀ v ∈ r.servo, -rateLimit ≤ v ∧ v ≤ rateLimit

theorem State.ratesSafe_iff (s : State) : s.ratesSafe ↔ s.view.core.rates.within := by
  simp [State.ratesSafe, Rates.within, State.view]

theorem State.gateSafe_iff (s : State) : s.gateSafe ↔ s.view.core.wires.gate = (s.view.core.wires.readback && !s.view.core.wires.inp) := Iff.rfl

theorem State.gateSafe_congr {s t : State} (h : t.view.core.wires = s.view.core.wires) : t.gateSafe ↔ s.gateSafe := by
  rw [State.gateSafe_iff, State.gateSafe_iff, h]

theorem State.ratesSafe_congr {s t : State} (h : t.view.core.rates = s.view.core.rates) : t.ratesSafe ↔ s.ratesSafe := by
  rw [State.ratesSafe_iff, State.ratesSafe_iff, h]

theorem clampInt_within (r : Int) : -rateLimit ≤ clampInt (-rateLimit) rateLimit r ∧ clampInt (-rateLimit) rateLimit r ≤ rateLimit := by
  have : rateLimit = 200000 := rfl
  unfold clampInt
  split_ifs <;> omega

/-! ### Clocks -/

theorem Region.seen_eq (r : Region) : r.seen = (r.visible, r.age) := (rfl)

@[simp] theorem State.anchor_rest (k : Fin 17) (s : State) : (s.anchor k).view.core.wires = s.view.core.wires ∧ (s.anchor k).view.core.rates = s.view.core.rates := by
  simp [State.anchor]

@[simp] theorem State.clockStep_rest (k : Fin 18) (s : State) : (s.clockStep k).view.core.wires = s.view.core.wires ∧ (s.clockStep k).view.core.rates = s.view.core.rates := by
  unfold State.clockStep
  split
  · dsimp only
    split
    · split
      · simp
      · simp
    · simp
  · simp

@[simp] theorem State.holdoverEntry_rest (k : Fin 17) (s : State) :
    (s.holdoverEntry k).view.core.wires = s.view.core.wires ∧ (s.holdoverEntry k).view.core.rates = s.view.core.rates ∧ (s.holdoverEntry k).view.cars = s.view.cars := by
  simp [State.holdoverEntry, Region.seen_eq]

@[simp] theorem State.timeTransfer_wires (k : Fin 17) (t1 t2 t3 t4 : Int) (s : State) : (s.timeTransfer k t1 t2 t3 t4).view.core.wires = s.view.core.wires := by
  simp [State.timeTransfer, Region.seen_eq]

@[simp] theorem Clock.atSync_counter (m : Int) (c : Clock) : (c.atSync m).counter = c.counter := rfl

@[simp] theorem State.markSync_rest (due : Vector (List Int) 17) (s : State) :
    (s.markSync due).view.core.wires = s.view.core.wires ∧ (s.markSync due).view.core.rates = s.view.core.rates ∧ (s.markSync due).view.cars = s.view.cars := by
  have hclocks : (s.markSync due).clocks.map (fun c => c.counter.rate) = s.clocks.map fun c => c.counter.rate := by
    refine Vector.ext fun k hk => ?_
    simp [State.markSync, apply_ite Clock.counter, foldl_keeps Clock.counter _ fun c m => Clock.atSync_counter m c]
  refine ⟨rfl, ?_, rfl⟩
  exact congrArg (fun v => Rates.mk v _ _) hclocks

@[simp] theorem State.channelStalled_core (w : Waiter) (k : Fin 35) (s : State) : (s.channelStalled w k).view.core = s.view.core := by
  unfold State.channelStalled
  dsimp only
  repeat' split
  all_goals simp

/-! ### Islands -/

@[simp] theorem State.foldl_cars {α : Type} (f : State → α → State) (h : ∀ s x, (f s x).view.cars = s.view.cars) (l : List α) (s : State) : (l.foldl f s).view.cars = s.view.cars := foldl_keeps (fun s => s.view.cars) f h l s

@[simp] theorem State.release_rest (k : Fin 34) (s : State) :
    (s.release k).view.core.wires = s.view.core.wires ∧ (s.release k).view.core.rates = s.view.core.rates ∧ (s.release k).view.cars = s.view.cars := by
  unfold State.release
  split
  · refine ⟨rfl, ?_, rfl⟩
    have hclocks : (s.clocks.mapIdx fun j (c : Clock) => if j < 16 ∧ j = k.val ∨ j = 16 ∧ k.val = 33 then { c with lastMultiple := none } else c).map (fun c => c.counter.rate) =
        s.clocks.map fun c => c.counter.rate := by
      refine Vector.ext fun j hj => ?_
      simp [apply_ite Clock.counter]
    exact congrArg (fun v => Rates.mk v _ _) hclocks
  · simp

@[simp] theorem State.engineResume_core (i : Fin 16) (s : State) : (s.engineResume i).view.core = s.view.core := by
  simp [State.engineResume]

@[simp] theorem State.hawserLost_wires (s : State) : s.hawserLost.view.core.wires = s.view.core.wires := (rfl)

@[simp] theorem State.hawserStart_view (s : State) : s.hawserStart.view = s.view := by
  simp [State.hawserStart]

@[simp] theorem State.islandRestart_rest (k : Fin 34) (crcOk : Bool) (s : State) :
    (s.islandRestart k crcOk).view.core.wires = s.view.core.wires ∧ (s.islandRestart k crcOk).view.core.rates = s.view.core.rates ∧ (s.islandRestart k crcOk).view.cars = s.view.cars := by
  unfold State.islandRestart
  dsimp only
  repeat' split
  all_goals simp

@[simp] theorem State.releaseFirmware_rest (s : State) :
    s.releaseFirmware.view.core.wires = s.view.core.wires ∧ s.releaseFirmware.view.core.rates = s.view.core.rates ∧ s.releaseFirmware.view.cars = s.view.cars := by
  simp [State.releaseFirmware]

@[simp] theorem State.boot_rest (s : State) : s.boot.view.core.wires = s.view.core.wires ∧ s.boot.view.core.rates = s.view.core.rates ∧ s.boot.view.cars = s.view.cars := by
  unfold State.boot
  dsimp only
  split <;> simp

@[simp] theorem State.releaseFirst_rest (s : State) : s.releaseFirst.view.core.wires = s.view.core.wires ∧ s.releaseFirst.view.core.rates = s.view.core.rates := by
  simp [State.releaseFirst]

@[simp] theorem State.x1Qualified_rest (dv : Nat) (s : State) : (s.x1Qualified dv).view.core.wires = s.view.core.wires ∧ (s.x1Qualified dv).view.core.rates = s.view.core.rates := by
  unfold State.x1Qualified
  split <;> simp

@[simp] theorem State.sliceHandover_core (i : Fin 16) (s : State) : (s.sliceHandover i).view.core = s.view.core := by
  unfold State.sliceHandover
  split
  · rfl
  · exact State.modSlice_core _ _ _

@[simp] theorem State.handover_rest (s : State) : s.handover.view.core.wires = s.view.core.wires ∧ s.handover.view.core.rates = s.view.core.rates := by
  unfold State.handover
  split
  · simp
  · dsimp only
    split <;> simp

@[simp] theorem State.powerFailWarning_view (dv : Nat) (s : State) : (s.powerFailWarning dv).view = s.view := by
  simp [State.powerFailWarning]

@[simp] theorem State.warningWithdrawn_view (dv : Nat) (s : State) : (s.warningWithdrawn dv).view = s.view := by
  simp [State.warningWithdrawn]

/-! ### The gate follows the AUTH lines -/

/-- A gate that its AUTH lines command (R395). -/
def Wires.follows (w : Wires) : Prop := w.gate = (w.readback && !w.inp)

theorem State.gateSafe_iff_follows (s : State) : s.gateSafe ↔ s.view.core.wires.follows := Iff.rfl

@[simp] theorem Wires.ite_follows (c : Prop) [Decidable c] (v w : Wires) : (if c then v else w).follows ↔ if c then v.follows else w.follows := by split <;> rfl

@[simp] theorem State.settleGate_follows (s : State) : s.settleGate.view.core.wires.follows := by
  unfold State.settleGate
  dsimp only
  split
  case isTrue h => exact h.symm
  case isFalse h =>
    rw [State.eachSlice_wires _ _ fun i t => congrArg Core.wires (State.modSlice_core t i _)]
    rfl

@[simp] theorem State.setAuthOut_follows (on : Bool) (s : State) : (s.setAuthOut on).view.core.wires.follows := State.settleGate_follows _

@[simp] theorem State.collide_follows (s : State) : s.collide.view.core.wires.follows := by
  simp [State.collide]

@[simp] theorem State.setAuthIn_follows (on : Bool) (s : State) : (s.setAuthIn on).view.core.wires.follows := by
  unfold State.setAuthIn
  dsimp only
  split <;> simp

@[simp] theorem State.authReadback_follows (readback : Bool) (s : State) : (s.authReadback readback).view.core.wires.follows := by
  unfold State.authReadback
  dsimp only
  repeat' split
  all_goals simp

section
variable {s : State} (h : s.view.core.wires.follows)
include h

theorem State.authCollision_follows : s.authCollision.view.core.wires.follows := by
  unfold State.authCollision
  split
  · simp
  · exact h

theorem State.authAssert_follows : s.authAssert.view.core.wires.follows := by
  unfold State.authAssert
  dsimp only
  split
  · simp
  · exact h

theorem State.authLapse_follows : s.authLapse.view.core.wires.follows := by
  unfold State.authLapse
  dsimp only
  split
  · split <;> simp
  · exact h

theorem State.authCommand_follows (hold : Bool) : (s.authCommand hold).view.core.wires.follows := by
  unfold State.authCommand
  dsimp only
  repeat' split
  all_goals simp [h]

theorem State.authSelf_follows : s.authSelf.view.core.wires.follows := by
  unfold State.authSelf
  dsimp only
  split
  · simp
  · exact h

theorem State.hitchCommand_follows : s.hitchCommand.view.core.wires.follows := by
  unfold State.hitchCommand
  dsimp only
  split
  · refine State.authCommand_follows ?_ _
    split
    · simp [h]
    · exact h
  · exact h

theorem State.shutdownRelease_follows : s.shutdownRelease.view.core.wires.follows := by
  unfold State.shutdownRelease
  dsimp only
  split
  · exact h
  · simp only [State.modStart_view, State.modTwn_view, implies_true]
    refine State.authCommand_follows ?_ _
    split <;> simp [h]
end

@[simp] theorem State.twinAtSync_wires (authIn : Bool) (s : State) : (s.twinAtSync authIn).view.core.wires = (s.setAuthIn authIn).view.core.wires := by
  simp [State.twinAtSync]

@[simp] theorem State.moduleReset_follows (s : State) : s.moduleReset.view.core.wires.follows := (rfl)

theorem State.supplyLost_follows {s : State} (h : s.view.core.wires.follows) : s.supplyLost.view.core.wires.follows := by
  unfold State.supplyLost
  dsimp only
  repeat' split
  all_goals simp [h]

theorem State.powerFailReset_follows {s : State} (h : s.view.core.wires.follows) : s.powerFailReset.view.core.wires.follows := by
  unfold State.powerFailReset
  dsimp only
  repeat' split
  all_goals simp [h]

/-! ### The rates stay within their limit -/

theorem Rates.within_servo {r : Rates} (h : r.within) (v : Option Int) (hv : ∀ x ∈ v, -rateLimit ≤ x ∧ x ≤ rateLimit) : ({ r with servo := v } : Rates).within := ⟨h.1, h.2.1, hv⟩

theorem Rates.within_hawser {r : Rates} (h : r.within) (v : Int) (hv : -rateLimit ≤ v ∧ v ≤ rateLimit) : ({ r with hawser := v } : Rates).within := ⟨h.1, hv, h.2.2⟩

theorem zero_within : -rateLimit ≤ (0 : Int) ∧ (0 : Int) ≤ rateLimit := by decide

theorem State.hawserLost_within {s : State} (h : s.view.core.rates.within) : s.hawserLost.view.core.rates.within := ⟨h.1, zero_within, fun _ hv => nomatch hv⟩

theorem State.moduleReset_within (s : State) : s.moduleReset.view.core.rates.within := by
  refine ⟨fun k => ?_, zero_within, fun _ hv => nomatch hv⟩
  simp [State.moduleReset, State.view, zero_within]

theorem State.powerFailReset_within {s : State} (h : s.view.core.rates.within) : s.powerFailReset.view.core.rates.within := by
  unfold State.powerFailReset
  dsimp only
  repeat' split
  all_goals simp [h, State.moduleReset_within]

theorem State.supplyLost_within {s : State} (h : s.view.core.rates.within) : s.supplyLost.view.core.rates.within := by
  unfold State.supplyLost
  dsimp only
  repeat' split
  all_goals simp [h, State.moduleReset_within]

@[simp] theorem State.shutdownRelease_rates (s : State) : s.shutdownRelease.view.core.rates = s.view.core.rates := by
  unfold State.shutdownRelease
  dsimp only
  repeat' split
  all_goals simp

@[simp] theorem State.islandReset_wires (k : Fin 34) (cause : Nat) (s : State) : (s.islandReset k cause).view.core.wires = s.view.core.wires := by
  unfold State.islandReset
  split
  · rfl
  · extract_lets code early down lost blocks stage idle
    have hdown : down.view.core.wires = s.view.core.wires := by simp [down]
    have hblocks : blocks.view.core.wires = down.view.core.wires := by
      unfold blocks
      repeat' split
      case isFalse.isFalse.isTrue => rfl
      all_goals simp
    have hidle : idle.view.core.wires = blocks.view.core.wires := by simp [idle, stage]
    split
    · exact hidle.trans (hblocks.trans hdown)
    · exact hblocks.trans hdown

theorem State.islandReset_within (k : Fin 34) (cause : Nat) {s : State} (h : s.view.core.rates.within) : (s.islandReset k cause).view.core.rates.within := by
  unfold State.islandReset
  split
  · exact h
  · extract_lets code early down lost blocks stage idle
    have hdown : down.view.core.rates.within := by simpa [down] using h
    have hblocks : blocks.view.core.rates.within := by
      unfold blocks
      repeat' split
      case isFalse.isFalse.isTrue => exact State.hawserLost_within hdown
      all_goals simpa using hdown
    have hidle : idle.view.core.rates.within := by simpa [idle, stage] using hblocks
    split
    · exact hidle
    · exact hblocks

theorem State.modClock_within (k : Fin 17) (f : Clock → Clock) {s : State} (h : s.view.core.rates.within)
    (hf : ∀ c : Clock, -rateLimit ≤ c.counter.rate ∧ c.counter.rate ≤ rateLimit → -rateLimit ≤ (f c).counter.rate ∧ (f c).counter.rate ≤ rateLimit) :
    (s.modClock k f).view.core.rates.within := by
  obtain ⟨hclocks, hrest⟩ := h
  refine ⟨fun j => ?_, hrest⟩
  have hj := hclocks j
  by_cases hjk : k.val = j.val
  all_goals simp_all [State.view, State.modClock]

theorem State.timeTransfer_within (k : Fin 17) (t1 t2 t3 t4 : Int) {s : State} (h : s.view.core.rates.within) : (s.timeTransfer k t1 t2 t3 t4).view.core.rates.within := by
  unfold State.timeTransfer
  split
  · exact h
  · simp only [State.modRegion_view, Region.seen_eq, implies_true]
    refine State.modClock_within k _ h fun c hc => ?_
    split
    · exact hc
    · exact clampInt_within _

theorem Hawser.discipline_servo (t tcyc : Nat) (off : Int) (rx : Nat) (h : Hawser) : (h.discipline t tcyc off rx).servo = h.servo := by
  unfold Hawser.discipline
  dsimp only
  split <;> rfl

theorem Hawser.discipline_rate (t tcyc : Nat) (off : Int) (rx : Nat) (h : Hawser) (hr : -rateLimit ≤ h.clock.rate ∧ h.clock.rate ≤ rateLimit) :
    -rateLimit ≤ (h.discipline t tcyc off rx).clock.rate ∧ (h.discipline t tcyc off rx).clock.rate ≤ rateLimit := by
  unfold Hawser.discipline
  dsimp only
  split
  · exact hr
  · exact clampInt_within _

theorem State.serve_within (c : Fin 2) (t tcyc : Nat) (off : Int) (rx : Nat) {s : State} (h : s.view.core.rates.within) :
    (s.modHws (·.serve c t tcyc off rx)).view.core.rates.within := by
  obtain ⟨hclocks, hhawser, hservo⟩ := h
  have hdis (x : Hawser) (hx : -rateLimit ≤ x.clock.rate ∧ x.clock.rate ≤ rateLimit) (hv : ∀ v ∈ x.servo, -rateLimit ≤ v.rate ∧ v.rate ≤ rateLimit) :
      (s.modHws fun _ => x.discipline t tcyc off rx).view.core.rates.within := by
    refine ⟨hclocks, Hawser.discipline_rate _ _ _ _ _ hx, ?_⟩
    simpa [State.view, State.modHws, Hawser.discipline_servo] using hv
  have hv0 : ∀ v ∈ s.hws.servo, -rateLimit ≤ v.rate ∧ v.rate ≤ rateLimit := by simpa [State.view] using hservo
  change (s.modHws fun _ => s.hws.serve c t tcyc off rx).view.core.rates.within
  unfold Hawser.serve
  split
  · split
    case h_1 v hv => exact hdis _ (hv0 v hv) fun _ hx => nomatch hx
    case h_2 => exact hdis _ hhawser hv0
  · refine hdis _ hhawser fun v hv => ?_
    obtain rfl := Option.mem_some_iff.1 hv
    exact hhawser

theorem State.beaconReceive_within (i : Fin 4) (hd : HwsHeader) (b : Beacon) (rx : Nat) {s : State} (h : s.view.core.rates.within) : (s.beaconReceive i hd b rx).view.core.rates.within := by
  unfold State.beaconReceive
  extract_lets port channel d mine noted passed took nonced taken serve alone counted announced healthy told served alarmed
  have hpassed : passed.view.core.rates = s.view.core.rates := by simp [passed, noted]
  have htaken : taken.view.core.rates = passed.view.core.rates := by simp [taken, nonced]
  have hhealthy : healthy.view.core.rates = taken.view.core.rates := by simp [healthy, announced, counted]
  have hserved : served.view.core.rates.within := State.serve_within _ _ _ _ _ (by rwa [hhealthy, htaken, hpassed])
  have halarmed : alarmed.view.core.rates = served.view.core.rates := by simp [alarmed]
  clear_value alarmed served healthy taken passed
  repeat' split
  all_goals simp_all

theorem State.hwsCycleStart_within {s : State} (h : s.view.core.rates.within) : s.hwsCycleStart.view.core.rates.within := by
  unfold State.hwsCycleStart
  split
  · have hclosed : s.moveAsync.closeEvents.view.core.rates.within := by simpa using h
    exact ⟨hclosed.1, hclosed.2.1, fun _ hv => nomatch hv⟩
  · exact h

end Sys2Proof.Machine
end

section
/-! PROOFS. What the registers, the fabric and Splice leave alone. -/

namespace Sys2Proof.Machine

@[simp] theorem State.writeSlice_core (i : Fin 16) (off v : Nat) (s : State) : (s.writeSlice i off v).1.view.core = s.view.core := by
  unfold State.writeSlice
  dsimp only
  repeat' split
  all_goals simp

@[simp] theorem State.popLocal_view (s : State) : (s.popLocal).2.view = s.view := by
  simp [State.popLocal]

@[simp] theorem State.popRemote_view (s : State) : (s.popRemote).2.view = s.view := by
  simp [State.popRemote]

@[simp] theorem State.countsNode_core (off : Nat) (s : State) : (s.countsNode off).2.view.core = s.view.core := by
  unfold State.countsNode
  repeat' split
  all_goals simp

@[simp] theorem State.countsHws_view (off : Nat) (s : State) : (s.countsHws off).2.view = s.view := by
  unfold State.countsHws
  repeat' split
  all_goals simp

@[simp] theorem State.countsTwn_view (off : Nat) (s : State) : (s.countsTwn off).2.view = s.view := by
  unfold State.countsTwn
  repeat' split
  all_goals simp

@[simp] theorem State.countsSpl_view (off : Nat) (s : State) : (s.countsSpl off).2.view = s.view := by
  unfold State.countsSpl
  repeat' split
  all_goals simp

@[simp] theorem State.countsBly_core (g : Fin 2) (off : Nat) (s : State) : (s.countsBly g off).2.view.core = s.view.core := by
  unfold State.countsBly
  repeat' split
  all_goals simp

@[simp] theorem State.countsMss_view (off : Nat) (s : State) : (s.countsMss off).2.view = s.view := by
  unfold State.countsMss
  repeat' split
  all_goals simp

@[simp] theorem State.countsLog_view (off : Nat) (s : State) : (s.countsLog off).2.view = s.view := by
  unfold State.countsLog
  repeat' split
  all_goals simp

@[simp] theorem State.countsCfg_view (off : Nat) (s : State) : (s.countsCfg off).2.view = s.view := by
  unfold State.countsCfg
  repeat' split
  all_goals simp

@[simp] theorem State.readAction_core (w : Block) (off : Nat) (s : State) : (s.readAction w off).2.view.core = s.view.core := by
  unfold State.readAction
  repeat' split
  all_goals simp

@[simp] theorem State.respond_view (r : Response) (v : Nat) (effect : Bool) (s : State) : (s.respond r v effect).view = s.view := (rfl)

@[simp] theorem State.fabricRead_core (g : HostAgent) (a : Nat) (s : State) : (s.fabricRead g a).view.core = s.view.core := by
  unfold State.fabricRead
  repeat' split
  all_goals simp

@[simp] theorem State.writeNode_core (off v : Nat) (s : State) : (s.writeNode off v).view.core = s.view.core := by
  simp [State.writeNode]

@[simp] theorem State.writeHws_view (off v : Nat) (s : State) : (s.writeHws off v).view = s.view := by
  simp [State.writeHws]

@[simp] theorem State.writeTwn_view (off v : Nat) (s : State) : (s.writeTwn off v).view = s.view := by
  simp [State.writeTwn]

@[simp] theorem State.clearPosted_view (s : State) : (s.clearPosted).view = s.view := by
  simp [State.clearPosted]

@[simp] theorem State.freeBuffers_view (s : State) : (s.freeBuffers).view = s.view := by
  simp [State.freeBuffers]

@[simp] theorem State.writeSpl_view (off v : Nat) (s : State) : (s.writeSpl off v).view = s.view := by
  simp [State.writeSpl]

@[simp] theorem State.withBlyMask_view (n : Nat) (s : State) : ({ s with blyMask := n } : State).view = s.view := (rfl)

@[simp] theorem State.writeBly_core (g : Fin 2) (off v : Nat) (s : State) : (s.writeBly g off v).view.core = s.view.core := by
  simp [State.writeBly]

@[simp] theorem State.writeMss_rest (o : Option Origin) (off v : Nat) (s : State) : (s.writeMss o off v).view.core.wires = s.view.core.wires ∧ (s.writeMss o off v).view.core.rates = s.view.core.rates ∧ (s.writeMss o off v).view.cars = s.view.cars := by
  simp [State.writeMss]

@[simp] theorem State.writeLog_view (off v : Nat) (s : State) : (s.writeLog off v).view = s.view := by
  simp [State.writeLog]

@[simp] theorem State.writeCfg_rest (off v : Nat) (s : State) : (s.writeCfg off v).view.core.wires = s.view.core.wires ∧ (s.writeCfg off v).view.core.rates = s.view.core.rates ∧ (s.writeCfg off v).view.cars = s.view.cars := by
  simp [State.writeCfg]

@[simp] theorem Region.write_seen (off : Nat) (b : List Byte) (r : Region) : (r.write off b).seen = r.seen := (rfl)

@[simp] theorem State.pimWrite_view (g : Agent) (off v : Nat) (s : State) : (s.pimWrite g off v).view = s.view := by
  simp [State.pimWrite]

@[simp] theorem State.fabricWrite_rest (g : HostAgent) (o : Option Origin) (a v : Nat) (s : State) : (s.fabricWrite g o a v).view.core.wires = s.view.core.wires ∧ (s.fabricWrite g o a v).view.core.rates = s.view.core.rates := by
  unfold State.fabricWrite
  repeat' split
  all_goals simp

@[simp] theorem State.offerMessage_view (m : EventMsg) (s : State) : (s.offerMessage m).view = s.view := by
  simp [State.offerMessage]

@[simp] theorem State.deliver_view (x : Ev) (s : State) : (s.deliver x).view = s.view := by
  simp [State.deliver]

@[simp] theorem State.eventDelivery_core (q : Fin 18) (s : State) : (s.eventDelivery q).view.core = s.view.core := by
  unfold State.eventDelivery
  repeat' split
  all_goals simp

@[simp] theorem State.deliverRemote_view (s : State) : (s.deliverRemote).view = s.view := by
  simp [State.deliverRemote]

@[simp] theorem State.answer_view (o : Origin) (f : SpliceFrame) (s : State) : (s.answer o f).view = s.view := by
  unfold State.answer
  repeat' split
  all_goals simp

@[simp] theorem State.countStatus_view (st : Nat) (s : State) : (s.countStatus st).view = s.view := by
  simp [State.countStatus]

@[simp] theorem State.postError_view (address tag status target : Nat) (s : State) : (s.postError address tag status target).view = s.view := by
  simp [State.postError]

@[simp] theorem State.writeFails_view (o : Origin) (f : SpliceFrame) (status address target : Nat) (s : State) : (s.writeFails o f status address target).view = s.view := by
  unfold State.writeFails
  repeat' split
  all_goals simp

@[simp] theorem State.readFails_view (o : Origin) (f : SpliceFrame) (status : Nat) (s : State) : (s.readFails o f status).view = s.view := by
  simp [State.readFails]

@[simp] theorem State.fails_view (o : Origin) (f : SpliceFrame) (status target : Nat) (s : State) : (s.fails o f status target).view = s.view := by
  simp [State.fails]

@[simp] theorem State.modBuf_view (b : Fin 16) (g : ReadBuf → ReadBuf) (s : State) : (s.modBuf b g).view = s.view := by
  simp [State.modBuf]

@[simp] theorem State.freeBuf_view (b : Fin 16) (s : State) : (s.freeBuf b).view = s.view := by
  simp [State.freeBuf]

@[simp] theorem State.discardPrefetch_view (b : Fin 16) (s : State) : (s.discardPrefetch b).view = s.view := by
  simp [State.discardPrefetch]

@[simp] theorem State.discardWhere_view (q : ReadBuf → Bool) (s : State) : (s.discardWhere q).view = s.view := by
  simp [State.discardWhere]

@[simp] theorem State.fetchWords_core (n a : Nat) (s : State) : (s.fetchWords n a).1.view.core = s.view.core := by
  induction n generalizing a s with
  | zero => rfl
  | succ n ih =>
    unfold State.fetchWords
    dsimp only
    split <;> simp [ih]

@[simp] theorem State.prefetch_core (o : Origin) (tag a n : Nat) (s : State) : (s.prefetch o tag a n).view.core = s.view.core := by
  unfold State.prefetch
  dsimp only
  repeat' split
  all_goals simp

@[simp] theorem State.collect_core (o : Origin) (f : SpliceFrame) (b : Fin 16) (data : List Byte) (s : State) : (s.collect o f b data).view.core = s.view.core := by
  simp [State.collect]

@[simp] theorem State.newRead_view (o : Origin) (f : SpliceFrame) (s : State) : (s.newRead o f).view = s.view := by
  unfold State.newRead
  dsimp only
  repeat' split
  all_goals simp

@[simp] theorem State.bufferExpiry_rest (b : Fin 16) (s : State) : (s.bufferExpiry b).view.core.wires = s.view.core.wires ∧ (s.bufferExpiry b).view.core.rates = s.view.core.rates ∧ (s.bufferExpiry b).view.cars = s.view.cars := by
  simp [State.bufferExpiry]

@[simp] theorem State.expireBufs_rest (s : State) : (s.expireBufs).view.core.wires = s.view.core.wires ∧ (s.expireBufs).view.core.rates = s.view.core.rates ∧ (s.expireBufs).view.cars = s.view.cars := by
  simp [State.expireBufs]

@[simp] theorem State.serveRead_rest (o : Origin) (f : SpliceFrame) (s : State) : (s.serveRead o f).view.core.wires = s.view.core.wires ∧ (s.serveRead o f).view.core.rates = s.view.core.rates := by
  have hrest (t : State) : t.expireBufs.view.core.wires = t.view.core.wires ∧ t.expireBufs.view.core.rates = t.view.core.rates := by simp
  -- The expiry of all buffers becomes a variable: the kernel would run it to compare the sides of an unfolding.
  obtain ⟨expire, hexpire⟩ : ∃ e, State.expireBufs = e := ⟨_, rfl⟩
  generalize hg : State.serveRead = g
  delta State.serveRead at hg
  rw [hexpire] at hg hrest
  subst hg
  dsimp only
  repeat' split
  all_goals simp [hrest]

@[simp] theorem State.fetchComplete_core (b : Fin 16) (s : State) : (s.fetchComplete b).view.core = s.view.core := by
  simp [State.fetchComplete]

@[simp] theorem State.hostOverlaps_view (g : HostAgent) (i : Fin 16) (a : Nat) (s : State) : (s.hostOverlaps g i a).view = s.view := by
  simp [State.hostOverlaps]

@[simp] theorem State.withHostPorts_view (p : Vector HostPort 16) (s : State) : ({ s with hostPorts := p } : State).view = s.view := (rfl)

@[simp] theorem State.hostServe_rest (g : HostAgent) (i : Fin 16) (x : HostAccess) (s : State) : (s.hostServe g i x).view.core.wires = s.view.core.wires ∧ (s.hostServe g i x).view.core.rates = s.view.core.rates := by
  unfold State.hostServe
  dsimp only
  split <;> simp

@[simp] theorem State.hostPort_rest (i : Fin 16) (splice mss : Option HostAccess) (s : State) : (s.hostPort i splice mss).view.core.wires = s.view.core.wires ∧ (s.hostPort i splice mss).view.core.rates = s.view.core.rates := by
  unfold State.hostPort
  dsimp only
  generalize (if s.hawserUp = true then splice else none) = a
  generalize (if s.mssUp = true then mss else none) = b
  cases a <;> cases b <;> split <;> simp

@[simp] theorem State.burstWords_rest (o : Origin) (n a : Nat) (b : List Byte) (s : State) : (s.burstWords o n a b).view.core.wires = s.view.core.wires ∧ (s.burstWords o n a b).view.core.rates = s.view.core.rates := by
  induction n generalizing a b s with
  | zero => exact ⟨rfl, rfl⟩
  | succ n ih =>
    unfold State.burstWords
    dsimp only
    split <;> simp [ih]

@[simp] theorem State.bursts_rest (o : Origin) (k a n : Nat) (b : List Byte) (s : State) : (s.bursts o k a n b).1.view.core.wires = s.view.core.wires ∧ (s.bursts o k a n b).1.view.core.rates = s.view.core.rates := by
  induction k generalizing a n b s with
  | zero => exact ⟨rfl, rfl⟩
  | succ k ih =>
    unfold State.bursts
    split
    · exact ⟨rfl, rfl⟩
    · dsimp only
      split <;> simp [ih]

@[simp] theorem State.performWrite_rest (o : Origin) (f : SpliceFrame) (s : State) : (s.performWrite o f).view.core.wires = s.view.core.wires ∧ (s.performWrite o f).view.core.rates = s.view.core.rates := by
  unfold State.performWrite
  dsimp only
  split <;> simp

@[simp] theorem State.releaseHeld_rest (s : State) : (s.releaseHeld).view.core.wires = s.view.core.wires ∧ (s.releaseHeld).view.core.rates = s.view.core.rates := by
  simp [State.releaseHeld]

@[simp] theorem State.relay_view (address port : Nat) (f : SpliceFrame) (s : State) : (s.relay address port f).view = s.view := by
  simp [State.relay]

theorem State.request_rest (o : Origin) (f : SpliceFrame) (serve : State → State) (s : State)
    (h : (serve s).view.core.wires = s.view.core.wires ∧ (serve s).view.core.rates = s.view.core.rates) :
    (s.request o f serve).view.core.wires = s.view.core.wires ∧ (s.request o f serve).view.core.rates = s.view.core.rates := by
  unfold State.request
  dsimp only
  repeat' split
  all_goals simp [h]

@[simp] theorem State.spliceWrite_rest (o : Origin) (f : SpliceFrame) (s : State) : (s.spliceWrite o f).view.core.wires = s.view.core.wires ∧ (s.spliceWrite o f).view.core.rates = s.view.core.rates := by
  unfold State.spliceWrite
  split
  · exact ⟨rfl, rfl⟩
  · refine State.request_rest _ _ _ _ ?_
    split <;> simp

@[simp] theorem State.spliceRead_rest (o : Origin) (f : SpliceFrame) (s : State) : (s.spliceRead o f).view.core.wires = s.view.core.wires ∧ (s.spliceRead o f).view.core.rates = s.view.core.rates := by
  unfold State.spliceRead
  split
  · exact State.request_rest _ _ _ _ (by simp)
  · exact ⟨rfl, rfl⟩

@[simp] theorem State.readResponse_view (f : SpliceFrame) (s : State) : (s.readResponse f).view = s.view := by
  unfold State.readResponse
  dsimp only
  repeat' split
  all_goals simp

@[simp] theorem State.writeErrorReceive_view (f : SpliceFrame) (s : State) : (s.writeErrorReceive f).view = s.view := by
  unfold State.writeErrorReceive
  dsimp only
  repeat' split
  all_goals simp

@[simp] theorem State.closeRelay_view (r : RelayEntry) (s : State) : (s.closeRelay r).view = s.view := by
  simp [State.closeRelay]

@[simp] theorem State.relayTimeout_rest (i : Nat) (s : State) : (s.relayTimeout i).view.core.wires = s.view.core.wires ∧ (s.relayTimeout i).view.core.rates = s.view.core.rates ∧ (s.relayTimeout i).view.cars = s.view.cars := by
  unfold State.relayTimeout
  repeat' split
  all_goals simp

@[simp] theorem State.spliceRenumbered_view (s : State) : (s.spliceRenumbered).view = s.view := by
  simp [State.spliceRenumbered]

@[simp] theorem State.servicePacket_rest (p : Packet) (s : State) : (s.servicePacket p).view.core.wires = s.view.core.wires ∧ (s.servicePacket p).view.core.rates = s.view.core.rates := by
  unfold State.servicePacket
  repeat' split
  all_goals simp

@[simp] theorem State.serviceLink_view (up : Bool) (s : State) : (s.serviceLink up).view = s.view := by
  simp [State.serviceLink]

end Sys2Proof.Machine
end

section
/-! PROOFS. What a sync point and the commands' shared parts leave alone. -/

namespace Sys2Proof.Machine

theorem Region.foldl_write_seen {α : Type} (w : Region → α → Region) (hw : ∀ x r, (w x r).seen = x.seen) (l : List α) (x : Region) : (l.foldl w x).seen = x.seen := foldl_keeps Region.seen w hw l x

@[simp] theorem State.sliceCycleEnd_core (i : Fin 16) (s : State) : (s.sliceCycleEnd i).view.core = s.view.core := by
  unfold State.sliceCycleEnd
  split
  · dsimp only
    rw [State.modRegion_view, State.modSlice_core]
    intro x
    refine Eq.trans rfl (Region.foldl_write_seen _ (fun y r => ?_) (List.finRange 32) x)
    split
    · rfl
    · exact Region.write_seen _ _ y
  · rfl

@[simp] theorem State.writeSliceData_view (i : Fin 16) (s : State) : (s.writeSliceData i).view = s.view := by
  unfold State.writeSliceData
  rw [State.modRegion_view]
  exact fun x => Region.foldl_write_seen _ (fun y r => Region.write_seen _ _ y) sliceData x

@[simp] theorem State.sliceAt_core (i : Fin 16) (m : Int) (s : State) : (s.sliceAt i m).view.core = s.view.core := by
  unfold State.sliceAt
  split
  · dsimp only
    rw [State.writeSliceData_view, State.modSlice_core]
    split
    · rfl
    · exact State.modSlice_core _ _ _
  · rfl

@[simp] theorem State.sliceSync_core (i : Fin 16) (due : List Int) (s : State) : (s.sliceSync i due).view.core = s.view.core := by
  unfold State.sliceSync
  exact foldl_keeps (fun s => s.view.core) _ (fun s m => State.sliceAt_core i m s) due s

@[simp] theorem State.switchRegions_rest (s : State) :
    s.switchRegions.view.core.wires = s.view.core.wires ∧ s.switchRegions.view.core.rates = s.view.core.rates ∧ s.switchRegions.view.cars = s.view.cars := ⟨rfl, rfl, rfl⟩

@[simp] theorem State.spliceSync_rest (s : State) : (s.spliceSync).view.core.wires = s.view.core.wires ∧ (s.spliceSync).view.core.rates = s.view.core.rates := by
  simp [State.spliceSync]

@[simp] theorem State.cycleEnd_core (s : State) : s.cycleEnd.view.core = s.view.core := by
  unfold State.cycleEnd
  dsimp only
  split <;> simp

@[simp] theorem State.cycleStart_rest (s : State) : (s.cycleStart).view.core.wires = s.view.core.wires ∧ (s.cycleStart).view.core.ground = s.view.core.ground ∧ (s.cycleStart).view.cars = s.view.cars := by
  simp [State.cycleStart]

theorem State.cycleStart_within {s : State} (h : s.view.core.rates.within) : s.cycleStart.view.core.rates.within := by
  unfold State.cycleStart
  extract_lets a b c d
  have ha : a.view.core.rates.within := by
    unfold a
    split <;> simp [h]
  have hb : b.view.core.rates.within := by simpa [b] using State.hwsCycleStart_within ha
  have hc : c.view.core.rates = b.view.core.rates := by
    unfold c
    split <;> simp
  simpa [d, hc] using hb
/-- The module once the ending cycle is closed and its regions are visible. -/
def State.switched (s : State) : State := (s.advance s.nextSync).cycleEnd.switchRegions
/-- The own sync points that fall to the node's, per island (R40). -/
def State.duePoints (s : State) : Vector (List Int) 17 := Vector.ofFn fun k => s.switched.ownDue k s.leaderPasses s.switched.now
/-- The twin, the slices and the AUTH command at a sync point. -/
def State.served (authIn : Bool) (s : State) : State :=
  (((s.switched.markSync s.duePoints).twinAtSync authIn).eachSlice fun i s' => s'.sliceSync i s.duePoints[clockOf i]).hitchCommand

theorem State.syncPoint_eq (p : Pulse) (authIn : Bool) (s : State) : s.syncPoint p authIn = (((s.served authIn).loopAtSync p).spliceSync).cycleStart := by
  unfold State.syncPoint State.served State.duePoints State.switched
  dsimp only

theorem State.served_within (authIn : Bool) {s : State} (h : s.view.core.rates.within) : (s.served authIn).view.core.rates.within := by
  simpa [State.served, State.switched] using h

theorem State.served_follows (authIn : Bool) (s : State) : (s.served authIn).view.core.wires.follows := by
  unfold State.served
  exact State.hitchCommand_follows (by simp)

theorem State.syncPoint_within (p : Pulse) (authIn : Bool) {s : State} (h : s.view.core.rates.within) : (s.syncPoint p authIn).view.core.rates.within := by
  rw [State.syncPoint_eq]
  refine State.cycleStart_within ?_
  simpa using State.served_within authIn h

theorem State.syncPoint_follows (p : Pulse) (authIn : Bool) (s : State) : (s.syncPoint p authIn).view.core.wires.follows := by
  rw [State.syncPoint_eq]
  simpa using State.served_follows authIn s

@[simp] theorem State.onSliceAt_rest (i : Fin 16) (due : Env → Slice → Option Nat) (f : Env → Slice → Slice) (s : State) : (s.onSliceAt i due f).view.core.wires = s.view.core.wires ∧ (s.onSliceAt i due f).view.core.rates = s.view.core.rates := by
  unfold State.onSliceAt
  repeat' split
  all_goals simp

@[simp] theorem State.onPowerAt_rest (i : Fin 16) (due : Env → Slice → Option Nat) (f : Env → Slice → Slice) (s : State) : (s.onPowerAt i due f).view.core.wires = s.view.core.wires ∧ (s.onPowerAt i due f).view.core.rates = s.view.core.rates := by
  unfold State.onPowerAt
  repeat' split
  all_goals simp

@[simp] theorem State.atSyncFrom_rest (i : Fin 16) (due : Int) (s : State) : (s.atSyncFrom i due).view.core.wires = s.view.core.wires ∧ (s.atSyncFrom i due).view.core.rates = s.view.core.rates := by
  simp [State.atSyncFrom]

@[simp] theorem State.portalExpiry_rest (i : Fin 16) (due : Env → Slice → Option Int) (s : State) : (s.portalExpiry i due).view.core.wires = s.view.core.wires ∧ (s.portalExpiry i due).view.core.rates = s.view.core.rates := by
  unfold State.portalExpiry
  repeat' split
  all_goals simp

@[simp] theorem State.edgeTick_rest (i : Fin 16) (a : Fin 3) (s : State) : (s.edgeTick i a).view.core.wires = s.view.core.wires ∧ (s.edgeTick i a).view.core.rates = s.view.core.rates := by
  simp [State.edgeTick]

@[simp] theorem State.estimatorTick_rest (i : Fin 16) (x0 x1 x2 : PhaseAvg) (s : State) : (s.estimatorTick i x0 x1 x2).view.core.wires = s.view.core.wires ∧ (s.estimatorTick i x0 x1 x2).view.core.rates = s.view.core.rates := by
  simp [State.estimatorTick]

@[simp] theorem State.sampleTick_rest (i : Fin 16) (pins : Vector Int 16) (lines : Vector Int 5) (s : State) : (s.sampleTick i pins lines).view.core.wires = s.view.core.wires ∧ (s.sampleTick i pins lines).view.core.rates = s.view.core.rates := by
  simp [State.sampleTick]

@[simp] theorem State.sliceRegister_core (i : Fin 16) (off v : Nat) (s : State) : (s.sliceRegister i off v).view.core = s.view.core := by
  simp [State.sliceRegister]

@[simp] theorem State.hawserRegister_view (f : State → State) (s : State) (h : (f s).view = s.view) : (s.hawserRegister f).view = s.view := by
  simp [State.hawserRegister, h]

@[simp] theorem State.mssAccess_rest (f : State → State) (s : State) (h : (f s).view.core.wires = s.view.core.wires ∧ (f s).view.core.rates = s.view.core.rates) :
    (s.mssAccess f).view.core.wires = s.view.core.wires ∧ (s.mssAccess f).view.core.rates = s.view.core.rates := by
  unfold State.mssAccess
  split
  · exact h
  · exact ⟨rfl, rfl⟩

@[simp] theorem State.matrixWrite_core (i : Fin 16) (v : Nat) (s : State) : (s.matrixWrite i v).view.core = s.view.core := by
  simp [State.matrixWrite]

@[simp] theorem State.directorySwitch_view (s : State) : (s.directorySwitch).view = s.view := by
  unfold State.directorySwitch
  repeat' split
  all_goals simp

end Sys2Proof.Machine
end

section
/-! PROOFS. Every command keeps the gate with the AUTH lines and the paces within their limit; O58, O60, O1 and O4. -/

namespace Sys2Proof.Machine

/-! ### Every command -/

@[simp] theorem State.hawserRegister_core (f : State → State) (s : State) (h : (f s).view.core = s.view.core) : (s.hawserRegister f).view.core = s.view.core := by
  simp [State.hawserRegister, h]

/-- From one state to another the gate goes on following the AUTH lines, and every pace stays within its limit. -/
def State.Keeps (s u : State) : Prop := (s.view.core.wires.follows → u.view.core.wires.follows) ∧ (s.view.core.rates.within → u.view.core.rates.within)

theorem State.keeps_of_rest {s u : State} (hw : u.view.core.wires = s.view.core.wires) (hr : u.view.core.rates = s.view.core.rates) : s.Keeps u :=
  ⟨fun h => hw ▸ h, fun h => hr ▸ h⟩

theorem State.keeps_supervised (k : Fin 34) {s : State} :
    s.Keeps (if k.val < 16 ∨ k.val = 32 then s.islandReset k (if k.val = 32 then 2 else 3) else s) := by
  split
  · exact ⟨by simp, State.islandReset_within k _⟩
  · exact ⟨id, id⟩

theorem State.keeps_ecc (double : Bool) {s : State} : s.Keeps (if double then s.islandReset 33 4 else s.eccCorrected) := by
  cases double
  · exact State.keeps_of_rest (by simp) (by simp)
  · exact ⟨by simp, State.islandReset_within 33 4⟩

theorem exec_keeps (c : Instr) (s : State) : ∃ u, exec c s = State.complete u ∧ s.Keeps u := by
  cases c
  case syncPoint p authIn => exact ⟨_, rfl, fun _ => s.syncPoint_follows p authIn, State.syncPoint_within p authIn⟩
  case timeTransfer k t1 t2 t3 t4 => exact ⟨_, rfl, by simp, State.timeTransfer_within k t1 t2 t3 t4⟩
  case beaconReceive i hd b rx => exact ⟨_, rfl, by simp, State.beaconReceive_within i hd b rx⟩
  case authAssert => exact ⟨_, rfl, State.authAssert_follows, by simp⟩
  case authCommandLapse => exact ⟨_, rfl, State.authLapse_follows, by simp⟩
  case authCollision => exact ⟨_, rfl, State.authCollision_follows, by simp⟩
  case authSelfAssert => exact ⟨_, rfl, State.authSelf_follows, by simp⟩
  case authReadbackMismatch => exact ⟨_, rfl, by simp, by simp⟩
  case shutdownRelease => exact ⟨_, rfl, State.shutdownRelease_follows, by simp⟩
  case supplyLost => exact ⟨_, rfl, State.supplyLost_follows, State.supplyLost_within⟩
  case powerFailReset => exact ⟨_, rfl, State.powerFailReset_follows, State.powerFailReset_within⟩
  case islandBrownOut k => exact ⟨_, rfl, by simp, State.islandReset_within k _⟩
  case islandSupervisorReset k => exact ⟨_, rfl, State.keeps_supervised k⟩
  case lockstepMismatch => exact ⟨_, rfl, by simp, State.islandReset_within 33 2⟩
  case mssWatchdogExpiry => exact ⟨_, rfl, by simp, State.islandReset_within 33 3⟩
  case eccError double => exact ⟨_, rfl, State.keeps_ecc double⟩
  case hostPortAccess agent i x other => cases agent <;> exact ⟨_, rfl, State.keeps_of_rest (by simp) (by simp)⟩
  case tetherFrame i f => exact ⟨_, rfl, by cases f <;> exact State.keeps_of_rest (by simp) (by simp)⟩
  all_goals refine ⟨_, rfl, State.keeps_of_rest ?_ ?_⟩
  all_goals simp

theorem step_keeps {s t : State} (h : step s = .next t) : s.Keeps t := by
  unfold step at h
  split at h
  · cases h
    exact State.keeps_of_rest rfl rfl
  next c rest _ =>
    obtain ⟨u, hu, hkeeps⟩ := exec_keeps c { s with pending := rest }
    rw [hu] at h
    cases h
    exact hkeeps

/-- Settles O58: every command either leaves the lines and the gate, or ends by settling the gate. -/
theorem gateFollowsAuthLines : Obligations.GateFollowsAuthLines := by
  unfold Obligations.GateFollowsAuthLines
  intro s t hsafe hstep
  exact (step_keeps hstep).1 hsafe

/-- Settles O60: a pace changes by a clamped slew, by the servo's return to a pace it had, or to 0. -/
theorem clockRatesStayWithinTheirLimit : Obligations.ClockRatesStayWithinTheirLimit := by
  unfold Obligations.ClockRatesStayWithinTheirLimit
  intro s t hsafe hstep
  exact t.ratesSafe_iff.2 ((step_keeps hstep).2 (s.ratesSafe_iff.1 hsafe))

/-- Settles O1: both parts are the branches of `step`. -/
theorem stepTakesFrontCommand : Obligations.StepTakesFrontCommand := by
  unfold Obligations.StepTakesFrontCommand
  refine ⟨fun c rest s => rfl, fun s h => ?_⟩
  unfold step
  split
  · rfl
  next hcons => rw [h] at hcons; cases hcons

/-- Settles O4: the reset values, evaluated. -/
theorem resetIsSafe : Obligations.ResetIsSafe := by
  unfold Obligations.ResetIsSafe State.memSafe State.ratesSafe State.loopSafe State.gateSafe
  decide

end Sys2Proof.Machine
end

section
/-! PROOFS. The process image and the intake queues: O5, O6 and O10. -/

namespace Sys2Proof.Machine

/-! ### The process image (R19 to R22) -/

theorem State.pimWrite_owned {g : Agent} {off : Nat} {r : RegionId} {k : Nat} (v : Nat) (s : State) (hoff : off % 4 = 0) (hin : off < 0x40000) (hr : s.regionOf off = (r, k)) (hg : Agent.mayWrite g r k = true) :
    s.pimWrite g off v = (s.modRegion r fun x => x.write k (leBytes 4 v)).respond .done 0 false := by
  simp [State.pimWrite, hoff, Nat.not_le.2 hin, hr, hg]

theorem State.pimWrite_notOwned {g : Agent} {off : Nat} {r : RegionId} {k : Nat} (v : Nat) (s : State) (hoff : off % 4 = 0) (hin : off < 0x40000) (hr : s.regionOf off = (r, k)) (hg : Agent.mayWrite g r k = false) :
    s.pimWrite g off v = s.respond .notOwner 0 false := by
  simp [State.pimWrite, hoff, Nat.not_le.2 hin, hr, hg]

/-- PIM_WRITE of an agent whose island runs. -/
theorem exec_pimWrite_up {g : Agent} {s : State} (hup : s.agentUp g = true) (off v : Nat) : exec (.pimWrite g off v) s = State.complete (s.pimWrite g off v) :=
  congrArg State.complete (if_pos hup)

theorem exec_pimWrite_down {g : Agent} {s : State} (hup : s.agentUp g = false) (off v : Nat) : exec (.pimWrite g off v) s = State.complete s :=
  congrArg State.complete (if_neg (by simp [hup]))

/-- What an answered access leaves once the command is complete. -/
theorem State.complete_respond (r : Response) (v : Nat) (effect : Bool) (s : State) : State.complete (s.respond r v effect) = .next { s with access := ⟨r, v, effect⟩, freeCount := s.freeCount + 1 } := rfl

theorem State.modRegion_freeCount (r : RegionId) (f : Region → Region) (s : State) : (s.modRegion r f).freeCount = s.freeCount := by
  cases r <;> rfl

/-- The writer of a region (R19). -/
def RegionId.writer : RegionId → Agent
  | .slice i => .slice i
  | .hawser => .hawser
  | .splice => .splice
  | .mss | .reserved => .mss

theorem Agent.mayWrite_all_iff {r : RegionId} (hr : r ≠ .reserved) (g : Agent) : (∀ k, Agent.mayWrite g r k = true) ↔ g = r.writer := by
  have hhost : ¬∀ k, Agent.mayWrite .remote .splice k = true := fun h => by simpa [Agent.mayWrite] using h 0
  cases r with
  | slice i => cases g <;> simp [Agent.mayWrite, RegionId.writer]
  | hawser => cases g <;> simp [Agent.mayWrite, RegionId.writer]
  | splice => cases g <;> simp_all [Agent.mayWrite, RegionId.writer]
  | mss => cases g <;> simp [Agent.mayWrite, RegionId.writer]
  | reserved => exact absurd rfl hr

/-- Of two writes to one word of a shadow copy that becomes visible, readers see the later (R22). -/
theorem Region.later_write_visible (k v1 v2 : Nat) (x : Region) (h : Memory.wf ramDefault x.shadow = true) :
    memGetBytes ramDefault ({ (x.write k (leBytes 4 v1)).write k (leBytes 4 v2) with completed := true } : Region).atSync.visible k 4 = leBytes 4 v2 := by
  have hlater := memGetBytes_memSetBytes ramDefault (leBytes 4 v2) _ k (memSetBytes_wf ramDefault (leBytes 4 v1) x.shadow k h)
  rwa [leBytes_length] at hlater

/-- Settles O5, by the cases of PIM_WRITE. -/
theorem processImageWriteNeedsItsOwner : Obligations.ProcessImageWriteNeedsItsOwner := by
  unfold Obligations.ProcessImageWriteNeedsItsOwner
  refine ⟨fun g off v r k s hup hoff hin hr hg => ?_, fun g off v r k s hup hoff hin hr hg => ?_, fun g off v s hup hoff => ?_, fun g off v s hup hoff hin => ?_, fun g off v s hup => ?_,
    fun r g hr => ?_, Region.later_write_visible⟩
  · rw [exec_pimWrite_up hup, State.pimWrite_owned v s hoff hin hr hg, State.complete_respond, State.modRegion_freeCount]
    rfl
  · rw [exec_pimWrite_up hup, State.pimWrite_notOwned v s hoff hin hr hg, State.complete_respond]
  · rw [exec_pimWrite_up hup, State.pimWrite, if_pos hoff, State.complete_respond]
  · rw [exec_pimWrite_up hup, State.pimWrite, if_neg (by simp [hoff]), if_pos hin, State.complete_respond]
  · exact exec_pimWrite_down hup off v
  · cases r <;> exact Agent.mayWrite_all_iff hr g

theorem State.regionOf_slice (i : Fin 16) (k : Nat) (s : State) (hk : k < 0x2000) (hi : i.val < s.sliceCount) : s.regionOf (0x2000 * i.val + k) = (.slice i, k) := by
  have hdiv : (0x2000 * i.val + k) / 0x2000 = i.val := by omega
  have hmod : (0x2000 * i.val + k) % 0x2000 = k := by omega
  have hlt : 0x2000 * i.val + k < 0x20000 := by omega
  simp only [State.regionOf, hlt, dite_true, hdiv, hmod, hi, if_true]

/-- Settles O6: the layout by arithmetic, the writers by the cases of agents and regions. -/
theorem processImageRegionsLieAsLaidOut : Obligations.ProcessImageRegionsLieAsLaidOut := by
  unfold Obligations.ProcessImageRegionsLieAsLaidOut
  refine ⟨State.regionOf_slice, fun k s hk => ?_, fun k s hk => ?_, fun k s hk => ?_, fun _ _ _ => rfl, fun _ => ⟨rfl, rfl, rfl⟩, fun r k => ?_⟩
  · simp [State.regionOf, show 0x20000 + k < 0x30000 by omega]
  · simp [State.regionOf, show ¬0x30000 + k < 0x20000 by omega, show 0x30000 + k < 0x38000 by omega]
  · simp [State.regionOf, show ¬0x38000 + k < 0x20000 by omega, show ¬0x38000 + k < 0x30000 by omega, show 0x38000 + k < 0x3C000 by omega]
  · cases r <;> simp [Agent.mayWrite]

/-! ### Intake queues (R26) -/

theorem State.intakeOffer_present {q : Fin 18} {s : State} (hq : q.val < 16 → q.val < s.sliceCount) (x : Intake) : s.intakeOffer q x = s.setIntake q ((s.intake q).offer x) :=
  if_neg fun h => Nat.not_le.2 (hq h.1) h.2

theorem State.intake_setIntake_other (q : Fin 18) (y : IntakeQ) (s : State) (p : Fin 18) (hp : p ≠ q) : (s.setIntake q y).intake p = s.intake p := by
  have hval : p.val ≠ q.val := fun h => hp (Fin.ext h)
  unfold State.setIntake State.intake
  rcases Nat.lt_trichotomy p.val 16 with hp16 | hp16 | hp16
  · by_cases hq : q.val < 16
    · simp [hp16, hq, Ne.symm hval]
    · by_cases hq16 : q.val = 16 <;> simp [hp16, hq, hq16]
  · have hq16 : q.val ≠ 16 := by omega
    by_cases hq : q.val < 16 <;> simp [hp16, hq, hq16]
  · have hq : q.val < 17 := by omega
    rcases Nat.lt_or_eq_of_le (Nat.lt_succ_iff.1 hq) with hq | hq <;> simp [Nat.not_lt.2 hp16.le, hp16.ne', hq]

/-- Settles O10: the two branches of a queue's offer. -/
theorem intakeQueueTakesOrCountsLoss : Obligations.IntakeQueueTakesOrCountsLoss := by
  unfold Obligations.IntakeQueueTakesOrCountsLoss
  refine ⟨fun q x s hq hroom hkind => ?_, fun q x s hq hfull => ?_, fun q y s => ⟨State.intake_setIntake q y s, State.intake_setIntake_other q y s⟩⟩
  · have hoffer : (s.intake q).offer x = { s.intake q with entries := (s.intake q).entries ++ [{ x with lost := (s.intake q).lost }], lost := 0 } := by
      simp [IntakeQ.offer, hroom, hkind]
    exact congrArg State.complete ((State.intakeOffer_present hq x).trans (congrArg (fun y => s.setIntake q y) hoffer))
  · have hoffer : (s.intake q).offer x = { s.intake q with lost := (s.intake q).lost + 1 } := by
      simp [IntakeQ.offer, Nat.not_lt.2 hfull]
    exact congrArg State.complete ((State.intakeOffer_present hq x).trans (congrArg (fun y => s.setIntake q y) hoffer))

end Sys2Proof.Machine
end

section
/-! PROOFS. The handshake channels: O9. -/

namespace Sys2Proof.Machine

/-! ### Handshake channels (R36) -/

theorem State.channelStands_iff (w : Waiter) (k : Fin 35) (s : State) : s.channelStands w k = true ↔ ⟨w, k⟩ ∈ s.stalled := by
  simp [State.channelStands]

/-- The channels marked stalled once a waiter has marked its own. -/
def State.marked (w : Waiter) (k : Fin 35) (s : State) : State := { s with stalled := if ⟨w, k⟩ ∈ s.stalled then s.stalled else s.stalled ++ [⟨w, k⟩] }

theorem State.marked_eq (w : Waiter) (k : Fin 35) (s : State) : s.marked w k = if s.channelStands w k then s else { s with stalled := s.stalled ++ [⟨w, k⟩] } := by
  by_cases h : (⟨w, k⟩ : Handshake) ∈ s.stalled <;> simp [State.marked, State.channelStands_iff, h]

/-- What stalls no channel: the far end itself, a power island, or a waiter that stands. -/
theorem State.channelStalled_none {w : Waiter} {k : Fin 35} {s : State} (h : (waiterIsland w).val = k.val ∨ (16 ≤ k.val ∧ k.val < 32) ∨ s.islands[waiterIsland w].running = false) :
    s.channelStalled w k = s := by
  unfold State.channelStalled
  rw [if_pos]
  rcases h with h | h | h
  · simp [h]
  · simp [h]
  · rw [Fin.getElem_fin] at h
    simp [h]

theorem State.channelStalled_some {w : Waiter} {k : Fin 35} {s : State} (hend : (waiterIsland w).val ≠ k.val) (hpower : k.val < 16 ∨ 32 ≤ k.val) (hup : s.islands[waiterIsland w].running = true) :
    s.channelStalled w k = match w with
      | .slice i => (s.marked w k).modSlice i fun sl => sl.switchEvent ((s.marked w k).env i) 10 10 0
      | .hawser => (s.marked w k).hwsEvent 12 0 0 0
      | .splice => (s.marked w k).splEvent 7 0 0 0
      | .logline => (s.marked w k).logEvent 7 0 0
      | .mss => (s.marked w k).mssEvent 0 5 0 := by
  have hchannel : ¬(16 ≤ k.val ∧ k.val < 32) := by omega
  rw [Fin.getElem_fin] at hup
  unfold State.channelStalled
  rw [if_neg (by simp [hend, hchannel, hup])]
  rw [← State.marked_eq] <;> rfl

theorem State.mem_release_stalled {j : Fin 34} {s : State} (h : s.hasIsland j = true) (c : Handshake) :
    c ∈ (s.release j).stalled ↔ c ∈ s.stalled ∧ c.island.val ≠ j.val ∧ waiterIsland c.waiter ≠ j := by
  simp [State.release, h]

/-- Settles O9, by the guard of the command and the filter of an island's release. -/
theorem stalledChannelIsMarkedAndRaised : Obligations.StalledChannelIsMarkedAndRaised := by
  unfold Obligations.StalledChannelIsMarkedAndRaised
  refine ⟨fun w k s h => congrArg State.complete (State.channelStalled_none h), fun w k s hend hpower hup => ?_, fun j s c h => State.mem_release_stalled h c⟩
  refine (congrArg State.complete (State.channelStalled_some hend hpower hup)).trans ?_
  cases w <;> rfl

end Sys2Proof.Machine
end

section
/-! PROOFS. The host ports: O7. -/

namespace Sys2Proof.Machine

/-! ### Host ports (R31) -/

/-- A host port that has served its sender last. -/
def HostPort.served (g : HostAgent) (x : Access) (p : HostPort) : HostPort :=
  match g with
  | .splice => { p with splice := x, last := some .splice }
  | .mss => { p with mss := x, last := some .mss }

/-- The module after an answer at a host port. -/
def State.hostAnswered (g : HostAgent) (i : Fin 16) (x : Access) (s : State) : State := { s with access := x, hostPorts := s.hostPorts.set i (s.hostPorts[i].served g x) }

/-- The island of a host port's sender runs. -/
def State.hostUp (g : HostAgent) (s : State) : Bool := match g with | .splice => s.hawserUp | .mss => s.mssUp

/-- The sender's channel to a slice is marked stalled. -/
def State.hostStalled (g : HostAgent) (i : Fin 16) (s : State) : Bool := s.channelStands (hostWaiter g) ⟨i.val, by omega⟩

section
variable {g : HostAgent} {i : Fin 16} {off : Nat} {s : State}

theorem State.windowStalled_slice (g : HostAgent) (i : Fin 16) (s : State) : s.windowStalled g (.slice i) = (s.hostStalled g i || !s.islands[i.val].running) := rfl

theorem State.engineUp_iff : s.engineUp i = true ↔ i.val < s.sliceCount ∧ s.islands[i.val].running = true := by
  simp [State.engineUp]

theorem State.windowStalled_up (hup : s.engineUp i = true) (hfree : s.hostStalled g i = false) : s.windowStalled g (.slice i) = false := by
  rw [State.windowStalled_slice, hfree, (State.engineUp_iff.1 hup).2]
  rfl

theorem State.hostServe_read {r : Response} {v : Nat} {e : Bool} (hoff : off < 0x10000) (h : s.fabricRead g (0x04000000 + i.val * 0x10000 + off) = s.respond r v e) :
    s.hostServe g i ⟨off, none⟩ = s.hostAnswered g i ⟨r, v, e⟩ := by
  simp only [State.hostServe, Nat.mod_eq_of_lt hoff, h]
  cases g <;> rfl

theorem State.hostServe_write {r : Response} {v w : Nat} {e : Bool} {u : State} (hoff : off < 0x10000)
    (h : (s.hostOverlaps g i (0x04000000 + i.val * 0x10000 + off)).fabricWrite g none (0x04000000 + i.val * 0x10000 + off) w = u.respond r v e) :
    s.hostServe g i ⟨off, some w⟩ = u.hostAnswered g i ⟨r, v, e⟩ := by
  simp only [State.hostServe, Nat.mod_eq_of_lt hoff, h]
  cases g <;> rfl

theorem State.fabricWrite_slice {w : Nat} (hoff : off < 0xF000) (hword : off % 4 = 0) (hup : s.engineUp i = true) (hfree : s.hostStalled g i = false) :
    s.fabricWrite g none (0x04000000 + i.val * 0x10000 + off) w =
      (s.writeSlice i off (w % 2 ^ 32)).1.respond (if (s.writeSlice i off (w % 2 ^ 32)).2 then .bankActive else .done) 0 false := by
  have hcount := (State.engineUp_iff.1 hup).1
  have hact : Block.action (.slice i) off = false := by simp [Block.action, hoff]
  unfold State.fabricWrite
  dsimp only
  rw [if_neg (by omega), State.window_slice off s i (by omega) hcount]
  simp only [State.windowStalled_up hup hfree, hact, Bool.false_eq_true, if_false]

theorem State.hostServe_last (g : HostAgent) (i : Fin 16) (x : HostAccess) (s : State) : (s.hostServe g i x).hostPorts[i].last = some g := by
  simp [State.hostServe]

end

/-- One access alone at a port, whose sender's island runs. -/
theorem exec_hostPortAccess_alone {g : HostAgent} {s : State} (hup : s.hostUp g = true) (i : Fin 16) (x : HostAccess) :
    exec (.hostPortAccess g i x none) s = State.complete (s.hostServe g i x) := by
  cases g
  · have h : s.hawserUp = true := hup
    refine congrArg State.complete ?_
    simp [State.hostPort, h]
  · have h : s.mssUp = true := hup
    refine congrArg State.complete ?_
    simp [State.hostPort, h]

/-- Two accesses at a port: the one not served last goes first (R31). -/
theorem State.hostPort_both {s : State} (hspl : s.hawserUp = true) (hmss : s.mssUp = true) (i : Fin 16) (x y : HostAccess) :
    s.hostPort i (some x) (some y) = if s.hostPorts[i].last = some .splice then (s.hostServe .mss i y).hostServe .splice i x else (s.hostServe .splice i x).hostServe .mss i y := by
  simp [State.hostPort, hspl, hmss]

/-- Settles O7: an access reaches the slice's window, or is refused there. -/
theorem hostPortReachesSliceRegisters : Obligations.HostPortReachesSliceRegisters := by
  unfold Obligations.HostPortReachesSliceRegisters
  intro port up free access
  have hup (g : HostAgent) (s : State) : up g s = s.hostUp g := by cases g <;> rfl
  have hfree (g : HostAgent) (i : Fin 16) (s : State) : free g i s = !s.hostStalled g i := by cases g <;> rfl
  have hport (g : HostAgent) (i : Fin 16) (x : Access) (s : State) : .next (port g i x s) = State.complete (s.hostAnswered g i x) := by cases g <;> rfl
  refine ⟨fun g i off s h1 h2 h3 hoff hword => ?_, fun g i off v s h1 h2 h3 hoff hword => ?_, fun g i off w s h1 hi hoff hword hstalled => ?_, fun i x y s hspl hmss => ?_, State.hostServe_last⟩
  · rw [hup] at h1
    rw [hfree, Bool.not_eq_true'] at h3
    refine (exec_hostPortAccess_alone h1 i _).trans (Eq.trans (congrArg State.complete ?_) (hport g i _ s).symm)
    refine State.hostServe_read (by omega) ?_
    refine State.fabricRead_plain g _ off (.slice i) s (by omega) (State.window_slice off s i (by omega) (State.engineUp_iff.1 h2).1) (State.windowStalled_up h2 h3) ?_
    simp [Block.action, hoff]
  · rw [hup] at h1
    rw [hfree, Bool.not_eq_true'] at h3
    intro s'
    have hover : s.hostOverlaps g i (0x04000000 + i.val * 0x10000 + off) = s' := if_pos ⟨by omega, (State.engineUp_iff.1 h2).1, State.windowStalled_up h2 h3⟩
    obtain ⟨spl, dq, hs'⟩ := s.discardWhere_eq fun x => x.overlaps (0x04000000 + i.val * 0x10000 + off) 4
    have hs2 : s'.engineUp i = true := by rw [show s' = _ from hs']; exact h2
    have hs3 : s'.hostStalled g i = false := by rw [show s' = _ from hs']; exact h3
    refine (exec_hostPortAccess_alone h1 i _).trans (Eq.trans (congrArg State.complete ?_) (hport g i _ _).symm)
    exact State.hostServe_write (by omega) (by rw [hover]; exact State.fabricWrite_slice hoff hword hs2 hs3)
  · rw [hup] at h1
    have hw : s.windowStalled g (.slice i) = true := by
      rw [State.windowStalled_slice]
      rcases hstalled with h | h
      · rw [hfree, Bool.not_eq_false'] at h
        simp [h]
      · simp [h]
    have hin := State.window_slice off s i hoff hi
    refine (exec_hostPortAccess_alone h1 i _).trans (Eq.trans (congrArg State.complete ?_) (hport g i _ s).symm)
    cases w with
    | none => exact State.hostServe_read hoff (State.fabricRead_stalled g _ off (.slice i) s (by omega) hin hw)
    | some w =>
      have hover : s.hostOverlaps g i (0x04000000 + i.val * 0x10000 + off) = s := if_neg fun h => by simp [hw] at h
      exact State.hostServe_write hoff (by rw [hover]; exact State.fabricWrite_stalled g none _ off w (.slice i) s (by omega) hin hw)
  · exact ⟨congrArg State.complete (State.hostPort_both hspl hmss i x y), congrArg State.complete (State.hostPort_both hspl hmss i x y)⟩

end Sys2Proof.Machine
end

section
/-! PROOFS. The islands' clocks: O8. -/

namespace Sys2Proof.Machine

/-! ### The islands' clocks (R37, R38, R41) -/

theorem clampInt_rateLimit (x : Int) : clampInt (-rateLimit) rateLimit x = max (-200000) (min 200000 x) := by
  unfold clampInt rateLimit
  split_ifs <;> omega

theorem Counter.step_read (x : Counter) (d : Int) (n : Nat) : (x.step d).read n = x.read n + d := by
  simp only [Counter.read, Counter.step]
  ring

theorem Counter.slew_read (x : Counter) (r : Int) (n : Nat) : (x.slew n r).read n = x.read n := by
  simp [Counter.read, Counter.slew]

theorem State.timeTransfer_stalled {k : Fin 17} {s : State} (hchannel : s.timeChannel k = false) (t1 t2 t3 t4 : Int) : s.timeTransfer k t1 t2 t3 t4 = s := by
  simp [State.timeTransfer, hchannel]

section
variable {k : Fin 17} (t1 t2 t3 t4 : Int) {s : State} (hup : s.hawserUp = true) (hisland : s.islands[(State.islandOf k).val].running = true) (hchannel : s.timeChannel k = true)
include hup hisland hchannel

theorem State.timeTransfer_slews (hlo : -(1000 * 65536) ≤ (((t2 - t1) - (t4 - t3) : Int) / 2 : Rat)) (hhi : (((t2 - t1) - (t4 - t3) : Int) / 2 : Rat) ≤ 1000 * 65536) :
    s.timeTransfer k t1 t2 t3 t4 = (s.modClock k fun c => { c with
      counter := ⟨c.counter.read s.now, s.now, max (-200000) (min 200000 (c.counter.rate + reportR (-(((t2 - t1) - (t4 - t3) : Int) / 2 : Rat) / 65536 / (s.tcyc : Rat) * 1000000000)))⟩,
      missed := 0, transferred := true, holdover := false }).modRegion (clockRegion k) fun r => { r with holdover := false } := by
  have hsmall : ¬((1000 * 65536 : Rat) < ((t2 - t1) - (t4 - t3) : Int) / 2 ∨ (((t2 - t1) - (t4 - t3) : Int) / 2 : Rat) < -(1000 * 65536)) :=
    fun h => h.elim (fun h => absurd h (not_lt.2 hhi)) fun h => absurd h (not_lt.2 hlo)
  unfold State.timeTransfer
  rw [if_neg (by simp [hup, hisland, hchannel])]
  simp only [hsmall, if_false, Counter.slew, clampInt_rateLimit]

theorem State.timeTransfer_steps (hlarge : (1000 * 65536 : Rat) < ((t2 - t1) - (t4 - t3) : Int) / 2 ∨ (((t2 - t1) - (t4 - t3) : Int) / 2 : Rat) < -(1000 * 65536)) :
    s.timeTransfer k t1 t2 t3 t4 = (s.modClock k fun c => { c with
      missed := 0, transferred := true, holdover := false, pendingStep := some (reportR (-(((t2 - t1) - (t4 - t3) : Int) / 2 : Rat))), stepReady := false }).modRegion (clockRegion k)
        fun r => { r with holdover := false } := by
  unfold State.timeTransfer
  rw [if_neg (by simp [hup, hisland, hchannel])]
  simp only [hlarge, if_true]

end

theorem State.clockStep_waits {k : Fin 18} (h : k.val < 17) {d : Int} {s : State} (hstep : s.clocks[k.val].pendingStep = some d)
    (hdue : (s.clocks[k.val].stepReady && decide (s.now ≤ max s.lastSync s.clocks[k.val].syncAt + (if k.val < 16 then 3 else 5))) = false) : s.clockStep k = s := by
  simp only [State.clockStep, h, dite_true, hstep, hdue, Bool.false_eq_true, if_false]

theorem State.clockStep_due {k : Fin 18} (h : k.val < 17) {d : Int} {s : State} (hstep : s.clocks[k.val].pendingStep = some d)
    (hdue : (s.clocks[k.val].stepReady && decide (s.now ≤ max s.lastSync s.clocks[k.val].syncAt + (if k.val < 16 then 3 else 5))) = true) :
    s.clockStep k = { s with
      clocks := s.clocks.set k.val { s.clocks[k.val] with counter := s.clocks[k.val].counter.step d, pendingStep := none, stepReady := false, lastMultiple := s.clocks[k.val].lastMultiple.map fun _ => (s.clocks[k.val].counter.step d).nearest s.tcyc s.now },
      slices := if hk : k.val < 16 then s.slices.set k.val { s.slices[k.val] with evalAt := s.slices[k.val].evalAt.map fun _ => (s.clocks[k.val].counter.step d).nearest s.tcyc s.now } else s.slices } := by
  simp only [State.clockStep, h, dite_true, hstep, hdue, if_true, State.anchor, State.ownMultiple, State.modClock, Fin.getElem_fin, Vector.getElem_set_self, Vector.set_set]
  split
  · rfl
  · rfl

theorem State.applyHwsStep_due {d : Int} {s : State} (hup : s.hawserUp = true) (hstep : s.hws.pendingStep = some d) (hready : s.hws.stepReady = true) (hnow : s.now ≤ s.lastSync + 3) :
    s.applyHwsStep = (s.modHws fun h => { h with clock := h.clock.step d, pendingStep := none, stepReady := false }).hwsEvent 9 0 0 0 := by
  simp [State.applyHwsStep, hup, hstep, hready, hnow]

theorem State.holdoverEntry_due {k : Fin 17} {s : State} (hisland : s.islands[(State.islandOf k).val].running = true) (hmissed : 4 ≤ s.clocks[k].missed) :
    s.holdoverEntry k = (s.modClock k fun c => { c with holdover := true }).modRegion (clockRegion k) fun r => { r with holdover := true } :=
  if_pos (by rw [hisland, decide_eq_true hmissed]; rfl)

/-- Settles O8, by the branches of the three commands. -/
theorem clocksSlewStepAndHoldOver : Obligations.ClocksSlewStepAndHoldOver := by
  unfold Obligations.ClocksSlewStepAndHoldOver
  refine ⟨fun k t1 t2 t3 t4 s hup hisland => ⟨fun hc => ?_, fun hc => ⟨fun hlo hhi => ?_, fun hlarge => ?_⟩⟩, fun k h d s hstep => ⟨fun hdue => ?_, fun hdue => ?_⟩, fun d s hup hstep hready hnow => ?_,
    fun x d r n => ⟨x.step_read d n, x.slew_read r n⟩, fun k s hisland hmissed => ?_⟩
  · exact congrArg State.complete (State.timeTransfer_stalled hc t1 t2 t3 t4)
  · exact congrArg State.complete (State.timeTransfer_slews t1 t2 t3 t4 hup hisland hc hlo hhi)
  · exact congrArg State.complete (State.timeTransfer_steps t1 t2 t3 t4 hup hisland hc hlarge)
  · exact congrArg State.complete (State.clockStep_due h hstep hdue)
  · exact congrArg State.complete (State.clockStep_waits h hstep hdue)
  · refine ⟨_, congrArg State.complete (State.applyHwsStep_due hup hstep hready hnow), ?_⟩
    unfold State.hwsEvent State.raise
    split <;> exact ⟨rfl, rfl, rfl, rfl, rfl, rfl⟩
  · exact congrArg State.complete (State.holdoverEntry_due hisland hmissed)

end Sys2Proof.Machine
end

section
/-! PROOFS. The portal timers: O14. -/

namespace Sys2Proof.Machine

/-! ### The portal timers (R52) -/

/-- A timer that can act nowhere changes nothing. -/
theorem State.portalExpiry_idle {i : Fin 16} {due : Env → Slice → Option Int} {s : State} (h : ∀ t : Int, due (s.env i) s.slices[i] = some t → s.timerActs i t = false) : s.portalExpiry i due = s := by
  unfold State.portalExpiry
  split
  next t ht => rw [if_neg (by simp [h t ht])]
  next => rfl

theorem State.atSyncFrom_evalAt (i : Fin 16) (t : Int) (s : State) : (s.atSyncFrom i t).slices[i].evalAt = some (s.multipleAt i t) := by
  simp [State.atSyncFrom, State.openCycle, State.modSlice]

/-- What O14 asks of a timer, from the expiry that its command is. -/
theorem State.portalExpiry_spec (i : Fin 16) (due : Env → Slice → Option Int) (s : State) :
    (∀ t : Int, due (s.env i) s.slices[i] = some t → s.timerActs i t = true →
      State.complete (s.portalExpiry i due) = .next ((s.atSyncFrom i t).modSlice i fun sl => sl.syncActive ((s.atSyncFrom i t).envAhead i)).draw ∧
      t ≤ ((s.atSyncFrom i t).slices[i].cycleT : Int) ∧ ∃ m, (s.atSyncFrom i t).slices[i].evalAt = some m) ∧
    ((∀ t : Int, due (s.env i) s.slices[i] = some t → s.timerActs i t = false) → State.complete (s.portalExpiry i due) = .next s.draw) :=
  ⟨fun t hdue hacts => ⟨congrArg State.complete (State.portalExpiry_acts i due s t hdue hacts), State.cyc_ge i t s, _, State.atSyncFrom_evalAt i t s⟩,
    fun h => congrArg State.complete (State.portalExpiry_idle h)⟩

/-- Settles O14: each of the twelve commands is the expiry of its timer. -/
theorem portalTimersActOnlyWhereTheyRun : Obligations.PortalTimersActOnlyWhereTheyRun := by
  unfold Obligations.PortalTimersActOnlyWhereTheyRun
  refine ⟨?_, ?_, ?_, ?_, ?_, ?_, ?_, ?_, ?_, ?_, ?_, ?_⟩
  all_goals exact fun i s => State.portalExpiry_spec i _ s

end Sys2Proof.Machine
end

section
/-! PROOFS. The twin link, the mirror and a catch in flight: O45. -/

namespace Sys2Proof.Machine

/-! ### An axis caught in flight (R416) -/

/-- What an operation on one axis leaves alone in its slice: the other axes, the portal's state, the inputs and the car bus. -/
def Slice.apart (b : Fin 3) (sl : Slice) : (Fin 3 → Option Axis) × PState × Inputs × CanBus :=
  (fun c => if c = b then none else some sl.axes[c], sl.portal.st, sl.inp, sl.can)

@[simp] theorem Slice.ite_apart (b : Fin 3) (c : Prop) [Decidable c] (v w : Slice) : (if c then v else w).apart b = if c then v.apart b else w.apart b := apply_ite (Slice.apart b) c v w

@[simp] theorem Slice.modM_apart (b : Fin 3) (f : Motion → Motion) (sl : Slice) : (sl.modM b f).apart b = sl.apart b := by
  have haxes : (fun c => if c = b then none else some (sl.modM b f).axes[c]) = fun c => if c = b then none else some sl.axes[c] := by
    funext c
    split
    · rfl
    next h => simp [Slice.modM, Slice.modAxis, Fin.val_ne_of_ne (Ne.symm h)]
  exact congrArg (fun x => (x, sl.portal.st, sl.inp, sl.can)) haxes

@[simp] theorem Slice.modD_apart (b : Fin 3) (f : Drive → Drive) (sl : Slice) : (sl.modD b f).apart b = sl.apart b := by
  have haxes : (fun c => if c = b then none else some (sl.modD b f).axes[c]) = fun c => if c = b then none else some sl.axes[c] := by
    funext c
    split
    · rfl
    next h => simp [Slice.modD, Slice.modAxis, Fin.val_ne_of_ne (Ne.symm h)]
  exact congrArg (fun x => (x, sl.portal.st, sl.inp, sl.can)) haxes

@[simp] theorem Slice.setMode_apart (e : Env) (b : Fin 3) (md : DriveMode) (sl : Slice) : (sl.setMode e b md).apart b = sl.apart b := Slice.modD_apart b _ sl

@[simp] theorem Slice.axisFault_apart (e : Env) (b : Fin 3) (cause : Nat) (sl : Slice) : (sl.axisFault e b cause).apart b = sl.apart b := by
  unfold Slice.axisFault
  rw [← Slice.modM_apart b (fun m => { m with faultCause := cause }) sl]
  dsimp only
  split <;> rfl

@[simp] theorem Slice.gearFault_apart (e : Env) (b : Fin 3) (cause : Nat) (sl : Slice) : (sl.gearFault e b cause).apart b = sl.apart b := by
  simp [Slice.gearFault]

@[simp] theorem Slice.gearUpdate_apart (e : Env) (b : Fin 3) (sl : Slice) : (sl.gearUpdate e b).apart b = sl.apart b := by
  simp [Slice.gearUpdate]

@[simp] theorem Slice.followGenerator_apart (e : Env) (b : Fin 3) (sl : Slice) : (sl.followGenerator e b).apart b = sl.apart b := by
  simp [Slice.followGenerator]

theorem Slice.axis_of_apart {b c : Fin 3} {v w : Slice} (h : v.apart b = w.apart b) (hc : c ≠ b) : v.axes[c] = w.axes[c] := by
  have hc' := congrFun (congrArg Prod.fst h) c
  simpa [Slice.apart, hc] using hc'

/-- What the followers of a source leave alone: the axes without a gear, the portal's state, the inputs and the car bus. -/
theorem Slice.gearFollow_axis (e : Env) (src : Nat) {c : Fin 3} (hc : e.geared c = false) (sl : Slice) : (sl.gearFollow e src).axes[c] = sl.axes[c] := by
  refine forAxes_keeps (fun sl => sl.axes[c]) _ (fun a sl => ?_) sl
  split
  next h =>
    have hca : c ≠ a := fun hca => by simp [← hca, hc] at h
    exact Slice.axis_of_apart (by simp) hca
  next => rfl

theorem Slice.gearFollow_rest (e : Env) (src : Nat) (sl : Slice) : ((sl.gearFollow e src).portal.st, (sl.gearFollow e src).inp, (sl.gearFollow e src).can) = (sl.portal.st, sl.inp, sl.can) := by
  refine forAxes_keeps (fun sl => (sl.portal.st, sl.inp, sl.can)) _ (fun a sl => ?_) sl
  split
  · exact congrArg Prod.snd (show ((sl.gearUpdate e a).followGenerator e a).apart a = sl.apart a by simp)
  · rfl

theorem nearestAngle_mod (x : Int) (angle : Nat) : (nearestAngle x angle - (angle : Int)) % 1024 = 0 := by
  unfold nearestAngle
  dsimp only
  split <;> omega

/-- The motion of an axis that is caught: it brakes from the mirrored speed at the angle found, or stands unhomed. -/
def Motion.caughtAt (valid : Bool) (pos : Int) (c : Catch) (m : Motion) : Motion :=
  { m with
    pos := pos, catching := none, homed := valid && c.homed, v := if valid then c.v else 0, dirPos := c.dirPos,
    running := false, decel := valid, stopping := valid, queue := [], caught := if valid then c.queue else [], rev := none, carry := 0, exact := none }

theorem Slice.catchInFlight_eq {e : Env} {a : Fin 3} {c : Catch} {sl : Slice} (hc : sl.axes[a].m.catching = some c) (hready : sl.catchReady e a = true) (valid : Bool) (angle : Nat) :
    ∃ (y : Slice) (pos : Int), sl.catchInFlight e a valid angle = y.gearFollow e (4 + a.val) ∧ y.apart a = sl.apart a ∧ y.axes[a].m = sl.axes[a].m.caughtAt valid pos c ∧
      y.axes[a].d.mode = (if valid then .strong else .hold) ∧ (valid = true → (pos - ((angle % 1024 : Nat) : Int)) % 1024 = 0) := by
  unfold Slice.catchInFlight
  rw [hc]
  simp only [hready, Bool.not_true, Bool.false_eq_true, if_false]
  refine ⟨_, _, rfl, by simp, by simp [Slice.modD, Slice.modM, Slice.modAxis, Slice.setMode]; rfl, by simp [Slice.modD, Slice.modM, Slice.modAxis, Slice.setMode], fun hv => ?_⟩
  rw [if_pos hv]
  exact nearestAngle_mod _ _

theorem Slice.catchInFlight_spec {e : Env} {a : Fin 3} {c : Catch} {sl : Slice} (hgear : e.geared a = false) (hc : sl.axes[a].m.catching = some c) (hready : sl.catchReady e a = true) (v : Bool) (ang : Nat) :
    let x := sl.catchInFlight e a v ang
    x.axes[a].m.catching = none ∧ x.portal.st = sl.portal.st ∧ x.inp = sl.inp ∧ x.can = sl.can ∧
      (v = true → x.axes[a].m.v = c.v ∧ x.axes[a].m.stopping = true ∧ x.axes[a].m.queue = [] ∧ x.axes[a].m.caught = c.queue ∧ x.axes[a].m.homed = c.homed ∧ x.axes[a].d.mode = .strong ∧
        (x.axes[a].m.pos - ((ang % 1024 : Nat) : Int)) % 1024 = 0) ∧
      (v = false → x.axes[a].m.v = 0 ∧ x.axes[a].m.queue = [] ∧ x.axes[a].m.caught = [] ∧ x.axes[a].m.homed = false ∧ x.axes[a].d.mode = .hold) ∧
      ∀ b : Fin 3, b ≠ a → e.geared b = false → x.axes[b] = sl.axes[b] := by
  intro x
  obtain ⟨y, pos, hcatch, hapart, hmotion, hmode, hangle⟩ := Slice.catchInFlight_eq hc hready v ang
  have hx : x = y.gearFollow e (4 + a.val) := hcatch
  have haxis : x.axes[a] = y.axes[a] := hx ▸ Slice.gearFollow_axis e _ hgear y
  have hrest : (x.portal.st, x.inp, x.can) = (sl.portal.st, sl.inp, sl.can) := hx ▸ (Slice.gearFollow_rest e _ y).trans (congrArg Prod.snd hapart)
  simp only [Prod.mk.injEq] at hrest
  obtain ⟨hst, hinp, hcan⟩ := hrest
  refine ⟨?_, hst, hinp, hcan, fun hv => ?_, fun hv => ?_, fun b hb hfree => ?_⟩
  · rw [haxis, hmotion]
    rfl
  · subst hv
    rw [haxis, hmotion, hmode]
    exact ⟨rfl, rfl, rfl, rfl, rfl, rfl, hangle rfl⟩
  · subst hv
    rw [haxis, hmotion, hmode]
    exact ⟨rfl, rfl, rfl, rfl, rfl⟩
  · rw [hx, Slice.gearFollow_axis e _ hfree y]
    exact Slice.axis_of_apart hapart hb

theorem State.advance_geared (t : Nat) (i : Fin 16) (a : Nat) (s : State) : ((s.advance t).env i).geared a = (s.env i).geared a := rfl

theorem State.advance_catchReady (t : Nat) (i : Fin 16) (a : Fin 3) (sl : Slice) (s : State) : sl.catchReady ((s.advance t).env i) a = sl.catchReady (s.env i) a := rfl

/-- CATCH_IN_FLIGHT of an axis that can be caught, at its first PWM edge. -/
theorem State.complete_catchInFlight {i : Fin 16} {a : Fin 3} {s : State} (hruns : s.sliceRuns i = true) (hready : s.slices[i].catchReady (s.env i) a = true) (v : Bool) (ang : Nat) :
    exec (.catchInFlight i a v ang) s = .next ((s.advance s.slices[i].axes[a].d.pwmFrom).modSlice i fun _ => s.slices[i].catchInFlight ((s.advance s.slices[i].axes[a].d.pwmFrom).env i) a v ang).draw := by
  refine congrArg State.complete ((if_pos hready).trans ?_)
  exact if_pos hruns

/-! ### The twin link and the mirror (R396 to R400) -/

theorem State.carSide_of_view {s t : State} (h : t.view = s.view) : t.carSide = s.carSide := by
  have hground := congrArg (fun v => (v.core.ground.params, v.core.ground.plug, v.core.ground.small)) h
  have hcars := congrArg View.cars h
  simp only [State.view, Prod.mk.injEq] at hground hcars
  obtain ⟨hparams, hplug, hsmall⟩ := hground
  obtain ⟨hslices, hgroups, hloop⟩ := hcars
  simp only [State.carSide, hparams, hplug, hsmall, hslices, hgroups, hloop]

theorem State.now_of_view {s t : State} (h : t.view = s.view) : t.now = s.now := congrArg (fun v => v.core.ground.now) h

/-- An event of the recorder leaves the twin, the Hawser engine and the inauguration. -/
theorem State.ite_logEvent_blocks (c : Prop) [Decidable c] (e code d : Nat) (s : State) :
    (if c then s.logEvent e code d else s).twn = s.twn ∧ (if c then s.logEvent e code d else s).hws = s.hws ∧ (if c then s.logEvent e code d else s).ina = s.ina := by
  split <;> simp [State.logEvent]

/-- The first heartbeat of a cycle (R396, R397). -/
theorem State.heartbeatReceive_first (cy : Nat) (h : Heartbeat) {s : State} (hup : s.hawserUp = true) (hphy : s.twn.phyUp = true) (hfirst : s.twn.beatNow = false) :
    let t := s.heartbeatReceive cy h
    t.twn.beat = some h ∧ t.twn.beatNow = true ∧ t.twn.valid = min 3 (s.twn.valid + 1) ∧ t.twn.link = (s.twn.link || decide (2 ≤ s.twn.valid)) ∧
      (s.twn.link = false → 2 ≤ s.twn.valid → t.twn.faultEvent = 2 ∧ t.twn.faultCode = 2) ∧ (s.hws.position = 0 → t.hws.cycle = cy) ∧ (s.hws.position ≠ 0 → t.hws = s.hws) ∧ t.twn.auth = s.twn.auth ∧ t.ina = s.ina := by
  unfold State.heartbeatReceive
  rw [if_neg (by simp [hup, hphy, hfirst])]
  intro t
  extract_lets lost before up kept followed told at t
  obtain ⟨htwn, hhws, hina⟩ := State.ite_logEvent_blocks ((told.configured && (cfgLogLogFlags told.params).testBit 1 && lost && !before) = true) 6 0 (told.twinPosition.getD 0) told
  have hfollowed : followed.twn = kept.twn ∧ followed.ina = s.ina := by
    unfold followed
    split <;> exact ⟨rfl, rfl⟩
  have hcycle : (s.hws.position = 0 → followed.hws.cycle = cy) ∧ (s.hws.position ≠ 0 → followed.hws = s.hws) := by
    have hposition : kept.hws = s.hws := rfl
    unfold followed
    rw [hposition]
    split
    next hp => exact ⟨fun _ => rfl, fun hn => absurd hp hn⟩
    next hp => exact ⟨fun hn => absurd hn hp, fun _ => rfl⟩
  have htold : told.hws = followed.hws ∧ told.ina = followed.ina := by
    unfold told
    split <;> simp [State.twnEvent]
  have hraised : told.twn = if up then { followed.twn with faultEvent := 2, faultCode := 2 } else followed.twn := by
    unfold told
    split <;> simp [State.twnEvent]
  have hkept : kept.twn = { s.twn with beatNow := true, beat := some h, valid := min 3 (s.twn.valid + 1), link := s.twn.link || up } := rfl
  have hraise : up = (!s.twn.link && decide (2 ≤ s.twn.valid)) := by simp [up]
  have htold' : told.twn.beat = some h ∧ told.twn.beatNow = true ∧ told.twn.valid = min 3 (s.twn.valid + 1) ∧ told.twn.link = (s.twn.link || up) ∧ told.twn.auth = s.twn.auth := by
    rw [hraised, hfollowed.1, hkept]
    split <;> exact ⟨rfl, rfl, rfl, rfl, rfl⟩
  obtain ⟨hbeat, hnow, hvalid, hlink, hauth⟩ := htold'
  refine ⟨htwn ▸ hbeat, htwn ▸ hnow, htwn ▸ hvalid, ?_, fun hdown hrow => ?_, fun hp => ?_, fun hp => ?_, htwn ▸ hauth, hina.trans (htold.2.trans hfollowed.2)⟩
  · refine (congrArg Twin.link htwn).trans (hlink.trans ?_)
    rw [hraise]
    cases s.twn.link <;> rfl
  · have hup : up = true := by simp [hraise, hdown, hrow]
    rw [htwn, hraised, if_pos hup]
    exact ⟨rfl, rfl⟩
  · rw [hhws, htold.1]
    exact hcycle.1 hp
  · rw [hhws, htold.1]
    exact hcycle.2 hp

theorem State.heartbeatReceive_later (cy : Nat) (h : Heartbeat) {s : State} (hlater : s.twn.beatNow = true) : s.heartbeatReceive cy h = s := by
  simp [State.heartbeatReceive, hlater]

theorem State.twinLinkChange_up {s : State} (hup : s.hawserUp = true) : s.twinLinkChange true = s.modTwn fun t => { t with phyUp := true, missing := 0 } := by
  simp [State.twinLinkChange, hup]

theorem State.twinLinkChange_down {s : State} (hup : s.hawserUp = true) :
    let t := s.twinLinkChange false
    t.twn.phyUp = false ∧ t.twn.link = false ∧ t.twn.valid = 0 ∧ t.twn.auth = s.twn.auth ∧ t.hws = s.hws ∧
      (s.twn.link = true → t.twn.faultEvent = 2 ∧ t.twn.faultCode = 1 ∧ t.twn.cntLinkLosses = satInc 255 s.twn.cntLinkLosses) ∧ (s.twn.link = false → t.twn.faultEvent = s.twn.faultEvent) := by
  intro t
  unfold t State.twinLinkChange
  cases hl : s.twn.link <;> simp [hup, State.twnEvent]

/-- Settles O45, command by command. -/
theorem twinLinkAndMirrorAreKept : Obligations.TwinLinkAndMirrorAreKept := by
  unfold Obligations.TwinLinkAndMirrorAreKept
  refine ⟨fun cy h s hup hphy hfirst => ?_, fun cy h s hlater => ?_, fun s hup => ⟨?_, ?_⟩, fun m s hruns hpresent hphy hstandby => ⟨?_, ?_⟩, fun c m s hdrives => ?_, fun i a r s hruns hpresent hstandby hown hchannel hr => ?_,
    fun i a v ang s hruns hready hgear c hc => ?_, fun i a v ang s hready => ?_, fun t0 s hruns hswap => ?_, fun s hswap => ?_, fun s hup => ?_⟩
  · have hview := s.heartbeatReceive_view cy h
    exact ⟨_, rfl, (State.now_of_view hview :), (State.carSide_of_view hview :), State.heartbeatReceive_first cy h hup hphy hfirst⟩
  · exact congrArg State.complete (State.heartbeatReceive_later cy h hlater)
  · have hview := s.twinLinkChange_view false
    exact ⟨_, rfl, (State.now_of_view hview :), (State.carSide_of_view hview :), State.twinLinkChange_down hup⟩
  · exact congrArg State.complete (State.twinLinkChange_up hup)
  · refine congrArg State.complete ?_
    simp [State.mirrorReceive, hruns, hpresent, hphy, hstandby]
  · have heq : s.mirrorReceive true m = s.modTwn fun t => { t with mirror := some m, sizeKib := m.sizeKib % 256, slowAxis := m.slowAxis % 256, slowPasses := if m.slowAxis < t.slowAxis then satInc 65535 t.slowPasses else t.slowPasses } := by
      simp [State.mirrorReceive, hruns, hpresent, hphy, hstandby]
    exact ⟨_, congrArg State.complete heq, rfl, rfl, rfl, rfl, rfl, rfl⟩
  · refine congrArg State.complete ?_
    simp [State.mirrorReceive, hdrives]
  · have hslice : r.axis / 3 = i.val := by omega
    have haxis : r.axis % 3 = a.val := by omega
    refine congrArg State.complete ?_
    simp only [State.slowApply, show r.axis < 48 by omega, dite_true, hslice, haxis, hchannel, hruns, hpresent, hstandby, hown, Bool.not_false, Bool.and_self, if_true]
  · obtain ⟨hnone, hst, hinp, hcan, hvalid, hinvalid, hothers⟩ :=
      Slice.catchInFlight_spec (sl := s.slices[i]) ((s.advance_geared s.slices[i].axes[a].d.pwmFrom i a).trans hgear) hc ((s.advance_catchReady _ i a s.slices[i]).trans hready) v ang
    exact ⟨_, State.complete_catchInFlight hruns hready v ang, hnone, hst, hinp, hcan, hvalid, hinvalid, fun b hb hfree => hothers b hb ((s.advance_geared _ i b).trans hfree)⟩
  · refine congrArg State.complete (if_neg ?_)
    rw [hready]
    exact Bool.false_ne_true
  · have heq : s.swapTimeout = ((s.advance (t0 + ms (cfgTwnSwapTimeout s.params * 1000))).modTwn fun t => { t with swapAt := none }).twnEvent 7 3 := by
      simp [State.swapTimeout, hswap, hruns]
    refine ⟨_, congrArg State.complete heq, ?_⟩
    simp [State.twnEvent, State.advance, State.draw, State.carSide]
  · refine congrArg State.complete ?_
    simp [State.swapTimeout, hswap]
  · have hreg (v : Nat) : s.hawserRegister (fun s => s.writeTwn 0x018 v) = s.modTwn fun t => { t with command := v % 16 } := by
      simp [State.hawserRegister, hup, State.writeTwn]
    exact ⟨congrArg State.complete (hreg 1), congrArg State.complete (hreg 2), congrArg State.complete (hreg 3), congrArg State.complete (hreg 4)⟩

end Sys2Proof.Machine
end

section
/-! PROOFS. Resets of islands and the start: O53 and O52. -/

namespace Sys2Proof.Machine

/-! ### One island stops (R513 to R515) -/

/-- An island stands, with the cause and the instant of its reset. -/
def State.islandDown (k : Fin 34) (cause : Nat) (s : State) : State :=
  s.modIsland k fun x => { x with running := false, cause := cause, resets := satInc 255 x.resets, downAt := some s.now }

theorem State.islandDown_same (k : Fin 34) (cause : Nat) (s : State) :
    (s.islandDown k cause).islands[k] = { s.islands[k] with running := false, cause := cause, resets := satInc 255 s.islands[k].resets, downAt := some s.now } := by
  simp [State.islandDown, State.modIsland]

theorem State.modIsland_other {k j : Fin 34} (h : j ≠ k) (f : Island → Island) (s : State) : (s.modIsland k f).islands[j] = s.islands[j] := by
  simp [State.modIsland, Fin.val_ne_of_ne h.symm]

theorem State.islandDown_other {k j : Fin 34} (h : j ≠ k) (cause : Nat) (s : State) : (s.islandDown k cause).islands[j] = s.islands[j] := State.modIsland_other h _ s

theorem State.islandDown_env {k : Fin 34} (hk : k.val ≠ 32) (cause : Nat) (i : Fin 16) (s : State) : (s.islandDown k cause).env i = s.env i := by
  have htcyc : (s.islandDown k cause).tcyc = s.tcyc := by
    have hrun : (s.islandDown k cause).islands[(32 : Fin 34)] = s.islands[(32 : Fin 34)] := State.islandDown_other (fun h => hk (by simp [← h])) cause s
    unfold State.tcyc State.tcycCode
    rw [show (s.islandDown k cause).islands[32] = s.islands[32] from hrun]
    rfl
  unfold State.env State.envAt
  rw [htcyc]
  rfl

section
variable {k : Fin 34} {s : State} (hup : s.islands[k].running = true) (hstage : s.start.stage = .running) (cause : Nat)
include hup hstage

theorem State.islandReset_engine (hk : k.val < 16) : s.islandReset k cause = (s.islandDown k cause).modSlice ⟨k.val, hk⟩ (·.engineLost) := by
  rw [Fin.getElem_fin] at hup
  simp only [State.islandReset, hup, hstage, hk, dite_true, Bool.not_true, Bool.false_eq_true, if_false, reduceCtorEq, decide_false, Bool.or_self]
  rfl

theorem State.islandReset_power (hk : 16 ≤ k.val) (hk' : k.val < 32) :
    s.islandReset k cause = (s.islandDown k cause).modSlice ⟨k.val - 16, by omega⟩ fun sl => sl.powerReset (s.env ⟨k.val - 16, by omega⟩) := by
  rw [Fin.getElem_fin] at hup
  rw [← State.islandDown_env (k := k) (by omega) cause]
  simp only [State.islandReset, hup, hstage, Nat.not_lt.2 hk, hk', dite_true, dite_false, Bool.not_true, Bool.false_eq_true, if_false, reduceCtorEq, decide_false, Bool.or_self]
  rfl

theorem State.islandReset_hawser (hk : k.val = 32) : s.islandReset k cause = { (s.islandDown k cause).hawserLost with heldTcyc := s.tcycCode } := by
  rw [Fin.getElem_fin] at hup
  have hlate : (decide (s.start.stage = .booted) || decide (s.start.stage = .loading)) = false := by rw [hstage]; rfl
  unfold State.islandReset
  rw [hup, if_neg (by decide)]
  simp only [hlate, Bool.false_eq_true, if_false, show ¬k.val < 16 by omega, show ¬k.val < 32 by omega, dite_false, if_pos hk]
  rfl

theorem State.islandReset_mss (hk : k.val = 33) : s.islandReset k cause = (s.islandDown k cause).mssLost := by
  rw [Fin.getElem_fin] at hup
  simp only [State.islandReset, hup, hstage, show ¬k.val < 16 by omega, show ¬k.val < 32 by omega, show ¬k.val = 32 by omega, dite_false, Bool.not_true, Bool.false_eq_true, if_false, reduceCtorEq, decide_false, Bool.or_self]
  cases mssResetCode cause <;> rfl

end

theorem State.islandReset_down {k : Fin 34} {s : State} (h : s.islands[k].running = false) (cause : Nat) : s.islandReset k cause = s := by
  rw [Fin.getElem_fin] at h
  simp [State.islandReset, h]

/-- The commands that reset an island past the handover, with the cause each leaves (R513). -/
theorem exec_islandReset {k : Fin 34} {c : Instr} {cause : Nat}
    (hc : (c = .islandBrownOut k ∧ cause = 1) ∨ (c = .islandSupervisorReset k ∧ k.val < 16 ∧ cause = 3) ∨ (c = .islandSupervisorReset k ∧ k.val = 32 ∧ cause = 2) ∨
      (c = .lockstepMismatch ∧ k.val = 33 ∧ cause = 2) ∨ (c = .mssWatchdogExpiry ∧ k.val = 33 ∧ cause = 3) ∨ (c = .eccError true ∧ k.val = 33 ∧ cause = 4)) (s : State) :
    exec c s = State.complete (s.islandReset k cause) := by
  have hmss (h : k.val = 33) : k = 33 := Fin.ext h
  rcases hc with ⟨rfl, rfl⟩ | ⟨rfl, hk, rfl⟩ | ⟨rfl, hk, rfl⟩ | ⟨rfl, hk, rfl⟩ | ⟨rfl, hk, rfl⟩ | ⟨rfl, hk, rfl⟩
  · rfl
  · have hne : ¬k.val = 32 := by omega
    exact congrArg State.complete ((if_pos (Or.inl hk)).trans (by rw [if_neg hne]))
  · exact congrArg State.complete ((if_pos (Or.inr hk)).trans (by rw [if_pos hk]))
  all_goals rw [hmss hk]; rfl

/-! ### What stays in a slice whose engine or power island stops (R223, R224, R515) -/

/-- What a slice holds through the loss of its engine: the region's copy of the sequencer, the mechanical positions and whether they are valid. -/
def Slice.heldPositions (sl : Slice) : Portal × (Fin 3 → Int × Bool) := (sl.held, fun a => (sl.sw.tether.axes[a].pos, sl.sw.tether.axes[a].valid))

theorem Slice.islandHolds_positions (sl : Slice) : sl.islandHolds.heldPositions = sl.heldPositions := by
  refine forAxes_keeps Slice.heldPositions _ (fun a sl => ?_) sl
  refine congrArg (Prod.mk sl.held) (funext fun b => ?_)
  dsimp only [Slice.modTether, Slice.modSw]
  split
  · by_cases hab : a.val = b.val <;> simp [hab]
  · rfl

theorem Slice.engineLost_positions (sl : Slice) : sl.engineLost.heldPositions = sl.heldPositions ∧ sl.engineLost.portal.doorCycles = sl.held.doorCycles ∧ sl.engineLost.waitsResume = true := by
  unfold Slice.engineLost
  dsimp only
  generalize hoff : forChannels _ _ = off
  have hpositions : off.heldPositions = sl.heldPositions := by
    rw [← hoff]
    refine (forChannels_keeps Slice.heldPositions _ (fun k x => ?_) _).trans ((forAxes_keeps Slice.heldPositions _ (fun a x => ?_) _).trans sl.islandHolds_positions)
    · rfl
    · rfl
  have hheld : off.held = sl.held := congrArg Prod.fst hpositions
  refine ⟨hpositions, ?_, rfl⟩
  rw [hheld]

theorem Slice.powerReset_portal (e : Env) (sl : Slice) : (sl.powerReset e).portal = sl.portal := by
  unfold Slice.powerReset
  refine (forAxes_keeps Slice.portal _ (fun a x => ?_) _).trans (forChannels_keeps Slice.portal _ (fun k x => ?_) sl)
  · rfl
  · rfl

theorem State.modSlice_other {i j : Fin 16} (h : j.val ≠ i.val) (f : Slice → Slice) (s : State) : (s.modSlice i f).slices[j] = s.slices[j] := by
  simp [State.modSlice, Ne.symm h]

theorem State.modSlice_same {i j : Fin 16} (h : j.val = i.val) (f : Slice → Slice) (s : State) : (s.modSlice i f).slices[j] = f s.slices[j] := by
  obtain rfl : j = i := Fin.ext h
  simp [State.modSlice]

/-- What a reset of one island leaves in the module past the handover, whichever island it is. -/
def State.LosesOnly (k : Fin 34) (cause : Nat) (s t : State) : Prop :=
  t.now = s.now ∧ t.start = s.start ∧ t.params = s.params ∧ t.plug = s.plug ∧ t.loop = s.loop ∧ t.groups = s.groups ∧ t.cfg.state = s.cfg.state ∧ t.sliceRegions = s.sliceRegions ∧ t.hwsRegion = s.hwsRegion ∧
  t.splRegion = s.splRegion ∧ t.mssRegion = s.mssRegion ∧ t.twn.auth = s.twn.auth ∧ t.twn.gate = s.twn.gate ∧
  t.islands[k] = { s.islands[k] with running := false, cause := cause, resets := satInc 255 s.islands[k].resets, downAt := some s.now } ∧
  ∀ j : Fin 34, j ≠ k → t.islands[j] = s.islands[j]

/-- The MSS island's reset reaches its own block, the loader's commands and the recorder. -/
theorem State.mssLost_eq (s : State) : ∃ m c l, c.state = s.cfg.state ∧ s.mssLost = { s with mss := m, cfg := c, log := l } := ⟨s.mssLost.mss, s.mssLost.cfg, s.mssLost.log, rfl, rfl⟩

/-- The MSS through its island's reset (R451, R474). -/
theorem State.mssLost_mss (s : State) :
    let m := s.mssLost.mss
    m.boot = s.mss.boot ∧ m.bankA.nor = s.mss.bankA.nor ∧ m.bankB.nor = s.mss.bankB.nor ∧ m.bankA.version = 0 ∧ m.bankB.version = 0 ∧ m.cal = { s.mss.cal with supercap := 0 } ∧
    m.argument = 0 ∧ m.temps = State.reset.mss.temps ∧ m.impact = State.reset.mss.impact ∧ m.staging.open_ = s.mss.staging.open_ ∧ m.staging.bytes = s.mss.staging.bytes ∧ m.nonce = none :=
  ⟨rfl, rfl, rfl, rfl, rfl, rfl, rfl, rfl, rfl, rfl, rfl, rfl⟩

section
variable (k : Fin 34) (cause : Nat) (s : State)

theorem State.losesOnly_modSlice (i : Fin 16) (f : Slice → Slice) : s.LosesOnly k cause ((s.islandDown k cause).modSlice i f).draw :=
  ⟨rfl, rfl, rfl, rfl, rfl, rfl, rfl, rfl, rfl, rfl, rfl, rfl, rfl, s.islandDown_same k cause, fun _ hj => State.islandDown_other hj cause s⟩

theorem State.losesOnly_hawserLost (code : Nat) : s.LosesOnly k cause ({ (s.islandDown k cause).hawserLost with heldTcyc := code } : State).draw :=
  ⟨rfl, rfl, rfl, rfl, rfl, rfl, rfl, rfl, rfl, rfl, rfl, rfl, rfl, s.islandDown_same k cause, fun _ hj => State.islandDown_other hj cause s⟩

theorem State.losesOnly_mssLost : s.LosesOnly k cause (s.islandDown k cause).mssLost.draw := by
  obtain ⟨m, c, l, hc, hlost⟩ := (s.islandDown k cause).mssLost_eq
  rw [hlost]
  exact ⟨rfl, rfl, rfl, rfl, rfl, rfl, hc, rfl, rfl, rfl, rfl, rfl, rfl, s.islandDown_same k cause, fun _ hj => State.islandDown_other hj cause s⟩

end

/-- What a reset of one island leaves in the slices and in the blocks of the other islands. -/
def State.BlocksLost (k : Fin 34) (s t : State) : Prop :=
  (∀ i : Fin 16, i.val ≠ k.val → i.val + 16 ≠ k.val → t.slices[i] = s.slices[i]) ∧
  (∀ i : Fin 16, i.val = k.val → t.slices[i].held = s.slices[i].held ∧ t.slices[i].portal.doorCycles = s.slices[i].held.doorCycles ∧
    (∀ a : Fin 3, t.slices[i].sw.tether.axes[a].pos = s.slices[i].sw.tether.axes[a].pos ∧ t.slices[i].sw.tether.axes[a].valid = s.slices[i].sw.tether.axes[a].valid) ∧ t.slices[i].waitsResume = true) ∧
  (∀ i : Fin 16, i.val + 16 = k.val → t.slices[i] = s.slices[i].powerReset (s.env i) ∧ t.slices[i].portal = s.slices[i].portal) ∧
  (k.val ≠ 32 → t.hws = s.hws ∧ t.ina = s.ina ∧ t.spl = s.spl ∧ t.twn = s.twn ∧ t.node = s.node) ∧
  (k.val = 32 → t.heldTcyc = s.tcycCode ∧ t.hws.clock.read s.now = s.hws.clock.read s.now ∧ t.hws.position = 0 ∧ t.ina.st = .offline ∧ t.node = NodeEvents.reset) ∧
  (k.val ≠ 33 → t.mss = s.mss ∧ t.log = s.log) ∧
  (k.val = 33 → t.mss.boot = s.mss.boot ∧ t.mss.bankA.nor = s.mss.bankA.nor ∧ t.mss.bankB.nor = s.mss.bankB.nor ∧ t.mss.bankA.version = 0 ∧ t.mss.bankB.version = 0 ∧ t.mss.cal = { s.mss.cal with supercap := 0 } ∧
    t.mss.argument = 0 ∧ t.mss.temps = State.reset.mss.temps ∧ t.mss.impact = State.reset.mss.impact ∧ t.mss.staging.open_ = s.mss.staging.open_ ∧ t.mss.staging.bytes = s.mss.staging.bytes ∧ t.mss.nonce = none)

section
variable {k : Fin 34} {cause : Nat} {s : State}

theorem State.blocksLost_engine (hk : k.val < 16) : s.BlocksLost k ((s.islandDown k cause).modSlice ⟨k.val, hk⟩ (·.engineLost)).draw := by
  refine ⟨fun i hi _ => State.modSlice_other hi _ _, fun i hi => ?_, fun i hi => by omega, fun _ => ⟨rfl, rfl, rfl, rfl, rfl⟩, fun h => by omega, fun _ => ⟨rfl, rfl⟩, fun h => by omega⟩
  have hslice : ((s.islandDown k cause).modSlice ⟨k.val, hk⟩ (·.engineLost)).draw.slices[i] = s.slices[i].engineLost := State.modSlice_same hi _ _
  obtain ⟨hpositions, hcycles, hwaits⟩ := s.slices[i].engineLost_positions
  rw [hslice]
  refine ⟨congrArg Prod.fst hpositions, hcycles, fun a => ?_, hwaits⟩
  exact Prod.mk.inj (congrFun (congrArg Prod.snd hpositions) a)

theorem State.blocksLost_power (hk : 16 ≤ k.val) (hk' : k.val < 32) :
    s.BlocksLost k ((s.islandDown k cause).modSlice ⟨k.val - 16, by omega⟩ fun sl => sl.powerReset (s.env ⟨k.val - 16, by omega⟩)).draw := by
  refine ⟨fun i _ hi => State.modSlice_other (show i.val ≠ k.val - 16 by omega) _ _, fun i hi => by omega, fun i hi => ?_, fun _ => ⟨rfl, rfl, rfl, rfl, rfl⟩, fun h => by omega, fun _ => ⟨rfl, rfl⟩, fun h => by omega⟩
  have hval : i.val = k.val - 16 := by omega
  have hi' : (⟨k.val - 16, by omega⟩ : Fin 16) = i := Fin.ext hval.symm
  have hslice := State.modSlice_same (i := ⟨k.val - 16, by omega⟩) hval (fun sl => sl.powerReset (s.env ⟨k.val - 16, by omega⟩)) (s.islandDown k cause)
  simp only [hi'] at hslice ⊢
  exact ⟨hslice, (congrArg Slice.portal hslice).trans (Slice.powerReset_portal _ _)⟩

theorem State.blocksLost_hawser (hk : k.val = 32) : s.BlocksLost k ({ (s.islandDown k cause).hawserLost with heldTcyc := s.tcycCode } : State).draw := by
  refine ⟨fun _ _ _ => rfl, fun i hi => by omega, fun i hi => by omega, fun h => absurd hk h, fun _ => ⟨rfl, ?_, rfl, rfl, rfl⟩, fun _ => ⟨rfl, rfl⟩, fun h => by omega⟩
  exact Counter.slew_read _ _ _

theorem State.blocksLost_mss (hk : k.val = 33) : s.BlocksLost k (s.islandDown k cause).mssLost.draw := by
  have hmss := (s.islandDown k cause).mssLost_mss
  obtain ⟨m, c, l, _, hlost⟩ := (s.islandDown k cause).mssLost_eq
  rw [hlost] at hmss ⊢
  exact ⟨fun _ _ _ => rfl, fun i hi => by omega, fun i hi => by omega, fun _ => ⟨rfl, rfl, rfl, rfl, rfl⟩, fun h => by omega, fun h => absurd hk h, fun _ => hmss⟩

/-- A reset past the handover, for each of the four kinds of island. -/
theorem State.islandReset_lost (hup : s.islands[k].running = true) (hstage : s.start.stage = .running) : s.LosesOnly k cause (s.islandReset k cause).draw ∧ s.BlocksLost k (s.islandReset k cause).draw := by
  rcases Nat.lt_or_ge k.val 16 with hk | hk
  · rw [State.islandReset_engine hup hstage cause hk]
    exact ⟨State.losesOnly_modSlice _ _ _ _ _, State.blocksLost_engine hk⟩
  rcases Nat.lt_or_ge k.val 32 with hk' | hk'
  · rw [State.islandReset_power hup hstage cause hk hk']
    exact ⟨State.losesOnly_modSlice _ _ _ _ _, State.blocksLost_power hk hk'⟩
  rcases (show k.val = 32 ∨ k.val = 33 by omega) with hk | hk
  · rw [State.islandReset_hawser hup hstage cause hk]
    exact ⟨State.losesOnly_hawserLost _ _ _ _, State.blocksLost_hawser hk⟩
  · rw [State.islandReset_mss hup hstage cause hk]
    exact ⟨State.losesOnly_mssLost _ _ _, State.blocksLost_mss hk⟩

end

/-! ### An island starts anew (R515) -/

theorem State.release_present {k : Fin 34} {s : State} (h : s.hasIsland k = true) : ∃ clocks, s.release k =
    { (s.modIsland k fun x => { x with running := true, downAt := none }) with clocks := clocks, stalled := s.stalled.filter fun c => decide (c.island.val ≠ k.val) && decide (waiterIsland c.waiter ≠ k) } :=
  ⟨_, if_pos h⟩

theorem State.islandRestart_none {k : Fin 34} {s : State} (h : s.islands[k].running = true ∨ s.islands[k].downAt = none ∨ s.start.stage = .off) (ok : Bool) : s.islandRestart k ok = s := by
  simp only [Fin.getElem_fin] at h
  unfold State.islandRestart
  dsimp only
  rw [if_pos]
  rcases h with h | h | h <;> simp [h]

theorem State.islandRestart_guard {k : Fin 34} {at_ : Nat} {s : State} (hdown : s.islands[k].running = false) (hat : s.islands[k].downAt = some at_) (hstage : s.start.stage ≠ .off) :
    (s.islands[k.val].running || s.islands[k.val].downAt.isNone || decide (s.start.stage = .off)) = false := by
  rw [Fin.getElem_fin] at hdown hat
  simp [hdown, hat, hstage]

/-- An island runs again, and what it has not stopped stands. -/
def State.Restarted (k : Fin 34) (s t : State) : Prop :=
  t.now = s.now ∧ t.slices = s.slices ∧ t.params = s.params ∧ t.plug = s.plug ∧ t.islands[k].running = true ∧ t.islands[k].downAt = none ∧
  (∀ c ∈ t.stalled, c ∈ s.stalled ∧ c.island.val ≠ k.val ∧ waiterIsland c.waiter ≠ k) ∧ ∀ j : Fin 34, j ≠ k → t.islands[j] = s.islands[j]

theorem State.release_restarted {k : Fin 34} {s : State} (h : s.hasIsland k = true) : s.Restarted k (s.release k) := by
  obtain ⟨clocks, hrel⟩ := State.release_present h
  have hstalled := State.mem_release_stalled h
  refine ⟨?_, ?_, ?_, ?_, ?_, ?_, fun c hc => (hstalled c).1 hc, fun j hj => ?_⟩
  all_goals rw [hrel]
  · rfl
  · rfl
  · rfl
  · rfl
  · simp [State.modIsland]
  · simp [State.modIsland]
  · exact State.modIsland_other hj (fun x => { x with running := true, downAt := none }) s

/-- Islands, channels, slices and what was handed over, as a restart leaves them. -/
def State.restartView (s : State) := (s.now, s.slices, s.params, s.plug, s.islands, s.stalled)

theorem State.Restarted.of_view {k : Fin 34} {s t u : State} (h : s.Restarted k t) (hu : u.restartView = t.restartView) : s.Restarted k u := by
  simp only [State.restartView, Prod.mk.injEq] at hu
  obtain ⟨hnow, hslices, hparams, hplug, hislands, hstalled⟩ := hu
  unfold State.Restarted
  rw [hnow, hslices, hparams, hplug, hislands, hstalled]
  exact h

theorem State.mssEvent_restartView (e c d : Nat) (s : State) : (s.mssEvent e c d).restartView = s.restartView := by
  simp [State.restartView, State.mssEvent]

theorem State.modMss_restartView (f : Mss → Mss) (s : State) : (s.modMss f).restartView = s.restartView := rfl

theorem State.mssEvent_mss (e c d : Nat) (s : State) : (s.mssEvent e c d).mss.paramFallback = s.mss.paramFallback := by
  simp [State.mssEvent]

/-- A restart that brings its island back (R452, R515). -/
theorem State.islandRestart_runs {k : Fin 34} {at_ : Nat} {ok : Bool} {s : State} (hdown : s.islands[k].running = false) (hat : s.islands[k].downAt = some at_) (hstage : s.start.stage ≠ .off) (hhas : s.hasIsland k = true)
    (hgood : ok = true ∨ 16 ≤ k.val) (hhawser : k.val ≠ 32 ∨ ok = true) :
    s.Restarted k (s.islandRestart k ok) ∧ (k.val = 33 → (s.islandRestart k ok).mss.paramFallback = (s.mss.paramFallback || !ok)) ∧ (k.val = 32 → (s.islandRestart k ok).ina.handoverAt = some s.now) := by
  have hrel := State.release_restarted hhas
  have hguard := State.islandRestart_guard hdown hat hstage
  obtain ⟨clocks, hreleased⟩ := State.release_present hhas
  unfold State.islandRestart
  dsimp only
  rw [hguard, if_neg (by decide)]
  split
  case isTrue hk =>
    have hmss : (s.release k).mss = s.mss := by rw [hreleased]; rfl
    refine ⟨hrel.of_view ?_, fun _ => ?_, fun h => by omega⟩
    · split <;> split <;> simp only [State.mssEvent_restartView, State.modMss_restartView]
    · split <;> split <;> simp only [State.mssEvent_mss, State.modMss_mss, hmss]
  case isFalse hk =>
    split
    case isTrue hpower => exact ⟨hrel, fun h => absurd h hk, fun h => by omega⟩
    case isFalse hpower =>
      have hok : ok = true := by
        rcases hgood with h | h
        · exact h
        · exact hhawser.resolve_left (by omega)
      rw [if_pos hok]
      split
      case isTrue hh =>
        have hnow : (s.release k).now = s.now := hrel.1
        exact ⟨hrel.of_view rfl, fun h => absurd h hk, fun _ => congrArg some hnow⟩
      case isFalse hh => exact ⟨hrel, fun h => absurd h hk, fun h => absurd h hh⟩

theorem State.islandRestart_stays {k : Fin 34} {at_ : Nat} {s : State} (hdown : s.islands[k].running = false) (hat : s.islands[k].downAt = some at_) (hstage : s.start.stage ≠ .off) (hk : k.val < 16 ∨ k.val = 32) :
    s.islandRestart k false = s.modIsland k fun x => { x with cause := 5, downAt := none } := by
  unfold State.islandRestart
  dsimp only
  rw [State.islandRestart_guard hdown hat hstage, if_neg (by decide), if_neg (by omega), if_neg (by omega), if_neg (by decide)]

/-! ### Before the handover (R516) -/

/-- The start at the boot ROM again: nothing loaded, power islands as they are, the MSS running alone of the others. -/
def State.atBootRom (s : State) : State :=
  let s := s.modStart fun x => { x with stage := .qualified }
  let s := s.modCfg fun c => { c with state := 0, outcome := 0, loadEvents := [] }
  { s with islands := s.islands.mapIdx fun j (x : Island) => if j < 16 ∨ j = 32 then { x with running := false } else if j = 33 then { x with running := true } else x }

theorem State.atBootRom_islands (s : State) : s.atBootRom.islands[33].running = true ∧ s.atBootRom.islands[32].running = false ∧ ∀ i : Fin 16, s.atBootRom.islands[i.val].running = false := by
  simp [State.atBootRom]

theorem State.islandReset_early {k : Fin 34} {s : State} (hup : s.islands[k].running = true) (hstage : s.start.stage = .booted ∨ s.start.stage = .loading) (cause : Nat) :
    ∃ blocks : State, s.islandReset k cause = blocks.atBootRom := by
  rw [Fin.getElem_fin] at hup
  have hearly : (decide (s.start.stage = .booted) || decide (s.start.stage = .loading)) = true := by simpa using hstage
  unfold State.islandReset
  rw [hup, if_neg (by decide)]
  exact ⟨_, if_pos hearly⟩

/-- Settles O53, by the kind of the island for the resets, and by the branches of the restart. -/
theorem resetIslandsLoseTheirBlocksOnly : Obligations.ResetIslandsLoseTheirBlocksOnly := by
  unfold Obligations.ResetIslandsLoseTheirBlocksOnly
  refine ⟨fun k c cause s hup hstage hc => ?_, fun k s hdown => ⟨congrArg State.complete (State.islandReset_down hdown _), ?_, fun hk => ?_⟩, fun k s hup hstage => ?_, fun s hup => ?_, fun k ok s h => ?_, fun k at_ ok s hdown hat hstage hhas => ⟨fun hgood hhawser => ?_, fun hok hk => ?_⟩⟩
  · obtain ⟨⟨hnow, hstart, hparams, hplug, hloop, hgroups, hcfg, hsl, hhws, hspl, hmss, hauth, hgate, hself, hothers⟩, hblocks⟩ := State.islandReset_lost (cause := cause) hup hstage
    exact ⟨_, exec_islandReset hc s, hnow, hstart, hparams, hplug, hloop, hgroups, hcfg, hsl, hhws, hspl, hmss, hauth, hgate, hself, hothers, hblocks⟩
  · refine congrArg State.complete ?_
    rw [State.islandReset_down hdown, ite_self]
  · obtain rfl : k = 33 := Fin.ext hk
    exact ⟨congrArg State.complete (State.islandReset_down hdown _), congrArg State.complete (State.islandReset_down hdown _), congrArg State.complete (State.islandReset_down hdown _)⟩
  · obtain ⟨blocks, hearly⟩ := State.islandReset_early hup hstage 1
    exact ⟨_, congrArg State.complete hearly, rfl, rfl, blocks.atBootRom_islands⟩
  · exact congrArg State.complete (if_pos hup)
  · exact congrArg State.complete (State.islandRestart_none h ok)
  · obtain ⟨⟨hnow, hslices, hparams, hplug, hrun, hat', hstalled, hothers⟩, hmss, hina⟩ := State.islandRestart_runs hdown hat hstage hhas hgood hhawser
    exact ⟨_, rfl, hnow, hslices, hparams, hplug, hrun, hat', hstalled, hothers, hmss, hina⟩
  · subst hok
    exact congrArg State.complete (State.islandRestart_stays hdown hat hstage hk)

/-! ### Islands that start together (R507) -/

/-- The islands that `p` names run, where the part has them. -/
def State.releaseAll (p : Fin 34 → Prop) [DecidablePred p] (l : List (Fin 34)) (s : State) : State :=
  l.foldl (fun s k => if p k then s.release k else s) s

theorem State.release_eq (k : Fin 34) (s : State) : ∃ clocks islands stalled, s.release k = { s with clocks := clocks, islands := islands, stalled := stalled } := by
  unfold State.release
  split
  · exact ⟨_, _, _, rfl⟩
  · exact ⟨_, _, _, rfl⟩

theorem State.release_islands (k j : Fin 34) (s : State) :
    (s.release k).islands[j] = if k = j ∧ s.hasIsland j = true then { s.islands[j] with running := true, downAt := none } else s.islands[j] := by
  by_cases hk : s.hasIsland k = true
  · obtain ⟨clocks, hrel⟩ := State.release_present hk
    by_cases hj : j = k
    · subst hj
      simp [hrel, hk, State.modIsland]
    · rw [hrel, if_neg fun h => hj h.1.symm]
      exact State.modIsland_other hj (fun x => { x with running := true, downAt := none }) s
  · have hnot : ¬(k = j ∧ s.hasIsland j = true) := fun ⟨hkj, hj⟩ => hk (hkj ▸ hj)
    rw [show s.release k = s from if_neg hk, if_neg hnot]

section
variable (p : Fin 34 → Prop) [DecidablePred p]

theorem State.releaseAll_eq (l : List (Fin 34)) (s : State) : ∃ clocks islands stalled, s.releaseAll p l = { s with clocks := clocks, islands := islands, stalled := stalled } := by
  induction l generalizing s with
  | nil => exact ⟨_, _, _, rfl⟩
  | cons k l ih =>
    unfold State.releaseAll
    rw [List.foldl_cons]
    by_cases hk : p k
    · rw [if_pos hk]
      obtain ⟨c, i, st, hrel⟩ := State.release_eq k s
      obtain ⟨c', i', st', hall⟩ := ih (s.release k)
      exact ⟨c', i', st', hall.trans (by rw [hrel])⟩
    · rw [if_neg hk]
      exact ih s

theorem State.release_hasIsland (k j : Fin 34) (s : State) : (s.release k).hasIsland j = s.hasIsland j := by
  obtain ⟨c, i, st, hrel⟩ := State.release_eq k s
  rw [hrel]
  rfl

theorem State.releaseAll_islands (l : List (Fin 34)) (j : Fin 34) (s : State) :
    (s.releaseAll p l).islands[j] = if j ∈ l ∧ p j ∧ s.hasIsland j = true then { s.islands[j] with running := true, downAt := none } else s.islands[j] := by
  induction l generalizing s with
  | nil => simp [State.releaseAll]
  | cons k l ih =>
    have hcons : s.releaseAll p (k :: l) = (if p k then s.release k else s).releaseAll p l := rfl
    rw [hcons]
    by_cases hk : p k
    · rw [if_pos hk, ih, State.release_islands, State.release_hasIsland]
      by_cases hj : k = j
      · subst hj
        simp only [hk, true_and, List.mem_cons, true_or]
        split <;> simp_all
      · have hne : j ≠ k := Ne.symm hj
        simp [hj, hne]
    · rw [if_neg hk, ih]
      have hne (h : p j) : j ≠ k := fun e => hk (e ▸ h)
      by_cases hj : p j
      · simp [hj, hne hj]
      · simp [hj]

end

theorem State.releaseFirst_eq (s : State) : s.releaseFirst =
    (((s.releaseAll (fun k => 16 ≤ k.val ∧ k.val ≠ 32) (List.finRange 34)).modStart fun x => { x with stage := .qualified, starts := x.starts + 1 }).modMss fun m => { m with onFrom := some s.now }).modLoop
      fun l => { l with startAt := s.now } := by
  obtain ⟨c, i, st, hall⟩ := State.releaseAll_eq (fun k => 16 ≤ k.val ∧ k.val ≠ 32) (List.finRange 34) s
  have hnow : (s.releaseAll (fun k => 16 ≤ k.val ∧ k.val ≠ 32) (List.finRange 34)).now = s.now := by rw [hall]
  unfold State.releaseFirst
  dsimp only
  rw [← hnow]
  rfl

theorem State.releaseFirmware_eq (s : State) : s.releaseFirmware = s.releaseAll (fun k => k.val < 16 ∨ k.val = 32) (List.finRange 34) := rfl

/-! ### X1 qualified (R503) -/

/-- A module in reset whose X1 has qualified, before its first islands run. -/
def State.powered (dv : Nat) (s : State) : State :=
  (s.modStart fun x => { x with x1 := dv, qualified := true }).modLoop fun l => { l with latched := false, latchCause := 0 }

theorem State.x1Qualified_starts {dv : Nat} {s : State} (hdv : 168 ≤ dv) (hoff : s.start.stage = .off) : s.x1Qualified dv = (s.powered dv).releaseFirst :=
  if_neg (by simp [hoff]; omega)

theorem State.x1Qualified_none {dv : Nat} {s : State} (h : dv < 168 ∨ s.start.stage ≠ .off) : s.x1Qualified dv = s := if_pos h

theorem State.x1Qualified_islands {dv : Nat} {s : State} (hdv : 168 ≤ dv) (hoff : s.start.stage = .off) (k : Fin 34) :
    (s.x1Qualified dv).islands[k] = if 16 ≤ k.val ∧ k.val ≠ 32 ∧ s.hasIsland k = true then { s.islands[k] with running := true, downAt := none } else s.islands[k] := by
  rw [State.x1Qualified_starts hdv hoff, State.releaseFirst_eq]
  simp only [State.modLoop_islands, State.modMss_islands, State.modStart_islands]
  rw [State.releaseAll_islands]
  simp only [List.mem_finRange, true_and, and_assoc]
  rfl

theorem State.x1Qualified_eq {dv : Nat} {s : State} (hdv : 168 ≤ dv) (hoff : s.start.stage = .off) : ∃ clocks islands stalled, s.x1Qualified dv =
    { s with
      clocks := clocks, islands := islands, stalled := stalled
      start := { s.start with x1 := dv, qualified := true, stage := .qualified, starts := s.start.starts + 1 }
      mss := { s.mss with onFrom := some s.now }
      loop := { s.loop with latched := false, latchCause := 0, startAt := s.now } } := by
  obtain ⟨c, i, st, hall⟩ := State.releaseAll_eq (fun k => 16 ≤ k.val ∧ k.val ≠ 32) (List.finRange 34) (s.powered dv)
  refine ⟨c, i, st, ?_⟩
  rw [State.x1Qualified_starts hdv hoff, State.releaseFirst_eq, hall]
  simp only [State.powered, State.modStart, State.modMss, State.modLoop]

/-! ### The boot ROM chooses a bank (R508, R509) -/

/-- The boot record names a trial that has not been started. -/
def State.freshTrial (s : State) : Bool := s.mss.boot.trialNamed && !s.mss.boot.trialStarted

/-- The bank that the boot ROM tries first. -/
def State.bootBank (s : State) : Bool := if s.freshTrial then s.mss.boot.trialBank else s.mss.boot.running

/-- The boot record has noted the start: a fresh trial as started, one that was started before as abandoned, with its event. -/
def State.bootNoted (s : State) : State :=
  let r := s.mss.boot
  let t := s.modMss fun m => { m with boot := if s.freshTrial then { r with trialStarted := true } else { r with trialNamed := false, trialStarted := false } }
  if r.trialNamed && r.trialStarted then t.mssEvent 3 6 0 else t

theorem State.bankGood_bootNoted (b : Bool) (s : State) : s.bootNoted.bankGood b = s.bankGood b := by
  unfold State.bootNoted
  dsimp only
  split <;> rfl

theorem State.bootBankSelect_eq {s : State} (hstage : s.start.stage = .qualified) : s.bootBankSelect =
    if s.bankGood s.bootBank then s.bootNoted.runBank s.bootBank s.freshTrial
    else if s.bankGood (!s.bootBank) then s.bootNoted.runBank (!s.bootBank) false
    else (s.bootNoted.modMss fun m => { m with recovery := true }).modStart fun x => { x with stage := .recovery } := by
  rw [← State.bankGood_bootNoted s.bootBank, ← State.bankGood_bootNoted (!s.bootBank)]
  unfold State.bootBankSelect
  rw [if_neg (by simp [hstage])]
  rfl

theorem State.bootBankSelect_none {s : State} (hstage : s.start.stage ≠ .qualified) : s.bootBankSelect = s := if_pos hstage

/-- What the choice of a bank leaves, for the start of the firmware to keep. -/
def State.bootView (s : State) := (s.now, s.slices, s.plug, s.start.stage, s.mss.runBank, s.mss.trial, s.mss.boot, s.mss.recovery)

theorem State.releaseFirmware_bootView (s : State) : s.releaseFirmware.bootView = s.bootView := by
  obtain ⟨c, i, st, hall⟩ := State.releaseAll_eq (fun k => k.val < 16 ∨ k.val = 32) (List.finRange 34) s
  rw [State.releaseFirmware_eq, hall]
  rfl

theorem State.tellTimeLost_bootView (s : State) : s.tellTimeLost.bootView = s.bootView := by
  unfold State.tellTimeLost
  split <;> rfl

theorem State.tellTimeLost_islands (s : State) : s.tellTimeLost.islands = s.islands := by
  unfold State.tellTimeLost
  split <;> rfl

theorem State.runBank_bootView (b trial : Bool) (s : State) : (s.runBank b trial).bootView = (s.now, s.slices, s.plug, .booted, b, trial, s.mss.boot, false) := by
  simp [State.bootView, State.runBank]

theorem State.bootNoted_boot (s : State) :
    s.bootNoted.mss.boot = if s.freshTrial then { s.mss.boot with trialStarted := true } else { s.mss.boot with trialNamed := false, trialStarted := false } := by
  unfold State.bootNoted
  extract_lets r t
  split <;> simp [t, r, State.mssEvent]

/-- The note of a start is in the MSS alone: its record and its event. -/
theorem State.bootNoted_keeps {α : Type} (g : State → α) (hmss : ∀ f t, g (State.modMss f t) = g t) (hraise : ∀ n c d t, g (State.raise n c d t) = g t) (s : State) : g s.bootNoted = g s := by
  unfold State.bootNoted
  extract_lets r t
  split
  · rw [State.mssEvent, hraise, hmss, hmss]
  · rw [hmss]

theorem State.bootNoted_runBank (b trial : Bool) (s : State) : (s.bootNoted.runBank b trial).bootView =
    (s.now, s.slices, s.plug, .booted, b, trial,
      (if s.freshTrial then { s.mss.boot with trialStarted := true } else { s.mss.boot with trialNamed := false, trialStarted := false }), false) := by
  have hkept := State.bootNoted_keeps (fun t => (t.now, t.slices, t.plug)) (by simp) (by simp) s
  simp only [Prod.mk.injEq] at hkept
  obtain ⟨hnow, hslices, hplug⟩ := hkept
  rw [State.runBank_bootView, State.bootNoted_boot, hnow, hslices, hplug]

theorem State.bootNoted_runBank_islands (b trial : Bool) (s : State) : (s.bootNoted.runBank b trial).islands = s.islands ∧ (s.bootNoted.runBank b trial).small = s.small :=
  ⟨State.bootNoted_keeps State.islands (by simp) (by simp) s, State.bootNoted_keeps State.small (by simp) (by simp) s⟩

theorem State.boot_bank {s : State} (hstage : s.start.stage = .qualified) {b trial : Bool} (hsel : s.bootBankSelect = s.bootNoted.runBank b trial) :
    s.boot = (s.bootNoted.runBank b trial).releaseFirmware.tellTimeLost := by
  unfold State.boot
  rw [hsel]
  exact if_pos ⟨hstage, rfl⟩

/-- A bank runs: the record of the start, and the islands that start with the firmware. -/
theorem State.boot_runs {s : State} (hstage : s.start.stage = .qualified) {b trial : Bool} (hsel : s.bootBankSelect = s.bootNoted.runBank b trial) :
    s.boot.bootView = (s.bootNoted.runBank b trial).bootView ∧
    ∀ k : Fin 34, s.boot.islands[k] = if (k.val < 16 ∨ k.val = 32) ∧ s.hasIsland k = true then { s.islands[k] with running := true, downAt := none } else s.islands[k] := by
  rw [State.boot_bank hstage hsel]
  refine ⟨by rw [State.tellTimeLost_bootView, State.releaseFirmware_bootView], fun k => ?_⟩
  obtain ⟨hisl, hsmall⟩ := State.bootNoted_runBank_islands b trial s
  have hhas : (s.bootNoted.runBank b trial).hasIsland k = s.hasIsland k := by rw [State.hasIsland, hsmall]; rfl
  rw [State.tellTimeLost_islands, State.releaseFirmware_eq, State.releaseAll_islands, hhas, hisl]
  simp

theorem State.boot_recovers {s : State} (hstage : s.start.stage = .qualified) (hown : s.bankGood s.bootBank = false) (hother : s.bankGood (!s.bootBank) = false) :
    s.boot = (s.bootNoted.modMss fun m => { m with recovery := true }).modStart fun x => { x with stage := .recovery } := by
  have hsel := State.bootBankSelect_eq hstage
  rw [hown, hother, if_neg (by decide), if_neg (by decide)] at hsel
  unfold State.boot
  rw [hsel]
  exact if_neg fun h => by simp at h

theorem State.boot_none {s : State} (hstage : s.start.stage ≠ .qualified) : s.boot = s := by
  unfold State.boot
  rw [State.bootBankSelect_none hstage]
  exact if_neg fun h => hstage h.1

/-! ### The handover of the parameters (R24, R443, R447) -/

/-- The loader's verdict stands in the CFG registers and its parameters in the module; its events are not yet told. -/
def State.cfgTaken (s : State) : State :=
  let got : Mem × Nat × List Byte := if s.cfg.outcome = 4 then ([], 0, []) else s.cfg.loaded.getD ([], 0, [])
  let s := { s with params := got.1 }
  let s := s.modCfg fun c => { c with
    state := c.outcome
    version := got.2.1
    digest := got.2.2
    thermal := if c.outcome = 4 then 0 else ((dissipation got.1) * 100).floor.toNat
    loaded := none
    resignDue := false
    healthLost := false
    loadMs := min 65535 ((s.now - c.startAt) / 1000000)
    progress := match c.entry with | some e => e.progress | none => 0
    probAt := s.now
    progressAt := s.now
    loadEvents := [] }
  { s with dq := { s.dq with causes := 0 }, mq := { s.mq with causes := 0 }, slices := s.slices.map fun (x : Slice) => { x with iq := { x.iq with causes := 0 } } }

/-- The events of the load, told one after the other. -/
def State.tellLoad (events : List (Nat × Nat)) (s : State) : State := events.foldl (fun s x => s.cfgEvent x.1 x.2) s

theorem State.cfgHandover_eq (s : State) : s.cfgHandover =
    let t := s.cfgTaken.tellEntry.tellLoad s.cfg.loadEvents
    if t.cfg.returnPending && decide (t.cfg.outcome = 3) then t.scheduleReturn else t := rfl

/-- What the loader has handed over to the CFG registers. -/
def State.loadView (s : State) := (s.cfg.state, s.cfg.version, s.cfg.digest, s.cfg.loaded, s.cfg.loadEvents)

/-- The blocks that the handover of a load without a bundle leaves as they are. -/
def State.idleView (s : State) := (s.now, s.start, s.islands, s.hws, s.spl, s.groups, s.loop)

/-- The last event in CFG_FAULT. -/
def State.cfgFault (s : State) : Nat × Nat := (s.cfg.faultEvent, s.cfg.faultCode)

section
variable (s : State)

/-- The events of the load and of the journal entry keep what an event keeps. -/
theorem State.tellEntry_keeps {α : Type} (g : State → α) (hevent : ∀ e c t, g (State.cfgEvent e c t) = g t) (htold : ∀ n t, g (State.modCfg (fun c => { c with told := n }) t) = g t) :
    g s.tellEntry = g s := by
  unfold State.tellEntry
  split
  · rfl
  · split
    · split
      · rw [hevent, htold]
      · split
        · rw [hevent, htold]
        · rfl
    · rfl

theorem State.tellLoad_keeps {α : Type} (g : State → α) (hevent : ∀ e c t, g (State.cfgEvent e c t) = g t) (l : List (Nat × Nat)) : g (s.tellLoad l) = g s :=
  foldl_keeps g (fun t (x : Nat × Nat) => State.cfgEvent x.1 x.2 t) (fun t x => hevent x.1 x.2 t) l s

theorem State.scheduleReturn_keeps {α : Type} (g : State → α) (hresign : ∀ t, g (State.modCfg (fun c => { c with resignDue := true }) t) = g t) (hmss : ∀ f t, g (State.modMss f t) = g t) :
    g s.scheduleReturn = g s := by
  unfold State.scheduleReturn
  split
  · rfl
  · split
    · split
      · split
        · rw [hmss, hresign]
        · rfl
      · rfl
    · rw [hmss]

/-- After the verdict has been taken, the handover of the CFG block only tells events and schedules a return. -/
theorem State.cfgHandover_keeps {α : Type} (g : State → α) (hevent : ∀ e c t, g (State.cfgEvent e c t) = g t) (htold : ∀ n t, g (State.modCfg (fun c => { c with told := n }) t) = g t)
    (hresign : ∀ t, g (State.modCfg (fun c => { c with resignDue := true }) t) = g t) (hmss : ∀ f t, g (State.modMss f t) = g t) : g s.cfgHandover = g s.cfgTaken := by
  have htell : g (s.cfgTaken.tellEntry.tellLoad s.cfg.loadEvents) = g s.cfgTaken := by rw [State.tellLoad_keeps _ g hevent, State.tellEntry_keeps _ g hevent htold]
  rw [State.cfgHandover_eq]
  dsimp only
  split
  · rw [State.scheduleReturn_keeps _ g hresign hmss, htell]
  · exact htell

theorem State.cfgHandover_loadView : s.cfgHandover.loadView = s.cfgTaken.loadView :=
  State.cfgHandover_keeps s State.loadView (by simp [State.loadView, State.cfgEvent]) (fun _ _ => rfl) (fun _ => rfl) fun _ _ => rfl

theorem State.cfgHandover_idleView : s.cfgHandover.idleView = s.idleView :=
  State.cfgHandover_keeps s State.idleView (by simp [State.idleView, State.cfgEvent]) (fun _ _ => rfl) (fun _ => rfl) fun _ _ => rfl

theorem State.cfgHandover_slices (i : Fin 16) : s.cfgHandover.slices[i] = { s.slices[i] with iq := { s.slices[i].iq with causes := 0 } } := by
  rw [State.cfgHandover_keeps s State.slices (by simp [State.cfgEvent]) (fun _ _ => rfl) (fun _ => rfl) fun _ _ => rfl]
  simp [State.cfgTaken]

theorem State.tellLoad_cfgFault (l : List (Nat × Nat)) (x : Nat × Nat) (h : l.getLast? = some x) : (s.tellLoad l).cfgFault = x := by
  obtain ⟨l', rfl⟩ := List.getLast?_eq_some_iff.1 h
  unfold State.tellLoad
  rw [List.foldl_append]
  simp [State.cfgFault, State.cfgEvent]

theorem State.cfgHandover_cfgFault (x : Nat × Nat) (h : s.cfg.loadEvents.getLast? = some x) : s.cfgHandover.cfgFault = x := by
  rw [← State.tellLoad_cfgFault s.cfgTaken.tellEntry _ x h, State.cfgHandover_eq]
  dsimp only
  split
  · exact State.scheduleReturn_keeps _ State.cfgFault (fun _ => rfl) fun _ _ => rfl
  · rfl

theorem State.cfgTaken_bundle (hout : s.cfg.outcome ≠ 4) {p : Mem} {v : Nat} {dg : List Byte} (hload : s.cfg.loaded = some (p, v, dg)) : s.cfgTaken.loadView = (s.cfg.outcome, v, dg, none, []) := by
  simp [State.cfgTaken, State.loadView, hout, hload]

theorem State.cfgTaken_none (hout : s.cfg.outcome = 4) : s.cfgTaken.loadView = (4, 0, [], none, []) := by
  simp [State.cfgTaken, State.loadView, hout]

/-! What the rest of the handover leaves of it -/

theorem State.belayHandover_eq : ∃ groups, s.belayHandover = { s with groups := groups } ∧ ∀ g : Fin 2, groups[g].lfsr = cfgBlyLfsrSeed s.params g.val :=
  ⟨_, rfl, by intro g; fin_cases g <;> simp [State.modGroup]⟩

theorem State.sliceHandover_keeps {α : Type} (g : State → α) (hslice : ∀ i f t, g (State.modSlice i f t) = g t) (i : Fin 16) : g (s.sliceHandover i) = g s := by
  unfold State.sliceHandover
  split
  · rfl
  · exact hslice i _ s

theorem State.closeCell_keeps {α : Type} (g : State → α) (hloop : ∀ f t, g (State.modLoop f t) = g t) (hraise : ∀ n c d t, g (State.raise n c d t) = g t) (held : Bool) : g (s.closeCell held) = g s := by
  unfold State.closeCell
  dsimp only
  repeat' split
  all_goals simp only [hloop, hraise]

theorem State.settleLoop_keeps {α : Type} (g : State → α) (hloop : ∀ f t, g (State.modLoop f t) = g t) (hraise : ∀ n c d t, g (State.raise n c d t) = g t) (held : Bool) (ma : Nat) :
    g (s.settleLoop held ma) = g s := by
  unfold State.settleLoop
  dsimp only
  repeat' split
  all_goals simp only [hloop, State.closeCell_keeps _ g hloop hraise]

/-- The part of the handover that gives every block its parameters. -/
def State.blocksStart (s : State) : State :=
  let s := (s.modStart fun x => { x with stage := .running }).belayHandover.hawserStart
  let s := s.modTwn fun t => { t with handoverAt := some s.now, firstHold := true }
  let s := s.eachSlice fun i s => s.sliceHandover i
  (s.modCfg fun c => { c with cyclesSeen := s.doorCycles }).settleLoop (decide (Config.freeNat 63 s.freeCount % 2 = 1)) 0

theorem State.blocksStart_keeps {α : Type} (g : State → α) (hslice : ∀ i f t, g (State.modSlice i f t) = g t) (hseen : ∀ n t, g (State.modCfg (fun c => { c with cyclesSeen := n }) t) = g t)
    (hloop : ∀ f t, g (State.modLoop f t) = g t) (hraise : ∀ n c d t, g (State.raise n c d t) = g t) :
    g s.blocksStart = g ((s.modStart fun x => { x with stage := .running }).belayHandover.hawserStart.modTwn fun t => { t with handoverAt := some s.now, firstHold := true }) := by
  obtain ⟨groups, hgroups, -⟩ := State.belayHandover_eq (s.modStart fun x => { x with stage := .running })
  unfold State.blocksStart
  extract_lets a b c
  have hb : b = a.modTwn fun t => { t with handoverAt := some s.now, firstHold := true } := by
    have hnow : a.now = s.now := by simp only [a, hgroups]; rfl
    rw [← hnow]
  rw [← hb, State.settleLoop_keeps _ g hloop hraise, hseen]
  exact State.eachSlice_keeps g _ (fun i t => State.sliceHandover_keeps t g hslice i) b

theorem State.handover_none (h : s.start.stage ≠ .loading) : s.handover = s := if_pos h

theorem State.handover_unconfigured (hstage : s.start.stage = .loading) (hstate : s.cfgHandover.cfg.state = 4) : s.handover = s.cfgHandover.modStart fun x => { x with stage := .unconfigured } := by
  unfold State.handover
  rw [if_neg (by simp [hstage])]
  exact if_pos hstate

theorem State.handover_runs (hstage : s.start.stage = .loading) (hstate : s.cfgHandover.cfg.state ≠ 4) : s.handover = s.cfgHandover.blocksStart := by
  unfold State.handover
  rw [if_neg (by simp [hstage])]
  exact if_neg hstate

end

/-! ### O52 -/

/-- What the rest of the handover keeps of the load and gives to the blocks. -/
def State.handoverView (s : State) :=
  (s.now, s.start.stage, s.params, s.loadView, s.cfgFault, s.ina.handoverAt, s.twn.handoverAt, s.groups, s.islands, s.hws, s.spl)

theorem State.blocksStart_view (s : State) : ∃ groups, s.blocksStart.handoverView =
    (s.now, .running, s.params, s.loadView, s.cfgFault, some s.now, some s.now, groups, s.islands, s.hws, { s.spl with passDone := true }) ∧
    ∀ g : Fin 2, groups[g].lfsr = cfgBlyLfsrSeed s.params g.val := by
  obtain ⟨groups, hgroups, hseed⟩ := State.belayHandover_eq (s.modStart fun x => { x with stage := .running })
  refine ⟨groups, ?_, hseed⟩
  have hraise : ∀ n c d t, State.handoverView (State.raise n c d t) = t.handoverView := by simp [State.handoverView, State.loadView, State.cfgFault]
  rw [State.blocksStart_keeps s State.handoverView (fun _ _ _ => rfl) (fun _ _ => rfl) (fun _ _ => rfl) hraise]
  simp [State.handoverView, State.loadView, State.cfgFault, State.hawserStart, hgroups]

theorem State.cfgHandover_handedOver {s : State} {p : Mem} {v : Nat} {dg : List Byte} (hout : s.cfg.outcome ≠ 4) (hload : s.cfg.loaded = some (p, v, dg)) : s.cfgHandover.params = p := by
  rw [State.cfgHandover_params, State.handedOver, if_neg hout, hload]
  rfl

theorem State.x1Qualified_ok {dv : Nat} {s : State} (hdv : 168 ≤ dv) (hoff : s.start.stage = .off) :
    ∃ t, exec (.x1Qualified dv) s = .next t ∧ t.now = s.now ∧ t.start.stage = .qualified ∧ t.start.qualified = true ∧ t.start.x1 = dv ∧ t.start.starts = s.start.starts + 1 ∧ t.start.kind = s.start.kind ∧
      t.loop.latched = false ∧ t.loop.startAt = s.now ∧ t.loop.sw1 = s.loop.sw1 ∧ t.loop.sw2 = s.loop.sw2 ∧ t.slices = s.slices ∧ t.params = s.params ∧ t.hws = s.hws ∧ t.mss = { s.mss with onFrom := some s.now } ∧ t.log = s.log ∧ t.plug = s.plug ∧
      ∀ k : Fin 34, if 16 ≤ k.val ∧ k.val ≠ 32 ∧ s.hasIsland k then t.islands[k].running = true ∧ t.islands[k].cause = s.islands[k].cause else t.islands[k] = s.islands[k] := by
  have hisl := State.x1Qualified_islands hdv hoff
  obtain ⟨c, i, st, hx⟩ := State.x1Qualified_eq hdv hoff
  refine ⟨_, rfl, ?_⟩
  rw [hx] at hisl ⊢
  refine ⟨rfl, rfl, rfl, rfl, rfl, rfl, rfl, rfl, rfl, rfl, rfl, rfl, rfl, rfl, rfl, rfl, fun k => ?_⟩
  have hk : i[k] = _ := hisl k
  show if _ then i[k].running = true ∧ i[k].cause = s.islands[k].cause else i[k] = s.islands[k]
  rw [hk]
  split
  · exact ⟨rfl, rfl⟩
  · rfl

theorem State.boot_ok {s : State} (hstage : s.start.stage = .qualified) (hgood : s.bankGood s.bootBank = true ∨ s.bankGood (!s.bootBank) = true) :
    ∃ t, exec .bootBankSelect s = .next t ∧ t.now = s.now ∧ t.slices = s.slices ∧ t.plug = s.plug ∧ t.start.stage = .booted ∧
      t.mss.runBank = (if s.bankGood s.bootBank then s.bootBank else !s.bootBank) ∧ t.mss.trial = (s.bankGood s.bootBank && s.freshTrial) ∧
      t.mss.boot = (if s.freshTrial then { s.mss.boot with trialStarted := true } else { s.mss.boot with trialNamed := false, trialStarted := false }) ∧ t.mss.recovery = false ∧
      ∀ k : Fin 34, if (k.val < 16 ∨ k.val = 32) ∧ s.hasIsland k then t.islands[k].running = true else t.islands[k] = s.islands[k] := by
  have hsel : s.bootBankSelect = s.bootNoted.runBank (if s.bankGood s.bootBank then s.bootBank else !s.bootBank) (s.bankGood s.bootBank && s.freshTrial) := by
    rw [State.bootBankSelect_eq hstage]
    cases hb : s.bankGood s.bootBank
    · have hother : s.bankGood (!s.bootBank) = true := hgood.resolve_left (by simp [hb])
      rw [hother, if_neg (by decide), if_pos rfl]
      rfl
    · rfl
  obtain ⟨hview, hisl⟩ := State.boot_runs hstage hsel
  rw [State.bootNoted_runBank] at hview
  simp only [State.bootView, Prod.mk.injEq] at hview
  obtain ⟨hnow, hslices, hplug, hst, hbank, htrial, hboot, hrec⟩ := hview
  refine ⟨_, rfl, hnow, hslices, hplug, hst, hbank, htrial, hboot, hrec, fun k => ?_⟩
  show if _ then s.boot.islands[k].running = true else s.boot.islands[k] = s.islands[k]
  rw [hisl k]
  split
  · rfl
  · rfl

theorem State.boot_fails {s : State} (hstage : s.start.stage = .qualified) (hown : s.bankGood s.bootBank = false) (hother : s.bankGood (!s.bootBank) = false) :
    ∃ t, exec .bootBankSelect s = .next t ∧ t.carSide = s.carSide ∧ t.start.stage = .recovery ∧ t.mss.recovery = true ∧ t.islands = s.islands := by
  have hboot := State.boot_recovers hstage hown hother
  refine ⟨_, rfl, ?_⟩
  show s.boot.draw.carSide = s.carSide ∧ s.boot.start.stage = .recovery ∧ s.boot.mss.recovery = true ∧ s.boot.islands = s.islands
  refine ⟨?_, by rw [hboot]; rfl, by rw [hboot]; rfl, ?_⟩
  · show s.boot.carSide = s.carSide
    rw [hboot]
    exact State.bootNoted_keeps State.carSide (fun _ _ => rfl) (by simp [State.carSide]) s
  · rw [hboot]
    exact State.bootNoted_keeps State.islands (by simp) (by simp) s

theorem State.handover_ok {s : State} {p : Mem} {v : Nat} {dg : List Byte} (hstage : s.start.stage = .loading) (hout : s.cfg.outcome = 2 ∨ s.cfg.outcome = 3) (hload : s.cfg.loaded = some (p, v, dg)) :
    ∃ t, exec .configurationHandover s = .next t ∧ t.now = s.now ∧ t.start.stage = .running ∧ t.configured = true ∧ t.params = p ∧ t.cfg.state = s.cfg.outcome ∧ t.cfg.version = v ∧ t.cfg.digest = dg ∧ t.cfg.loaded = none ∧
      t.cfg.loadEvents = [] ∧ (∀ x : Nat × Nat, s.cfg.loadEvents.getLast? = some x → t.cfg.faultEvent = x.1 ∧ t.cfg.faultCode = x.2) ∧ t.ina.handoverAt = some s.now ∧ t.twn.handoverAt = some s.now ∧
      (∀ g : Fin 2, t.groups[g].lfsr = cfgBlyLfsrSeed t.params g.val) ∧ t.islands = s.islands ∧ t.hws = s.hws ∧ t.spl = { s.spl with passDone := true } := by
  have hne : s.cfg.outcome ≠ 4 := by omega
  have hload' := (State.cfgHandover_loadView s).trans (State.cfgTaken_bundle s hne hload)
  have hstate : s.cfgHandover.cfg.state = s.cfg.outcome := congrArg Prod.fst hload'
  have hidle := State.cfgHandover_idleView s
  simp only [State.idleView, Prod.mk.injEq] at hidle
  obtain ⟨hnow, -, hislands, hhws, hspl, -, -⟩ := hidle
  obtain ⟨groups, hview, hseed⟩ := State.blocksStart_view s.cfgHandover
  rw [← State.handover_runs s hstage (hstate ▸ hne), State.cfgHandover_handedOver hne hload, hload', hnow, hislands, hhws, hspl] at hview
  rw [State.cfgHandover_handedOver hne hload] at hseed
  simp only [State.handoverView, State.loadView, Prod.mk.injEq] at hview
  obtain ⟨hnow', hst, hparams, ⟨hstate', hver, hdig, hloaded, hevents⟩, hfault, hina, htwn, hgroups, hisl, hh, hsp⟩ := hview
  refine ⟨_, rfl, hnow', hst, ?_, hparams, hstate', hver, hdig, hloaded, hevents, fun x hx => ?_, hina, htwn, fun g => ?_, hisl, hh, hsp⟩
  · show (decide (s.handover.cfg.state = 2) || decide (s.handover.cfg.state = 3)) = true
    rw [hstate']
    simpa using hout
  · exact Prod.mk.injEq .. ▸ hfault.trans (State.cfgHandover_cfgFault s x hx)
  · show s.handover.groups[g].lfsr = cfgBlyLfsrSeed s.handover.params g.val
    rw [hgroups, hparams]
    exact hseed g

theorem State.handover_without {s : State} (hstage : s.start.stage = .loading) (hout : s.cfg.outcome = 4) :
    ∃ t, exec .configurationHandover s = .next t ∧ t.now = s.now ∧ t.start.stage = .unconfigured ∧ t.configured = false ∧ t.params = [] ∧ t.cfg.state = 4 ∧ t.cfg.version = 0 ∧
      (∀ x : Nat × Nat, s.cfg.loadEvents.getLast? = some x → t.cfg.faultEvent = x.1 ∧ t.cfg.faultCode = x.2) ∧ (∀ i : Fin 16, t.slices[i] = { s.slices[i] with iq := { s.slices[i].iq with causes := 0 } }) ∧
      t.groups = s.groups ∧ t.loop = s.loop ∧ t.hws = s.hws ∧ t.islands = s.islands := by
  have hload := (State.cfgHandover_loadView s).trans (State.cfgTaken_none s hout)
  simp only [State.loadView, Prod.mk.injEq] at hload
  obtain ⟨hstate, hver, -, -, -⟩ := hload
  have hidle := State.cfgHandover_idleView s
  simp only [State.idleView, Prod.mk.injEq] at hidle
  obtain ⟨hnow, -, hislands, hhws, -, hgroups, hloop⟩ := hidle
  have hhand := State.handover_unconfigured s hstage hstate
  have hparams : s.cfgHandover.params = [] := by rw [State.cfgHandover_params, State.handedOver, if_pos hout]
  refine ⟨_, rfl, ?_⟩
  rw [hhand]
  refine ⟨hnow, rfl, ?_, hparams, hstate, hver, fun x hx => ?_, State.cfgHandover_slices s, hgroups, hloop, hhws, hislands⟩
  · show (decide (s.cfgHandover.cfg.state = 2) || decide (s.cfgHandover.cfg.state = 3)) = false
    rw [hstate]
    rfl
  · exact Prod.mk.injEq .. ▸ State.cfgHandover_cfgFault s x hx

/-- Settles O52: the start is read as releases of islands beside single registers, the choice of the bank as the note in the boot record and the bank that runs, and the handover as the verdict taken by CFG, its events, and the start of the blocks. -/
theorem startRunsToTheHandover : Obligations.StartRunsToTheHandover := by
  unfold Obligations.StartRunsToTheHandover
  refine ⟨fun dv s => State.x1Qualified_ok, fun dv s h => ?_, fun s hstage => ⟨State.boot_ok hstage, State.boot_fails hstage⟩, fun s h => ?_,
    fun p v dg s => State.handover_ok, fun s => State.handover_without, fun s h => ?_⟩
  · exact congrArg State.complete (State.x1Qualified_none h)
  · exact congrArg State.complete (State.boot_none h)
  · exact congrArg State.complete (State.handover_none s h)

end Sys2Proof.Machine
end

section
/-! PROOFS. Segments: O41. -/

namespace Sys2Proof.Machine

/-! ### What messages and events leave of the inauguration (R290, R308) -/

section
variable (s : State)

theorem State.sendPort_ina (i : Fin 4) (b : Body) : (s.sendPort i b).ina = s.ina := by
  unfold State.sendPort
  split <;> rfl

theorem State.queueAsync_ina (dest : Nat) (b : Body) : (s.queueAsync dest b).ina = s.ina := rfl

theorem State.sendBothA_ina (b : Body) : (s.sendBothA b).ina = s.ina := (State.sendPort_ina _ 1 b).trans (State.sendPort_ina s 0 b)

theorem State.toPartner_ina (b : Body) : (s.toPartner b).ina = s.ina := by
  unfold State.toPartner
  split
  · split
    · exact State.sendPort_ina s _ b
    · rfl
  · rfl

theorem State.inaEvent_hws (e c q : Nat) : (s.inaEvent e c q).hws = s.hws := by simp [State.inaEvent]

theorem State.inaEvent_ina (e c q : Nat) : (s.inaEvent e c q).ina = { s.ina with
    faultEvent := e, faultCode := c, faultPosition := q,
    cntRetries := if e = 7 then satInc 255 s.ina.cntRetries else s.ina.cntRetries,
    cntCuts := if e = 4 then satInc 255 s.ina.cntCuts else s.ina.cntCuts,
    cntRefusals := if e = 5 then satInc 255 s.ina.cntRefusals else s.ina.cntRefusals } := by
  simp [State.inaEvent]

theorem State.trigger_ina (n : Nat) : ∃ e c q, (s.trigger n).ina = { s.ina with trigger := n, startAt := s.now, faultEvent := e, faultCode := c, faultPosition := q } := by
  unfold State.trigger
  rw [State.inaEvent_ina]
  exact ⟨_, _, _, rfl⟩

/-- What an inauguration keeps while a directory is issued. -/
def Inaug.kept (x : Inaug) := (x.nonce, x.trigger, x.repairAt, x.splitAt, x.insertion, x.grant)

theorem State.inaEvent_kept (e c q : Nat) : (s.inaEvent e c q).ina.kept = s.ina.kept := by
  rw [State.inaEvent_ina]
  rfl

/-- The directory that a leader issues, and the state of its inauguration. -/
theorem State.issue_spec (num : Numbering) (countBased free : Bool) (offset : Int) (base mode : Nat) :
    ∃ d : Directory, (s.issue num countBased free offset base mode).ina.pendingDir = some d ∧ (s.issue num countBased free offset base mode).ina.phase = .directory ∧
      (s.issue num countBased free offset base mode).ina.kept = s.ina.kept ∧
      d.generation = base + 1 ∧ d.nonce = s.ina.nonce ∧ d.timeOffset = offset ∧ d.countBased = countBased ∧ d.renumberingFree = free := by
  obtain ⟨t, ht⟩ : ∃ t, s.issue num countBased free offset base mode = t := ⟨_, rfl⟩
  rw [ht]
  unfold State.issue at ht
  extract_lets u n d sw0 sw dir v at ht
  have hkept : u.ina.kept = s.ina.kept := foldl_keeps (fun t : State => t.ina.kept) (fun (t : State) x => t.inaEvent 5 x.1 x.2) (fun t x => t.inaEvent_kept 5 x.1 x.2) num.notes s
  have hina : t.ina = v.ina := by
    rw [← ht]
    split
    · exact State.sendBothA_ina v _
    · exact State.toPartner_ina _ _
  refine ⟨dir, by rw [hina]; rfl, by rw [hina]; rfl, ?_, rfl, congrArg Prod.fst hkept, rfl, rfl, rfl⟩
  rw [hina]
  exact hkept

/-- An inauguration that begins with its directory. -/
theorem State.trigger_issue (n : Nat) (num : Numbering) (countBased free : Bool) (offset : Int) (base mode : Nat) :
    let t := (s.trigger n).issue num countBased free offset base mode
    t.view = s.view ∧ t.ina.kept = (s.ina.nonce, n, s.ina.repairAt, s.ina.splitAt, s.ina.insertion, s.ina.grant) ∧ t.ina.phase = .directory ∧
    ∃ d : Directory, t.ina.pendingDir = some d ∧ d.generation = base + 1 ∧ d.nonce = s.ina.nonce ∧ d.timeOffset = offset ∧ d.countBased = countBased ∧ d.renumberingFree = free := by
  obtain ⟨d, hdir, hphase, hkept, hgen, hnonce, hoff, hcount, hfree⟩ := (s.trigger n).issue_spec num countBased free offset base mode
  obtain ⟨e, c, q, htrigger⟩ := s.trigger_ina n
  rw [htrigger] at hkept hnonce
  exact ⟨by simp, hkept, hphase, d, hdir, hgen, hnonce, hoff, hcount, hfree⟩

end

/-! ### A merge starts at a leader (R314) -/

section
variable {far : Bool} {pn g : Nat} {rs : List (Nat × Report)} {off : Int} {fr : Nat} {s : State}
  (hruns : s.hawserRuns = true) (hst : s.ina.st = .running) (hidle : s.inaugurating = false) (hmerge : s.ina.merge = none) (hleader : s.ina.leader = true)

/-- The chain that a leader numbers for both segments. -/
def State.bothSegments (far : Bool) (rs : List (Nat × Report)) (s : State) : List ChainNode := mergeChain far (s.segmentChain (List.range' 1 s.ina.dir.length)) rs

include hruns hst hidle hmerge hleader

theorem State.mergeStart_eq : s.mergeStart far pn g rs off fr =
    if pn = s.ina.nonce then (s.modIna fun x => { x with nonce := fr % 2 ^ 64, merge := x.merge.map fun g => { g with started := false } }).inaEvent 7 0 0
    else if s.ina.nonce < pn then
      if (numberChain s.modeDigest (s.bothSegments far rs)).notes.any (fun x => decide (x.1 = 1)) then (s.modIna fun x => { x with merge := none, mergeRefused := true }).inaEvent 5 1 0
      else ((s.inaEvent 2 0 s.hws.position).trigger 2).issue (numberChain s.modeDigest (s.bothSegments far rs)) false false off (max s.ina.generation g) s.hws.mode
    else s := by
  have hguard : ¬(!s.hawserRuns || decide (s.ina.st ≠ .running) || s.inaugurating) = true := by simp [hruns, hst, hidle]
  unfold State.mergeStart
  rw [if_neg hguard, hmerge]
  exact if_neg (by rw [hleader]; decide)

theorem State.mergeStart_leads (hlt : s.ina.nonce < pn) (hfits : (numberChain s.modeDigest (s.bothSegments far rs)).notes.any (fun x => decide (x.1 = 1)) = false) :
    ∃ t d, exec (.mergeStart far pn g rs off fr) s = .next t ∧ t.now = s.now ∧ t.carSide = s.carSide ∧ t.ina.trigger = 2 ∧ t.ina.phase = .directory ∧ t.ina.pendingDir = some d ∧ d.generation = max s.ina.generation g + 1 ∧
      d.nonce = s.ina.nonce ∧ d.timeOffset = off ∧ d.countBased = false := by
  have heq := State.mergeStart_eq (far := far) (pn := pn) (g := g) (rs := rs) (off := off) (fr := fr) hruns hst hidle hmerge hleader
  rw [if_neg (by omega), if_pos hlt, if_neg (by rw [hfits]; decide)] at heq
  obtain ⟨hview, hkept, hphase, d, hdir, hgen, hnonce, hoff, hcount, -⟩ :=
    (s.inaEvent 2 0 s.hws.position).trigger_issue 2 (numberChain s.modeDigest (s.bothSegments far rs)) false false off (max s.ina.generation g) s.hws.mode
  rw [← heq] at hview hkept hphase hdir
  rw [State.inaEvent_view] at hview
  simp only [Inaug.kept, Prod.mk.injEq] at hkept
  obtain ⟨-, htrigger, -⟩ := hkept
  rw [State.inaEvent_ina] at hnonce
  exact ⟨_, d, rfl, (State.now_of_view hview :), (State.carSide_of_view hview :), htrigger, hphase, hdir, hgen, hnonce, hoff, hcount⟩

theorem State.mergeStart_refused (hlt : s.ina.nonce < pn) (hover : (numberChain s.modeDigest (s.bothSegments far rs)).notes.any (fun x => decide (x.1 = 1)) = true) :
    ∃ t, exec (.mergeStart far pn g rs off fr) s = .next t ∧ t.now = s.now ∧ t.carSide = s.carSide ∧ t.ina.mergeRefused = true ∧ t.ina.pendingDir = s.ina.pendingDir ∧ t.ina.cntRefusals = satInc 255 s.ina.cntRefusals := by
  have heq := State.mergeStart_eq (far := far) (pn := pn) (g := g) (rs := rs) (off := off) (fr := fr) hruns hst hidle hmerge hleader
  rw [if_neg (by omega), if_pos hlt, if_pos hover] at heq
  have hview : (s.mergeStart far pn g rs off fr).view = s.view := by rw [heq]; simp
  refine ⟨_, rfl, (State.now_of_view hview :), (State.carSide_of_view hview :), ?_⟩
  rw [State.draw_ina, heq, State.inaEvent_ina]
  exact ⟨rfl, rfl, rfl⟩

theorem State.mergeStart_retries (heven : pn = s.ina.nonce) :
    ∃ t, exec (.mergeStart far pn g rs off fr) s = .next t ∧ t.now = s.now ∧ t.carSide = s.carSide ∧ t.ina.nonce = fr % 2 ^ 64 ∧ t.ina.cntRetries = satInc 255 s.ina.cntRetries := by
  have heq := State.mergeStart_eq (far := far) (pn := pn) (g := g) (rs := rs) (off := off) (fr := fr) hruns hst hidle hmerge hleader
  rw [if_pos heven] at heq
  have hview : (s.mergeStart far pn g rs off fr).view = s.view := by rw [heq]; simp
  refine ⟨_, rfl, (State.now_of_view hview :), (State.carSide_of_view hview :), ?_⟩
  rw [State.draw_ina, heq, State.inaEvent_ina]
  exact ⟨rfl, rfl⟩

theorem State.mergeStart_waits (hgt : pn < s.ina.nonce) : s.mergeStart far pn g rs off fr = s := by
  rw [State.mergeStart_eq hruns hst hidle hmerge hleader, if_neg (by omega), if_neg (by omega)]

end

/-! ### The step of a joining segment (R314) -/

section
variable {d : Directory} {s : State} (hruns : s.hawserRuns = true) (hst : s.ina.st = .running) (hdir : s.ina.pendingDir = some d) (hnonce : s.ina.nonce ≠ d.nonce)

/-- A joining node sends nothing more, and its step waits. -/
def State.stepScheduled (d : Directory) (s : State) : State :=
  s.modHws fun h => { h with inSchedule := Vector.replicate 2 false, pendingStep := some (d.timeOffset * 65536), stepReady := decide (s.now ≤ s.lastSync + 3) }

include hruns hst hdir hnonce

theorem State.joinTimeStep_eq : s.joinTimeStep = (s.stepScheduled d).applyHwsStep := by
  unfold State.joinTimeStep
  rw [hdir]
  exact if_pos (by simp [hruns, hst, hnonce])

theorem State.joinTimeStep_ok :
    ∃ t, exec .joiningSegmentTimeStep s = .next t ∧ t.now = s.now ∧ t.carSide = s.carSide ∧ t.ina = s.ina ∧ (∀ c : Fin 2, t.hws.inSchedule[c] = false) ∧
      (s.lastSync + 3 < s.now → t.hws.pendingStep = some (d.timeOffset * 65536) ∧ t.hws.stepReady = false ∧ t.hws.clock = s.hws.clock) ∧
      (s.now ≤ s.lastSync + 3 → t.hws.pendingStep = none ∧ t.hws.clock.read s.now = s.hws.clock.read s.now + d.timeOffset * 65536 ∧ t.hws.faultEvent = 9) := by
  have heq := State.joinTimeStep_eq hruns hst hdir hnonce
  have hview : s.joinTimeStep.view = s.view := by simp
  have hup : s.hawserUp = true := by
    simp only [State.hawserRuns, Bool.and_eq_true] at hruns
    exact hruns.2
  by_cases hin : s.now ≤ s.lastSync + 3
  · have hstep := State.applyHwsStep_due (s := s.stepScheduled d) hup rfl (decide_eq_true hin) hin
    rw [← heq] at hstep
    have hina : s.joinTimeStep.ina = s.ina := by rw [hstep]; simp [State.hwsEvent, State.stepScheduled]
    have hhws : s.joinTimeStep.hws = { (s.stepScheduled d).hws with clock := s.hws.clock.step (d.timeOffset * 65536), pendingStep := none, stepReady := false, faultEvent := 9, faultPort := 0, faultChannel := 0, faultPosition := 0 } := by
      rw [hstep]
      simp [State.hwsEvent, State.stepScheduled]
    refine ⟨_, rfl, (State.now_of_view hview :), (State.carSide_of_view hview :), hina, fun c => ?_, fun hlate => absurd hlate (by omega), fun _ => ?_⟩
    · rw [State.draw_hws, hhws]
      simp [State.stepScheduled]
    · rw [State.draw_hws, hhws]
      exact ⟨rfl, Counter.step_read _ _ _, rfl⟩
  · have hwait : s.joinTimeStep = s.stepScheduled d := by
      rw [heq]
      exact if_neg (by simp [State.stepScheduled, hin])
    refine ⟨_, rfl, (State.now_of_view hview :), (State.carSide_of_view hview :), ?_, fun c => ?_, fun _ => ?_, fun hearly => absurd hearly hin⟩
    · rw [State.draw_ina, hwait]
      rfl
    · rw [State.draw_hws, hwait]
      simp [State.stepScheduled]
    · rw [State.draw_hws, hwait]
      exact ⟨rfl, decide_eq_false hin, rfl⟩

end

/-! ### Repair, deputy and split (R313, R316, R317) -/

theorem State.repairEnd_ok {t0 : Nat} {s : State} (hruns : s.hawserRuns = true) (hleader : s.ina.leader = true) (hidle : s.inaugurating = false) (hat : s.ina.repairAt = some t0) :
    ∃ t d, exec .ringRepairCollectEnd s = .next t ∧ t.now = max s.now (t0 + ms (cfgHierMergeWait s.params)) ∧ t.carSide = s.carSide ∧ t.ina.repairAt = none ∧ t.ina.trigger = 5 ∧ t.ina.pendingDir = some d ∧
      d.generation = s.ina.generation + 1 ∧ d.renumberingFree = true := by
  obtain ⟨num, u, hu, heq⟩ : ∃ num u, u = (s.advance (t0 + ms (cfgHierMergeWait s.params))).modIna (fun x => { x with repairAt := none }) ∧ s.repairEnd = (u.trigger 5).issue num false true 0 s.ina.generation s.hws.mode := by
    refine ⟨(s.advance (t0 + ms (cfgHierMergeWait s.params))).freeNumbering none, _, rfl, ?_⟩
    unfold State.repairEnd
    rw [hat]
    exact if_pos (by simp [hruns, hleader, hidle])
  obtain ⟨hview, hkept, -, d, hdir, hgen, -, -, -, hfree⟩ := u.trigger_issue 5 num false true 0 s.ina.generation s.hws.mode
  rw [← heq] at hview hkept hdir
  simp only [Inaug.kept, Prod.mk.injEq] at hkept
  obtain ⟨-, htrigger, hrepair, -⟩ := hkept
  refine ⟨_, d, rfl, (State.now_of_view hview).trans (by rw [hu]; rfl), (State.carSide_of_view hview).trans (by rw [hu]; rfl), hrepair.trans (by rw [hu]; rfl), htrigger, hdir, hgen, hfree⟩

theorem State.splitConfirm_ok {t0 : Nat} {s : State} (hruns : s.hawserRuns = true) (hleader : s.ina.leader = true) (hidle : s.inaugurating = false) (hmerge : s.ina.merge = none) (hat : s.ina.splitAt = some t0) :
    ∃ t d, exec .splitConfirmExpiry s = .next t ∧ t.now = max s.now (t0 + ms (cfgHierSplitConfirm s.params)) ∧ t.carSide = s.carSide ∧ t.ina.splitAt = none ∧ t.ina.trigger = 3 ∧ t.ina.pendingDir = some d ∧ d.generation = s.ina.generation + 1 := by
  obtain ⟨num, u, hu, heq⟩ : ∃ num u, u = (s.advance (t0 + ms (cfgHierSplitConfirm s.params))).modIna (fun x => { x with splitAt := none }) ∧ s.splitConfirm = (u.trigger 3).issue num false false 0 s.ina.generation s.hws.mode := by
    refine ⟨numberChain s.modeDigest (s.segmentChain (s.uncut s.hws.position)), _, rfl, ?_⟩
    unfold State.splitConfirm
    rw [hat, hmerge]
    exact if_pos (by simp [hruns, hleader, hidle])
  obtain ⟨hview, hkept, -, d, hdir, hgen, -, -, -, -⟩ := u.trigger_issue 3 num false false 0 s.ina.generation s.hws.mode
  rw [← heq] at hview hkept hdir
  simp only [Inaug.kept, Prod.mk.injEq] at hkept
  obtain ⟨-, htrigger, -, hsplit, -⟩ := hkept
  exact ⟨_, d, rfl, (State.now_of_view hview).trans (by rw [hu]; rfl), (State.carSide_of_view hview).trans (by rw [hu]; rfl), hsplit.trans (by rw [hu]; rfl), htrigger, hdir, hgen⟩

theorem State.deputyTakeover_ok {n : Nat} {s : State} (hruns : s.hawserRuns = true) (hpos : s.hws.position ≠ 0) (hmaster : s.isMaster = false) (hmissed : 2 ≤ s.hws.beaconMissed) (hdeputy : s.deputyOf = true) :
    ∃ t, exec (.deputyTakeover n) s = .next t ∧ t.now = s.now ∧ t.carSide = s.carSide ∧ t.hws.master = s.hws.position ∧ t.hws.beaconMissed = 0 ∧ t.ina.leader = true ∧ t.ina.tookOver = true ∧ t.ina.trigger = 7 ∧
      t.ina.generation = s.ina.generation + 1 ∧ t.ina.nonce = n % 2 ^ 64 ∧ t.ina.phase = .quiet ∧ t.ina.splitAt = some (s.ina.splitAt.getD s.now) := by
  obtain ⟨u, hu, heq⟩ : ∃ u, u = (s.modHws fun h => { h with master := h.position, beaconMissed := 0, holdover := false }).modIna (fun x => { x with
      leader := true, tookOver := true, trigger := 7, generation := x.generation + 1, nonce := n % 2 ^ 64, phase := .quiet, splitAt := some (x.splitAt.getD s.now) }) ∧
      s.deputyTakeover n = u.inaEvent 2 0 s.hws.position := by
    refine ⟨_, rfl, if_pos ?_⟩
    simp [hruns, hpos, hmaster, hmissed, hdeputy]
  have hview : (s.deputyTakeover n).view = s.view := by simp
  refine ⟨_, rfl, (State.now_of_view hview :), (State.carSide_of_view hview :), ?_⟩
  rw [State.draw_hws, State.draw_ina, heq, State.inaEvent_hws, State.inaEvent_ina, hu]
  exact ⟨rfl, rfl, rfl, rfl, rfl, rfl, rfl, rfl, rfl⟩

/-! ### Insertion at the leader (R318, R320) -/

theorem State.announce_ina (a m : Nat) (s : State) : (s.announce a m).ina = s.ina := by simp [State.announce, State.hwsEvent]

theorem State.announce_hws (a m : Nat) (s : State) : (s.announce a m).hws.switchPending = true ∧ (s.announce a m).hws.pendingMode = m := by simp [State.announce, State.hwsEvent]

/-- The grant of channel A names its position, and with a fallback the switch to it is announced. -/
theorem State.grantChannel_spec (p : Nat) (s : State) : ∃ gr, (s.grantChannel 0 p).ina.grant = some gr ∧ gr.position = p ∧ gr.channel = 0 ∧ (s.grantChannel 0 p).ina.insertion = s.ina.insertion ∧ (s.grantChannel 0 p).ina.faultEvent = 6 ∧
    (s.fallbackOf 0 ≠ 0xFF → (s.grantChannel 0 p).hws.switchPending = true ∧ (s.grantChannel 0 p).hws.pendingMode = s.fallbackOf 0) := by
  obtain ⟨t, ht⟩ : ∃ t, s.grantChannel 0 p = t := ⟨_, rfl⟩
  rw [ht]
  unfold State.grantChannel at ht
  extract_lets f u sw v at ht
  have hu : u.ina = s.ina ∧ (s.fallbackOf 0 ≠ 0xFF → u.hws.switchPending = true ∧ u.hws.pendingMode = s.fallbackOf 0) := by
    by_cases hf : f = 0xFF
    · rw [show u = s from if_pos hf]
      exact ⟨rfl, fun h => absurd hf h⟩
    · rw [show u = s.announce (s.hws.cycle + 1) f from if_neg hf]
      exact ⟨State.announce_ina _ _ s, fun _ => State.announce_hws _ _ s⟩
  have hina : t.ina = { v.ina with faultEvent := 6, faultCode := 1, faultPosition := p } := by
    rw [← ht, State.inaEvent_ina]
    rfl
  have hhws : t.hws = (v.queueAsync 0 (.grant p 0 sw)).hws := by rw [← ht, State.inaEvent_hws]; rfl
  refine ⟨⟨p, 0, sw, none, false⟩, by rw [hina]; rfl, rfl, rfl, ?_, by rw [hina], fun h => ?_⟩
  · rw [hina]
    show u.ina.insertion = s.ina.insertion
    rw [hu.1]
  · rw [hhws]
    exact hu.2 h

/-- The insertion that a request begins. -/
def State.insertionOf (p : Nat) (r : InaRequest) (s : State) : Insertion :=
  ⟨(s.insertPlace p r.report).1, s.hws.mode, r, (s.insertPlace p r.report).2.2, (s.insertPlace p r.report).2.1, if r.report.twinRunning then none else some s.now, false, 0⟩

section
variable {p : Nat} {r : InaRequest} {s : State} (hruns : s.hawserRuns = true) (hst : s.ina.st = .running) (hleader : s.ina.leader = true) (hcode : r.code = 1) (hnone : s.ina.insertion = none)
  (hidle : s.inaugurating = false) (hswitch : s.hws.switchPending = false)
include hruns hst hleader hcode hnone hidle hswitch

theorem State.leaderRequest_inserts : s.leaderRequest p r =
    if r.report.digest ≠ s.modeDigest then
      let t := (s.inaEvent 5 2 0).inaEvent 6 3 0
      if r.report.twinRunning then t else (t.trigger 4).issue (t.freeNumbering none) false true 0 t.ina.generation t.hws.mode
    else
      let t := s.modIna fun x => { x with insertion := some (s.insertionOf p r) }
      if r.report.twinRunning then t.grantChannel 0 (s.insertPlace p r.report).1 else t.insertDirectory (s.insertionOf p r) := by
  unfold State.leaderRequest
  rw [if_neg (by simp [hruns, hst]), if_neg (by rw [hleader]; decide), if_pos hcode, hnone]
  exact if_neg (by simp [hidle, hswitch])

theorem State.leaderRequest_grants (hdigest : r.report.digest = s.modeDigest) (htwin : r.report.twinRunning = true) :
    ∃ t gr, exec (.insertionRequest p r) s = .next t ∧ t.now = s.now ∧ t.carSide = s.carSide ∧ t.ina.insertion = some ⟨(s.insertPlace p r.report).1, s.hws.mode, r, (s.insertPlace p r.report).2.2, (s.insertPlace p r.report).2.1, none, false, 0⟩ ∧
      t.ina.grant = some gr ∧ gr.position = (s.insertPlace p r.report).1 ∧ gr.channel = 0 ∧ t.ina.faultEvent = 6 ∧ (s.fallbackOf 0 ≠ 0xFF → t.hws.switchPending = true ∧ t.hws.pendingMode = s.fallbackOf 0) := by
  have heq := State.leaderRequest_inserts (p := p) (r := r) hruns hst hleader hcode hnone hidle hswitch
  obtain ⟨u, hu⟩ : ∃ u, s.modIna (fun x => { x with insertion := some (s.insertionOf p r) }) = u := ⟨_, rfl⟩
  rw [if_neg (not_not_intro hdigest)] at heq
  dsimp only at heq
  rw [if_pos htwin, hu] at heq
  have hview : (s.leaderRequest p r).view = s.view := by simp
  obtain ⟨gr, hgrant, hgpos, hchan, hins, hfault, hfall⟩ := u.grantChannel_spec (s.insertPlace p r.report).1
  rw [← heq] at hgrant hins hfault hfall
  have hbegun : u.ina.insertion = some ⟨(s.insertPlace p r.report).1, s.hws.mode, r, (s.insertPlace p r.report).2.2, (s.insertPlace p r.report).2.1, none, false, 0⟩ := by
    rw [← hu, State.modIna_ina, State.insertionOf, htwin]
    rfl
  have hmode : u.fallbackOf 0 = s.fallbackOf 0 := by rw [← hu]; rfl
  rw [hmode] at hfall
  exact ⟨_, gr, rfl, (State.now_of_view hview :), (State.carSide_of_view hview :), hins.trans hbegun, hgrant, hgpos, hchan, hfault, hfall⟩

theorem State.leaderRequest_enters (hdigest : r.report.digest = s.modeDigest) (htwin : r.report.twinRunning = false) (hres : (s.insertPlace p r.report).2.1 = true) :
    ∃ t d, exec (.insertionRequest p r) s = .next t ∧ t.now = s.now ∧ t.carSide = s.carSide ∧ t.ina.insertion = some ⟨(s.insertPlace p r.report).1, s.hws.mode, r, (s.insertPlace p r.report).2.2, true, some s.now, false, 0⟩ ∧
      t.ina.grant = s.ina.grant ∧ t.ina.trigger = 4 ∧ t.ina.pendingDir = some d ∧ d.generation = s.ina.generation + 1 ∧ d.renumberingFree = true := by
  have heq := State.leaderRequest_inserts (p := p) (r := r) hruns hst hleader hcode hnone hidle hswitch
  have hi : s.insertionOf p r = ⟨(s.insertPlace p r.report).1, s.hws.mode, r, (s.insertPlace p r.report).2.2, true, some s.now, false, 0⟩ := by
    rw [State.insertionOf, htwin, hres]
    rfl
  obtain ⟨u, hu⟩ : ∃ u, s.modIna (fun x => { x with insertion := some (s.insertionOf p r) }) = u := ⟨_, rfl⟩
  rw [if_neg (not_not_intro hdigest)] at heq
  dsimp only at heq
  rw [if_neg (by rw [htwin]; decide), hu, hi, State.insertDirectory, if_pos (Or.inl rfl)] at heq
  have hview : (s.leaderRequest p r).view = s.view := by simp
  obtain ⟨-, hkept, -, d, hdir, hgen, -, -, -, hfree⟩ := u.trigger_issue 4 (u.freeNumbering (some ((s.insertPlace p r.report).1, r.report))) false true 0 u.ina.generation u.hws.mode
  have heq' : s.leaderRequest p r = (u.trigger 4).issue (u.freeNumbering (some ((s.insertPlace p r.report).1, r.report))) false true 0 u.ina.generation u.hws.mode := heq
  rw [← heq'] at hkept hdir
  simp only [Inaug.kept, Prod.mk.injEq] at hkept
  obtain ⟨-, htrigger, -, -, hins, hgrant⟩ := hkept
  have hbegun : u.ina.insertion = some (s.insertionOf p r) := by rw [← hu]; rfl
  refine ⟨_, d, rfl, (State.now_of_view hview :), (State.carSide_of_view hview :), hins.trans (hbegun.trans (by rw [hi])), hgrant.trans (by rw [← hu]; rfl), htrigger, hdir, hgen.trans (by rw [← hu]; rfl), hfree⟩

theorem State.leaderRequest_turnsAway (hdigest : r.report.digest ≠ s.modeDigest) (htwin : r.report.twinRunning = true) :
    ∃ t, exec (.insertionRequest p r) s = .next t ∧ t.now = s.now ∧ t.carSide = s.carSide ∧ t.ina.insertion = none ∧ t.ina.grant = s.ina.grant ∧ t.ina.pendingDir = s.ina.pendingDir ∧ t.ina.faultEvent = 6 ∧ t.ina.faultCode = 3 ∧ t.hws = s.hws := by
  have heq := State.leaderRequest_inserts (p := p) (r := r) hruns hst hleader hcode hnone hidle hswitch
  rw [if_pos hdigest] at heq
  dsimp only at heq
  rw [if_pos htwin] at heq
  have hview : (s.leaderRequest p r).view = s.view := by simp
  refine ⟨_, rfl, (State.now_of_view hview :), (State.carSide_of_view hview :), ?_⟩
  rw [State.draw_hws, State.draw_ina, heq, State.inaEvent_hws, State.inaEvent_hws, State.inaEvent_ina, State.inaEvent_ina]
  exact ⟨hnone, rfl, rfl, rfl, rfl, rfl⟩

end

/-- A running node that does not lead passes a request on to the leader. -/
theorem State.request_passedOn {s : State} (hruns : s.hawserRuns = true) (hst : s.ina.st = .running) (hleader : s.ina.leader = false) (p : Nat) (r : InaRequest) :
    s.leaderRequest p r = s.queueAsync s.hws.master (.request r) ∧ s.relayRequest r = s.queueAsync s.hws.master (.request r) := by
  refine ⟨?_, ?_⟩
  · unfold State.leaderRequest
    rw [if_neg (by simp [hruns, hst])]
    exact if_pos hleader
  · unfold State.relayRequest
    rw [if_pos (by simp [hruns, hst])]
    exact if_neg (by rw [hleader]; decide)

/-! ### A grant arrives, and a member comes back (R318, R321) -/

section
variable {p sw : Nat} {s : State} (hruns : s.hawserRuns = true)
include hruns

theorem State.grantReceive_eq : s.grantReceive p 0 sw =
    let t := s.modIna fun x => { x with grant := some ⟨p, 0, sw, none, false⟩ }
    if s.ina.stepA = .requested then (t.modIna fun x => { x with stepA := .granted }).inaEvent 6 1 p else t := by
  unfold State.grantReceive
  rw [if_neg (by rw [hruns]; decide)]
  by_cases hstep : s.ina.stepA = .requested
  · rw [if_pos hstep]
    exact if_pos (decide_eq_true hstep)
  · rw [if_neg hstep]
    exact if_neg (by simp [hstep])

theorem State.grantReceive_ok (hstep : s.ina.stepA = .requested) :
    ∃ t, exec (.grantReceive p 0 sw) s = .next t ∧ t.now = s.now ∧ t.carSide = s.carSide ∧ t.ina.grant = some ⟨p, 0, sw, none, false⟩ ∧ t.ina.stepA = .granted ∧ t.ina.faultEvent = 6 ∧ t.hws = s.hws := by
  have heq := State.grantReceive_eq (p := p) (sw := sw) hruns
  dsimp only at heq
  rw [if_pos hstep] at heq
  have hview : (s.grantReceive p 0 sw).view = s.view := by simp
  refine ⟨_, rfl, (State.now_of_view hview :), (State.carSide_of_view hview :), ?_⟩
  rw [State.draw_hws, State.draw_ina, heq, State.inaEvent_hws, State.inaEvent_ina]
  exact ⟨rfl, rfl, rfl, rfl⟩

theorem State.grantReceive_noted (hstep : s.ina.stepA ≠ .requested) : s.grantReceive p 0 sw = s.modIna fun x => { x with grant := some ⟨p, 0, sw, none, false⟩ } := by
  rw [State.grantReceive_eq hruns]
  exact if_neg hstep

end

/-- A channel that a member of the schedule has left (R321). -/
def State.outOf (c : Fin 2) (s : State) : Bool := s.ina.admitted[c] && !s.hws.inSchedule[c] && (decide (s.ina.st = .reintegrating) || s.hws.leftRaised[c])

theorem State.reintegrate_eq (s : State) : s.reintegrate =
    if s.hawserRuns && (decide (s.ina.st = .reintegrating) || decide (s.ina.st = .running)) && decide (s.hws.position ≠ 0) && (s.outOf 0 || s.outOf 1) && decide (2 ≤ s.hws.beaconRun) then
      ((s.modHws fun h => { h with inSchedule := Vector.ofFn fun c : Fin 2 => h.inSchedule[c] || s.outOf c, leftRaised := Vector.replicate 2 false, ownRun := Vector.replicate 2 0 }).modIna fun x => { x with st := .running }).hwsEvent 5 0 0 0
    else s := rfl

theorem State.reintegrate_ok {s : State} (hruns : s.hawserRuns = true) (hpos : s.hws.position ≠ 0) (hst : s.ina.st = .reintegrating ∨ s.ina.st = .running) (hrun : 2 ≤ s.hws.beaconRun)
    (hout : ∃ c : Fin 2, s.ina.admitted[c] = true ∧ s.hws.inSchedule[c] = false ∧ (s.ina.st = .reintegrating ∨ s.hws.leftRaised[c] = true)) :
    ∃ t, exec .reintegration s = .next t ∧ t.now = s.now ∧ t.carSide = s.carSide ∧ t.ina = { s.ina with st := .running } ∧ t.hws.faultEvent = 5 ∧
      ∀ c : Fin 2, t.hws.inSchedule[c] = (s.hws.inSchedule[c] || (s.ina.admitted[c] && (decide (s.ina.st = .reintegrating) || s.hws.leftRaised[c]))) := by
  have hleft : (s.outOf 0 || s.outOf 1) = true := by
    obtain ⟨c, hadm, hsched, hwhy⟩ := hout
    have hc : s.outOf c = true := by
      unfold State.outOf
      rw [hadm, hsched]
      simpa using hwhy
    fin_cases c
    · exact Bool.or_eq_true_iff.2 (Or.inl hc)
    · exact Bool.or_eq_true_iff.2 (Or.inr hc)
  have hst' : (decide (s.ina.st = .reintegrating) || decide (s.ina.st = .running)) = true := by simpa using hst
  have heq := s.reintegrate_eq
  rw [if_pos (by rw [hruns, hst', decide_eq_true hpos, hleft, decide_eq_true hrun]; rfl)] at heq
  have hview : s.reintegrate.view = s.view := by simp
  refine ⟨_, rfl, (State.now_of_view hview :), (State.carSide_of_view hview :), ?_, ?_, fun c => ?_⟩
  · rw [State.draw_ina, heq]
    simp [State.hwsEvent]
  · rw [State.draw_hws, heq]
    simp [State.hwsEvent]
  · rw [State.draw_hws, heq]
    simp only [State.hwsEvent, State.raise_hws, State.modHws_hws, State.modIna_hws, Fin.getElem_fin, Vector.getElem_ofFn]
    simp only [State.outOf, Fin.eta, Fin.getElem_fin]
    cases s.hws.inSchedule[c.val] <;> simp

theorem State.reintegrate_none {s : State} (h : s.hws.beaconRun < 2 ∨ (s.ina.st ≠ .reintegrating ∧ s.ina.st ≠ .running)) : s.reintegrate = s := by
  rw [State.reintegrate_eq]
  refine if_neg ?_
  rcases h with hrun | ⟨hre, hru⟩
  · have hfew : ¬2 ≤ s.hws.beaconRun := by omega
    simp [hfew]
  · simp [hre, hru]

/-- Settles O41: every clause is the branch of its command; a directory is issued with the nonce, the base of the generation and the trigger of the inauguration that it begins, and messages and events leave the rest of the inauguration. -/
theorem segmentsMergeSplitAndTakeIn : Obligations.SegmentsMergeSplitAndTakeIn := by
  unfold Obligations.SegmentsMergeSplitAndTakeIn
  refine ⟨fun far pn g rs off fr s hruns hst hidle hmerge hleader => ⟨State.mergeStart_leads hruns hst hidle hmerge hleader, State.mergeStart_refused hruns hst hidle hmerge hleader,
      State.mergeStart_retries hruns hst hidle hmerge hleader, fun hgt => ?_⟩,
    fun d s hruns hst hdir hnonce _ => State.joinTimeStep_ok hruns hst hdir hnonce, fun t0 s => State.repairEnd_ok, fun n s => State.deputyTakeover_ok, fun n s hmaster => ?_, fun t0 s => State.splitConfirm_ok,
    fun p r s => State.leaderRequest_grants, fun p r s => State.leaderRequest_enters, fun p r s => State.leaderRequest_turnsAway, fun p r s hruns hst hleader => ?_,
    fun p sw s => State.grantReceive_ok, fun p sw s hruns hstep => ?_, fun s => State.reintegrate_ok, fun s h => ?_⟩
  · exact congrArg State.complete (State.mergeStart_waits hruns hst hidle hmerge hleader hgt)
  · exact congrArg State.complete (if_neg (by simp [hmaster]))
  · obtain ⟨hasked, hrelayed⟩ := State.request_passedOn hruns hst hleader p r
    exact ⟨congrArg State.complete hasked, congrArg State.complete hrelayed⟩
  · exact congrArg State.complete (State.grantReceive_noted hruns hstep)
  · exact congrArg State.complete (State.reintegrate_none h)

end Sys2Proof.Machine
end

section
/-! PROOFS. The sync point: O56. -/

namespace Sys2Proof.Machine

/-- A running module with an empty plug in which two writes of one initiator wait for the sync point: one to the host area (R376), and behind it (R382) the command to erase slot 0. -/
def State.heldErase : State :=
  { State.reset with
    islands := Vector.replicate 34 ⟨true, 0, 0, none⟩
    start := { Start.reset with stage := .running }
    cfg := { Cfg.reset with state := 2 }
    plug := ⟨true, [], []⟩
    spl := { Splice.reset with held := [
      ⟨.udp 5 6, ⟨1, 1, 7, 0, 0, false, false, 0, 0x03032000, 4, 0, [1, 2, 3, 4]⟩⟩,
      ⟨.udp 5 6, ⟨1, 1, 8, 0, 0, false, false, 0, 0x0220003C, 4, 0, [5, 0, 0, 0]⟩⟩] } }

/-- The held write to CFG_COMMAND is performed at the sync point and notes the erasure in the plug's directory (R429). -/
theorem State.heldErase_plug : (State.heldErase.syncPoint .passed true).plug.nor.isEmpty = false := by decide +kernel

theorem exec_syncPoint_next (p : Pulse) (a : Bool) (s : State) : exec (.syncPoint p a) s = .next (s.syncPoint p a).draw := rfl

/-- Refutes O56, by its clause that the plug stands: a sync point performs the writes it has held (R376, R382), and one of them may be a CFG_COMMAND, which programs the plug's directory at once.
The clauses on the regions and the clocks are not what fails. -/
theorem not_syncPointSwitchesTheRegions : ¬ Obligations.SyncPointSwitchesTheRegions := by
  unfold Obligations.SyncPointSwitchesTheRegions
  intro ⟨_, _, hsync, _⟩
  obtain ⟨t, hexec, -, -, -, -, -, hplug, -⟩ := hsync .passed true State.heldErase
  rw [exec_syncPoint_next] at hexec
  injection hexec with ht
  subst ht
  have hnor : (State.heldErase.syncPoint .passed true).plug.nor = [] := by
    rw [← State.draw_plug, hplug]
    rfl
  have herased := State.heldErase_plug
  rw [hnor] at herased
  exact absurd herased (by decide)

end Sys2Proof.Machine
end

section
/-! PROOFS. The recorder: O50. -/

namespace Sys2Proof.Machine

/-! ### Records (R483) -/

theorem sealRec_length {n : Nat} (hn : 4 ≤ n) (b : List Byte) : (sealRec n b).length = n := by
  simp [sealRec]
  omega

theorem sealRec_take {n k : Nat} {b : List Byte} (hk : k ≤ n - 4) (hb : k ≤ b.length) : (sealRec n b).take k = b.take k := by
  have hlen : k ≤ ((b ++ List.replicate n (0 : Byte)).take (n - 4)).length := by simp; omega
  unfold sealRec
  rw [List.take_append_of_le_length hlen, List.take_take, Nat.min_eq_left hk, List.take_append_of_le_length hb]

theorem leBytes_four_take (v : Nat) (l : List Byte) : (leBytes 4 v ++ l).take 4 = leBytes 4 v := by
  rw [List.take_append_of_le_length (by simp), List.take_of_length_le (by simp)]

section
variable (s : State)

theorem State.eventRecord_length (n q l : Nat) (x : Intake) : (s.eventRecord n q l x).length = 64 := sealRec_length (by decide) _

theorem State.eventRecord_number (n q l : Nat) (x : Intake) : (s.eventRecord n q l x).take 4 = leBytes 4 n := by
  unfold State.eventRecord
  rw [sealRec_take (by decide) (by simp)]
  simp only [List.append_assoc]
  exact leBytes_four_take n _

theorem State.cycleRecord_length (n l : Nat) (x : Intake) : (s.cycleRecord n l x).length = 256 := sealRec_length (by decide) _

theorem State.cycleRecord_number (n l : Nat) (x : Intake) : (s.cycleRecord n l x).take 5 = leBytes 4 n ++ [1] := by
  unfold State.cycleRecord
  dsimp only
  rw [sealRec_take (by decide) (by simp)]
  simp only [List.append_assoc]
  rw [← List.append_assoc (leBytes 4 n), List.take_append_of_le_length (by simp), List.take_of_length_le (by simp)]
  rfl

/-! ### What the recorder's own operations leave (R476 to R479) -/

/-- The module beside the recorder, as its operations leave it. -/
def State.besideRecorder (s : State) := (s.now, s.params, s.hws, s.loop, s.slices)

/-- The recorder's buffer, numbers and copies, as the bookkeeping of losses and triggers leaves them. -/
def Logline.kept (l : Logline) := (l.buffer, l.next, l.turn, l.teach, l.journalFailed, l.ledgerFailed)

theorem State.logEvent_beside (e c d : Nat) : (s.logEvent e c d).besideRecorder = s.besideRecorder := by simp [State.logEvent, State.besideRecorder]

theorem State.logEvent_log (e c d : Nat) : (s.logEvent e c d).log = { s.log with faultEvent := e, faultCode := c, faultDetail := d } := by simp [State.logEvent]

theorem State.noteLosses_beside (q : Fin 18) (n : Nat) : (s.noteLosses q n).besideRecorder = s.besideRecorder := by
  unfold State.noteLosses
  dsimp only
  split
  · rfl
  · split
    · rw [State.logEvent_beside]
      rfl
    · rfl

theorem State.noteLosses_kept (q : Fin 18) (n : Nat) : (s.noteLosses q n).log.kept = s.log.kept := by
  unfold State.noteLosses
  dsimp only
  split
  · rfl
  · split
    · rw [State.logEvent_log]
      rfl
    · rfl

theorem State.flushTrigger_beside (n : Nat) : (s.flushTrigger n).besideRecorder = s.besideRecorder := rfl

theorem State.flushTrigger_kept (n : Nat) : (s.flushTrigger n).log.kept = s.log.kept := rfl

theorem State.pushRecord_beside (r : LogRec) : (s.pushRecord r).besideRecorder = s.besideRecorder := by
  unfold State.pushRecord
  dsimp only
  split <;> rfl

theorem State.pushRecord_kept (r : LogRec) :
    (s.pushRecord r).log.kept = (s.log.buffer ++ [r], s.log.next + 1, s.log.turn, s.log.teach, s.log.journalFailed, s.log.ledgerFailed) := by
  unfold State.pushRecord
  dsimp only
  split <;> rfl

/-! What an intake queue reads, beside the recorder -/

theorem State.setIntake_beside (q : Fin 18) (y : IntakeQ) :
    (s.setIntake q y).now = s.now ∧ (s.setIntake q y).params = s.params ∧ (s.setIntake q y).hws = s.hws ∧ (s.setIntake q y).log = s.log ∧ ∀ i : Fin 16, (s.setIntake q y).slices[i].portal = s.slices[i].portal := by
  unfold State.setIntake
  split
  next h =>
    refine ⟨rfl, rfl, rfl, rfl, fun i => ?_⟩
    by_cases hi : i.val = q.val
    · rw [State.modSlice_same hi]
    · rw [State.modSlice_other hi]
  next => split <;> exact ⟨rfl, rfl, rfl, rfl, fun _ => rfl⟩

/-- The queues as the recorder reads them. -/
def State.queues (s : State) := (s.slices, s.dq, s.mq)

theorem State.intake_queues {s t : State} (h : s.queues = t.queues) (q : Fin 18) : s.intake q = t.intake q := by
  simp only [State.queues, Prod.mk.injEq] at h
  obtain ⟨hs, hd, hm⟩ := h
  unfold State.intake
  rw [hs, hd, hm]

theorem State.noteLosses_intake {q : Fin 18} {n : Nat} (h : q ≠ 17 ∨ n = 0) : (s.noteLosses q n).intake q = s.intake q := by
  rcases h with hq | hn
  · have hq' : ¬(q.val ≥ 17) := fun hge => hq (Fin.ext (by show q.val = 17; omega))
    have hread : (s.noteLosses q n).slices = s.slices ∧ (s.noteLosses q n).dq = s.dq := by
      unfold State.noteLosses
      dsimp only
      repeat' split
      all_goals exact ⟨by simp [State.logEvent], by simp [State.logEvent, State.raise]⟩
    unfold State.intake
    rw [hread.1, hread.2]
    split
    · rfl
    · rw [if_pos (by omega), if_pos (by omega)]
  · rw [hn]
    rfl

theorem State.pushRecord_queues (r : LogRec) : (s.pushRecord r).queues = s.queues := by
  unfold State.pushRecord
  dsimp only
  split <;> rfl

/-! ### An entry is taken (R476, R477) -/

/-- A queue without its first entry, and the turn of the next one. -/
def State.taken (q : Fin 18) (rest : List Intake) (s : State) : State :=
  (s.setIntake q { s.intake q with entries := rest }).modLog fun l => { l with turn := (q.val + 1) % 18 }

/-- The losses that come with a record are told, and those of the buffer are shown by it. -/
def State.lossesShown (q : Fin 18) (x : Intake) (rest : List Intake) (s : State) : State :=
  ((s.taken q rest).noteLosses q x.lost).modLog fun l => { l with discarded := 0 }

theorem State.taken_fields (q : Fin 18) (rest : List Intake) :
    (s.taken q rest).now = s.now ∧ (s.taken q rest).params = s.params ∧ (s.taken q rest).hws = s.hws ∧ (∀ i : Fin 16, (s.taken q rest).slices[i].portal = s.slices[i].portal) ∧
    (s.taken q rest).log.kept = (s.log.buffer, s.log.next, (q.val + 1) % 18, s.log.teach, s.log.journalFailed, s.log.ledgerFailed) ∧ ((s.taken q rest).intake q).entries = rest := by
  obtain ⟨hnow, hparams, hhws, hlog, hportal⟩ := State.setIntake_beside s q { s.intake q with entries := rest }
  refine ⟨hnow, hparams, hhws, hportal, ?_, ?_⟩
  · show ({ (s.setIntake q { s.intake q with entries := rest }).log with turn := (q.val + 1) % 18 } : Logline).kept = _
    rw [hlog]
    rfl
  · have hread : (s.taken q rest).intake q = { s.intake q with entries := rest } := State.intake_setIntake q _ s
    rw [hread]

section
variable {q : Fin 18} {x : Intake} {rest : List Intake}

theorem State.lossesShown_fields (q : Fin 18) (x : Intake) (rest : List Intake) :
    (s.lossesShown q x rest).now = s.now ∧ (s.lossesShown q x rest).params = s.params ∧ (s.lossesShown q x rest).hws = s.hws ∧ (∀ i : Fin 16, (s.lossesShown q x rest).slices[i].portal = s.slices[i].portal) ∧
    (s.lossesShown q x rest).log.kept = (s.log.buffer, s.log.next, (q.val + 1) % 18, s.log.teach, s.log.journalFailed, s.log.ledgerFailed) ∧
    (q ≠ 17 ∨ x.lost = 0 → ((s.lossesShown q x rest).intake q).entries = rest) := by
  obtain ⟨hnow, hparams, hhws, hportal, hlog, hintake⟩ := s.taken_fields q rest
  have hbeside := (s.taken q rest).noteLosses_beside q x.lost
  simp only [State.besideRecorder, Prod.mk.injEq] at hbeside
  obtain ⟨hnow', hparams', hhws', -, hslices'⟩ := hbeside
  refine ⟨hnow'.trans hnow, hparams'.trans hparams, hhws'.trans hhws, fun i => ?_, ((s.taken q rest).noteLosses_kept q x.lost).trans hlog, fun h => ?_⟩
  · show ((s.taken q rest).noteLosses q x.lost).slices[i].portal = _
    rw [hslices']
    exact hportal i
  · show (((s.taken q rest).noteLosses q x.lost).intake q).entries = rest
    rw [State.noteLosses_intake _ h]
    exact hintake

variable (htakes : s.takes = true) (hq : s.nextQueue = some q) (hentries : (s.intake q).entries = x :: rest)
include htakes hq hentries

theorem State.recordTake_event (hkind : x.kind = 1) (hfit : s.log.fill + 64 ≤ bufferSize) :
    let u := s.lossesShown q x rest
    ∃ losses, s.recordTake = (if u.flushesOn x.src then (u.pushRecord ⟨u.log.next, false, q.val, u.eventRecord u.log.next q.val losses x⟩).flushTrigger 1
      else u.pushRecord ⟨u.log.next, false, q.val, u.eventRecord u.log.next q.val losses x⟩) := by
  have hroom : ¬bufferSize < s.log.fill + 64 := by omega
  refine ⟨min 255 (x.lost + (s.taken q rest).log.discarded), ?_⟩
  unfold State.recordTake
  simp only [htakes, hq, hentries, hkind, Bool.not_true, Bool.false_eq_true, if_false, Nat.reduceEqDiff, if_true, if_neg hroom]
  rfl

theorem State.recordTake_cycle (hkind : x.kind = 2) (hledger : s.log.ledgerFailed = false) (hfit : s.log.fill + 256 ≤ bufferSize) :
    let u := s.lossesShown q x rest
    ∃ losses, s.recordTake = u.pushRecord ⟨u.log.next, true, q.val, u.cycleRecord u.log.next losses x⟩ := by
  have hroom : ¬bufferSize < s.log.fill + 256 := by omega
  have hfail : (s.lossesShown q x rest).log.ledgerFailed = false := by
    obtain ⟨-, -, -, -, hlog, -⟩ := s.lossesShown_fields q x rest
    simp only [Logline.kept, Prod.mk.injEq] at hlog
    obtain ⟨-, -, -, -, -, hfailed⟩ := hlog
    rw [hfailed, hledger]
  refine ⟨min 255 (x.lost + (s.taken q rest).log.discarded), ?_⟩
  unfold State.recordTake
  simp only [htakes, hq, hentries, hkind, Bool.not_true, Bool.false_eq_true, if_false, Nat.reduceEqDiff, if_true, if_neg hroom]
  exact if_neg (show ¬(s.lossesShown q x rest).log.ledgerFailed = true by rw [hfail]; decide)

theorem State.recordTake_teach {r : AxisRecord} (hkind : x.kind = 3) (hr : x.axis = some r) (hfit : s.log.fill ≤ bufferSize) :
    s.recordTake = ((s.taken q rest).noteLosses q x.lost).storeTeach r := by
  have hroom : ¬bufferSize < s.log.fill + 0 := by omega
  unfold State.recordTake
  simp only [htakes, hq, hentries, hkind, hr, Bool.not_true, Bool.false_eq_true, if_false, Nat.reduceEqDiff, if_true, if_neg hroom]
  rfl

end

/-! ### The copies of an axis (R489) -/

/-- The copy written last, with the next generation, is the one in force. -/
theorem State.storeTeach_copy {r : AxisRecord} {a : Fin 48} (hr : r.axis = a.val) (hj : s.log.journalFailed = false) :
    (s.storeTeach r).log.teachCopy a = some (((s.log.teachCopy a).map fun y => y.1).getD 0 + 1, r) ∧ ∀ b : Fin 48, b ≠ a → (s.storeTeach r).log.teach[b] = s.log.teach[b] := by
  have hlt : r.axis < 48 ∧ !s.log.journalFailed := ⟨hr ▸ a.isLt, by rw [hj]; rfl⟩
  unfold State.storeTeach
  rw [dif_pos hlt]
  simp only [hr]
  refine ⟨?_, fun b hb => ?_⟩
  · unfold Logline.teachCopy
    obtain ⟨first, second, htwo⟩ : ∃ first second, s.log.teach[a.val] = #v[first, second] := ⟨s.log.teach[a.val][0], s.log.teach[a.val][1], by ext i hi; interval_cases i <;> rfl⟩
    simp only [Fin.getElem_fin, htwo, State.modLog_log, Vector.getElem_set_self]
    rcases first with _ | y <;> rcases second with _ | z
    · rfl
    · simp
    · simp
    · by_cases hyz : y.1 < z.1
      · have hzy : ¬z.1 < y.1 := by omega
        simp [hyz, hzy]
      · by_cases hzy : z.1 < y.1
        · simp [hyz, hzy]
        · have heq : y.1 = z.1 := by omega
          simp [heq]
  · simp [Fin.val_ne_of_ne hb.symm]

end

/-! ### Records go to their stores in the order of their numbers (R480, R490) -/

theorem mem_insertSeq {r x : LogRec} {l : List LogRec} : x ∈ insertSeq r l ↔ x = r ∨ x ∈ l := by
  induction l with
  | nil => simp [insertSeq]
  | cons y l ih =>
    unfold insertSeq
    split
    · simp
    · simp only [List.mem_cons, ih]
      tauto

theorem insertSeq_sorted {r : LogRec} {l : List LogRec} (h : l.Pairwise fun a b => a.seq ≤ b.seq) : (insertSeq r l).Pairwise fun a b => a.seq ≤ b.seq := by
  induction l with
  | nil => simp [insertSeq]
  | cons y l ih =>
    obtain ⟨hy, hl⟩ := List.pairwise_cons.1 h
    unfold insertSeq
    split
    next hr => exact List.pairwise_cons.2 ⟨fun x hx => by rcases List.mem_cons.1 hx with rfl | hx; exacts [hr, hr.trans (hy x hx)], h⟩
    next hr => exact List.pairwise_cons.2 ⟨fun x hx => by rcases mem_insertSeq.1 hx with rfl | hx; exacts [by omega, hy x hx], ih hl⟩

theorem foldr_insertSeq_sorted (l : List LogRec) : (l.foldr insertSeq []).Pairwise fun a b => a.seq ≤ b.seq := by
  induction l with
  | nil => exact List.Pairwise.nil
  | cons r l ih => exact insertSeq_sorted ih

/-- A record that comes before all of a list stands at its head. -/
theorem insertSeq_head {r : LogRec} {l : List LogRec} (h : ∀ x ∈ l, r.seq ≤ x.seq) : insertSeq r l = r :: l := by
  cases l with
  | nil => rfl
  | cons y l => exact if_pos (h y (by simp))

theorem foldr_insertSeq_of_sorted {l : List LogRec} (h : l.Pairwise fun a b => a.seq ≤ b.seq) : l.foldr insertSeq [] = l := by
  induction l with
  | nil => rfl
  | cons r l ih =>
    obtain ⟨hr, hl⟩ := List.pairwise_cons.1 h
    rw [List.foldr_cons, ih hl, insertSeq_head hr]

theorem filter_insertSeq (p : LogRec → Bool) (r : LogRec) {l : List LogRec} (h : l.Pairwise fun a b => a.seq ≤ b.seq) :
    (insertSeq r l).filter p = if p r then insertSeq r (l.filter p) else l.filter p := by
  induction l with
  | nil => cases hp : p r <;> simp [insertSeq, hp]
  | cons y l ih =>
    obtain ⟨hy, hl⟩ := List.pairwise_cons.1 h
    by_cases hr : r.seq ≤ y.seq
    · rw [show insertSeq r (y :: l) = r :: y :: l from if_pos hr, List.filter_cons]
      have hall : ∀ x ∈ (y :: l).filter p, r.seq ≤ x.seq := fun x hx => by
        rcases List.mem_cons.1 (List.mem_of_mem_filter hx) with rfl | hx
        exacts [hr, hr.trans (hy x hx)]
      rw [insertSeq_head hall]
    · rw [show insertSeq r (y :: l) = y :: insertSeq r l from if_neg hr, List.filter_cons, List.filter_cons, ih hl]
      cases hpy : p y
      · rfl
      · cases hpr : p r
        · rfl
        · exact (if_neg hr).symm

/-- The records of one store keep their order when those of both are put in the order of their numbers. -/
theorem filter_foldr_insertSeq (p : LogRec → Bool) (l : List LogRec) : (l.foldr insertSeq []).filter p = (l.filter p).foldr insertSeq [] := by
  induction l with
  | nil => rfl
  | cons r l ih =>
    rw [List.foldr_cons, filter_insertSeq p r (foldr_insertSeq_sorted l), ih, List.filter_cons]
    split <;> rfl

/-! ### Commits with room in both stores -/

/-- What a commit leaves of the recorder beside the stores and the fault registers. -/
def Logline.uncommitted (l : Logline) :=
  ((l.recording, l.stopped, l.bufferFull, l.turn, l.next, l.s, l.buffer, l.flush, l.flushNext, l.lastFlush), (l.badBlocks, l.controls, l.tail, l.teach, l.ledgerFailed, l.journalFailed, l.cntFlushes))

/-- Records have gone to the Ledger and to the Journal, neither is full, and nothing but the fault registers has changed with them. -/
def State.Stored (ls js : List LogRec) (s t : State) : Prop :=
  t.log.ledger = s.log.ledger ++ ls ∧ t.log.journal = s.log.journal ++ js ∧ t.log.ledgerFull = false ∧ t.log.journalFull = false ∧ t.log.uncommitted = s.log.uncommitted ∧ t.besideRecorder = s.besideRecorder

theorem State.Stored.trans {l l' j j' : List LogRec} {s t u : State} (h : s.Stored l j t) (h' : t.Stored l' j' u) : s.Stored (l ++ l') (j ++ j') u := by
  obtain ⟨hl, hj, -, -, hk, hb⟩ := h
  obtain ⟨hl', hj', hfl, hfj, hk', hb'⟩ := h'
  exact ⟨by rw [hl', hl, List.append_assoc], by rw [hj', hj, List.append_assoc], hfl, hfj, hk'.trans hk, hb'.trans hb⟩

theorem State.Stored.capacity {l j : List LogRec} {s t : State} (h : s.Stored l j t) : t.log.ledgerCapacity = s.log.ledgerCapacity := by
  obtain ⟨-, -, -, -, hk, -⟩ := h
  simp only [Logline.uncommitted, Prod.mk.injEq] at hk
  obtain ⟨-, hbad, -⟩ := hk
  unfold Logline.ledgerCapacity
  rw [hbad]

/-- The stores, their full flags and all that a commit leaves alone: an event of the recorder changes none of them. -/
def State.storeView (s : State) := (s.log.ledger, s.log.journal, s.log.ledgerFull, s.log.journalFull, s.log.uncommitted, s.besideRecorder)

/-- A record stands at the end of the Ledger. -/
def State.addLedger (r : LogRec) (s : State) : State := s.modLog fun l => { l with ledger := l.ledger ++ [r] }

theorem State.logEvent_storeView (e c d : Nat) (s : State) : (s.logEvent e c d).storeView = s.storeView := by
  rw [State.storeView, State.logEvent_log, State.logEvent_beside]
  rfl

section
variable {r : LogRec} {s : State} (hledger : s.log.ledgerFull = false) (hjournal : s.log.journalFull = false)
include hledger hjournal

theorem State.commit_ledger (hr : r.ledger = true) (hroom : s.log.ledger.length + 1 < s.log.ledgerCapacity) : s.Stored [r] [] (s.commit r) := by
  have hview : (s.commit r).storeView = (s.addLedger r).storeView := by
    have hcap : ¬(s.addLedger r).log.ledgerCapacity ≤ (s.addLedger r).log.ledger.length := by
      have hlen : (s.addLedger r).log.ledger.length = s.log.ledger.length + 1 := by simp [State.addLedger]
      have hsame : (s.addLedger r).log.ledgerCapacity = s.log.ledgerCapacity := rfl
      omega
    rw [State.commit, if_pos hr, State.commitLedger, if_neg (by rw [hledger]; decide)]
    change (ite ((s.addLedger r).log.ledgerCapacity ≤ (s.addLedger r).log.ledger.length) _ _ : State).storeView = _
    rw [if_neg hcap]
    split
    · exact State.logEvent_storeView _ _ _ _
    · rfl
  simp only [State.storeView, Prod.mk.injEq] at hview
  obtain ⟨hl, hj, hfl, hfj, hk, hb⟩ := hview
  exact ⟨hl, hj.trans (List.append_nil _).symm, hfl.trans hledger, hfj.trans hjournal, hk, hb⟩

theorem State.commit_journal (hr : r.ledger = false) (hroom : s.log.journal.length + 1 < journalCapacity) : s.Stored [] [r] (s.commit r) := by
  have hcap : ¬journalCapacity ≤ (s.modLog fun l => { l with journal := l.journal ++ [r] }).log.journal.length := by simp; omega
  rw [State.commit, if_neg (by rw [hr]; decide), State.commitJournal, if_neg hcap]
  exact ⟨(List.append_nil _).symm, rfl, hledger, hjournal, rfl, rfl⟩

end

theorem State.foldl_commit (items : List LogRec) (s : State) (hledger : s.log.ledgerFull = false) (hjournal : s.log.journalFull = false)
    (hl : s.log.ledger.length + (items.filter fun r => r.ledger).length < s.log.ledgerCapacity) (hj : s.log.journal.length + (items.filter fun r => !r.ledger).length < journalCapacity) :
    s.Stored (items.filter fun r => r.ledger) (items.filter fun r => !r.ledger) (items.foldl (fun s r => s.commit r) s) := by
  induction items generalizing s with
  | nil => exact ⟨(List.append_nil _).symm, (List.append_nil _).symm, hledger, hjournal, rfl, rfl⟩
  | cons r items ih =>
    rw [List.foldl_cons]
    cases hr : r.ledger
    · simp only [List.filter_cons, hr, Bool.not_false, Bool.false_eq_true, if_false, if_true, List.length_cons] at hl hj ⊢
      have hone := State.commit_journal hledger hjournal hr (by omega)
      have ⟨hled, hjou, hfl, hfj, _, _⟩ := hone
      refine State.Stored.trans hone (ih (s.commit r) hfl hfj ?_ ?_)
      · rw [hone.capacity, hled, List.append_nil]
        exact hl
      · rw [hjou, List.length_append, List.length_singleton]
        omega
    · simp only [List.filter_cons, hr, Bool.not_true, Bool.false_eq_true, if_false, if_true, List.length_cons] at hl hj ⊢
      have hone := State.commit_ledger hledger hjournal hr (by omega)
      have ⟨hled, hjou, hfl, hfj, _, _⟩ := hone
      refine State.Stored.trans hone (ih (s.commit r) hfl hfj ?_ ?_)
      · rw [hone.capacity, hled, List.length_append, List.length_singleton]
        omega
      · rw [hjou, List.append_nil]
        exact hj

/-! ### What a completed flush writes (R478, R480) -/

/-- A control copy written with the next generation in place of the copy not in force is the one in force. -/
theorem Logline.control_written {l : Logline} {c : ControlArea} (hvalid : c.valid = true) (hgen : c.gen = l.control.gen + 1) {k : Nat} (hk : k < 2) (hother : k = 1 - l.controlAt.val) :
    ({ l with controls := l.controls.set k c } : Logline).control = c := by
  by_cases hat : l.controls[1].valid && (!l.controls[0].valid || decide (l.controls[0].gen < l.controls[1].gen))
  · have hone : l.controlAt = 1 := if_pos hat
    have hgen' : c.gen = l.controls[1].gen + 1 := by simp [hgen, Logline.control, hone]
    have hlt : ¬c.gen < l.controls[1].gen := by omega
    obtain rfl : k = 0 := by rw [hother, hone]; rfl
    have hnew : ({ l with controls := l.controls.set 0 c } : Logline).controlAt = 0 := if_neg (by simp [hvalid, hlt])
    simp [Logline.control, hnew]
  · have hzero : l.controlAt = 0 := if_neg hat
    have hgen' : c.gen = l.controls[0].gen + 1 := by simp [hgen, Logline.control, hzero]
    have hlt : l.controls[0].gen < c.gen := by omega
    obtain rfl : k = 1 := by rw [hother, hzero]; rfl
    have hnew : ({ l with controls := l.controls.set 1 c } : Logline).controlAt = 1 := if_pos (by simp [hvalid, hlt])
    simp [Logline.control, hnew]

theorem Logline.writeControl_eq (f : ControlArea → ControlArea) {l : Logline} (h : l.journalFailed = false) :
    ∃ controls, l.writeControl f = { l with controls := controls } ∧ (l.writeControl f).control = { f l.control with valid := true, gen := l.control.gen + 1 } := by
  have hset : l.writeControl f = { l with controls := l.controls.set (1 - l.controlAt) { f l.control with valid := true, gen := l.control.gen + 1 } } := if_neg (by rw [h]; decide)
  refine ⟨_, hset, ?_⟩
  rw [hset]
  exact Logline.control_written rfl rfl _ rfl

/-- The copy in force, written with the same generation, stays in force. -/
theorem Logline.control_rewritten {l : Logline} {c : ControlArea} (hvalid : c.valid = l.control.valid) (hgen : c.gen = l.control.gen) {k : Nat} (hk : k < 2) (hsame : k = l.controlAt.val) :
    ({ l with controls := l.controls.set k c } : Logline).control = c := by
  by_cases hat : l.controls[1].valid && (!l.controls[0].valid || decide (l.controls[0].gen < l.controls[1].gen))
  · have hone : l.controlAt = 1 := if_pos hat
    obtain rfl : k = 1 := by rw [hsame, hone]; rfl
    have hkept : c.valid = l.controls[1].valid ∧ c.gen = l.controls[1].gen := by simp [hvalid, hgen, Logline.control, hone]
    have hnew : ({ l with controls := l.controls.set 1 c } : Logline).controlAt = 1 := if_pos (by simpa [hkept] using hat)
    simp [Logline.control, hnew]
  · have hzero : l.controlAt = 0 := if_neg hat
    obtain rfl : k = 0 := by rw [hsame, hzero]; rfl
    have hkept : c.valid = l.controls[0].valid ∧ c.gen = l.controls[0].gen := by simp [hvalid, hgen, Logline.control, hzero]
    have hnew : ({ l with controls := l.controls.set 0 c } : Logline).controlAt = 0 := if_neg (by simpa [hkept] using hat)
    simp [Logline.control, hnew]

/-- S goes into the control copy in force, which stays in force. -/
theorem Logline.putS_eq (n : Nat) {l : Logline} (h : l.journalFailed = false) :
    ∃ controls, l.putS n = { l with s := n, controls := controls } ∧ (l.putS n).control = { l.control with s := n } := by
  have hset : l.putS n = { l with s := n, controls := l.controls.set l.controlAt { l.control with s := n } } := by
    unfold Logline.putS
    rw [h]
    rfl
  refine ⟨_, hset, ?_⟩
  rw [hset]
  exact Logline.control_rewritten (l := { l with s := n }) (c := { l.control with s := n }) rfl rfl _ rfl

/-- What counts as committed rests on the stores and on which tail image is in force. -/
theorem Logline.committed_of {l m : Logline} (hj : m.journal = l.journal) (hl : m.ledger = l.ledger) (ht : m.tail = l.tail) (hat : m.control.tailAt = l.control.tailAt) (n : Nat) :
    m.committed n = l.committed n := by
  unfold Logline.committed Logline.stored Logline.programmed
  rw [hj, hl, ht]
  simp only [hat]

/-- S is counted on over committed numbers, to the first that is not, or to the end of the count. -/
theorem Logline.reach_spec (k s : Nat) (l : Logline) :
    s ≤ l.reach k s ∧ (∀ n, s < n → n ≤ l.reach k s → l.committed n = true) ∧ (l.reach k s = s + k ∨ l.committed (l.reach k s + 1) = false) := by
  induction k generalizing s with
  | zero => exact ⟨le_refl s, fun n hlo hhi => absurd (show n ≤ s from hhi) (by omega), Or.inl rfl⟩
  | succ k ih =>
    by_cases hc : l.committed (s + 1) = true
    · rw [show l.reach (k + 1) s = l.reach k (s + 1) from if_pos hc]
      obtain ⟨hle, hall, hend⟩ := ih (s + 1)
      refine ⟨by omega, fun n hlo hhi => ?_, hend.imp (by omega) id⟩
      by_cases hn : n = s + 1
      · rw [hn, hc]
      · exact hall n (by omega) hhi
    · rw [show l.reach (k + 1) s = s from if_neg hc]
      exact ⟨le_refl s, fun n hlo hhi => absurd hhi (by omega), Or.inr (by simpa using hc)⟩

/-- The present page stands in the tail image not in force. -/
def Logline.paged (l : Logline) : Logline := { l with tail := l.tail.set (1 - l.control.tailAt : Fin 2).val (l.ledger.drop l.programmed) }

/-- The write pointers, the flush state and the door cycles go with it into the control copy not in force. -/
def Logline.pointed (st : FlushState) (cycles : Vector Nat 16) (l : Logline) : Logline :=
  l.paged.writeControl fun c => { c with tailAt := 1 - l.control.tailAt, ledgerAt := l.programmed, journalAt := l.journal.length, flushState := st, doorCycles := cycles }

theorem Logline.saveStores_eq (st : FlushState) (cycles : Vector Nat 16) {l : Logline} (h : l.journalFailed = false) :
    l.saveStores st cycles = (l.pointed st cycles).putS ((l.pointed st cycles).reach l.next l.s) := by
  obtain ⟨c, hpointed, -⟩ := Logline.writeControl_eq (fun c => { c with tailAt := 1 - l.control.tailAt, ledgerAt := l.programmed, journalAt := l.journal.length, flushState := st, doorCycles := cycles })
    (l := l.paged) h
  have hnext : (l.pointed st cycles).next = l.next := by rw [Logline.pointed, hpointed]; rfl
  have hs : (l.pointed st cycles).s = l.s := by rw [Logline.pointed, hpointed]; rfl
  have hpaged : ({ l with tail := if l.journalFailed then l.tail else l.tail.set (1 - l.control.tailAt : Fin 2).val (l.ledger.drop l.programmed) } : Logline) = l.paged :=
    congrArg (fun t => ({ l with tail := t } : Logline)) (if_neg (by rw [h]; decide))
  rw [← hnext, ← hs]
  unfold Logline.saveStores
  extract_lets k m w
  rw [show w = l.pointed st cycles from congrArg (Logline.writeControl _) hpaged]

/-- The stores are saved with S counted on. -/
theorem Logline.saveStores_spec (st : FlushState) (cycles : Vector Nat 16) {l : Logline} (h : l.journalFailed = false) :
    ∃ m : Logline, l.saveStores st cycles = m ∧ (∃ controls tail, m = { l with controls := controls, tail := tail, s := m.s }) ∧
      (l.s ≤ m.s ∧ (∀ n, l.s < n → n ≤ m.s → m.committed n = true) ∧ (m.s = l.s + l.next ∨ m.committed (m.s + 1) = false)) ∧
      m.control.valid = true ∧ m.control.s = m.s ∧ m.control.ledgerAt = l.programmed ∧ m.control.journalAt = l.journal.length ∧ m.tail[m.control.tailAt] = l.ledger.drop l.programmed := by
  obtain ⟨c, hpointed, hcontrol⟩ := Logline.writeControl_eq (fun c => { c with tailAt := 1 - l.control.tailAt, ledgerAt := l.programmed, journalAt := l.journal.length, flushState := st, doorCycles := cycles })
    (l := l.paged) h
  change l.pointed st cycles = _ at hpointed
  change (l.pointed st cycles).control = _ at hcontrol
  obtain ⟨c', hput, hcontrol'⟩ := Logline.putS_eq ((l.pointed st cycles).reach l.next l.s) (l := l.pointed st cycles) (by rw [hpointed]; exact h)
  have hsave := Logline.saveStores_eq st cycles h
  rw [← hsave] at hput hcontrol'
  have hcommitted (n : Nat) : (l.saveStores st cycles).committed n = (l.pointed st cycles).committed n :=
    Logline.committed_of (by rw [hput]) (by rw [hput]) (by rw [hput]) (by rw [hcontrol']) n
  obtain ⟨hle, hall, hend⟩ := Logline.reach_spec l.next l.s (l.pointed st cycles)
  have hs : (l.saveStores st cycles).s = (l.pointed st cycles).reach l.next l.s := by rw [hput]
  refine ⟨_, rfl, ⟨c', l.paged.tail, ?_⟩, ⟨hs ▸ hle, fun n hlo hhi => ?_, ?_⟩, ?_⟩
  · rw [hs, hput, hpointed]
    rfl
  · rw [hcommitted]
    exact hall n hlo (hs ▸ hhi)
  · rw [hcommitted, hs]
    exact hend
  · have htail : (l.saveStores st cycles).tail = l.paged.tail := by rw [hput, hpointed]
    simp only [hcontrol', hcontrol, htail, hs, true_and]
    simp [Logline.paged]

/-! ### FLUSH_COMPLETE with room in both stores (R480, R490) -/

/-- A completed flush has taken its records out of the buffer, and the blocks that failed are marked bad. -/
def State.flushTaken (bad : Nat) (f : Flush) (s : State) : State :=
  s.modLog fun l => { l with
    buffer := l.buffer.filter (fun r => decide (f.upTo < r.seq))
    flush := none
    bufferFull := false
    badBlocks := min 262144 (l.badBlocks + bad)
    cntBad := min 255 (l.cntBad + bad) }

/-- The records that a flush covers. -/
def State.flushDue (f : Flush) (s : State) : List LogRec := s.log.buffer.filter fun r => decide (r.seq ≤ f.upTo)

/-- The records in their stores. -/
def State.flushStored (bad : Nat) (f : Flush) (s : State) : State :=
  (((s.flushDue f).filter (fun r => r.ledger) ++ (s.flushDue f).filter fun r => !r.ledger).foldr insertSeq []).foldl (fun s r => s.commit r) (s.flushTaken bad f)

theorem State.mirrorJournal_eq (rs : List LogRec) (s : State) :
    (∃ n, (s.mirrorJournal rs).log = { s.log with cntMirrorLost := n }) ∧ (s.mirrorJournal rs).now = s.now ∧ (s.mirrorJournal rs).slices = s.slices := by
  unfold State.mirrorJournal
  split
  · split
    · have hsent := foldl_keeps (fun t : State => (t.log, t.now, t.slices)) (fun (t : State) f => t.send ⟨.twin, 0, (t.header 0 false false 0 0), .journalMirror f⟩) (fun _ _ => rfl) (mirrorFrames rs.length rs) s
      simp only [Prod.mk.injEq] at hsent
      obtain ⟨hlog, hnow, hslices⟩ := hsent
      exact ⟨⟨s.log.cntMirrorLost, hlog⟩, hnow, hslices⟩
    · exact ⟨⟨_, rfl⟩, rfl, rfl⟩
  · exact ⟨⟨s.log.cntMirrorLost, rfl⟩, rfl, rfl⟩

section
variable {bad : Nat} {f : Flush} {s : State} (hup : s.mssUp = true) (hflush : s.log.flush = some f) (hledger : s.log.ledgerFailed = false) (hjournal : s.log.journalFailed = false)
  (hfullL : s.log.ledgerFull = false) (hfullJ : s.log.journalFull = false) (hsorted : s.log.buffer.Pairwise fun a b => a.seq ≤ b.seq)
  (hroomL : s.log.ledger.length + ((s.flushDue f).filter fun r => r.ledger).length < (262144 - min 262144 (s.log.badBlocks + bad)) * 64 * 16)
  (hroomJ : s.log.journal.length + ((s.flushDue f).filter fun r => !r.ledger).length < journalCapacity)

include hfullL hfullJ hsorted hroomL hroomJ in
/-- With room in both stores, the records of each keep the order of the buffer. -/
theorem State.flushStored_stored : (s.flushTaken bad f).Stored ((s.flushDue f).filter fun r => r.ledger) ((s.flushDue f).filter fun r => !r.ledger) (s.flushStored bad f) := by
  have hdue (p : LogRec → Bool) : ((s.flushDue f).filter p).Pairwise fun a b => a.seq ≤ b.seq := (hsorted.filter _).filter p
  have hl : ((((s.flushDue f).filter (fun r => r.ledger) ++ (s.flushDue f).filter fun r => !r.ledger).foldr insertSeq []).filter fun r => r.ledger) = (s.flushDue f).filter fun r => r.ledger := by
    rw [filter_foldr_insertSeq, List.filter_append, List.filter_filter, List.filter_filter]
    simpa using foldr_insertSeq_of_sorted (hdue fun r => r.ledger)
  have hj : ((((s.flushDue f).filter (fun r => r.ledger) ++ (s.flushDue f).filter fun r => !r.ledger).foldr insertSeq []).filter fun r => !r.ledger) = (s.flushDue f).filter fun r => !r.ledger := by
    rw [filter_foldr_insertSeq, List.filter_append, List.filter_filter, List.filter_filter]
    simpa using foldr_insertSeq_of_sorted (hdue fun r => !r.ledger)
  have hstored := State.foldl_commit (((s.flushDue f).filter (fun r => r.ledger) ++ (s.flushDue f).filter fun r => !r.ledger).foldr insertSeq []) (s.flushTaken bad f) hfullL hfullJ
    (by rw [hl]; exact hroomL) (by rw [hj]; exact hroomJ)
  rw [hl, hj] at hstored
  exact hstored

include hup hflush hledger hjournal hfullJ hroomJ in

theorem State.flushComplete_eq (hkept : (s.flushStored bad f).log.ledgerFailed = false) : ∃ rs st cycles took, s.flushComplete bad =
    ((s.flushStored bad f).mirrorJournal rs).modLog fun l => { l.saveStores st cycles with flushTook := took, flushTrigger := f.trigger, cntFlushes := satInc 255 l.cntFlushes } := by
  have hroom : ((s.flushDue f).filter fun r => !r.ledger).length ≤ journalCapacity - s.log.journal.length := by omega
  have htake : ((s.flushDue f).filter fun r => !r.ledger).take (journalCapacity - s.log.journal.length) = (s.flushDue f).filter fun r => !r.ledger := List.take_of_length_le hroom
  have hdrop : ((s.flushDue f).filter fun r => !r.ledger).drop (journalCapacity - s.log.journal.length) = [] := List.drop_of_length_le hroom
  have hfail : ¬(s.flushTaken bad f).log.ledgerFailed = true := by rw [show (s.flushTaken bad f).log.ledgerFailed = s.log.ledgerFailed from rfl, hledger]; decide
  obtain ⟨t, ht⟩ : ∃ t, s.flushComplete bad = t := ⟨_, rfl⟩
  rw [ht]
  unfold State.flushComplete at ht
  rw [hflush] at ht
  dsimp -zeta only at ht
  rw [if_neg (by rw [hup]; decide)] at ht
  extract_lets due u due' js room left items v v' w last st cycles at ht
  have hdue' : due' = s.flushDue f := if_neg hfail
  have hjs : js = (s.flushDue f).filter fun r => !r.ledger := congrArg (List.filter fun r => !r.ledger) hdue'
  have hroom' : room = journalCapacity - s.log.journal.length := if_neg (show ¬(s.log.journalFailed || s.log.journalFull) = true by rw [hjournal, hfullJ]; decide)
  have hleft : left = [] := by
    show js.drop room = []
    rw [hjs, hroom', hdrop]
  have hitems : items = ((s.flushDue f).filter (fun r => r.ledger) ++ (s.flushDue f).filter fun r => !r.ledger).foldr insertSeq [] := by
    have hcarriers : (if u.log.ledgerFailed then [] else carriers left.length left) = [] := (if_neg hfail).trans (by rw [hleft]; rfl)
    show List.foldr insertSeq [] (due'.filter (fun r => r.ledger) ++ js.take room ++ (if u.log.ledgerFailed then [] else carriers left.length left)) = _
    rw [hdue', hjs, hroom', htake, hcarriers, List.append_nil]
  have hv : v = s.flushStored bad f := congrArg (List.foldl (fun s r => State.commit r s) (s.flushTaken bad f)) hitems
  have hv' : v' = s.flushStored bad f := (if_neg (by rw [hv, hkept]; decide)).trans hv
  have hw : w = (s.flushStored bad f).mirrorJournal (js.filter fun r => v'.log.holds r.seq) := congrArg (State.mirrorJournal (js.filter fun r => v'.log.holds r.seq)) hv'
  refine ⟨js.filter fun r => v'.log.holds r.seq, st, cycles, min 65535 ((w.now - f.at_) / 10000), ?_⟩
  rw [← hw]
  exact ht.symm

include hup hflush hledger hjournal hfullL hfullJ hsorted hroomL hroomJ in

theorem State.flushComplete_room :
    ∃ t, exec (.flushComplete bad) s = .next t ∧ t.now = s.now ∧ t.slices = s.slices ∧ t.log.buffer = s.log.buffer.filter (fun r => decide (f.upTo < r.seq)) ∧ t.log.ledger = s.log.ledger ++ (s.flushDue f).filter (fun r => r.ledger) ∧
      t.log.journal = s.log.journal ++ (s.flushDue f).filter (fun r => !r.ledger) ∧ t.log.flush = none ∧ t.log.flushTrigger = f.trigger ∧ t.log.bufferFull = false ∧
      (s.log.s ≤ t.log.s ∧ (∀ n, s.log.s < n → n ≤ t.log.s → t.log.committed n = true) ∧ (t.log.s = s.log.s + s.log.next ∨ t.log.committed (t.log.s + 1) = false)) ∧
      t.log.control.valid = true ∧ t.log.control.s = t.log.s ∧ t.log.control.ledgerAt = t.log.programmed ∧ t.log.control.journalAt = t.log.journal.length ∧ t.log.tail[t.log.control.tailAt] = t.log.ledger.drop t.log.programmed ∧
      t.log.cntFlushes = satInc 255 s.log.cntFlushes := by
  obtain ⟨hl, hj, -, -, hkept, hbeside⟩ := State.flushStored_stored hfullL hfullJ hsorted hroomL hroomJ
  simp only [Logline.uncommitted, Prod.mk.injEq] at hkept
  obtain ⟨⟨-, -, hbuffull, -, hnext, hs, hbuffer, hfl, -, -⟩, -, -, -, -, hlf, hjf, hcnt⟩ := hkept
  simp only [State.besideRecorder, Prod.mk.injEq] at hbeside
  obtain ⟨hnow, -, -, -, hslices⟩ := hbeside
  obtain ⟨rs, st, cycles, took, hflushed⟩ := State.flushComplete_eq hup hflush hledger hjournal hfullJ hroomJ (hlf.trans hledger)
  obtain ⟨⟨lost, hlog⟩, hnow', hslices'⟩ := State.mirrorJournal_eq rs (s.flushStored bad f)
  have hfail : (State.mirrorJournal rs (s.flushStored bad f)).log.journalFailed = false := by rw [hlog]; exact hjf.trans hjournal
  obtain ⟨saved, hsaved, ⟨c, tl, hsave⟩, ⟨hle, hall, hend⟩, hvalid, hcs, hat, hjat, htail⟩ := Logline.saveStores_spec st cycles hfail
  have hlogT : (s.flushComplete bad).draw.log = { saved with flushTook := took, flushTrigger := f.trigger, cntFlushes := satInc 255 (State.mirrorJournal rs (s.flushStored bad f)).log.cntFlushes } := by
    rw [hflushed, ← hsaved]
    rfl
  have hcommitted (n : Nat) : (s.flushComplete bad).draw.log.committed n = saved.committed n := by
    rw [hlogT]
    exact Logline.committed_of rfl rfl rfl rfl n
  have hstores : saved.ledger = (State.mirrorJournal rs (s.flushStored bad f)).log.ledger ∧ saved.journal = (State.mirrorJournal rs (s.flushStored bad f)).log.journal := by rw [hsave]; exact ⟨rfl, rfl⟩
  have hsaves : (State.mirrorJournal rs (s.flushStored bad f)).log.s = s.log.s := by rw [hlog]; exact hs
  rw [hsaves] at hle hall hend
  refine ⟨_, rfl, ?_, ?_, ?_, ?_, ?_, ?_, ?_, ?_, ⟨?_, fun k hlo hhi => ?_, ?_⟩, ?_, ?_, ?_, ?_, ?_, ?_⟩
  · show (s.flushComplete bad).now = s.now
    rw [hflushed]
    exact hnow'.trans hnow
  · show (s.flushComplete bad).slices = s.slices
    rw [hflushed]
    exact hslices'.trans hslices
  · rw [hlogT, hsave, hlog]
    exact hbuffer
  · rw [hlogT]
    exact hstores.1.trans (by rw [hlog]; exact hl)
  · rw [hlogT]
    exact hstores.2.trans (by rw [hlog]; exact hj)
  · rw [hlogT, hsave, hlog]
    exact hfl
  · rw [hlogT]
  · rw [hlogT, hsave, hlog]
    exact hbuffull
  · rw [hlogT]
    exact hle
  · rw [hcommitted]
    rw [hlogT] at hhi
    exact hall k hlo hhi
  · rw [hcommitted, hlogT]
    show saved.s = _ ∨ saved.committed (saved.s + 1) = false
    refine hend.imp_left fun h => h.trans ?_
    rw [hlog]
    exact congrArg (s.log.s + ·) hnext
  · rw [hlogT]
    exact hvalid
  · rw [hlogT]
    exact hcs
  · rw [hlogT]
    refine hat.trans ?_
    show _ = saved.programmed
    unfold Logline.programmed
    rw [hstores.1]
  · rw [hlogT]
    exact hjat.trans (congrArg List.length hstores.2.symm)
  · refine (congrArg (fun l : Logline => l.tail[l.control.tailAt]) hlogT).trans (htail.trans ?_)
    rw [hlogT]
    show _ = saved.ledger.drop saved.programmed
    unfold Logline.programmed
    rw [hstores.1]
  · rw [hlogT, hlog]
    exact congrArg (satInc 255) hcnt

end

/-! ### The recorder starts (R498) -/

/-- What a start reads from the control area and the stores. -/
def Logline.started (now : Nat) (l : Logline) : Logline :=
  let c := l.control
  { l with
    recording := true, stopped := false, ledgerFailed := false, journalFailed := false, ledgerCause := 0, journalCause := 0,
    s := if c.valid then max l.s c.s else l.s, next := max l.next (max l.written (if c.valid then max l.s c.s else l.s) + 1), lastFlush := now,
    ledger := l.ledger.take l.programmed ++ (if l.programmed = c.ledgerAt then l.tail[c.tailAt] else [])
    unclean := decide (c.flushState ≠ .complete) }

/-- How the recorder had ended tells E244. -/
def State.uncleanTold (f : FlushState) (s : State) : State :=
  match f with
  | .complete => s
  | .started => s.logEvent 4 2 0
  | .running => s.logEvent 4 1 0

section
variable {s : State} (hup : s.mssUp = true) (hrec : s.log.recording = false)

theorem State.uncleanTold_spec (f : FlushState) (s : State) : (s.uncleanTold f).besideRecorder = s.besideRecorder ∧
    ∃ e c d, (s.uncleanTold f).log = { s.log with faultEvent := e, faultCode := c, faultDetail := d } ∧
      (f = .running → e = 4 ∧ c = 1) ∧ (f = .started → e = 4 ∧ c = 2) ∧ (f = .complete → e = s.log.faultEvent) := by
  cases f
  case complete => exact ⟨rfl, _, _, _, rfl, nofun, nofun, fun _ => rfl⟩
  case started => exact ⟨s.logEvent_beside 4 2 0, _, _, _, s.logEvent_log 4 2 0, nofun, fun _ => ⟨rfl, rfl⟩, nofun⟩
  case running => exact ⟨s.logEvent_beside 4 1 0, _, _, _, s.logEvent_log 4 1 0, fun _ => ⟨rfl, rfl⟩, nofun, nofun⟩

include hup hrec

theorem State.recorderStart_valid (hvalid : s.log.control.valid = true) :
    s.recorderStart = ((s.modLog fun l => l.started s.now).modLog fun l => l.writeControl fun c => { c with flushState := .running }).uncleanTold s.log.control.flushState := by
  unfold State.recorderStart
  rw [if_neg (by simp [hup, hrec])]
  extract_lets c t u
  have hu : u = (s.modLog fun l => l.started s.now).modLog fun l => l.writeControl fun c => { c with flushState := .running } := if_pos hvalid
  rw [← hu]
  clear_value u
  show _ = State.uncleanTold c.flushState u
  cases c.flushState <;> rfl

theorem State.recorderStart_invalid (hvalid : s.log.control.valid = false) :
    s.recorderStart = ((s.modLog fun l => l.started s.now).storeFailure true 3).uncleanTold s.log.control.flushState := by
  unfold State.recorderStart
  rw [if_neg (by simp [hup, hrec])]
  extract_lets c t u
  have hu : u = (s.modLog fun l => l.started s.now).storeFailure true 3 := if_neg (by rw [show c.valid = false from hvalid]; decide)
  rw [← hu]
  clear_value u
  show _ = State.uncleanTold c.flushState u
  cases c.flushState <;> rfl

end

/-- A failing Journal beside a sound Ledger. -/
theorem State.storeFailure_journal {s : State} (hup : s.mssUp = true) (hj : s.log.journalFailed = false) (hl : s.log.ledgerFailed = false) (cause : Nat) :
    (s.storeFailure true cause).besideRecorder = s.besideRecorder ∧
    ∃ e c d, (s.storeFailure true cause).log = { s.log with journalFailed := true, journalCause := cause % 16, faultEvent := e, faultCode := c, faultDetail := d } := by
  have hguard : (!s.mssUp || (if true then s.log.journalFailed else s.log.ledgerFailed)) = false := by simp [hup, hj]
  unfold State.storeFailure
  rw [if_neg (by rw [hguard]; decide)]
  extract_lets u v
  have hu : u = s.modLog fun l => { l with journalFailed := true, journalCause := cause % 16 } := rfl
  have huf : u.log.ledgerFailed = false := hl
  have hv : v.log.ledgerFailed = false ∧ v.besideRecorder = s.besideRecorder ∧ ∃ e c d, v.log = { s.log with journalFailed := true, journalCause := cause % 16, faultEvent := e, faultCode := c, faultDetail := d } := by
    by_cases hfull : (true && u.log.ledgerFull) = true
    · rw [show v = u from if_pos hfull]
      exact ⟨huf, rfl, _, _, _, rfl⟩
    · rw [show v = u.logEvent 0 2 u.log.causes from if_neg hfull]
      exact ⟨by rw [State.logEvent_log]; exact huf, by rw [State.logEvent_beside]; rfl, _, _, _, State.logEvent_log _ _ _ _⟩
  clear_value v
  obtain ⟨hfail, hbeside, e, c, d, hlog⟩ := hv
  rw [if_neg (by rw [hfail]; simp)]
  split
  · exact ⟨(State.logEvent_beside _ _ _ _).trans hbeside, _, _, _, by rw [State.logEvent_log, hlog]⟩
  · exact ⟨hbeside, e, c, d, hlog⟩

section
variable {s : State} (hup : s.mssUp = true) (hrec : s.log.recording = false)
include hup hrec

/-- A start without a valid control copy fails the Journal with cause 3. -/
theorem State.recorderStart_fails (hvalid : s.log.control.valid = false) :
    ∃ t, exec .recorderStart s = .next t ∧ t.now = s.now ∧ t.slices = s.slices ∧ t.params = s.params ∧ t.hws = s.hws ∧ t.loop = s.loop ∧ t.log.recording = true ∧ t.log.journalFailed = true ∧ t.log.journalCause = 3 ∧ t.log.ledgerFailed = false := by
  have hstart := State.recorderStart_invalid hup hrec hvalid
  obtain ⟨hbeside, e, c, d, hlog⟩ := State.storeFailure_journal (s := s.modLog fun l => l.started s.now) hup rfl rfl 3
  obtain ⟨hbeside', e', c', d', hlog', -⟩ := State.uncleanTold_spec s.log.control.flushState ((s.modLog fun l => l.started s.now).storeFailure true 3)
  rw [← hstart, hbeside] at hbeside'
  rw [← hstart, hlog] at hlog'
  simp only [State.besideRecorder, Prod.mk.injEq] at hbeside'
  obtain ⟨hnow, hparams, hhws, hloop, hslices⟩ := hbeside'
  refine ⟨_, rfl, hnow, hslices, hparams, hhws, hloop, ?_⟩
  rw [State.draw_log, hlog']
  exact ⟨rfl, rfl, rfl, rfl⟩

theorem State.recorderStart_runs (hvalid : s.log.control.valid = true) :
    ∃ t, exec .recorderStart s = .next t ∧ t.now = s.now ∧ t.slices = s.slices ∧ t.params = s.params ∧ t.hws = s.hws ∧ t.loop = s.loop ∧ t.log.recording = true ∧ t.log.ledgerFailed = false ∧ t.log.journalFailed = false ∧
      t.log.s = max s.log.s s.log.control.s ∧ t.log.next = max s.log.next (max s.log.written (max s.log.s s.log.control.s) + 1) ∧
      t.log.ledger = s.log.ledger.take s.log.programmed ++ (if s.log.programmed = s.log.control.ledgerAt then s.log.tail[s.log.control.tailAt] else []) ∧
      t.log.control.flushState = .running ∧ t.log.unclean = decide (s.log.control.flushState ≠ .complete) ∧ (s.log.control.flushState = .running → t.log.faultEvent = 4 ∧ t.log.faultCode = 1) ∧
      (s.log.control.flushState = .started → t.log.faultEvent = 4 ∧ t.log.faultCode = 2) ∧ (s.log.control.flushState = .complete → t.log.faultEvent = s.log.faultEvent) := by
  have hstart := State.recorderStart_valid hup hrec hvalid
  obtain ⟨controls, hwritten, hcontrol⟩ := Logline.writeControl_eq (fun c => { c with flushState := .running }) (l := s.log.started s.now) rfl
  obtain ⟨hbeside, e, c, d, hlog, hrunning, hstarted, hcomplete⟩ :=
    State.uncleanTold_spec s.log.control.flushState ((s.modLog fun l => l.started s.now).modLog fun l => l.writeControl fun c => { c with flushState := .running })
  rw [← hstart] at hbeside hlog
  simp only [State.besideRecorder, Prod.mk.injEq] at hbeside
  obtain ⟨hnow, hparams, hhws, hloop, hslices⟩ := hbeside
  have hs : (s.log.started s.now).s = max s.log.s s.log.control.s := if_pos hvalid
  have hnext : (s.log.started s.now).next = max s.log.next (max s.log.written (max s.log.s s.log.control.s) + 1) := by
    rw [← hs]
    rfl
  have hlog' : s.recorderStart.log = { (s.log.started s.now).writeControl (fun c => { c with flushState := .running }) with faultEvent := e, faultCode := c, faultDetail := d } := hlog
  have hwrites : s.recorderStart.log = { s.log.started s.now with controls := controls, faultEvent := e, faultCode := c, faultDetail := d } := by rw [hlog', hwritten]
  refine ⟨_, rfl, hnow, hslices, hparams, hhws, hloop, ?_⟩
  rw [State.draw_log, hwrites]
  refine ⟨rfl, rfl, rfl, hs, hnext, rfl, ?_, rfl, hrunning, hstarted, fun h => (hcomplete h).trans ?_⟩
  · rw [hwritten] at hcontrol
    exact congrArg ControlArea.flushState hcontrol
  · show ((s.log.started s.now).writeControl fun c => { c with flushState := .running }).faultEvent = s.log.faultEvent
    rw [hwritten]
    rfl

end

/-! ### What else comes to the recorder (R479, R481, R482, R495) -/

theorem State.restartRecovery_ok (failed : List Nat) {s : State} (hup : s.mssUp = true) (hrec : s.log.recording = false) :
    ∃ t, exec (.mssIslandRestartRecovery failed) s = .next t ∧ t.now = s.now ∧ t.slices = s.slices ∧ t.params = s.params ∧ t.hws = s.hws ∧ t.loop = s.loop ∧ t.log.buffer = s.log.buffer.filter (fun r => decide (r.seq ∉ failed)) ∧
      t.log.discarded = s.log.discarded + (s.log.buffer.filter fun r => decide (r.seq ∈ failed)).length ∧ (t.log.buffer ≠ [] → t.log.flushNext.isSome = true) := by
  obtain ⟨t, ht⟩ : ∃ t, s.restartRecovery failed = t := ⟨_, rfl⟩
  have hexec : exec (.mssIslandRestartRecovery failed) s = .next t.draw := congrArg State.complete ht
  unfold State.restartRecovery at ht
  rw [if_neg (by simp [hup, hrec])] at ht
  extract_lets bad u v at ht
  have hv : v.besideRecorder = s.besideRecorder ∧ v.log.buffer = s.log.buffer.filter (fun r => decide (r.seq ∉ failed)) ∧ v.log.discarded = s.log.discarded + bad.length := by
    simp only [v]
    split
    · rw [State.logEvent_beside, State.logEvent_log]
      exact ⟨rfl, rfl, rfl⟩
    · exact ⟨rfl, rfl, rfl⟩
  clear_value v
  obtain ⟨hbeside, hbuffer, hdiscarded⟩ := hv
  have hview : t.besideRecorder = v.besideRecorder ∧ t.log.buffer = v.log.buffer ∧ t.log.discarded = v.log.discarded ∧ (t.log.buffer ≠ [] → t.log.flushNext.isSome = true) := by
    rw [← ht]
    split
    next hempty => exact ⟨rfl, rfl, rfl, fun hne => absurd (List.isEmpty_iff.1 hempty) hne⟩
    next => exact ⟨rfl, rfl, rfl, fun _ => rfl⟩
  obtain ⟨hbeside', hbuffer', hdiscarded', hdue⟩ := hview
  rw [hbeside] at hbeside'
  simp only [State.besideRecorder, Prod.mk.injEq] at hbeside'
  obtain ⟨hnow, hparams, hhws, hloop, hslices⟩ := hbeside'
  exact ⟨_, hexec, hnow, hslices, hparams, hhws, hloop, hbuffer'.trans hbuffer, hdiscarded'.trans hdiscarded, hdue⟩

/-- A valid record of the twin joins the buffer with an own number. -/
theorem State.journalMirror_joins {b : List Byte} {s : State} (htakes : s.takes = true) (hlen : b.length = 64) (hcrc : crcGood b = true) (hfit : s.log.fill + 64 ≤ bufferSize) :
    ∃ t b', exec (.journalMirrorReceive [b]) s = .next t ∧ t.now = s.now ∧ t.slices = s.slices ∧ t.params = s.params ∧ t.hws = s.hws ∧ t.loop = s.loop ∧ t.log.buffer = s.log.buffer ++ [⟨s.log.next, false, 17, b'⟩] ∧
      b'.take 4 = leBytes 4 s.log.next ∧ b'.length = 64 ∧ t.log.next = s.log.next + 1 := by
  obtain ⟨b', hb'⟩ : ∃ b', sealRec 64 (leBytes 4 s.log.next ++ (b.drop 4).take 19 ++ leBytes 1 (leNat ((b.drop 23).take 1) ||| 2) ++ b.take 4 ++ (b.drop 28).take 32) = b' := ⟨_, rfl⟩
  have hjoin : s.journalMirrorReceive [b] = s.pushRecord ⟨s.log.next, false, 17, b'⟩ := by
    rw [← hb']
    exact if_pos (by simp [htakes, hlen, hcrc, hfit])
  have hbeside := s.pushRecord_beside ⟨s.log.next, false, 17, b'⟩
  have hkept := s.pushRecord_kept ⟨s.log.next, false, 17, b'⟩
  rw [← hjoin] at hbeside hkept
  simp only [State.besideRecorder, Logline.kept, Prod.mk.injEq] at hbeside hkept
  obtain ⟨hnow, hparams, hhws, hloop, hslices⟩ := hbeside
  obtain ⟨hbuffer, hnext, -⟩ := hkept
  refine ⟨_, b', rfl, hnow, hslices, hparams, hhws, hloop, hbuffer, ?_, ?_, hnext⟩
  · rw [← hb', sealRec_take (by decide) (by simp)]
    simp only [List.append_assoc]
    exact leBytes_four_take _ _
  · rw [← hb']
    exact sealRec_length (by decide) _

theorem State.journalMirror_discards {b : List Byte} {s : State} (h : s.takes = false ∨ crcGood b = false) : s.journalMirrorReceive [b] = s :=
  if_neg (by rcases h with h | h <;> simp [h])

/-! ### O50 -/

theorem State.recordTake_takes_event {q : Fin 18} {x : Intake} {rest : List Intake} {s : State} (htakes : s.takes = true) (hq : s.nextQueue = some q) (hentries : (s.intake q).entries = x :: rest) (hkind : x.kind = 1)
    (hfit : s.log.fill + 64 ≤ bufferSize) :
    ∃ t b, exec .recordTake s = .next t ∧ t.now = s.now ∧ t.log.buffer = s.log.buffer ++ [⟨s.log.next, false, q.val, b⟩] ∧ b.length = 64 ∧ b.take 4 = leBytes 4 s.log.next ∧ t.log.next = s.log.next + 1 ∧ t.log.turn = (q.val + 1) % 18 ∧
      ((q ≠ 17 ∨ x.lost = 0) → (t.intake q).entries = rest) ∧ t.params = s.params ∧ t.hws = s.hws ∧ ∀ i : Fin 16, t.slices[i].portal = s.slices[i].portal := by
  obtain ⟨losses, htake⟩ := State.recordTake_event s htakes hq hentries hkind hfit
  obtain ⟨hnow, hparams, hhws, hportal, hlog, hintake⟩ := s.lossesShown_fields q x rest
  obtain ⟨u, hu⟩ : ∃ u, s.lossesShown q x rest = u := ⟨_, rfl⟩
  rw [hu] at htake hnow hparams hhws hportal hlog hintake
  simp only [Logline.kept, Prod.mk.injEq] at hlog
  obtain ⟨hbuffer, hnext, hturn, -⟩ := hlog
  obtain ⟨b, hb⟩ : ∃ b, u.eventRecord u.log.next q.val losses x = b := ⟨_, rfl⟩
  rw [hb, hnext] at htake
  have hpush : s.recordTake.besideRecorder = u.besideRecorder ∧ s.recordTake.queues = u.queues ∧ s.recordTake.log.kept = (u.pushRecord ⟨s.log.next, false, q.val, b⟩).log.kept := by
    rw [htake]
    split
    · exact ⟨(State.flushTrigger_beside _ _).trans (State.pushRecord_beside _ _), State.pushRecord_queues _ _, State.flushTrigger_kept _ _⟩
    · exact ⟨State.pushRecord_beside _ _, State.pushRecord_queues _ _, rfl⟩
  obtain ⟨hbeside, hqueues, hkept⟩ := hpush
  rw [State.pushRecord_kept] at hkept
  simp only [State.besideRecorder, Logline.kept, Prod.mk.injEq] at hbeside hkept
  obtain ⟨hnow', hparams', hhws', -, hslices'⟩ := hbeside
  obtain ⟨hbuffer', hnext', hturn', -⟩ := hkept
  refine ⟨_, b, rfl, hnow'.trans hnow, hbuffer'.trans (by rw [hbuffer]), ?_, ?_, hnext'.trans (by rw [hnext]), hturn'.trans hturn, fun h => ?_, hparams'.trans hparams, hhws'.trans hhws, fun i => ?_⟩
  · rw [← hb]
    exact u.eventRecord_length _ _ _ _
  · rw [← hb, u.eventRecord_number, hnext]
  · exact (congrArg IntakeQ.entries (State.intake_queues hqueues q)).trans (hintake h)
  · show s.recordTake.slices[i].portal = _
    rw [hslices']
    exact hportal i

theorem State.recordTake_takes_cycle {q : Fin 18} {x : Intake} {rest : List Intake} {s : State} (htakes : s.takes = true) (hq : s.nextQueue = some q) (hentries : (s.intake q).entries = x :: rest) (hkind : x.kind = 2)
    (hledger : s.log.ledgerFailed = false) (hfit : s.log.fill + 256 ≤ bufferSize) :
    ∃ t b, exec .recordTake s = .next t ∧ t.now = s.now ∧ t.log.buffer = s.log.buffer ++ [⟨s.log.next, true, q.val, b⟩] ∧ b.length = 256 ∧ b.take 5 = leBytes 4 s.log.next ++ [1] ∧ t.log.next = s.log.next + 1 ∧ t.log.turn = (q.val + 1) % 18 ∧
      t.params = s.params ∧ t.hws = s.hws ∧ ∀ i : Fin 16, t.slices[i].portal = s.slices[i].portal := by
  obtain ⟨losses, htake⟩ := State.recordTake_cycle s htakes hq hentries hkind hledger hfit
  obtain ⟨hnow, hparams, hhws, hportal, hlog, -⟩ := s.lossesShown_fields q x rest
  obtain ⟨u, hu⟩ : ∃ u, s.lossesShown q x rest = u := ⟨_, rfl⟩
  rw [hu] at htake hnow hparams hhws hportal hlog
  simp only [Logline.kept, Prod.mk.injEq] at hlog
  obtain ⟨hbuffer, hnext, hturn, -⟩ := hlog
  obtain ⟨b, hb⟩ : ∃ b, u.cycleRecord u.log.next losses x = b := ⟨_, rfl⟩
  rw [hb, hnext] at htake
  have hbeside := u.pushRecord_beside ⟨s.log.next, true, q.val, b⟩
  have hkept := u.pushRecord_kept ⟨s.log.next, true, q.val, b⟩
  rw [← htake] at hbeside hkept
  simp only [State.besideRecorder, Logline.kept, Prod.mk.injEq] at hbeside hkept
  obtain ⟨hnow', hparams', hhws', -, hslices'⟩ := hbeside
  obtain ⟨hbuffer', hnext', hturn', -⟩ := hkept
  refine ⟨_, b, rfl, hnow'.trans hnow, hbuffer'.trans (by rw [hbuffer]), ?_, ?_, hnext'.trans (by rw [hnext]), hturn'.trans hturn, hparams'.trans hparams, hhws'.trans hhws, fun i => ?_⟩
  · rw [← hb]
    exact u.cycleRecord_length _ _ _
  · rw [← hb, u.cycleRecord_number, hnext]
  · show s.recordTake.slices[i].portal = _
    rw [hslices']
    exact hportal i

theorem State.storeTeach_fields (r : AxisRecord) (s : State) : (s.storeTeach r).besideRecorder = s.besideRecorder ∧ (s.storeTeach r).log.buffer = s.log.buffer ∧ (s.storeTeach r).log.next = s.log.next ∧ (s.storeTeach r).log.turn = s.log.turn := by
  unfold State.storeTeach
  split <;> exact ⟨rfl, rfl, rfl, rfl⟩

theorem Logline.teachCopy_of {l m : Logline} (h : l.teach = m.teach) (a : Fin 48) : l.teachCopy a = m.teachCopy a := by
  unfold Logline.teachCopy
  rw [h]

theorem State.recordTake_takes_teach {q : Fin 18} {a : Fin 48} {r : AxisRecord} {x : Intake} {rest : List Intake} {s : State} (htakes : s.takes = true) (hq : s.nextQueue = some q) (hentries : (s.intake q).entries = x :: rest) (hkind : x.kind = 3)
    (hr : x.axis = some r) (ha : r.axis = a.val) (hj : s.log.journalFailed = false) (hfit : s.log.fill ≤ bufferSize) :
    ∃ t, exec .recordTake s = .next t ∧ t.now = s.now ∧ t.log.buffer = s.log.buffer ∧ t.log.next = s.log.next ∧ t.log.turn = (q.val + 1) % 18 ∧
      t.log.teachCopy a = some (((s.log.teachCopy a).map fun y => y.1).getD 0 + 1, r) ∧ (∀ b : Fin 48, b ≠ a → t.log.teach[b] = s.log.teach[b]) ∧ t.params = s.params ∧ t.hws = s.hws ∧ ∀ i : Fin 16, t.slices[i].portal = s.slices[i].portal := by
  have htake := State.recordTake_teach s htakes hq hentries hkind hr hfit
  obtain ⟨hnow, hparams, hhws, hportal, hlog, -⟩ := s.lossesShown_fields q x rest
  obtain ⟨u, hu⟩ : ∃ u, (s.taken q rest).noteLosses q x.lost = u := ⟨_, rfl⟩
  rw [hu] at htake
  have hshown : s.lossesShown q x rest = u.modLog fun l => { l with discarded := 0 } := by rw [← hu]; rfl
  rw [hshown] at hnow hparams hhws hportal hlog
  simp only [Logline.kept, Prod.mk.injEq] at hlog
  obtain ⟨hbuffer, hnext, hturn, hteach, hjournal, -⟩ := hlog
  obtain ⟨hcopy, hothers⟩ := u.storeTeach_copy ha (hjournal.trans hj)
  obtain ⟨hbeside, hbuffer', hnext', hturn'⟩ := u.storeTeach_fields r
  rw [← htake] at hcopy hothers hbeside hbuffer' hnext' hturn'
  simp only [State.besideRecorder, Prod.mk.injEq] at hbeside
  obtain ⟨hnow', hparams', hhws', -, hslices'⟩ := hbeside
  have hsame : u.log.teach = s.log.teach := hteach
  refine ⟨_, rfl, hnow'.trans hnow, hbuffer'.trans hbuffer, hnext'.trans hnext, hturn'.trans hturn, ?_, fun b hb => ?_, hparams'.trans hparams, hhws'.trans hhws, fun i => ?_⟩
  · rw [← Logline.teachCopy_of hsame a]
    exact hcopy
  · rw [← hsame]
    exact hothers b hb
  · show s.recordTake.slices[i].portal = _
    rw [hslices']
    exact hportal i

/-- Settles O50: an entry taken is the queue without it, the losses told, and one record pushed or one copy written; a flush that has room sorts its records stably and counts S on over what is committed; a start reads the control copy in force. -/
theorem recorderTakesAndFlushes : Obligations.RecorderTakesAndFlushes := by
  unfold Obligations.RecorderTakesAndFlushes
  refine ⟨fun q x rest s => State.recordTake_takes_event, fun s h => ?_, fun tr s hup hnext hnone => ?_, fun s h => ?_, fun s hup hrec => ?_, fun s hup => ?_, fun bad f s hup hflush hsorted hl hj hfl hfj => ?_,
    fun bad s h => ?_, fun s hup hw => ?_, fun s => State.recorderStart_runs, fun l s => State.restartRecovery_ok l, fun b s => State.journalMirror_joins, fun b s h => ?_, fun s => State.recorderStart_fails,
    fun q x rest s => State.recordTake_takes_cycle, fun q a r x rest s => State.recordTake_takes_teach, fun q x s hq hroom hkind => ?_⟩
  · exact congrArg State.complete (if_pos (by rw [h]; rfl))
  · refine congrArg State.complete ?_
    unfold State.flushStart
    rw [hnext, hnone]
    exact if_pos hup
  · refine congrArg State.complete ?_
    unfold State.flushStart
    rw [h]
  · exact congrArg State.complete (if_pos (by rw [hup, hrec]; rfl))
  · exact congrArg State.complete (if_pos hup)
  · exact State.flushComplete_room hup hflush hl hj hfl hfj hsorted
  · refine congrArg State.complete ?_
    unfold State.flushComplete
    rw [h]
  · exact congrArg State.complete (if_pos (by rcases hw with h | h <;> simp [hup, h]))
  · exact congrArg State.complete (State.journalMirror_discards h)
  · have hoffer : (s.intake q).offer x = { s.intake q with entries := (s.intake q).entries ++ [{ x with lost := 0 }] } := if_pos ⟨hroom, hkind⟩
    exact congrArg State.complete ((State.intakeOffer_present hq x).trans (congrArg (fun y => s.setIntake q y) hoffer))

end Sys2Proof.Machine
end

section
/-! PROOFS. The door-loop cell once its channels have followed the contacts. -/

namespace Sys2Proof.Machine

/-! ### Closing the cell, told of the cell alone (R80, R81, R85) -/

/-- What the midpoint check of a closing leaves of the cell, and what a closing beside a closed twin cell leaves. -/
def LoopCell.closedBy (twin held : Bool) (t : Nat) (l : LoopCell) : LoopCell :=
  let second := decide (l.closures % 2 = 0)
  let already := if second then l.sw2 else l.sw1
  if twin then { l with sw1 := true, sw2 := true }
  else if already then { l with closures := l.closures + 1, sw1 := true, sw2 := true }
  else if held then { ({ l with closures := l.closures + 1 } : LoopCell).pass second t with sw1 := true, sw2 := true }
  else (({ l with closures := l.closures + 1 } : LoopCell).noteTest second 3).latch 3

theorem State.closeCell_loop (held : Bool) (s : State) : (s.closeCell held).loop = s.loop.closedBy s.twinCellClosed held s.now := by
  unfold State.closeCell LoopCell.closedBy
  dsimp only
  simp only [apply_ite State.loop, State.raise_loop, State.modLoop_loop]
  rfl

/-- The commands of both channels stand; a switch that its channel does not want closed opens. -/
def LoopCell.commandedBy (c1 c2 : Bool) (l : LoopCell) : LoopCell := { l with ch1 := c1, ch2 := c2, sw1 := l.sw1 && c1, sw2 := l.sw2 && c2 }

/-- The cell once its channels have followed the contacts. -/
def LoopCell.settled (c1 c2 twin held : Bool) (ma t : Nat) (l : LoopCell) : LoopCell :=
  let m := l.commandedBy c1 c2
  let m := if c1 && c2 then (if l.sw1 && l.sw2 then m else m.closedBy twin held t) else if twin then { m with sw1 := c1, sw2 := c2 } else m
  { m with conducting := m.sw1 && m.sw2 && decide (10 ≤ ma) }

theorem State.settleLoop_loop (held : Bool) (ma : Nat) (s : State) :
    (s.settleLoop held ma).loop = s.loop.settled (s.channelWants 0) (s.channelWants 1) s.twinCellClosed held ma s.now := by
  unfold State.settleLoop LoopCell.settled
  dsimp only
  simp only [State.modLoop_loop, apply_ite State.loop, State.closeCell_loop, Bool.decide_eq_true]
  rfl

theorem LoopCell.pass_fields (second : Bool) (t : Nat) (l : LoopCell) :
    (l.pass second t).latched = l.latched ∧ (l.pass second t).ch1 = l.ch1 ∧ (l.pass second t).ch2 = l.ch2 ∧ (l.pass second t).closures = l.closures := by
  cases second <;> exact ⟨rfl, rfl, rfl, rfl⟩

/-- The cell opens with its latch: a midpoint check has failed (R85). -/
structure LoopCell.CheckFailed (held : Bool) (m : LoopCell) : Prop where
  unheld : held = false
  latched : m.latched = true
  cause : m.latchCause = 3
  ch1 : m.ch1 = false
  ch2 : m.ch2 = false
  sw1 : m.sw1 = false
  sw2 : m.sw2 = false
  conducting : m.conducting = false

/-- Both switches stand closed; from open and without a closed twin cell only after a passed midpoint check. -/
structure LoopCell.Closed (twin held : Bool) (l m : LoopCell) : Prop where
  latched : m.latched = l.latched
  ch1 : m.ch1 = l.ch1
  ch2 : m.ch2 = l.ch2
  sw1 : m.sw1 = true
  sw2 : m.sw2 = true
  checked : twin = false → l.sw1 = false → l.sw2 = false → held = true ∧ m.closures = l.closures + 1

theorem LoopCell.closedBy_cases (twin held : Bool) (t : Nat) (l : LoopCell) : LoopCell.Closed twin held l (l.closedBy twin held t) ∨ LoopCell.CheckFailed held (l.closedBy twin held t) := by
  unfold LoopCell.closedBy
  extract_lets second already
  split
  case isTrue htwin => exact .inl ⟨rfl, rfl, rfl, rfl, rfl, fun hno => absurd htwin (by simp [hno])⟩
  split
  case isTrue hclosed => exact .inl ⟨rfl, rfl, rfl, rfl, rfl, fun _ h1 h2 => absurd hclosed (by simp [already, h1, h2])⟩
  split
  case isTrue hheld =>
    obtain ⟨hlatched, hch1, hch2, hclosures⟩ := LoopCell.pass_fields second t { l with closures := l.closures + 1 }
    exact .inl ⟨hlatched, hch1, hch2, rfl, rfl, fun _ _ _ => ⟨hheld, hclosures⟩⟩
  case isFalse hheld => exact .inr ⟨Bool.eq_false_iff.2 hheld, rfl, rfl, rfl, rfl, rfl, rfl, rfl⟩

/-- The channels' commands stand, and the switches follow them (R78 to R81). -/
structure LoopCell.Follows (c1 c2 twin held : Bool) (ma : Nat) (l m : LoopCell) : Prop where
  latched : m.latched = l.latched
  ch1 : m.ch1 = c1
  ch2 : m.ch2 = c2
  open1 : c1 = false → m.sw1 = false
  open2 : c2 = false → m.sw2 = false
  closed : c1 = true → c2 = true → m.sw1 = true ∧ m.sw2 = true
  conducting : m.conducting = (m.sw1 && m.sw2 && decide (10 ≤ ma))
  checked : twin = false → l.sw1 = false → l.sw2 = false → m.sw1 = true → held = true ∧ m.closures = l.closures + 1

theorem LoopCell.settled_cases (c1 c2 twin held : Bool) (ma t : Nat) (l : LoopCell) :
    LoopCell.Follows c1 c2 twin held ma l (l.settled c1 c2 twin held ma t) ∨ LoopCell.CheckFailed held (l.settled c1 c2 twin held ma t) := by
  unfold LoopCell.settled
  extract_lets m n
  by_cases hboth : (c1 && c2) = true
  · obtain ⟨rfl, rfl⟩ : c1 = true ∧ c2 = true := by simpa using hboth
    by_cases hclosed : (l.sw1 && l.sw2) = true
    · have hn : n = m := by simp [n, hclosed]
      obtain ⟨h1, h2⟩ : l.sw1 = true ∧ l.sw2 = true := by simpa using hclosed
      rw [hn]
      exact .inl ⟨rfl, rfl, rfl, by simp, by simp, fun _ _ => by simp [m, LoopCell.commandedBy, h1, h2], rfl, fun _ h => absurd h1 (by simp [h])⟩
    · have hn : n = m.closedBy twin held t := (if_pos hboth).trans (if_neg hclosed)
      rw [hn]
      rcases m.closedBy_cases twin held t with h | h
      · refine .inl ⟨h.latched, h.ch1, h.ch2, by simp, by simp, fun _ _ => ⟨h.sw1, h.sw2⟩, rfl, fun htwin h1 h2 _ => h.checked htwin ?_ ?_⟩
        · simp [m, LoopCell.commandedBy, h1]
        · simp [m, LoopCell.commandedBy, h2]
      · exact .inr ⟨h.unheld, h.latched, h.cause, h.ch1, h.ch2, h.sw1, h.sw2, by simp [h.sw1]⟩
  · have hn : n = if twin then { m with sw1 := c1, sw2 := c2 } else m := if_neg hboth
    rw [hn]
    cases twin
    · exact .inl ⟨rfl, rfl, rfl, fun h => by simp [m, LoopCell.commandedBy, h], fun h => by simp [m, LoopCell.commandedBy, h], fun h1 h2 => absurd hboth (by simp [h1, h2]), rfl,
        fun _ h1 _ h => absurd h (by simp [m, LoopCell.commandedBy, h1])⟩
    · exact .inl ⟨rfl, rfl, rfl, id, id, fun h1 h2 => absurd hboth (by simp [h1, h2]), rfl, fun h => nomatch h⟩

/-- A latched cell wants no switch closed (R83). -/
theorem State.channelWants_latched {s : State} (h : s.loop.latched = true) (c : Fin 2) : s.channelWants c = false := by
  simp [State.channelWants, h]

/-- Once its channels have followed the contacts, a latched cell stands open, whatever state it was in. -/
theorem State.settleLoop_safe (held : Bool) (ma : Nat) (s : State) : (s.settleLoop held ma).loopSafe := by
  unfold State.loopSafe
  rw [State.settleLoop_loop]
  intro hlatched
  rcases s.loop.settled_cases (s.channelWants 0) (s.channelWants 1) s.twinCellClosed held ma s.now with h | h
  · have hwants := State.channelWants_latched (h.latched.symm.trans hlatched)
    have hsw1 := h.open1 (hwants 0)
    exact ⟨hsw1, h.open2 (hwants 1), h.ch1.trans (hwants 0), h.ch2.trans (hwants 1), h.conducting.trans (by simp [hsw1])⟩
  · exact ⟨h.sw1, h.sw2, h.ch1, h.ch2, h.conducting⟩

end Sys2Proof.Machine
end

section
/-! PROOFS. What commands leave of the door-loop cell; a latched cell stays open: O57. -/

namespace Sys2Proof.Machine

/-- What the latch of the door-loop cell guards: latch, channels, switches and the current (R83, R86). -/
def LoopCell.outputs (l : LoopCell) : Bool × Bool × Bool × Bool × Bool × Bool := (l.latched, l.ch1, l.ch2, l.sw1, l.sw2, l.conducting)

@[simp] theorem LoopCell.ite_outputs (c : Prop) [Decidable c] (x y : Vector Slice 16 × Vector Group 2 × LoopCell) :
    (if c then x else y).2.2.outputs = if c then x.2.2.outputs else y.2.2.outputs := apply_ite (fun v => v.2.2.outputs) c x y

@[simp] theorem LoopCell.dite_outputs (c : Prop) [Decidable c] (x : c → Vector Slice 16 × Vector Group 2 × LoopCell) (y : ¬c → Vector Slice 16 × Vector Group 2 × LoopCell) :
    (dite c x y).2.2.outputs = dite c (fun h => (x h).2.2.outputs) fun h => (y h).2.2.outputs := apply_dite (fun v => v.2.2.outputs) c x y

@[simp] theorem View.dite_cars (c : Prop) [Decidable c] (f : c → View) (g : ¬c → View) : (dite c f g).cars = dite c (fun h => (f h).cars) fun h => (g h).cars := apply_dite View.cars c f g

section
variable (s : State)

@[simp] theorem State.foldl_cell {α : Type} (f : State → α → State) (h : ∀ s x, (f s x).view.cars.2.2.outputs = s.view.cars.2.2.outputs) (l : List α) :
    (l.foldl f s).view.cars.2.2.outputs = s.view.cars.2.2.outputs := foldl_keeps (fun s => s.view.cars.2.2.outputs) f h l s

@[simp] theorem State.eachSlice_cell (f : Fin 16 → State → State) (h : ∀ i s, (f i s).view.cars.2.2.outputs = s.view.cars.2.2.outputs) :
    (s.eachSlice f).view.cars.2.2.outputs = s.view.cars.2.2.outputs := State.eachSlice_keeps (fun s => s.view.cars.2.2.outputs) f h s

@[simp] theorem State.modSlice_cell (i : Fin 16) (f : Slice → Slice) : (s.modSlice i f).view.cars.2.2.outputs = s.view.cars.2.2.outputs := (rfl)

@[simp] theorem State.modGroup_cell (g : Fin 2) (f : Group → Group) : (s.modGroup g f).view.cars.2.2.outputs = s.view.cars.2.2.outputs := (rfl)

/-- A change of the cell that spares latch, channels, switches and current. -/
@[simp] theorem State.modLoop_cell (f : LoopCell → LoopCell) (h : ∀ l, (f l).outputs = l.outputs) : (s.modLoop f).view.cars.2.2.outputs = s.view.cars.2.2.outputs := h s.loop

end

@[simp] theorem State.blyEvent_cell (g : Fin 2) (e c i : Nat) (s : State) : (s.blyEvent g e c i).view.cars.2.2.outputs = s.view.cars.2.2.outputs := by rw [State.blyEvent, State.raise_view, State.modGroup_cell]

@[simp] theorem State.settleGate_cell (s : State) : s.settleGate.view.cars.2.2.outputs = s.view.cars.2.2.outputs := by
  unfold State.settleGate
  dsimp only
  split
  · exact rfl
  · simp

@[simp] theorem State.openCycle_cell (i : Fin 16) (m : Int) (gap : Nat) (s : State) : (s.openCycle i m gap).view.cars.2.2.outputs = s.view.cars.2.2.outputs := by
  simp [State.openCycle]

@[simp] theorem State.onSlice_cell (i : Fin 16) (f : Env → Slice → Slice) (s : State) : (s.onSlice i f).view.cars.2.2.outputs = s.view.cars.2.2.outputs := by
  simp [State.onSlice]

@[simp] theorem State.onPower_cell (i : Fin 16) (f : Env → Slice → Slice) (s : State) : (s.onPower i f).view.cars.2.2.outputs = s.view.cars.2.2.outputs := by
  simp [State.onPower]

@[simp] theorem State.setIntake_cell (q : Fin 18) (x : IntakeQ) (s : State) : (s.setIntake q x).view.cars.2.2.outputs = s.view.cars.2.2.outputs := by
  simp [State.setIntake]

@[simp] theorem State.intakeOffer_cell (q : Fin 18) (x : Intake) (s : State) : (s.intakeOffer q x).view.cars.2.2.outputs = s.view.cars.2.2.outputs := by
  simp [State.intakeOffer]

@[simp] theorem State.recordTake_cell (s : State) : s.recordTake.view.cars.2.2.outputs = s.view.cars.2.2.outputs := by
  unfold State.recordTake
  dsimp only
  repeat' split
  all_goals simp

@[simp] theorem State.setReq_cell (r : Requester) (q : Req) (s : State) : (s.setReq r q).view.cars.2.2.outputs = s.view.cars.2.2.outputs := by
  simp [State.setReq]

@[simp] theorem State.grant_cell (g : Fin 2) (t : Nat) (r : Requester) (s : State) : (s.grant g t r).view.cars.2.2.outputs = s.view.cars.2.2.outputs := by
  simp [State.grant]

@[simp] theorem State.noteViews_cell (g : Fin 2) (t : Nat) (s : State) : (s.noteViews g t).view.cars.2.2.outputs = s.view.cars.2.2.outputs := by
  simp [State.noteViews]

@[simp] theorem State.grantLoop_cell (g : Fin 2) (t n free : Nat) (s : State) : (s.grantLoop g t n free).view.cars.2.2.outputs = s.view.cars.2.2.outputs := by
  induction n generalizing free s with
  | zero => rfl
  | succ n ih =>
    unfold State.grantLoop
    dsimp only
    split
    · rfl
    · split
      · simp
      · split <;> simp [ih]

@[simp] theorem State.arbitrate_cell (g : Fin 2) (m : GroupInputs) (s : State) : (s.arbitrate g m).view.cars.2.2.outputs = s.view.cars.2.2.outputs := by
  simp [State.arbitrate]

@[simp] theorem State.grantArrival_cell (i : Fin 16) (j : Fin 9) (s : State) : (s.grantArrival i j).view.cars.2.2.outputs = s.view.cars.2.2.outputs := by
  simp [State.grantArrival]

@[simp] theorem State.inrushExpiry_cell (i : Fin 16) (j : Fin 9) (s : State) : (s.inrushExpiry i j).view.cars.2.2.outputs = s.view.cars.2.2.outputs := by
  unfold State.inrushExpiry
  repeat' split
  all_goals simp

@[simp] theorem State.deadlineMissed_cell (i : Fin 16) (j : Fin 9) (s : State) : (s.deadlineMissed i j).view.cars.2.2.outputs = s.view.cars.2.2.outputs := by
  unfold State.deadlineMissed
  dsimp only
  repeat' split
  all_goals simp

@[simp] theorem State.watchdogBite_cell (g : Fin 2) (s : State) : (s.watchdogBite g).view.cars.2.2.outputs = s.view.cars.2.2.outputs := by
  unfold State.watchdogBite
  dsimp only
  repeat' split
  all_goals simp

@[simp] theorem State.arbiterLost_cell (i : Fin 16) (s : State) : (s.arbiterLost i).view.cars.2.2.outputs = s.view.cars.2.2.outputs := by
  simp [State.arbiterLost]

@[simp] theorem State.arbiterBack_cell (i : Fin 16) (s : State) : (s.arbiterBack i).view.cars.2.2.outputs = s.view.cars.2.2.outputs := by
  simp [State.arbiterBack]

@[simp] theorem State.supplyRange_cell (g : Fin 2) (motor out : Bool) (dv : Nat) (s : State) : (s.supplyRange g motor out dv).view.cars.2.2.outputs = s.view.cars.2.2.outputs := by
  simp [State.supplyRange]

@[simp] theorem State.currentWarning_cell (g : Fin 2) (set : Bool) (loadDa motorDa : Nat) (s : State) : (s.currentWarning g set loadDa motorDa).view.cars.2.2.outputs = s.view.cars.2.2.outputs := by
  simp [State.currentWarning]

@[simp] theorem State.overTemperature_cell (g : Fin 2) (t : Int) (s : State) : (s.overTemperature g t).view.cars.2.2.outputs = s.view.cars.2.2.outputs := by
  simp [State.overTemperature]

@[simp] theorem State.loopTestDue_cell (s : State) : s.loopTestDue.view.cars.2.2.outputs = s.view.cars.2.2.outputs := by
  unfold State.loopTestDue
  split <;> rfl

@[simp] theorem State.loopOverdue_cell (second : Bool) (s : State) : (s.loopOverdue second).view.cars.2.2.outputs = s.view.cars.2.2.outputs := by
  have hflag (l : LoopCell) : (if second then { l with overdue2 := true } else { l with overdue1 := true } : LoopCell).outputs = l.outputs := by cases second <;> rfl
  unfold State.loopOverdue
  dsimp only
  rw [State.ite_view, State.raise_view, View.ite_cars, LoopCell.ite_outputs, State.modLoop_cell _ _ hflag]
  exact ite_self _

@[simp] theorem State.slowApply_cell (r : AxisRecord) (s : State) : (s.slowApply r).view.cars.2.2.outputs = s.view.cars.2.2.outputs := by
  simp [State.slowApply]

@[simp] theorem State.mirrorApply_cell (s : State) : s.mirrorApply.view.cars.2.2.outputs = s.view.cars.2.2.outputs := by
  unfold State.mirrorApply
  split
  · extract_lets _ _ t r
    have ht : t.view.cars.2.2.outputs = s.view.cars.2.2.outputs := by simp [t]
    have hr : r.view.cars.2.2.outputs = t.view.cars.2.2.outputs := rfl
    split
    · simp [ht]
    · rw [← ht, ← hr]
      simp
  · simp

@[simp] theorem State.syncChange_cell (s : State) : s.syncChange.view.cars.2.2.outputs = s.view.cars.2.2.outputs := by
  simp [State.syncChange]

@[simp] theorem State.setAuthOut_cell (on : Bool) (s : State) : (s.setAuthOut on).view.cars.2.2.outputs = s.view.cars.2.2.outputs := by
  simp [State.setAuthOut]

@[simp] theorem State.collide_cell (s : State) : s.collide.view.cars.2.2.outputs = s.view.cars.2.2.outputs := by
  simp [State.collide]

@[simp] theorem State.setAuthIn_cell (on : Bool) (s : State) : (s.setAuthIn on).view.cars.2.2.outputs = s.view.cars.2.2.outputs := by
  simp [State.setAuthIn]

@[simp] theorem State.authCollision_cell (s : State) : s.authCollision.view.cars.2.2.outputs = s.view.cars.2.2.outputs := by
  simp [State.authCollision]

@[simp] theorem State.authAssert_cell (s : State) : s.authAssert.view.cars.2.2.outputs = s.view.cars.2.2.outputs := by
  simp [State.authAssert]

@[simp] theorem State.authLapse_cell (s : State) : s.authLapse.view.cars.2.2.outputs = s.view.cars.2.2.outputs := by
  unfold State.authLapse
  dsimp only
  repeat' split
  all_goals simp

@[simp] theorem State.authReadback_cell (readback : Bool) (s : State) : (s.authReadback readback).view.cars.2.2.outputs = s.view.cars.2.2.outputs := by
  simp [State.authReadback]

@[simp] theorem State.authCommand_cell (hold : Bool) (s : State) : (s.authCommand hold).view.cars.2.2.outputs = s.view.cars.2.2.outputs := by
  unfold State.authCommand
  dsimp only
  repeat' split
  all_goals simp

@[simp] theorem State.takeover_cell (s : State) : s.takeover.view.cars.2.2.outputs = s.view.cars.2.2.outputs := by
  simp [State.takeover]

@[simp] theorem State.decideHolder_cell (x : Option Bool) (layer : Nat) (s : State) : (s.decide_ x layer).view.cars.2.2.outputs = s.view.cars.2.2.outputs := by
  simp [State.decide_]

@[simp] theorem State.hitchCommand_cell (s : State) : s.hitchCommand.view.cars.2.2.outputs = s.view.cars.2.2.outputs := by
  simp [State.hitchCommand]

@[simp] theorem State.hitchSync_cell (s : State) : s.hitchSync.view.cars.2.2.outputs = s.view.cars.2.2.outputs := by
  unfold State.hitchSync
  dsimp only
  repeat' split
  all_goals simp

@[simp] theorem State.authSelf_cell (s : State) : s.authSelf.view.cars.2.2.outputs = s.view.cars.2.2.outputs := by
  simp [State.authSelf]

@[simp] theorem State.twinAtSync_cell (authIn : Bool) (s : State) : (s.twinAtSync authIn).view.cars.2.2.outputs = s.view.cars.2.2.outputs := by
  simp [State.twinAtSync]

@[simp] theorem State.cfgHandover_cell (s : State) : s.cfgHandover.view.cars.2.2.outputs = s.view.cars.2.2.outputs := by
  unfold State.cfgHandover
  extract_lets events got a b _ _ c d e
  have hc : c.view.cars.2.2.outputs = s.view.cars.2.2.outputs := rfl
  have he : e.view.cars.2.2.outputs = c.view.cars.2.2.outputs := by simp [e, d]
  rw [← hc, ← he]
  simp

@[simp] theorem State.anchor_cell (k : Fin 17) (s : State) : (s.anchor k).view.cars.2.2.outputs = s.view.cars.2.2.outputs := by
  simp [State.anchor]

@[simp] theorem State.clockStep_cell (k : Fin 18) (s : State) : (s.clockStep k).view.cars.2.2.outputs = s.view.cars.2.2.outputs := by
  unfold State.clockStep
  split
  · dsimp only
    split
    · split
      · simp
      · simp
    · simp
  · simp

@[simp] theorem State.timeTransfer_cell (k : Fin 17) (t1 t2 t3 t4 : Int) (s : State) : (s.timeTransfer k t1 t2 t3 t4).view.cars.2.2.outputs = s.view.cars.2.2.outputs := by
  simp [State.timeTransfer, Region.seen_eq]

@[simp] theorem State.channelStalled_cell (w : Waiter) (k : Fin 35) (s : State) : (s.channelStalled w k).view.cars.2.2.outputs = s.view.cars.2.2.outputs := by
  unfold State.channelStalled
  dsimp only
  repeat' split
  all_goals simp

@[simp] theorem State.engineResume_cell (i : Fin 16) (s : State) : (s.engineResume i).view.cars.2.2.outputs = s.view.cars.2.2.outputs := by
  simp [State.engineResume]

@[simp] theorem State.releaseFirst_cell (s : State) : s.releaseFirst.view.cars.2.2.outputs = s.view.cars.2.2.outputs := by
  unfold State.releaseFirst
  dsimp only
  exact (State.modLoop_cell _ (fun l => { l with startAt := _ }) fun _ => rfl).trans (by simp)

@[simp] theorem State.shutdownRelease_cell (s : State) : s.shutdownRelease.view.cars.2.2.outputs = s.view.cars.2.2.outputs := by
  unfold State.shutdownRelease
  dsimp only
  repeat' split
  all_goals simp

@[simp] theorem State.islandReset_cell (k : Fin 34) (cause : Nat) (s : State) : (s.islandReset k cause).view.cars.2.2.outputs = s.view.cars.2.2.outputs := by
  unfold State.islandReset
  split
  · rfl
  · extract_lets code early down lost blocks stage idle
    have hdown : down.view.cars.2.2.outputs = s.view.cars.2.2.outputs := by simp [down]
    have hblocks : blocks.view.cars.2.2.outputs = down.view.cars.2.2.outputs := by
      unfold blocks
      repeat' split
      case isFalse.isFalse.isTrue => rfl
      all_goals simp
    have hidle : idle.view.cars.2.2.outputs = blocks.view.cars.2.2.outputs := rfl
    split
    · exact hidle.trans (hblocks.trans hdown)
    · exact hblocks.trans hdown

@[simp] theorem State.writeSlice_cell (i : Fin 16) (off v : Nat) (s : State) : (s.writeSlice i off v).1.view.cars.2.2.outputs = s.view.cars.2.2.outputs := by
  unfold State.writeSlice
  dsimp only
  repeat' split
  all_goals simp

@[simp] theorem State.countsNode_cell (off : Nat) (s : State) : (s.countsNode off).2.view.cars.2.2.outputs = s.view.cars.2.2.outputs := by
  unfold State.countsNode
  repeat' split
  all_goals rfl

@[simp] theorem State.countsBly_cell (g : Fin 2) (off : Nat) (s : State) : (s.countsBly g off).2.view.cars.2.2.outputs = s.view.cars.2.2.outputs := by
  unfold State.countsBly
  repeat' split
  all_goals simp

@[simp] theorem State.readAction_cell (w : Block) (off : Nat) (s : State) : (s.readAction w off).2.view.cars.2.2.outputs = s.view.cars.2.2.outputs := by
  unfold State.readAction
  repeat' split
  all_goals simp

@[simp] theorem State.fabricRead_cell (g : HostAgent) (a : Nat) (s : State) : (s.fabricRead g a).view.cars.2.2.outputs = s.view.cars.2.2.outputs := by
  unfold State.fabricRead
  repeat' split
  all_goals simp

@[simp] theorem State.writeNode_cell (off v : Nat) (s : State) : (s.writeNode off v).view.cars.2.2.outputs = s.view.cars.2.2.outputs := by
  unfold State.writeNode
  repeat' split
  all_goals rfl

@[simp] theorem State.writeBly_cell (g : Fin 2) (off v : Nat) (s : State) : (s.writeBly g off v).view.cars.2.2.outputs = s.view.cars.2.2.outputs := by
  simp [State.writeBly]

@[simp] theorem State.fabricWrite_cell (g : HostAgent) (o : Option Origin) (a v : Nat) (s : State) : (s.fabricWrite g o a v).view.cars.2.2.outputs = s.view.cars.2.2.outputs := by
  unfold State.fabricWrite
  repeat' split
  all_goals simp

@[simp] theorem State.eventDelivery_cell (q : Fin 18) (s : State) : (s.eventDelivery q).view.cars.2.2.outputs = s.view.cars.2.2.outputs := by
  unfold State.eventDelivery
  repeat' split
  all_goals simp

@[simp] theorem State.fetchWords_cell (n a : Nat) (s : State) : (s.fetchWords n a).1.view.cars.2.2.outputs = s.view.cars.2.2.outputs := by
  induction n generalizing a s with
  | zero => rfl
  | succ n ih =>
    unfold State.fetchWords
    dsimp only
    split <;> simp [ih]

@[simp] theorem State.prefetch_cell (o : Origin) (tag a n : Nat) (s : State) : (s.prefetch o tag a n).view.cars.2.2.outputs = s.view.cars.2.2.outputs := by
  unfold State.prefetch
  dsimp only
  repeat' split
  all_goals simp

@[simp] theorem State.collect_cell (o : Origin) (f : SpliceFrame) (b : Fin 16) (data : List Byte) (s : State) : (s.collect o f b data).view.cars.2.2.outputs = s.view.cars.2.2.outputs := by
  simp [State.collect]

@[simp] theorem State.serveRead_cell (o : Origin) (f : SpliceFrame) (s : State) : (s.serveRead o f).view.cars.2.2.outputs = s.view.cars.2.2.outputs := by
  have hrest (t : State) : t.expireBufs.view.cars.2.2.outputs = t.view.cars.2.2.outputs := by simp
  -- The expiry of all buffers becomes a variable, as in `State.serveRead_rest`.
  obtain ⟨expire, hexpire⟩ : ∃ e, State.expireBufs = e := ⟨_, rfl⟩
  generalize hg : State.serveRead = g
  delta State.serveRead at hg
  rw [hexpire] at hg hrest
  subst hg
  dsimp only
  repeat' split
  all_goals simp [hrest]

@[simp] theorem State.fetchComplete_cell (b : Fin 16) (s : State) : (s.fetchComplete b).view.cars.2.2.outputs = s.view.cars.2.2.outputs := by
  simp [State.fetchComplete]

@[simp] theorem State.hostServe_cell (g : HostAgent) (i : Fin 16) (x : HostAccess) (s : State) : (s.hostServe g i x).view.cars.2.2.outputs = s.view.cars.2.2.outputs := by
  unfold State.hostServe
  dsimp only
  split <;> simp

@[simp] theorem State.hostPort_cell (i : Fin 16) (splice mss : Option HostAccess) (s : State) : (s.hostPort i splice mss).view.cars.2.2.outputs = s.view.cars.2.2.outputs := by
  unfold State.hostPort
  dsimp only
  generalize (if s.hawserUp = true then splice else none) = a
  generalize (if s.mssUp = true then mss else none) = b
  cases a <;> cases b <;> split <;> simp

@[simp] theorem State.burstWords_cell (o : Origin) (n a : Nat) (b : List Byte) (s : State) : (s.burstWords o n a b).view.cars.2.2.outputs = s.view.cars.2.2.outputs := by
  induction n generalizing a b s with
  | zero => exact rfl
  | succ n ih =>
    unfold State.burstWords
    dsimp only
    split <;> simp [ih]

@[simp] theorem State.bursts_cell (o : Origin) (k a n : Nat) (b : List Byte) (s : State) : (s.bursts o k a n b).1.view.cars.2.2.outputs = s.view.cars.2.2.outputs := by
  induction k generalizing a n b s with
  | zero => exact rfl
  | succ k ih =>
    unfold State.bursts
    split
    · exact rfl
    · dsimp only
      split <;> simp [ih]

@[simp] theorem State.performWrite_cell (o : Origin) (f : SpliceFrame) (s : State) : (s.performWrite o f).view.cars.2.2.outputs = s.view.cars.2.2.outputs := by
  unfold State.performWrite
  dsimp only
  split <;> simp

@[simp] theorem State.releaseHeld_cell (s : State) : s.releaseHeld.view.cars.2.2.outputs = s.view.cars.2.2.outputs := by
  simp [State.releaseHeld]

theorem State.request_cell (o : Origin) (f : SpliceFrame) (serve : State → State) (s : State) (h : (serve s).view.cars.2.2.outputs = s.view.cars.2.2.outputs) : (s.request o f serve).view.cars.2.2.outputs = s.view.cars.2.2.outputs := by
  unfold State.request
  dsimp only
  repeat' split
  all_goals simp [h]

@[simp] theorem State.spliceWrite_cell (o : Origin) (f : SpliceFrame) (s : State) : (s.spliceWrite o f).view.cars.2.2.outputs = s.view.cars.2.2.outputs := by
  unfold State.spliceWrite
  split
  · rfl
  · refine State.request_cell _ _ _ _ ?_
    split <;> simp

@[simp] theorem State.spliceRead_cell (o : Origin) (f : SpliceFrame) (s : State) : (s.spliceRead o f).view.cars.2.2.outputs = s.view.cars.2.2.outputs := by
  unfold State.spliceRead
  split
  · exact State.request_cell _ _ _ _ (by simp)
  · rfl

@[simp] theorem State.servicePacket_cell (p : Packet) (s : State) : (s.servicePacket p).view.cars.2.2.outputs = s.view.cars.2.2.outputs := by
  unfold State.servicePacket
  repeat' split
  all_goals simp

@[simp] theorem State.sliceCycleEnd_cell (i : Fin 16) (s : State) : (s.sliceCycleEnd i).view.cars.2.2.outputs = s.view.cars.2.2.outputs := by
  unfold State.sliceCycleEnd
  split <;> rfl

@[simp] theorem State.sliceAt_cell (i : Fin 16) (m : Int) (s : State) : (s.sliceAt i m).view.cars.2.2.outputs = s.view.cars.2.2.outputs := by
  unfold State.sliceAt
  split
  · dsimp only
    rw [State.writeSliceData_view, State.modSlice_cell]
    split <;> rfl
  · rfl

@[simp] theorem State.sliceSync_cell (i : Fin 16) (due : List Int) (s : State) : (s.sliceSync i due).view.cars.2.2.outputs = s.view.cars.2.2.outputs :=
  foldl_keeps (fun s => s.view.cars.2.2.outputs) _ (fun s m => State.sliceAt_cell i m s) due s

@[simp] theorem State.spliceSync_cell (s : State) : s.spliceSync.view.cars.2.2.outputs = s.view.cars.2.2.outputs := by
  simp [State.spliceSync]

@[simp] theorem State.cycleEnd_cell (s : State) : s.cycleEnd.view.cars.2.2.outputs = s.view.cars.2.2.outputs := by
  unfold State.cycleEnd
  dsimp only
  split <;> simp

@[simp] theorem State.onSliceAt_cell (i : Fin 16) (due : Env → Slice → Option Nat) (f : Env → Slice → Slice) (s : State) : (s.onSliceAt i due f).view.cars.2.2.outputs = s.view.cars.2.2.outputs := by
  unfold State.onSliceAt
  repeat' split
  all_goals simp

@[simp] theorem State.onPowerAt_cell (i : Fin 16) (due : Env → Slice → Option Nat) (f : Env → Slice → Slice) (s : State) : (s.onPowerAt i due f).view.cars.2.2.outputs = s.view.cars.2.2.outputs := by
  unfold State.onPowerAt
  repeat' split
  all_goals simp

@[simp] theorem State.atSyncFrom_cell (i : Fin 16) (due : Int) (s : State) : (s.atSyncFrom i due).view.cars.2.2.outputs = s.view.cars.2.2.outputs := by
  simp [State.atSyncFrom]

@[simp] theorem State.portalExpiry_cell (i : Fin 16) (due : Env → Slice → Option Int) (s : State) : (s.portalExpiry i due).view.cars.2.2.outputs = s.view.cars.2.2.outputs := by
  unfold State.portalExpiry
  repeat' split
  all_goals simp

@[simp] theorem State.edgeTick_cell (i : Fin 16) (a : Fin 3) (s : State) : (s.edgeTick i a).view.cars.2.2.outputs = s.view.cars.2.2.outputs := by
  simp [State.edgeTick]

@[simp] theorem State.estimatorTick_cell (i : Fin 16) (x0 x1 x2 : PhaseAvg) (s : State) : (s.estimatorTick i x0 x1 x2).view.cars.2.2.outputs = s.view.cars.2.2.outputs := by
  simp [State.estimatorTick]

@[simp] theorem State.sampleTick_cell (i : Fin 16) (pins : Vector Int 16) (lines : Vector Int 5) (s : State) : (s.sampleTick i pins lines).view.cars.2.2.outputs = s.view.cars.2.2.outputs := by
  simp [State.sampleTick]

@[simp] theorem State.sliceRegister_cell (i : Fin 16) (off v : Nat) (s : State) : (s.sliceRegister i off v).view.cars.2.2.outputs = s.view.cars.2.2.outputs := by
  simp [State.sliceRegister]

@[simp] theorem State.mssAccess_cell (f : State → State) (s : State) (h : (f s).view.cars.2.2.outputs = s.view.cars.2.2.outputs) : (s.mssAccess f).view.cars.2.2.outputs = s.view.cars.2.2.outputs := by
  simp [State.mssAccess, h]

@[simp] theorem State.matrixWrite_cell (i : Fin 16) (v : Nat) (s : State) : (s.matrixWrite i v).view.cars.2.2.outputs = s.view.cars.2.2.outputs := by
  simp [State.matrixWrite]

@[simp] theorem State.hawserRegister_cell (f : State → State) (s : State) (h : (f s).view.cars.2.2.outputs = s.view.cars.2.2.outputs) : (s.hawserRegister f).view.cars.2.2.outputs = s.view.cars.2.2.outputs := by
  simp [State.hawserRegister, h]

/-! ### The latched cell stands open (R83, R86) -/

/-- A latched cell whose channels and switches are open and carry no current. -/
def LoopCell.safe (l : LoopCell) : Prop := l.latched = true → l.sw1 = false ∧ l.sw2 = false ∧ l.ch1 = false ∧ l.ch2 = false ∧ l.conducting = false

theorem State.loopSafe_iff (s : State) : s.loopSafe ↔ s.loop.safe := Iff.rfl

theorem LoopCell.safe_of_outputs {l m : LoopCell} (h : l.outputs = m.outputs) (hm : m.safe) : l.safe := by
  simp only [LoopCell.outputs, Prod.mk.injEq] at h
  obtain ⟨hlatched, hch1, hch2, hsw1, hsw2, hconducting⟩ := h
  unfold LoopCell.safe
  rwa [hlatched, hch1, hch2, hsw1, hsw2, hconducting]

theorem LoopCell.safe_of_unlatched {l : LoopCell} (h : l.latched = false) : l.safe := by simp [LoopCell.safe, h]

theorem LoopCell.latch_safe (cause : Nat) (l : LoopCell) : (l.latch cause).safe := fun _ => ⟨rfl, rfl, rfl, rfl, rfl⟩

theorem State.loopSafe_of_cell {s u : State} (h : u.view.cars.2.2.outputs = s.view.cars.2.2.outputs) (hs : s.loopSafe) : u.loopSafe := u.loopSafe_iff.2 (LoopCell.safe_of_outputs h (s.loopSafe_iff.1 hs))

/-- A pulse keeps the cell as it stands, or a failed one opens it with its latch (R86). -/
theorem State.pulse_safe {s : State} (h : s.loopSafe) (second : Bool) (p : Pulse) : (s.pulse second p).loopSafe := by
  have hpass : (s.loop.pass second s.now).outputs = s.loop.outputs := by cases second <;> rfl
  have hnote : ({ s.loop.noteTest second 2 with cntAborted := satInc 255 s.loop.cntAborted } : LoopCell).outputs = s.loop.outputs := by cases second <;> rfl
  cases p with
  | passed => exact LoopCell.safe_of_outputs hpass h
  | aborted => exact LoopCell.safe_of_outputs hnote h
  | failed =>
    show (State.raise 239 1 _ _).loop.safe
    rw [State.raise_loop]
    exact LoopCell.latch_safe 2 _

theorem State.loopAtSync_safe {s : State} (h : s.loopSafe) (p : Pulse) : (s.loopAtSync p).loopSafe := by
  unfold State.loopAtSync
  extract_lets taken
  have htaken : taken.loopSafe := by
    unfold taken
    repeat' split
    all_goals exact h
  repeat' split
  · exact htaken
  · refine State.pulse_safe ?_ true p
    exact htaken
  · refine State.pulse_safe ?_ false p
    exact htaken
  · exact htaken

theorem State.syncPoint_safe {s : State} (h : s.loopSafe) (p : Pulse) (authIn : Bool) : (s.syncPoint p authIn).loopSafe := by
  have hserved : (s.served authIn).view.cars.2.2.outputs = s.view.cars.2.2.outputs := by simp [State.served, State.switched]
  have hafter (u : State) : u.spliceSync.cycleStart.view.cars.2.2.outputs = u.view.cars.2.2.outputs := by simp
  rw [State.syncPoint_eq]
  exact State.loopSafe_of_cell (hafter _) (State.loopAtSync_safe (State.loopSafe_of_cell hserved h) p)

theorem State.loopContact_safe {s : State} (h : s.loopSafe) (i : Fin 16) (channel : Fin 2) (contact : Fin 3) (dv : Int) (held : Bool) (ma : Nat) :
    (s.loopContact i channel contact dv held ma).loopSafe := by
  unfold State.loopContact
  split
  · exact State.settleLoop_safe held ma _
  · exact h

theorem State.loopDiscrepancy_safe {s : State} (h : s.loopSafe) (i : Fin 16) : (s.loopDiscrepancy i).loopSafe := by
  unfold State.loopDiscrepancy
  split
  · exact h
  · show (State.raise 238 1 _ _).loop.safe
    rw [State.raise_loop]
    exact fun _ => ⟨rfl, rfl, rfl, rfl, rfl⟩

theorem State.x1Qualified_safe {s : State} (h : s.loopSafe) (dv : Nat) : (s.x1Qualified dv).loopSafe := by
  unfold State.x1Qualified
  split
  · exact h
  · refine State.loopSafe_of_cell (State.releaseFirst_cell _) (LoopCell.safe_of_unlatched ?_)
    rfl

theorem State.handover_safe {s : State} (h : s.loopSafe) : s.handover.loopSafe := by
  unfold State.handover
  split
  · exact h
  · extract_lets t u
    split
    · exact State.loopSafe_of_cell s.cfgHandover_cell h
    · exact State.settleLoop_safe _ _ _

theorem State.moduleReset_safe (s : State) : s.moduleReset.loopSafe := fun _ => ⟨rfl, rfl, rfl, rfl, rfl⟩

theorem State.supplyLost_safe {s : State} (h : s.loopSafe) : s.supplyLost.loopSafe := by
  unfold State.supplyLost
  split
  · exact h
  · extract_lets t u v
    split
    · split <;> exact State.settleLoop_safe _ _ _
    · exact u.moduleReset_safe

theorem State.powerFailReset_safe {s : State} (h : s.loopSafe) : s.powerFailReset.loopSafe := by
  unfold State.powerFailReset
  split
  · exact h
  · extract_lets t commanded u
    have hu : u.loopSafe := State.moduleReset_safe _
    split
    · exact State.loopSafe_of_cell (State.releaseFirst_cell _) hu
    · exact hu

/-! ### Every command -/

/-- From one state to another a latched cell goes on standing open. -/
def State.KeepsLoop (s u : State) : Prop := s.loopSafe → u.loopSafe

theorem State.keepsLoop_of_cell {s u : State} (h : u.view.cars.2.2.outputs = s.view.cars.2.2.outputs) : s.KeepsLoop u := State.loopSafe_of_cell h

theorem exec_keepsLoop (c : Instr) (s : State) : ∃ u, exec c s = State.complete u ∧ s.KeepsLoop u := by
  cases c
  case syncPoint p authIn => exact ⟨_, rfl, fun h => State.syncPoint_safe h p authIn⟩
  case loopContactChange i ch k dv held ma => exact ⟨_, rfl, fun h => State.loopContact_safe h i ch k dv held ma⟩
  case loopDiscrepancyTimeout i => exact ⟨_, rfl, fun h => State.loopDiscrepancy_safe h i⟩
  case x1Qualified dv => exact ⟨_, rfl, fun h => State.x1Qualified_safe h dv⟩
  case configurationHandover => exact ⟨_, rfl, State.handover_safe⟩
  case supplyLost => exact ⟨_, rfl, State.supplyLost_safe⟩
  case powerFailReset => exact ⟨_, rfl, State.powerFailReset_safe⟩
  case hostPortAccess agent i x other => cases agent <;> exact ⟨_, rfl, State.keepsLoop_of_cell (by simp)⟩
  case tetherFrame i f => exact ⟨_, rfl, State.keepsLoop_of_cell (by cases f <;> simp)⟩
  all_goals refine ⟨_, rfl, State.keepsLoop_of_cell ?_⟩
  all_goals simp

/-- Settles O57: what closes a switch asks that the cell is not latched, and what latches it opens both. -/
theorem loopLatchStaysSafe : Obligations.LoopLatchStaysSafe := by
  unfold Obligations.LoopLatchStaysSafe
  intro s t hsafe hstep
  unfold step at hstep
  split at hstep
  · cases hstep
    exact hsafe
  next c rest _ =>
    obtain ⟨u, hu, hkeeps⟩ := exec_keepsLoop c { s with pending := rest }
    rw [hu] at hstep
    cases hstep
    exact hkeeps hsafe

end Sys2Proof.Machine
end

section
/-! PROOFS. The commands of the door-loop cell: O16 and O17. -/

namespace Sys2Proof.Machine

/-! ### What stands beside the cell when its channels follow the contacts -/

theorem State.closeCell_beside (held : Bool) (s : State) : ∃ dq, s.closeCell held = { s with loop := s.loop.closedBy s.twinCellClosed held s.now, dq := dq } := by
  refine ⟨(s.closeCell held).dq, ?_⟩
  rw [← State.closeCell_loop]
  unfold State.closeCell
  dsimp only
  repeat' split
  all_goals rfl

theorem State.settleLoop_beside (held : Bool) (ma : Nat) (s : State) :
    ∃ dq, s.settleLoop held ma = { s with loop := s.loop.settled (s.channelWants 0) (s.channelWants 1) s.twinCellClosed held ma s.now, dq := dq } := by
  refine ⟨(s.settleLoop held ma).dq, ?_⟩
  rw [← State.settleLoop_loop]
  unfold State.settleLoop
  dsimp only
  split
  · split
    · rfl
    · obtain ⟨dq, hclose⟩ := State.closeCell_beside held (s.modLoop fun l => l.commandedBy (s.channelWants 0) (s.channelWants 1))
      unfold LoopCell.commandedBy at hclose
      rw [hclose]
      rfl
  · split <;> rfl

/-- What a channel asks of its contacts and of the supply before it wants its switch closed, but for the latch (R78, R81). -/
def State.channelReady (c : Fin 2) (s : State) : Bool :=
  s.configured && s.start.qualified && !s.start.lost && (List.finRange 16).all fun i => !s.portalOn i || s.provenIn c i

theorem State.channelWants_eq (c : Fin 2) (s : State) : s.channelWants c = (s.channelReady c && !s.loop.latched) := by
  unfold State.channelWants State.channelReady
  cases s.loop.latched <;> simp

/-- The channels look neither at the switches nor at the queue of events. -/
theorem State.channelWants_beside (c : Fin 2) (s : State) (l : LoopCell) (q : IntakeQ) : ({ s with loop := l, dq := q } : State).channelWants c = (s.channelReady c && !l.latched) :=
  State.channelWants_eq c _

/-! ### A contact changes (R78 to R81, R85) -/

/-- The cell once the channels have followed: what O16 asks of the commands, the switches and the check. -/
structure LoopCell.Answers (w1 w2 twin held : Bool) (ma : Nat) (l m : LoopCell) : Prop where
  open1 : w1 = false → m.ch1 = false ∧ m.sw1 = false ∧ m.conducting = false
  open2 : w2 = false → m.ch2 = false ∧ m.sw2 = false ∧ m.conducting = false
  closed : w1 = true → w2 = true → m.sw1 = true ∧ m.sw2 = true ∧ m.ch1 = true ∧ m.ch2 = true ∧ m.conducting = decide (10 ≤ ma)
  checked : l.sw1 = false → l.sw2 = false → l.latched = false → twin = false → m.sw1 = true → held = true ∧ m.closures = l.closures + 1
  latches : l.latched = false → m.latched = true → held = false ∧ m.latchCause = 3

/-- `r1` and `r2`: the channels are ready; what they want afterwards hangs on the latch. -/
theorem LoopCell.settled_answers (r1 r2 twin held : Bool) (ma t : Nat) (l : LoopCell) :
    let m := l.settled (r1 && !l.latched) (r2 && !l.latched) twin held ma t
    LoopCell.Answers (r1 && !m.latched) (r2 && !m.latched) twin held ma l m := by
  intro m
  rcases l.settled_cases (r1 && !l.latched) (r2 && !l.latched) twin held ma t with h | h
  · have hlatched : m.latched = l.latched := h.latched
    rw [hlatched]
    refine ⟨fun hw => ?_, fun hw => ?_, fun hw1 hw2 => ?_, fun h1 h2 _ htwin => h.checked htwin h1 h2, fun h0 h1 => absurd h1 (by simp [hlatched, h0])⟩
    · exact ⟨h.ch1.trans hw, h.open1 hw, h.conducting.trans (by rw [h.open1 hw]; rfl)⟩
    · exact ⟨h.ch2.trans hw, h.open2 hw, h.conducting.trans (by rw [h.open2 hw, Bool.and_false]; rfl)⟩
    · obtain ⟨hsw1, hsw2⟩ := h.closed hw1 hw2
      exact ⟨hsw1, hsw2, h.ch1.trans hw1, h.ch2.trans hw2, h.conducting.trans (by rw [hsw1, hsw2]; rfl)⟩
  · have hlatched : m.latched = true := h.latched
    rw [hlatched]
    exact ⟨fun _ => ⟨h.ch1, h.sw1, h.conducting⟩, fun _ => ⟨h.ch2, h.sw2, h.conducting⟩, fun hw => absurd hw (by simp),
      fun _ _ _ _ hsw => absurd hsw (by simp [m, h.sw1]), fun _ _ => ⟨h.unheld, h.cause⟩⟩

/-- The portal of a slice with the new level of a contact. -/
def Portal.withContact (ch : Fin 2) (k : Fin 3) (v : Bool) (dv : Int) (q : Portal) : Portal :=
  let n : Fin 6 := ⟨3 * ch.val + k.val, by omega⟩
  { q with contacts := q.contacts.set n v, contactVolts := q.contactVolts.set n (some dv) }

theorem Portal.withContact_contacts (ch : Fin 2) (k : Fin 3) (v : Bool) (dv : Int) (q : Portal) : (q.withContact ch k v dv).contacts[3 * ch.val + k.val]! = v := by
  have hn : 3 * ch.val + k.val < 6 := by omega
  rw [getElem!_pos (q.withContact ch k v dv).contacts _ hn]
  exact Vector.getElem_set_self hn

/-- The module once the channel has seen a contact's level, and before the channels follow. -/
def State.contactSeen (i : Fin 16) (ch : Fin 2) (k : Fin 3) (dv : Int) (s : State) : State :=
  (s.modSlice i fun sl => sl.modPortal (Portal.withContact ch k (s.contactLevel i ch k dv) dv)).watchDiscrepancy i

theorem State.loopContact_eq {i : Fin 16} {s : State} (hconf : s.configured = true) (hi : i.val < s.sliceCount) (ch : Fin 2) (k : Fin 3) (dv : Int) (held : Bool) (ma : Nat) :
    s.loopContact i ch k dv held ma = (s.contactSeen i ch k dv).settleLoop held ma :=
  if_pos (by simp [hconf, hi])

theorem State.contactSeen_same (i : Fin 16) (ch : Fin 2) (k : Fin 3) (dv : Int) (s : State) :
    (s.contactSeen i ch k dv).slices[i] = s.slices[i].modPortal (Portal.withContact ch k (s.contactLevel i ch k dv) dv) := State.modSlice_same rfl _ s

theorem State.contactSeen_other {i j : Fin 16} (h : j ≠ i) (ch : Fin 2) (k : Fin 3) (dv : Int) (s : State) : (s.contactSeen i ch k dv).slices[j] = s.slices[j] :=
  State.modSlice_other (Fin.val_ne_of_ne h) _ s

theorem classInactive_lt (c : Nat) : classInactive c < classActive c := by
  unfold classInactive classActive
  repeat' split
  all_goals decide

theorem comparator_active {cls : Nat} {v : Int} (h : classActive cls ≤ v) (rise fall : Nat) (level : Bool) (was : Option Int) : comparator cls rise fall level was v = true := if_pos h

theorem comparator_inactive {cls : Nat} {v : Int} (h : v ≤ classInactive cls) (rise fall : Nat) (level : Bool) (was : Option Int) : comparator cls rise fall level was v = false :=
  (if_neg (not_le.2 (lt_of_le_of_lt h (classInactive_lt cls)))).trans (if_pos h)

/-- Settles O16: the channels look at nothing that their switches change but the latch, and the cell alone tells how it closes. -/
theorem loopChannelsFollowTheContacts : Obligations.LoopChannelsFollowTheContacts := by
  unfold Obligations.LoopChannelsFollowTheContacts
  refine ⟨fun i ch k dv held ma s hconf hi => ?_, fun i ch k dv s hn => ?_⟩
  · obtain ⟨w, hw⟩ : ∃ w, s.contactSeen i ch k dv = w := ⟨_, rfl⟩
    have hbeside : (w.now, w.params, w.hws, w.twn, w.groups) = (s.now, s.params, s.hws, s.twn, s.groups) := by rw [← hw]; rfl
    have hcell : (w.loop.sw1, w.loop.sw2, w.loop.latched, w.loop.closures, w.twinCellClosed) = (s.loop.sw1, s.loop.sw2, s.loop.latched, s.loop.closures, s.twinCellClosed) := by rw [← hw]; rfl
    have hsame := State.contactSeen_same i ch k dv s
    have hother (j : Fin 16) (h : j ≠ i) := State.contactSeen_other h ch k dv s
    rw [hw] at hsame hother
    simp only [Prod.mk.injEq] at hbeside hcell
    obtain ⟨hnow, hparams, hhws, htwn, hgroups⟩ := hbeside
    obtain ⟨hsw1, hsw2, hlatched, hclosures, htwin⟩ := hcell
    obtain ⟨dq, hsettle⟩ := State.settleLoop_beside held ma w
    have hanswers := LoopCell.settled_answers (w.channelReady 0) (w.channelReady 1) w.twinCellClosed held ma w.now w.loop
    simp only [← State.channelWants_eq] at hanswers
    have hwants (c : Fin 2) := State.channelWants_beside c w (w.loop.settled (w.channelWants 0) (w.channelWants 1) w.twinCellClosed held ma w.now) dq
    generalize w.loop.settled (w.channelWants 0) (w.channelWants 1) w.twinCellClosed held ma w.now = m at hsettle hanswers hwants
    rw [← hwants, ← hwants] at hanswers
    refine ⟨_, congrArg State.complete ((State.loopContact_eq hconf hi ch k dv held ma).trans ((congrArg _ hw).trans hsettle)), hnow, hparams, hhws, htwn, hgroups, hother,
      (congrArg Slice.axes hsame :), (congrArg Slice.sw hsame :), (congrArg Slice.inp hsame :), (congrArg Slice.can hsame :), (congrArg (fun sl => sl.portal.st) hsame :), ?_,
      hanswers.open1, hanswers.open2, hanswers.closed, ?_, ?_⟩
    · exact (congrArg (fun sl : Slice => sl.portal.contacts[3 * ch.val + k.val]!) hsame).trans (Portal.withContact_contacts ch k _ dv _)
    · rw [← hsw1, ← hsw2, ← hlatched, ← hclosures, ← htwin]
      exact hanswers.checked
    · rw [← hlatched]
      exact hanswers.latches
  · intro n
    exact ⟨fun h => (if_pos hn).trans (comparator_active h _ _ _ _), fun h => (if_pos hn).trans (comparator_inactive h _ _ _ _)⟩

/-! ### The timers of the cell and its test (R83, R84, R86) -/

theorem State.loopDiscrepancy_due {i : Fin 16} {t0 : Nat} {s : State} (h : s.loop.discrepant[i] = some t0) :
    s.loopDiscrepancy i =
      ((((s.advance (t0 + ms (cfgPrtLoopDiscrepancyTime s.params))).modLoop fun l => { l.latch 1 with discrepantSlice := i.val, discrepant := l.discrepant.set i none }).modSlice i fun sl =>
        sl.modPortal fun q => { q with cntDiscrep := satInc 255 q.cntDiscrep }).raise 238 1 i.val) := by
  unfold State.loopDiscrepancy
  rw [h]

theorem State.loopDiscrepancy_idle {i : Fin 16} {s : State} (h : s.loop.discrepant[i] = none) : s.loopDiscrepancy i = s := by
  unfold State.loopDiscrepancy
  rw [h]

theorem State.loopTestDue_after {t0 : Nat} {s : State} (h : s.loop.lastTest = some t0) :
    s.loopTestDue = (s.advance (t0 + ms (cfgPrtLoopTestInterval s.params * 1000))).modLoop fun l => { l with commanded := true } := by
  unfold State.loopTestDue
  rw [h]

theorem State.loopTestDue_never {s : State} (h : s.loop.lastTest = none) : s.loopTestDue = s := by
  unfold State.loopTestDue
  rw [h]

/-- The overdue flag of switch 1 is raised once. -/
theorem State.loopOverdue_first {s : State} (h : s.loop.overdue1 = false) :
    s.loopOverdue false = ((s.advance (s.loop.passed1.getD s.loop.startAt + dayNs)).modLoop fun l => { l with overdue1 := true }).raise 239 3 1 := if_neg (by simp [h])

theorem State.loopOverdue_second {s : State} (h : s.loop.overdue2 = false) :
    s.loopOverdue true = ((s.advance (s.loop.passed2.getD s.loop.startAt + dayNs)).modLoop fun l => { l with overdue2 := true }).raise 239 3 2 := if_neg (by simp [h])

/-- Settles O17: the timers of the cell latch it, make a test due and raise an overdue flag, each once and at its instant. -/
theorem loopTimersOpenAndTestTheCell : Obligations.LoopTimersOpenAndTestTheCell := by
  unfold Obligations.LoopTimersOpenAndTestTheCell
  refine ⟨fun i t0 s h => ?_, fun i s h => ?_, fun t0 s h => ?_, fun s h => ?_, fun s h => ?_, fun s h => ?_, fun s h => ?_⟩
  · have hsame := State.modSlice_same (i := i) rfl (fun sl => sl.modPortal fun q => { q with cntDiscrep := satInc 255 q.cntDiscrep }) s
    have hother (j : Fin 16) (hj : j ≠ i) := State.modSlice_other (Fin.val_ne_of_ne hj) (fun sl => sl.modPortal fun q => { q with cntDiscrep := satInc 255 q.cntDiscrep }) s
    exact ⟨_, congrArg State.complete (State.loopDiscrepancy_due h), rfl, rfl, rfl, rfl, rfl, rfl, rfl, rfl, rfl, (congrArg (fun sl => sl.portal.cntDiscrep) hsame :), hother,
      (congrArg (fun sl => sl.portal.st) hsame :), (congrArg Slice.axes hsame :), rfl, rfl⟩
  · exact congrArg State.complete (State.loopDiscrepancy_idle h)
  · exact congrArg State.complete (State.loopTestDue_after h)
  · exact congrArg State.complete (State.loopTestDue_never h)
  · exact ⟨_, congrArg State.complete (State.loopOverdue_first h), rfl, rfl, rfl, rfl⟩
  · exact ⟨_, congrArg State.complete (State.loopOverdue_second h), rfl, rfl, rfl, rfl⟩
  · exact congrArg State.complete (if_pos h)

end Sys2Proof.Machine
end

section
/-! PROOFS. The loss of the control supply: O54. -/

namespace Sys2Proof.Machine

/-! ### The warning and its withdrawal (R481, R504) -/

/-- The warning writes the started state into the control area and makes the power-fail flush due. -/
theorem State.recorderWarning_log (s : State) : ∃ l, s.recorderWarning = { s with log := l } ∧ (s.log.journalFailed = false → l.control.flushState = .started) ∧ l.flushNext = some (s.log.flushNext.getD 2) := by
  refine ⟨_, rfl, fun h => ?_, ?_⟩
  · obtain ⟨controls, -, hcontrol⟩ := Logline.writeControl_eq (fun c => { c with flushState := .started }) h
    exact congrArg ControlArea.flushState hcontrol
  · show some ((s.log.writeControl _).flushNext.getD 2) = _
    unfold Logline.writeControl
    split <;> rfl

theorem State.recorderResume_log (s : State) : ∃ l, s.recorderResume = { s with log := l } ∧ (s.log.journalFailed = false → l.control.flushState = .running) ∧ l.stopped = false := by
  refine ⟨_, rfl, fun h => ?_, ?_⟩
  · obtain ⟨controls, -, hcontrol⟩ := Logline.writeControl_eq (l := { s.log with stopped := false }) (fun c => { c with flushState := .running }) h
    exact congrArg ControlArea.flushState hcontrol
  · show (Logline.writeControl _ _).stopped = false
    unfold Logline.writeControl
    split <;> rfl

/-- Only a recorder that records is told of the supply. -/
theorem State.ifRecording {f : State → State} {P : Logline → Prop} {w : State} (hf : ∃ l, f w = { w with log := l } ∧ P l) :
    ∃ l, (if w.mssUp && w.log.recording then f w else w) = { w with log := l } ∧ (w.mssUp = true → w.log.recording = true → P l) ∧ (w.mssUp = false ∨ w.log.recording = false → l = w.log) := by
  split
  case isTrue h =>
    obtain ⟨hup, hrec⟩ := Bool.and_eq_true_iff.1 h
    obtain ⟨l, hl, hP⟩ := hf
    exact ⟨l, hl, fun _ _ => hP, fun hno => absurd hno (by simp [hup, hrec])⟩
  case isFalse h => exact ⟨w.log, rfl, fun hup hrec => absurd (Bool.and_eq_true_iff.2 ⟨hup, hrec⟩) h, fun _ => rfl⟩

theorem State.powerFailWarning_ok {dv : Nat} {s : State} (hq : s.start.qualified = true) (hw : s.start.warning = false) (hdv : dv < 168) :
    ∃ t, exec (.powerFailWarning dv) s = .next t ∧ t.now = s.now ∧ t.carSide = s.carSide ∧ t.twn = s.twn ∧ t.hws = s.hws ∧ t.start = { s.start with x1 := dv, warning := true, warningAt := s.now } ∧
      (s.mssUp = true → s.log.recording = true → (s.log.journalFailed = false → t.log.control.flushState = .started) ∧ t.log.flushNext = some (s.log.flushNext.getD 2)) ∧ (s.mssUp = false ∨ s.log.recording = false → t.log = s.log) := by
  obtain ⟨l, hl, htold, hquiet⟩ := State.ifRecording (State.recorderWarning_log (s.modStart fun x => { x with x1 := dv, warning := true, warningAt := s.now }))
  have hcmd : s.powerFailWarning dv = _ := (if_neg (by simp [hq, hw]; omega)).trans hl
  exact ⟨_, congrArg State.complete hcmd, rfl, rfl, rfl, rfl, rfl, htold, hquiet⟩

theorem State.warningWithdrawn_ok {dv : Nat} {s : State} (hw : s.start.warning = true) (hl : s.start.lost = false) (hdv : 168 ≤ dv) :
    ∃ t, exec (.powerFailWarningWithdrawn dv) s = .next t ∧ t.now = s.now ∧ t.carSide = s.carSide ∧ t.twn = s.twn ∧ t.hws = s.hws ∧ t.start = { s.start with x1 := dv, warning := false } ∧
      (s.mssUp = true → s.log.recording = true → (s.log.journalFailed = false → t.log.control.flushState = .running) ∧ t.log.stopped = false) ∧ (s.mssUp = false ∨ s.log.recording = false → t.log = s.log) := by
  obtain ⟨l, hlog, htold, hquiet⟩ := State.ifRecording (State.recorderResume_log (s.modStart fun x => { x with x1 := dv, warning := false }))
  have hcmd : s.warningWithdrawn dv = _ := (if_neg (by simp [hw, hl]; omega)).trans hlog
  exact ⟨_, congrArg State.complete hcmd, rfl, rfl, rfl, rfl, rfl, htold, hquiet⟩

/-! ### The supply is lost (R505, R516) -/

/-- Without the supply no channel wants its switch closed: the cell opens, and its latch stays (R81). -/
theorem LoopCell.settled_unwanted (twin held : Bool) (ma t : Nat) (l : LoopCell) :
    let m := l.settled false false twin held ma t
    m.ch1 = false ∧ m.ch2 = false ∧ m.sw1 = false ∧ m.sw2 = false ∧ m.conducting = false ∧ m.latched = l.latched := by
  cases twin <;> simp [LoopCell.settled, LoopCell.commandedBy]

/-- The module once 11 ms have passed since the warning. -/
def State.lostAt (s : State) : State := (s.advance (s.start.warningAt + ms 11)).modStart fun x => { x with lost := true, qualified := false }

theorem State.lostAt_unwanted (c : Fin 2) (s : State) : s.lostAt.channelWants c = false := by
  simp [State.channelWants, State.lostAt]

/-- The Hawser island resigns. -/
def State.resigns (s : State) : State := s.modTwn fun t => { t with resign := true }

theorem State.supplyLost_running {s : State} (hw : s.start.warning = true) (hl : s.start.lost = false) (hstage : s.start.stage = .running ∨ s.start.stage = .unconfigured) :
    ∃ held, s.supplyLost = if (s.lostAt.settleLoop held 0).hawserRuns then (s.lostAt.settleLoop held 0).resigns else s.lostAt.settleLoop held 0 :=
  ⟨_, (if_neg (by simp [hw, hl])).trans (if_pos hstage)⟩

theorem State.supplyLost_early {s : State} (hw : s.start.warning = true) (hl : s.start.lost = false) (hrun : s.start.stage ≠ .running) (hunconf : s.start.stage ≠ .unconfigured) :
    s.supplyLost = s.lostAt.moduleReset :=
  (if_neg (by simp [hw, hl])).trans (if_neg (not_or.2 ⟨hrun, hunconf⟩))

theorem State.supplyLost_opens {s : State} (hw : s.start.warning = true) (hl : s.start.lost = false) (hstage : s.start.stage = .running ∨ s.start.stage = .unconfigured) :
    ∃ t, exec .supplyLost s = .next t ∧ t.now = max s.now (s.start.warningAt + 11000000) ∧ t.start = { s.start with lost := true, qualified := false } ∧ t.loop.ch1 = false ∧ t.loop.ch2 = false ∧ t.loop.sw1 = false ∧ t.loop.sw2 = false ∧ t.loop.conducting = false ∧
      t.loop.latched = s.loop.latched ∧ t.slices = s.slices ∧ t.params = s.params ∧ t.hws = s.hws ∧ t.twn = { s.twn with resign := t.twn.resign } ∧ (s.hawserRuns = true → t.twn.resign = true) := by
  obtain ⟨held, hlost⟩ := State.supplyLost_running hw hl hstage
  obtain ⟨dq, hsettle⟩ := State.settleLoop_beside held 0 s.lostAt
  rw [State.lostAt_unwanted, State.lostAt_unwanted] at hsettle
  have hopen := LoopCell.settled_unwanted s.lostAt.twinCellClosed held 0 s.lostAt.now s.loop
  obtain ⟨m, hm⟩ : ∃ m, s.loop.settled false false s.lostAt.twinCellClosed held 0 s.lostAt.now = m := ⟨_, rfl⟩
  rw [hm] at hopen
  rw [show s.lostAt.loop = s.loop from rfl, hm] at hsettle
  obtain ⟨hch1, hch2, hsw1, hsw2, hconducting, hlatched⟩ := hopen
  rw [hsettle] at hlost
  refine ⟨_, congrArg State.complete hlost, ?_⟩
  split
  case isTrue => exact ⟨rfl, rfl, hch1, hch2, hsw1, hsw2, hconducting, hlatched, rfl, rfl, rfl, rfl, fun _ => rfl⟩
  case isFalse h => exact ⟨rfl, rfl, hch1, hch2, hsw1, hsw2, hconducting, hlatched, rfl, rfl, rfl, rfl, fun hruns => absurd hruns h⟩

/-! ### The outputs are released (R257, R395, R505) -/

theorem State.settleGate_keeps {α : Type} (g : State → α) (hslice : ∀ i f t, g (State.modSlice i f t) = g t) (htwn : ∀ f t, g (State.modTwn f t) = g t) (s : State) : g s.settleGate = g s := by
  unfold State.settleGate
  dsimp only
  split
  · rfl
  · exact (State.eachSlice_keeps g _ (fun i t => hslice i _ t) _).trans (htwn _ s)

/-- The gate settles: the twin block keeps all but the gate and its time. -/
theorem State.settleGate_twn (s : State) : s.settleGate.twn.auth = s.twn.auth ∧ s.settleGate.twn.gate = s.gate := by
  unfold State.settleGate
  extract_lets g u
  split
  case isTrue h => exact ⟨rfl, h.symm⟩
  case isFalse =>
    rw [State.eachSlice_keeps State.twn _ (fun _ _ => ?_) u]
    · exact ⟨rfl, rfl⟩
    · exact State.modSlice_twn _ _ _

/-- What the release of AUTH_OUT leaves alone. -/
def State.besideAuth (s : State) := (s.now, s.start, s.hws, s.loop, s.params, s.plug)

/-- AUTH_OUT is released at command, and the gate closes. -/
theorem State.authCommand_release (s : State) :
    (s.authCommand false).besideAuth = s.besideAuth ∧ (s.authCommand false).twn.auth.out = false ∧ (s.authCommand false).twn.auth.hold = false ∧
      (s.gateSafe → s.twn.auth.readback = s.twn.auth.out → (s.authCommand false).twn.gate = false) := by
  unfold State.authCommand
  extract_lets t u
  rw [if_neg (by decide)]
  split
  case isTrue =>
    unfold State.setAuthOut
    obtain ⟨hauth, hgate⟩ := State.settleGate_twn (u.modAuth fun a => { a with out := false, readback := false })
    refine ⟨State.settleGate_keeps State.besideAuth (fun _ _ _ => rfl) (fun _ _ => rfl) _, ?_, ?_, fun _ _ => hgate⟩
    · rw [hauth]; rfl
    · rw [hauth]; rfl
  case isFalse h =>
    have hout : s.twn.auth.out = false := Bool.eq_false_iff.2 h
    refine ⟨rfl, hout, rfl, fun hsafe hread => ?_⟩
    show s.twn.gate = false
    rw [hsafe, hread, hout]
    rfl

/-- The instant of the release: 52 ms after the warning, or that of a flushed restart. -/
def State.releaseAt (s : State) : State := if s.start.lost then s.advance (s.start.warningAt + ms 52) else s

/-- With AUTH_OUT released the Hitch is let go of, at the instant `n`. -/
def State.letGo (n : Nat) (s : State) : State := (s.modTwn fun t => { t with hitch := false, layer := 0 }).modStart fun x => { x with released := true, releasedAt := n }

theorem State.shutdownRelease_eq {s : State} (hr : s.start.released = false) (hdue : s.start.lost = true ∨ (s.start.commanded = true ∧ s.flushed = true)) :
    s.shutdownRelease = (s.releaseAt.stopRelays.authCommand false).letGo s.releaseAt.now := by
  have hnow : (s.releaseAt.stopRelays.authCommand false).now = s.releaseAt.now := congrArg Prod.fst (State.authCommand_release s.releaseAt.stopRelays).1
  rw [← hnow]
  exact if_neg (by rcases hdue with h | ⟨hc, hf⟩ <;> simp [*])

theorem Relay.stopped_drive (t : Nat) (r : Relay) : (if r.drive then r.stopDrive t else r).drive = false := by
  split
  case isTrue => rfl
  case isFalse h => exact Bool.eq_false_iff.2 h

theorem State.stopRelays_drive (c : Fin 2) (s : State) : s.stopRelays.hws.relays[c].drive = false := by
  simp [State.stopRelays, Relay.stopped_drive]

theorem State.shutdownRelease_releases {s : State} (hr : s.start.released = false) (hdue : s.start.lost = true ∨ (s.start.commanded = true ∧ s.flushed = true)) :
    ∃ t, exec .shutdownRelease s = .next t ∧ t.now = (if s.start.lost then max s.now (s.start.warningAt + 52000000) else s.now) ∧ t.start = { s.start with released := true, releasedAt := t.now } ∧ t.twn.auth.out = false ∧ t.twn.auth.hold = false ∧ t.twn.hitch = false ∧
      (s.gateSafe → s.twn.auth.readback = s.twn.auth.out → t.twn.gate = false) ∧ (∀ c : Fin 2, t.hws.relays[c].drive = false) ∧ t.loop = s.loop ∧ t.params = s.params ∧ t.plug = s.plug := by
  obtain ⟨u, hu⟩ : ∃ u, s.releaseAt = u := ⟨_, rfl⟩
  have hbeside : (u.start, u.loop, u.params, u.plug, u.twn) = (s.start, s.loop, s.params, s.plug, s.twn) := by
    rw [← hu]
    unfold State.releaseAt
    split <;> rfl
  have htime : u.now = if s.start.lost then max s.now (s.start.warningAt + 52000000) else s.now := by
    rw [← hu]
    exact apply_ite State.now _ _ _
  simp only [Prod.mk.injEq] at hbeside
  obtain ⟨hstart, hloop, hparams, hplug, htwn⟩ := hbeside
  obtain ⟨hrest, hout, hhold, hgate⟩ := State.authCommand_release u.stopRelays
  have hcmd := State.shutdownRelease_eq hr hdue
  rw [hu] at hcmd
  generalize u.stopRelays.authCommand false = v at hrest hout hhold hgate hcmd
  simp only [State.besideAuth, Prod.mk.injEq] at hrest
  obtain ⟨hnow, hstart', hhws, hloop', hparams', hplug'⟩ := hrest
  refine ⟨_, congrArg State.complete hcmd, hnow.trans htime, ?_, hout, hhold, rfl, ?_, fun c => ?_, hloop'.trans hloop, hparams'.trans hparams, hplug'.trans hplug⟩
  · show { v.start with released := true, releasedAt := u.now } = { s.start with released := true, releasedAt := v.now }
    rw [hstart'.trans hstart, hnow]
    rfl
  · rw [← htwn]
    unfold State.gateSafe
    rw [← htwn]
    exact hgate
  · show v.hws.relays[c].drive = false
    rw [hhws]
    exact State.stopRelays_drive c u

/-! ### The module resets (R513, R514) -/

/-- The module at the reset, and whether a commanded restart goes on (R513). -/
def State.resetAt (s : State) : State := (s.advance (s.start.releasedAt + ms 3)).modStart fun x => { x with commanded := s.start.commanded && !s.start.lost }

theorem State.powerFailReset_eq {s : State} (h : s.start.released = true) :
    s.powerFailReset = if s.start.commanded && !s.start.lost then s.resetAt.moduleReset.releaseFirst else s.resetAt.moduleReset := if_neg (by simp [h])

/-- What the first islands' release leaves of a module that has reset. -/
theorem State.releaseFirst_beside (s : State) : ∃ clocks islands stalled, s.releaseFirst =
    { s with
      clocks := clocks, islands := islands, stalled := stalled
      start := { s.start with stage := .qualified, starts := s.start.starts + 1 }
      mss := { s.mss with onFrom := some s.now }
      loop := { s.loop with startAt := s.now } } := by
  obtain ⟨c, i, st, hall⟩ := State.releaseAll_eq (fun k => 16 ≤ k.val ∧ k.val ≠ 32) (List.finRange 34) s
  refine ⟨c, i, st, ?_⟩
  rw [State.releaseFirst_eq, hall]
  rfl

theorem State.powerFailReset_resets {s : State} (h : s.start.released = true) :
    let commanded := s.start.commanded && !s.start.lost
    ∃ t, exec .powerFailReset s = .next t ∧ t.now = max s.now (s.start.releasedAt + 3000000) ∧ t.start.stage = (if commanded then .qualified else .off) ∧ t.start.kind = (if commanded then 3 else 2) ∧ t.start.lost = false ∧ t.start.warning = false ∧ t.start.released = false ∧
      t.slices = State.reset.slices ∧ t.params = [] ∧ t.hws = { Hawser.reset with clock := ⟨0, t.now, 0⟩ } ∧ t.twn = Twin.reset ∧ t.spl = Splice.reset ∧ t.node = NodeEvents.reset ∧ t.sliceRegions = State.reset.sliceRegions ∧
      t.plug = s.plug ∧ t.mss.boot = s.mss.boot ∧ t.mss.bankA.nor = s.mss.bankA.nor ∧ t.mss.bankB.nor = s.mss.bankB.nor ∧ t.mss.bankA.version = 0 ∧ t.mss.bankB.version = 0 ∧ t.mss.cal = { s.mss.cal with supercap := 0 } ∧ t.log.ledger = s.log.ledger ∧ t.log.journal = s.log.journal ∧ t.log.lastWord = s.log.lastWord ∧ t.log.buffer = [] ∧
      t.loop.latched = (commanded && s.loop.latched) ∧ t.loop.sw1 = false ∧ t.loop.sw2 = false ∧ t.cfg.told = s.cfg.told ∧ t.small = s.small := by
  intro commanded
  have hcmd := State.powerFailReset_eq h
  obtain ⟨clocks, islands, stalled, hfirst⟩ := State.releaseFirst_beside s.resetAt.moduleReset
  rw [hfirst] at hcmd
  refine ⟨_, congrArg State.complete hcmd, ?_⟩
  split
  case isTrue hc =>
    refine ⟨rfl, rfl, if_pos hc, ?_⟩
    and_intros <;> rfl
  case isFalse hc =>
    refine ⟨rfl, rfl, if_neg hc, ?_⟩
    and_intros <;> rfl

/-- Settles O54: each command of the supply's order acts at its own instant and is without effect at any other. -/
theorem supplyLossRunsItsOrder : Obligations.SupplyLossRunsItsOrder := by
  unfold Obligations.SupplyLossRunsItsOrder
  refine ⟨fun dv s => State.powerFailWarning_ok, fun dv s h => ?_, fun dv s => State.warningWithdrawn_ok, fun dv s h => ?_, fun s => State.supplyLost_opens, fun s hw hl hrun hunconf => ?_, fun s h => ?_,
    fun s => State.shutdownRelease_releases, fun s h => ?_, fun s => State.powerFailReset_resets, fun s h => ?_⟩
  · exact congrArg State.complete (if_pos (by rcases h with h | h | h <;> simp [h]))
  · exact congrArg State.complete (if_pos (by rcases h with h | h | h <;> simp [h]))
  · exact ⟨_, congrArg State.complete (State.supplyLost_early hw hl hrun hunconf), rfl, rfl, rfl, fun k => congrArg Island.running (Vector.getElem_replicate k.isLt)⟩
  · exact congrArg State.complete (if_pos (by rcases h with h | h <;> simp [h]))
  · exact congrArg State.complete (if_pos (by rcases h with h | ⟨hl, h | h⟩ <;> simp [*]))
  · exact congrArg State.complete (if_pos (by simp [h]))

end Sys2Proof.Machine
end

section
/-! PROOFS. The portal timers at the sync point at which they have elapsed: O12 and O13. -/

namespace Sys2Proof.Machine

/-! ### The sync point at which a timer has elapsed (R52) -/

/-- What the sync point that an instant brings to a slice finds there: the surroundings, and the slice before its evaluation. -/
structure State.Finds (i : Fin 16) (t : Int) (s : State) (e : Env) (p : Slice) : Prop where
  surroundings : (s.atSyncFrom i t).envAhead i = e
  slice : s.found i t = p

section
variable {i : Fin 16} {t : Int} {s : State} {e : Env} {p : Slice}

theorem State.Finds.params (h : s.Finds i t e p) : e.p = s.params ∧ e.i = i.val := by
  rw [← h.surroundings]
  exact ⟨rfl, rfl⟩

theorem State.Finds.cyc (h : s.Finds i t e p) : t ≤ (e.cyc : Int) := h.surroundings ▸ State.cyc_ge i t s

/-- The portal stands as it did. -/
theorem State.Finds.stands (h : s.Finds i t e p) : p.portal.st = s.slices[i].portal.st ∧ p.portal.phase = s.slices[i].portal.phase ∧ p.portal.tState = s.slices[i].portal.tState := by
  obtain ⟨hst, hphase, htState, -⟩ := State.found_portal i t s
  rw [h.slice] at hst hphase htState
  exact ⟨hst, hphase, htState⟩

/-- A time that runs from the entry into the portal's state has elapsed at the sync point which its expiry brings. -/
theorem State.Finds.elapsed {n : Nat} (h : s.Finds i (s.slices[i].portal.tState + ms n) e p) : p.elapsed e n = true :=
  Slice.elapsed_of e n p (h.stands.2.2 ▸ h.cyc)

/-- The expiry of a timer that acts: nothing but the slice and the clock has changed, and the portal stands as its transition leaves it. -/
theorem State.Finds.next (h : s.Finds i t e p) {due : Env → Slice → Option Int} (hdue : due (s.env i) s.slices[i] = some t) (hacts : s.timerActs i t = true) :
    ∃ x : Slice, State.complete (s.portalExpiry i due) = .next ((s.atSyncFrom i t).modSlice i fun _ => x).draw ∧ t ≤ (e.cyc : Int) ∧ x.portal.look = (p.moved e).portal.look ∧
      (∀ k : Fin 6, cfgLswChSource s.params i k.val = 1 → x.sw.ch[k].decided = (p.moved e).channelOut e k) ∧ (∀ a : Fin 3, x.axes[a].d.pendMode = (p.moved e).pends a) := by
  obtain ⟨hp, hi⟩ := h.params
  obtain ⟨x, hx, hlook, hchannels, hmodes⟩ := State.portalExpiry_look i due s t hdue hacts
  rw [h.surroundings, h.slice] at hlook hchannels hmodes
  rw [hp, hi] at hchannels
  exact ⟨x, congrArg State.complete hx, h.cyc, hlook, hchannels, hmodes⟩

end

/-! ### Timers that give FAULT (R65, R70, R74) -/

section
variable {e : Env} {p : Slice}

theorem Slice.timerCause_locking (hst : p.portal.st = .locking) (hel : p.elapsed e (cfgPrtLockConfirmMs e.p e.i) = true) (hs2 : p.s2 e = false) : p.timerCause e = 5 := by
  unfold Slice.timerCause
  simp only [hst, hel, hs2]
  rfl

theorem Slice.timerCause_unlocking (hst : p.portal.st = .unlocking) (hel : p.elapsed e (cfgPrtUnlockConfirmMs e.p e.i) = true) (hs2 : p.s2 e = true) : p.timerCause e = 2 := by
  unfold Slice.timerCause
  simp only [hst, hel, hs2]
  rfl

theorem Slice.timerCause_opening (hst : p.portal.st = .opening) (hel : p.elapsed e (cfgPrtOpenTimeout e.p e.i) = true) : p.timerCause e = 3 := by
  unfold Slice.timerCause
  simp only [hst, hel, if_true]

theorem Slice.timerCause_closing (hst : p.portal.st = .closing) (hphase : p.portal.phase = .move) (hel : p.elapsed e (cfgPrtCloseTimeout e.p e.i) = true) : p.timerCause e = 4 := by
  unfold Slice.timerCause
  simp only [hst, hphase, hel, if_true]

theorem Slice.timerCause_closedUnlocked (hst : p.portal.st = .closedUnlocked) (hel : p.elapsed e (cfgPrtStepStowTimeout e.p e.i) = true) : p.timerCause e = 8 := by
  unfold Slice.timerCause
  simp only [hst, hel, if_true]

/-- A standing cause below an obstacle and a confirmed isolation gives FAULT in a running state (R70, R76). -/
theorem Slice.transition_standing (cmd prev : Nat) (hfaultable : p.portal.st.faultable = true) (hegress : p.handleEgress e = false) (haccess : p.handleAccess e = false) (hiso : p.isoConfirmed e = false)
    (hobs : p.portal.obs = .none) (hcause : p.standingCause e ≠ 0) : p.transition e cmd prev = p.enterFault e (p.standingCause e) := by
  have hunused : p.portal.st ≠ .unused := by intro h; rw [h] at hfaultable; cases hfaultable
  have hobstacle : p.obstacleDecides = false := by
    unfold Slice.obstacleDecides
    rw [hobs]
    split <;> simp_all
  unfold Slice.transition
  simp [hunused, hegress, haccess, hiso, hobstacle, hobs, hfaultable, hcause]

end

section
variable {i : Fin 16} {t : Int} {s : State} {e : Env} {p : Slice}

/-- A timer whose expiry gives a fault cause takes a portal that nothing of a higher rank concerns to FAULT. -/
theorem State.Finds.faults (h : s.Finds i t e p) {due : Env → Slice → Option Int} (hdue : due (s.env i) s.slices[i] = some t) (hacts : s.timerActs i t = true)
    {st : PState} (hst : s.slices[i].portal.st = st) (hunused : st ≠ .unused) (hquiet : p.quiet e = true) {c : Nat} (hc : p.timerCause e = c) (hpos : c ≠ 0) :
    ∃ x : Slice, State.complete (s.portalExpiry i due) = .next ((s.atSyncFrom i t).modSlice i fun _ => x).draw ∧ t ≤ (e.cyc : Int) ∧ x.portal.st = .fault ∧ x.portal.faultCause = c ∧
      x.portal.stateAtFault = st.code := by
  obtain ⟨x, hx, hcyc, hlook, -⟩ := h.next hdue hacts
  have hfound : p.portal.st = st := h.stands.1.trans hst
  rw [Slice.moved_fault e p hquiet (hfound ▸ hunused) (hc ▸ hpos), hc, hfound] at hlook
  simp only [Portal.look, Prod.mk.injEq] at hlook
  obtain ⟨hfault, -, -, hcause, hat, -⟩ := hlook
  exact ⟨x, hx, hcyc, hfault, hcause, hat⟩

end

/-- S2 has stood without S1 for longer than lock_confirm_ms (R70). -/
theorem Slice.standingCause_alone {e : Env} {p : Slice} {since : Int} (halone : p.portal.s2Alone = some since) (hlong : since + ms (cfgPrtLockConfirmMs e.p e.i) + 1 ≤ e.cyc)
    (hc10 : p.cause10 e = false) (hc11 : p.portal.cause11 = false) (hc6 : p.cause6 e = false) (hs2 : p.s2 e = true) (hs1 : p.s1 e = false) : (p.begun e).standingCause e = 7 := by
  have h10 : (p.begun e).cause10 e = false := hc10
  have h11 : (p.begun e).portal.cause11 = false := hc11
  have h6 : (p.begun e).cause6 e = false := hc6
  have hsince : (p.begun e).portal.s2Alone = some since := by simp [Slice.begun, hs2, hs1, halone]
  have h7 : (p.begun e).cause7 e = true := by
    unfold Slice.cause7
    rw [hsince]
    exact decide_eq_true (by omega)
  simp [Slice.standingCause, h10, h11, h6, h7]

/-- Settles O12: each timer's row gives its cause at the sync point which the timer's expiry brings, and a standing cause 7 comes before every timer. -/
theorem expiredPortalTimersGiveTheirFault : Obligations.ExpiredPortalTimersGiveTheirFault := by
  unfold Obligations.ExpiredPortalTimersGiveTheirFault
  refine ⟨fun i s hst => ?_, fun i s hst => ?_, fun i s hst => ?_, fun i s hst hphase => ?_, fun i s hst => ?_, fun since i s halone hfaultable => ?_⟩
  case refine_6 =>
    intro due u e p hacts hegress haccess hiso hobs hc10 hc11 hc6 hs2 hs1
    have hfinds : s.Finds i due e p := ⟨rfl, rfl⟩
    clear_value e p
    obtain ⟨hp, hi⟩ := hfinds.params
    obtain ⟨hst, -⟩ := hfinds.stands
    obtain ⟨-, -, -, -, -, -, -, -, hsince, -⟩ := State.found_portal i due s
    rw [hfinds.slice, halone] at hsince
    have hcause : (p.begun e).standingCause e = 7 := Slice.standingCause_alone hsince (by rw [hp, hi]; exact hfinds.cyc) hc10 hc11 hc6 hs2 hs1
    obtain ⟨x, hx, hcyc, hlook, -⟩ := hfinds.next (Slice.due_alone _ _ _ halone) hacts
    have hmoved : p.moved e = (p.begun e).enterFault e 7 :=
      hcause ▸ Slice.transition_standing (p := p.begun e) _ _ (hst ▸ hfaultable) hegress haccess hiso hobs (by rw [hcause]; decide)
    rw [hmoved, Slice.enterFault_look] at hlook
    simp only [Portal.look, Prod.mk.injEq] at hlook
    obtain ⟨hfault, -, -, hrecord, hat, -⟩ := hlook
    exact ⟨x, hx, hcyc, hfault, hrecord, hst ▸ hat⟩
  all_goals
    intro due u e p hacts hquiet
    have hfinds : s.Finds i due e p := ⟨rfl, rfl⟩
    clear_value e p
    obtain ⟨hp, hi⟩ := hfinds.params
    obtain ⟨hst', hphase', -⟩ := hfinds.stands
    have hel := hfinds.elapsed
    rw [← hp, ← hi] at hel
    rw [hst] at hst'
    have hfault {f : Env → Slice → Option Int} {c : Nat} (hdue : f (s.env i) s.slices[i] = some due) (hc : p.timerCause e = c) (hpos : c ≠ 0) := hfinds.faults hdue hacts hst (by decide) hquiet hc hpos
  case refine_1 => exact fun hs2 => hfault (Slice.due_lock _ _ hst) (Slice.timerCause_locking hst' hel hs2) (by decide)
  case refine_2 => exact fun hs2 => hfault (Slice.due_unlock _ _ hst) (Slice.timerCause_unlocking hst' hel hs2) (by decide)
  case refine_3 => exact hfault (Slice.due_open _ _ hst) (Slice.timerCause_opening hst' hel) (by decide)
  case refine_4 => exact hfault (Slice.due_close _ _ hst hphase) (Slice.timerCause_closing hst' (hphase'.trans hphase) hel) (by decide)
  case refine_5 => exact hfault (Slice.due_stow _ _ hst) (Slice.timerCause_closedUnlocked hst' hel) (by decide)

/-! ### Timers that move the portal on (R63, R65, R66, R68, R69, R71) -/

/-- What the portal's look fixes of it. -/
theorem Portal.alike_of_look {q r : Portal} (h : q.look = r.look) : q.st = r.st ∧ q.phase = r.phase ∧ q.faultCause = r.faultCause ∧ q.restricted = r.restricted ∧ q.emergFreed = r.emergFreed ∧ q.stopPause = r.stopPause := by
  simp only [Portal.look, Prod.mk.injEq] at h
  obtain ⟨hst, hphase, -, hcause, -, hrestricted, hfreed, hpause⟩ := h
  exact ⟨hst, hphase, hcause, hrestricted, hfreed, hpause⟩

@[simp] theorem Slice.enter_phase (e : Env) (st : PState) (ph : Phase) (sl : Slice) : (sl.enter e st ph).portal.phase = ph := congrArg (fun l => l.2.1) (sl.enter_look e st ph)

section
variable {e : Env} {p : Slice}

/-- The evaluation's beginning leaves a timer of the state as it was. -/
theorem Slice.begun_elapsed (n : Nat) : (p.begun e).elapsed e n = p.elapsed e n := rfl

/-- The warn phase of CLOSING ends in its move phase (R65). -/
theorem Slice.moved_closing_warn (hquiet : p.quiet e = true) (hst : p.portal.st = .closing) (hphase : p.portal.phase = .warn) (hel : p.elapsed e (cfgPrtWarnTime e.p e.i) = true) :
    (p.moved e).portal.st = .closing ∧ (p.moved e).portal.phase = .move := by
  have hcause : p.timerCause e = 0 := by simp only [Slice.timerCause, hst, hphase]
  have hbegun : (p.begun e).portal.st = .closing ∧ (p.begun e).portal.phase = .warn := ⟨hst, hphase⟩
  rw [Slice.moved_row e p hquiet (by simp [hst]) hcause]
  simp [Slice.evalState, Slice.evalClosing, hbegun, Slice.begun_elapsed, hel, Slice.enter_st]

/-- The warn phase of HOMING ends in its move phase (R67). -/
theorem Slice.moved_homing_warn (hquiet : p.quiet e = true) (hst : p.portal.st = .homing) (hphase : p.portal.phase = .warn) (hel : p.elapsed e (cfgPrtWarnTime e.p e.i) = true) :
    (p.moved e).portal.st = .homing ∧ (p.moved e).portal.phase = .move := by
  have hcause : p.timerCause e = 0 := by simp only [Slice.timerCause, hst, hphase]
  have hbegun : (p.begun e).portal.st = .homing ∧ (p.begun e).portal.phase = .warn := ⟨hst, hphase⟩
  rw [Slice.moved_row e p hquiet (by simp [hst]) hcause]
  simp [Slice.evalState, Slice.evalHoming, hbegun, Slice.begun_elapsed, hel, Slice.enter_st]

/-- LOCKING ends in LOCKED once the lock has pulled and S2 stands (R65). -/
theorem Slice.moved_locking (hquiet : p.quiet e = true) (hst : p.portal.st = .locking) (hel : p.elapsed e (cfgPrtLockPullMs e.p e.i) = true) (hs2 : p.s2 e = true) : (p.moved e).portal.st = .locked := by
  have hcause : p.timerCause e = 0 := by simp [Slice.timerCause, hst, hs2]
  have hbegun : (p.begun e).portal.st = .locking ∧ (p.begun e).s2 e = true := ⟨hst, hs2⟩
  rw [Slice.moved_row e p hquiet (by simp [hst]) hcause]
  simp [Slice.evalState, Slice.evalLocking, hbegun, Slice.begun_elapsed, hel, Slice.enter_st]

/-- A portal that a sync point leaves in its LOCKING or UNLOCKING state keeps the time from its entry (R52). -/
theorem Slice.moved_elapsed {st : PState} (hst : p.portal.st = st) (hlocks : st = .locking ∨ st = .unlocking) (hmoved : (p.moved e).portal.st = st) (n : Nat) : (p.moved e).elapsed e n = p.elapsed e n := by
  subst hst
  unfold Slice.elapsed
  rw [Slice.moved_runs_on e p hlocks hmoved]

/-- A lock channel that the sequencer drives carries its lock output (R201). -/
theorem Slice.channelOut_lock (hsource : cfgLswChSource e.p e.i 0 = 1) : p.channelOut e 0 = p.lockOut e := by
  simp only [Slice.channelOut, Fin.val_zero, hsource, if_true]

/-- The unlock channel that the sequencer drives carries its unlock output (R201). -/
theorem Slice.channelOut_unlock {k : Fin 6} (hk : k ≠ 0) (hunlock : k.val = cfgPrtUnlockChannel e.p e.i) (hsource : cfgLswChSource e.p e.i k.val = 1) : p.channelOut e k = p.unlockOut e := by
  have hk' : k.val ≠ 0 := fun h => hk (Fin.ext h)
  simp only [Slice.channelOut, hsource, if_neg hk', if_pos hunlock]

/-- A latching lock's output falls once it has pulled (R69). -/
theorem Slice.moved_lockOut (hst : p.portal.st = .locking) (hel : p.elapsed e (cfgPrtLockPullMs e.p e.i) = true) (hheld : e.heldLock = false) : (p.moved e).lockOut e = false := by
  by_cases hmoved : (p.moved e).portal.st = .locking
  · simp [Slice.lockOut, hheld, hmoved, Slice.moved_elapsed hst (.inl rfl) hmoved, hel]
  · rw [Slice.lockOut, hheld, if_neg Bool.false_ne_true]
    split
    · contradiction
    · rfl

/-- The unlock output falls once its pulse has run (R69). -/
theorem Slice.moved_unlockOut (hst : p.portal.st = .unlocking) (hel : p.elapsed e (cfgPrtUnlockPulseMs e.p e.i) = true) : (p.moved e).unlockOut e = false := by
  by_cases hmoved : (p.moved e).portal.st = .unlocking
  · simp [Slice.unlockOut, Slice.moved_elapsed hst (.inr rfl) hmoved, hel]
  · simp [Slice.unlockOut, hmoved]

section
variable (hquiet : p.quiet e = true) (hst : p.portal.st = .reopening) (hphase : p.portal.phase = .pause) (hel : p.elapsed e (cfgPrtReclosePauseMs e.p e.i) = true)
include hquiet hst hphase hel

/-- The end of the reclose pause decides by the reopen count, the close causes and the leaves (R65). -/
theorem Slice.moved_pause : p.moved e =
    if cfgPrtReopenLimit e.p e.i < p.portal.reopenCount then ((p.begun e).enterOpen e true).raise e 0 12 (p.portal.st.code * 256)
    else if p.closeSources e ≠ 0 then (p.begun e).enterWarn e
    else if p.leavesOpen e then (p.begun e).enterOpen e false
    else (p.begun e).enterOpening e := by
  have hcause : p.timerCause e = 0 := by simp only [Slice.timerCause, hst]
  have hbegun : (p.begun e).portal.st = .reopening ∧ (p.begun e).portal.phase = .pause := ⟨hst, hphase⟩
  rw [Slice.moved_row e p hquiet (by simp [hst]) hcause]
  simp only [Slice.evalState, Slice.evalReopening, hbegun, Slice.begun_elapsed, hel, Slice.begun_sources, if_true, hst]
  rfl

end

/-- The pause of a stopped OPENING ends, and the portal goes on opening (R68). -/
theorem Slice.moved_stopPause {t0 : Int} (hquiet : p.quiet e = true) (hst : p.portal.st = .opening) (hpause : p.portal.stopPause = some t0) (hover : t0 + ms (cfgPrtReclosePauseMs e.p e.i) ≤ e.cyc)
    (hopen : p.elapsed e (cfgPrtOpenTimeout e.p e.i) = false) (hclose : p.closeSources e = 0) (hleaves : p.leavesOpen e = false ∨ p.deployed e = false ∨ p.portal.issued = false) :
    (p.moved e).portal.st = .opening ∧ (p.moved e).portal.stopPause = none := by
  have hcause : p.timerCause e = 0 := by simp [Slice.timerCause, hst, hopen]
  have hbegun : (p.begun e).portal.st = .opening ∧ (p.begun e).portal.stopPause = some t0 := ⟨hst, hpause⟩
  have hshort : ((p.begun e).leavesOpen e && (p.begun e).deployed e && (p.begun e).portal.issued) = false := by
    change (p.leavesOpen e && p.deployed e && p.portal.issued) = false
    rcases hleaves with h | h | h <;> simp [h]
  rw [Slice.moved_row e p hquiet (by simp [hst]) hcause]
  simp [Slice.evalState, Slice.evalOpening, hbegun, hshort, Slice.begun_sources, hclose, hover]

/-- Auto-close is a close cause of its own once its time has elapsed in OPEN (R63). -/
theorem Slice.closeSources_auto (hauto : p.autoExpired e = true) : (p.closeSources e).testBit 4 = true := by
  unfold Slice.closeSources
  dsimp only
  rw [hauto]
  generalize (!p.released e) = absent, (p.hardClose && _) = line, (e.cmd.testBit 4 && _) = hawser, (p.closeButton e && _) = button
  revert absent line hawser button
  decide

/-- A source that was absent at the last evaluation is among the new ones (R66). -/
theorem newSources_auto {now prev : Nat} (hnow : now.testBit 4 = true) (hprev : prev.testBit 4 = false) : now &&& (31 - prev % 32) ≠ 0 := by
  have hbit : (31 - prev % 32).testBit 4 = true := by
    simp only [Nat.testBit_eq_decide_div_mod_eq, decide_eq_true_eq, decide_eq_false_iff_not] at hprev ⊢
    omega
  intro h
  have := congrArg (Nat.testBit · 4) h
  simp [hnow, hbit] at this

/-- Auto-close begins CLOSING (R66). -/
theorem Slice.moved_autoClose (hquiet : p.quiet e = true) (hst : p.portal.st = .open_) (hauto : p.autoExpired e = true) (hnew : p.portal.restricted = false ∨ p.portal.sources.testBit 4 = false) :
    (p.moved e).portal.st = .closing ∧ (p.moved e).portal.phase = .warn := by
  have hcause : p.timerCause e = 0 := by simp only [Slice.timerCause, hst]
  have hbegun : (p.begun e).portal.st = .open_ := hst
  have hbit := Slice.closeSources_auto hauto
  have hwarn : (p.begun e).evalOpen e p.portal.sources = (p.begun e).enterWarn e := by
    have hsome : p.closeSources e ≠ 0 := fun h => by simp [h] at hbit
    simp only [Slice.evalOpen, Slice.begun_sources]
    rcases hnew with hfree | hprev
    · have hbegunFree : (p.begun e).portal.restricted = false := hfree
      rw [if_neg (ne_true_of_eq_false hbegunFree), if_pos hsome]
    · rw [if_pos (newSources_auto hbit hprev), if_pos hsome, ite_self]
  rw [Slice.moved_row e p hquiet (by simp [hst]) hcause]
  simp [Slice.evalState, hbegun, hwarn, Slice.enterWarn, Slice.enter_st]

/-- In EMERGENCY_UNLOCKED the state's own row decides; an obstacle is forgotten (R65, R76). -/
theorem Slice.moved_emergency (hst : p.portal.st = .emergency) : p.moved e = ((p.begun e).modPortal fun q => { q with obs := .none }).evalEmergency e p.portal.command := by
  have hbegun : (p.begun e).portal.st = .emergency := hst
  have hcleared : (if (p.begun e).portal.obs = .none then p.begun e else (p.begun e).evalObstacle e) = (p.begun e).modPortal fun q => { q with obs := .none } := by
    split
    · rename_i hobs
      rw [← hobs]
      rfl
    · simp [Slice.evalObstacle, hbegun]
  unfold Slice.moved Slice.transition
  simp only [hcleared]
  simp [hbegun, Slice.obstacleDecides, PState.faultable, Slice.timerCause, Slice.evalState]

/-- The hold of moving leaves under the egress handle ends in their release (R71). -/
theorem Slice.moved_egressHold (hst : p.portal.st = .emergency) (hfreed : p.portal.emergFreed = false) (hzero : p.zeroSpeed = false) (hegress : p.handleEgress e = true)
    (hel : p.elapsed e (cfgPrtEgressHoldMs e.p e.i) = true) :
    (p.moved e).portal.st = .emergency ∧ (p.moved e).portal.emergFreed = true ∧ ∀ a : Fin 3, e.role a = 1 → e.portalEnabled = true → (p.moved e).pends a = some .free := by
  rw [Slice.moved_emergency hst]
  generalize hq : ((p.begun e).modPortal fun q => { q with obs := .none }) = q
  have hstands : q.portal.st = .emergency ∧ q.portal.emergFreed = false ∧ q.zeroSpeed = false ∧ q.handleEgress e = true ∧ q.elapsed e (cfgPrtEgressHoldMs e.p e.i) = true := by
    subst hq
    exact ⟨hst, hfreed, hzero, hegress, hel⟩
  simp only [Slice.evalEmergency, Slice.emergencyLeaves, hstands]
  refine ⟨?_, ?_, fun a hrole hportal => ?_⟩
  · simp [hstands]
  · simp
  · exact Slice.pends_decideMode a e (fun a => decide (e.role a = 1)) .free q (by simp [Env.enabledAxis, hrole, hportal])

end

/-- Settles O13: at the sync point which a timer's expiry brings, the row of the portal's state moves it on. -/
theorem expiredPortalTimersMoveThePortalOn : Obligations.ExpiredPortalTimersMoveThePortalOn := by
  unfold Obligations.ExpiredPortalTimersMoveThePortalOn
  refine ⟨fun i s hst hphase => ?warn, fun i s hst => ?pull, fun i s hst hheld => ?pulse, fun i s hst hphase => ?pause, fun t0 i s hst hpause => ?stop, fun i s hst hauto hnew => ?auto, fun i s hst hfreed hzero => ?egress⟩
  all_goals
    intro due u e p hacts
    have hfinds : s.Finds i due e p := ⟨rfl, rfl⟩
    clear_value e p
    obtain ⟨hp, hi⟩ := hfinds.params
    obtain ⟨hst', hphase', htState, hcount, hrestricted, hsources, hstop, hfreed', -, hrecord⟩ := State.found_portal i due s
    rw [hfinds.slice] at hst' hphase' htState hcount hrestricted hsources hstop hfreed' hrecord
  case warn =>
    intro hquiet
    have hel := hfinds.elapsed
    rw [← hp, ← hi] at hel
    obtain ⟨x, hx, hcyc, hlook, -⟩ := hfinds.next (Slice.due_warn _ _ hst hphase) hacts
    obtain ⟨hxst, hxphase, -⟩ := Portal.alike_of_look hlook
    refine ⟨x, hx, hcyc, ?_⟩
    rw [hxst, hxphase]
    rcases hst with hst | hst <;> rw [hst]
    · exact Slice.moved_closing_warn hquiet (hst'.trans hst) (hphase'.trans hphase) hel
    · exact Slice.moved_homing_warn hquiet (hst'.trans hst) (hphase'.trans hphase) hel
  case pull =>
    have hel := hfinds.elapsed
    rw [← hp, ← hi] at hel
    obtain ⟨x, hx, hcyc, hlook, hchannels, -⟩ := hfinds.next (Slice.due_pull _ _ hst) hacts
    refine ⟨x, hx, hcyc, fun hheld hsource => ?_, fun hquiet hs2 => ?_⟩
    · exact (hchannels 0 hsource).trans ((Slice.channelOut_lock (hp ▸ hi ▸ hsource)).trans (Slice.moved_lockOut (hst'.trans hst) hel hheld))
    · exact (Portal.alike_of_look hlook).1.trans (Slice.moved_locking hquiet (hst'.trans hst) hel hs2)
  case pulse =>
    have hel := hfinds.elapsed
    rw [← hp, ← hi] at hel
    obtain ⟨x, hx, hcyc, -, hchannels, -⟩ := hfinds.next (Slice.due_pulse _ _ hst hheld) hacts
    refine ⟨x, hx, hcyc, fun k hk hunlock hsource => ?_⟩
    exact (hchannels k hsource).trans ((Slice.channelOut_unlock hk (hp ▸ hi ▸ hunlock) (hp ▸ hi ▸ hsource)).trans (Slice.moved_unlockOut (hst'.trans hst) hel))
  case pause =>
    intro hquiet
    have hel := hfinds.elapsed
    rw [← hp, ← hi] at hel
    obtain ⟨x, hx, hcyc, hlook, -⟩ := hfinds.next (Slice.due_pause _ _ hst hphase) hacts
    rw [Slice.moved_pause hquiet (hst'.trans hst) (hphase'.trans hphase) hel, hp, hi, hcount] at hlook
    refine ⟨x, hx, hcyc, fun hover => ?_, fun hwithin hclose => ?_, fun hwithin hclose hleaves => ?_, fun hwithin hclose hleaves => ?_⟩
    · rw [if_pos hover, Slice.portal_raise, Slice.enterOpen_look] at hlook
      simp only [Portal.look, Prod.mk.injEq] at hlook
      obtain ⟨hopen, -, -, hkept, -, hlimited, -⟩ := hlook
      exact ⟨hopen, hlimited, hkept.trans hrecord⟩
    · rw [if_neg (not_lt.mpr hwithin), if_pos hclose] at hlook
      obtain ⟨hclosing, hwarn, -⟩ := Portal.alike_of_look hlook
      exact ⟨hclosing.trans (Slice.enter_st ..), hwarn.trans (Slice.enter_phase ..)⟩
    · rw [if_neg (not_lt.mpr hwithin), if_neg (not_not.mpr hclose), if_pos hleaves, Slice.enterOpen_look] at hlook
      simp only [Portal.look, Prod.mk.injEq] at hlook
      obtain ⟨hopen, -, -, -, -, hfree, -⟩ := hlook
      exact ⟨hopen, hfree⟩
    · rw [if_neg (not_lt.mpr hwithin), if_neg (not_not.mpr hclose), hleaves, if_neg Bool.false_ne_true, Slice.enterOpening_look] at hlook
      exact congrArg Prod.fst hlook
  case stop =>
    intro hquiet hopen hclose hleaves
    obtain ⟨x, hx, hcyc, hlook, -⟩ := hfinds.next (Slice.due_stop _ _ _ hst hpause) hacts
    obtain ⟨hxst, -, -, -, -, hxpause⟩ := Portal.alike_of_look hlook
    refine ⟨x, hx, hcyc, ?_⟩
    rw [hxst, hxpause]
    refine Slice.moved_stopPause hquiet (hst'.trans hst) (hstop.trans hpause) ?_ ?_ hclose hleaves
    · rw [hp, hi]
      exact hcyc
    · rw [Slice.elapsed, hp, hi, htState]
      exact decide_eq_false (not_le.mpr hopen)
  case auto =>
    intro hquiet
    obtain ⟨x, hx, hcyc, hlook, -⟩ := hfinds.next (Slice.due_auto _ _ hst hauto) hacts
    obtain ⟨hxst, hxphase, -⟩ := Portal.alike_of_look hlook
    refine ⟨x, hx, hcyc, ?_⟩
    rw [hxst, hxphase]
    refine Slice.moved_autoClose hquiet (hst'.trans hst) ?_ (by rw [hrestricted, hsources]; exact hnew)
    simp only [Slice.autoExpired, hst', hst, hp, hi, htState, hauto, ne_eq, not_false_eq_true, decide_true, Bool.true_and]
    exact decide_eq_true hcyc
  case egress =>
    intro hegress hzero'
    have hel := hfinds.elapsed
    rw [← hp, ← hi] at hel
    obtain ⟨x, hx, hcyc, hlook, -, hmodes⟩ := hfinds.next (Slice.due_egress _ _ hst hfreed hzero) hacts
    obtain ⟨hxst, -, -, -, hxfreed, -⟩ := Portal.alike_of_look hlook
    obtain ⟨hstays, hfrees, hleaves⟩ := Slice.moved_egressHold (hst'.trans hst) (hfreed'.trans hfreed) hzero' hegress hel
    exact ⟨x, hx, hcyc, hxst.trans hstays, hxfreed.trans hfrees, fun a hrole hportal => (hmodes a).trans (hleaves a hrole hportal)⟩

end Sys2Proof.Machine
end

section
/-! PROOFS. The commands of a slice, taken at a sync point: O15. -/

namespace Sys2Proof.Machine

/-! ### PRT_COMMAND stands through a transition

The evaluation empties the register before its transition; nothing in the transition writes it. -/

section
variable (e : Env) (sl : Slice)

theorem Slice.command_of_std {x y : Slice} (h : x.std = y.std) : x.portal.command = y.portal.command := by
  simp only [Slice.std, Portal.stand, Prod.mk.injEq] at h
  simp [h]

@[simp] theorem Slice.command_endCycle (st : PState) (cause : Nat) : (sl.endCycle e st cause).portal.command = sl.portal.command := by
  unfold Slice.endCycle
  split
  · dsimp only
    split <;> rfl
  · rfl

@[simp] theorem Slice.command_enter (st : PState) (ph : Phase) : (sl.enter e st ph).portal.command = sl.portal.command := by
  unfold Slice.enter
  extract_lets _ _ _ _ _ _ _ entered settled
  have hsettled : settled.portal.command = sl.portal.command := by
    unfold settled
    split
    · rfl
    · exact forAxes_keeps (fun sl => sl.portal.command) _ (fun _ _ => rfl) entered
  split
  · rw [Slice.command_endCycle, hsettled]
  · exact hsettled

@[simp] theorem Slice.command_enterFault (cause : Nat) : (sl.enterFault e cause).portal.command = sl.portal.command := by simp [Slice.enterFault]

@[simp] theorem Slice.command_enterHoming (warn : Bool) : (sl.enterHoming e warn).portal.command = sl.portal.command := by simp [Slice.enterHoming]

@[simp] theorem Slice.command_enterWarn : (sl.enterWarn e).portal.command = sl.portal.command := sl.command_enter e .closing .warn

@[simp] theorem Slice.command_enterOpening : (sl.enterOpening e).portal.command = sl.portal.command := by
  simp only [Slice.enterOpening, apply_ite Slice.portal, apply_ite Portal.command]
  simp

@[simp] theorem Slice.command_enterOpen (restricted : Bool) : (sl.enterOpen e restricted).portal.command = sl.portal.command := by simp [Slice.enterOpen]

@[simp] theorem Slice.command_enterEmergency : (sl.enterEmergency e).portal.command = sl.portal.command := by
  unfold Slice.enterEmergency
  dsimp only
  rw [Slice.portal_raise, Slice.portal_decideMode, forAxes_keeps Slice.portal _ (by intros; split <;> rfl)]
  simp

@[simp] theorem Slice.command_assistOpen (l : Fin 3) : (sl.assistOpen e l).portal.command = sl.portal.command := by
  unfold Slice.assistOpen
  dsimp only
  split <;> simp

@[simp] theorem Slice.command_emergencyLeaves : (sl.emergencyLeaves e).portal.command = sl.portal.command := by
  unfold Slice.emergencyLeaves
  dsimp only
  repeat' split
  all_goals simp

@[simp] theorem Slice.command_enterIsolated : (sl.enterIsolated e).portal.command = sl.portal.command := by simp [Slice.enterIsolated]

end

/-! ### The clearing of a fault reset moves no state or timer of the portal (R75) -/

section
variable (e : Env) (sl : Slice)

@[simp] theorem Slice.ite_std (c : Prop) [Decidable c] (x y : Slice) : (if c then x else y).std = if c then x.std else y.std := apply_ite Slice.std c x y

@[simp] theorem Slice.driveFault_std (a : Fin 3) (code : Nat) (high : Bool) : (sl.driveFault e a code high).std = sl.std := by
  unfold Slice.std
  rw [Slice.driveFault_portal]
  rfl

@[simp] theorem Slice.gearFault_std (a : Fin 3) (cause : Nat) : (sl.gearFault e a cause).std = sl.std := by simp [Slice.gearFault]

@[simp] theorem Slice.gearUpdate_std (a : Fin 3) : (sl.gearUpdate e a).std = sl.std := by simp [Slice.gearUpdate]

@[simp] theorem Slice.followGenerator_std (a : Fin 3) : (sl.followGenerator e a).std = sl.std := by simp [Slice.followGenerator]

@[simp] theorem Slice.gearFollow_std (src : Nat) : (sl.gearFollow e src).std = sl.std :=
  forAxes_keeps Slice.std _ (fun _ _ => by simp) sl

@[simp] theorem Slice.inputFault_std (code source : Nat) : (sl.inputFault e code source).std = sl.std := rfl

@[simp] theorem Slice.encoderFault_std (k : Fin 3) (code : Nat) : (sl.encoderFault e k code).std = sl.std := by simp [Slice.encoderFault]

@[simp] theorem Slice.resetEncoders_std : (sl.resetEncoders e).std = sl.std := by
  unfold Slice.resetEncoders
  rw [forAxes_keeps Slice.std _ (fun _ _ => by simp), Slice.std_modInp]

@[simp] theorem Slice.withCause11_std (b : Bool) : (sl.modPortal fun q => { q with cause11 := b }).std = sl.std := rfl

@[simp] theorem Slice.command_faultReset : (sl.faultReset e).portal.command = sl.portal.command := by
  apply Slice.command_of_std
  unfold Slice.faultReset
  dsimp only
  rw [Slice.ite_std, Slice.withCause11_std, ite_self, forChannels_keeps Slice.std _ (fun _ _ => by simp), forAxes_keeps Slice.std _ (fun _ _ => by simp), Slice.resetEncoders_std,
    forAxes_keeps Slice.std _ (fun _ _ => by simp), forAxes_keeps Slice.std _ (by intros; rfl), Slice.withCause11_std]

end

section
variable (e : Env) (sl : Slice)

@[simp] theorem Slice.command_evalHoming : (sl.evalHoming e).portal.command = sl.portal.command := by
  unfold Slice.evalHoming
  dsimp only
  repeat' split
  all_goals simp

@[simp] theorem Slice.command_evalLocked (cmd : Nat) : (sl.evalLocked e cmd).portal.command = sl.portal.command := by
  unfold Slice.evalLocked
  repeat' split
  all_goals simp

@[simp] theorem Slice.command_evalUnlocking : (sl.evalUnlocking e).portal.command = sl.portal.command := by
  unfold Slice.evalUnlocking
  split <;> simp

@[simp] theorem Slice.command_evalReleased : (sl.evalReleased e).portal.command = sl.portal.command := by
  unfold Slice.evalReleased
  repeat' split
  all_goals simp

@[simp] theorem Slice.command_evalOpening : (sl.evalOpening e).portal.command = sl.portal.command := by
  unfold Slice.evalOpening
  repeat' split
  all_goals simp

@[simp] theorem Slice.command_evalOpen (prev : Nat) : (sl.evalOpen e prev).portal.command = sl.portal.command := by
  unfold Slice.evalOpen
  dsimp only
  repeat' split
  all_goals simp

@[simp] theorem Slice.command_decideReopen : (sl.decideReopen e).portal.command = sl.portal.command := by
  unfold Slice.decideReopen
  split <;> simp

@[simp] theorem Slice.command_evalClosing : (sl.evalClosing e).portal.command = sl.portal.command := by
  unfold Slice.evalClosing
  repeat' split
  all_goals simp

@[simp] theorem Slice.command_evalReopening : (sl.evalReopening e).portal.command = sl.portal.command := by
  unfold Slice.evalReopening
  dsimp only
  repeat' split
  all_goals simp

@[simp] theorem Slice.command_evalClosedUnlocked (cmd : Nat) : (sl.evalClosedUnlocked e cmd).portal.command = sl.portal.command := by
  unfold Slice.evalClosedUnlocked
  repeat' split
  all_goals simp

@[simp] theorem Slice.command_evalLocking : (sl.evalLocking e).portal.command = sl.portal.command := by
  unfold Slice.evalLocking
  split <;> simp

@[simp] theorem Slice.command_evalIsolated : (sl.evalIsolated e).portal.command = sl.portal.command := by
  unfold Slice.evalIsolated
  split <;> simp

@[simp] theorem Slice.command_evalEmergency (cmd : Nat) : (sl.evalEmergency e cmd).portal.command = sl.portal.command := by
  unfold Slice.evalEmergency
  split <;> simp

@[simp] theorem Slice.command_evalFault (cmd : Nat) : (sl.evalFault e cmd).portal.command = sl.portal.command := by
  unfold Slice.evalFault Slice.restFault
  repeat' split
  all_goals simp

@[simp] theorem Slice.command_evalObstacle : (sl.evalObstacle e).portal.command = sl.portal.command := by
  unfold Slice.evalObstacle
  dsimp only
  repeat' split
  all_goals simp

@[simp] theorem Slice.command_evalState (cmd prev : Nat) : (sl.evalState e cmd prev).portal.command = sl.portal.command := by
  unfold Slice.evalState
  split <;> simp

theorem Slice.command_transition (cmd prev : Nat) : (sl.transition e cmd prev).portal.command = sl.portal.command := by
  unfold Slice.transition
  dsimp only
  repeat' split
  all_goals simp

/-- An evaluation empties the command register. -/
theorem Slice.command_evaluate : (sl.evaluate e).portal.command = 0 := by
  have hmoved : (sl.moved e).portal.command = 0 := Slice.command_transition e (sl.begun e) _ _
  unfold Slice.evaluate
  dsimp only
  rw [Slice.portal_decideChannels, Slice.portal_issueCaught, Slice.portal_homeGrants, Slice.portal_modPortal, Slice.portal_teachStep]
  exact hmoved

end

/-! ### The portal's commands (R67, R72, R75) -/

section
variable {e : Env} {p : Slice}

/-- HOMING that asks for a warning is entered at its warn phase (R67). -/
theorem Slice.enterHoming_warns (e : Env) (sl : Slice) : (sl.enterHoming e true).portal.st = .homing ∧ (sl.enterHoming e true).portal.phase = .warn :=
  ⟨sl.enter_st e .homing .warn, sl.enter_phase e .homing .warn⟩

/-- An evaluation whose transition enters HOMING leaves the portal at its warn phase. -/
theorem Slice.evaluate_homes {q : Slice} (hmoved : p.moved e = q.enterHoming e true) : (p.evaluate e).portal.st = .homing ∧ (p.evaluate e).portal.phase = .warn := by
  obtain ⟨hst, hphase, -⟩ := Portal.alike_of_look (Slice.evaluate_look e p)
  rw [hst, hphase, hmoved]
  exact Slice.enterHoming_warns e q

/-- A fault reset goes to HOMING (R75). -/
theorem Slice.moved_faultReset (hegress : p.handleEgress e = false) (haccess : p.handleAccess e = false) (hiso : p.isoConfirmed e = false) (hobs : p.portal.obs = .none) (hst : p.portal.st = .fault)
    (hcommand : p.portal.command = 1) : p.moved e = ((p.begun e).faultReset e).enterHoming e true := by
  have hbegun : (p.begun e).portal.st = .fault ∧ (p.begun e).portal.obs = .none ∧ (p.begun e).handleEgress e = false ∧ (p.begun e).handleAccess e = false ∧ (p.begun e).isoConfirmed e = false :=
    ⟨hst, hobs, hegress, haccess, hiso⟩
  simp [Slice.moved, Slice.transition, hbegun, Slice.obstacleDecides, PState.faultable, Slice.timerCause, Slice.evalState, Slice.evalFault, hcommand]

/-- The end of an emergency goes to HOMING (R72). -/
theorem Slice.moved_emergencyReset (hegress : p.handleEgress e = false) (haccess : p.handleAccess e = false) (hst : p.portal.st = .emergency) (hcommand : p.portal.command = 2) :
    p.moved e = ((p.begun e).modPortal fun q => { q with obs := .none }).enterHoming e true := by
  have hback : ((p.begun e).modPortal fun q => { q with obs := .none }).handleEgress e = false ∧ ((p.begun e).modPortal fun q => { q with obs := .none }).handleAccess e = false := ⟨hegress, haccess⟩
  rw [Slice.moved_emergency hst]
  simp [Slice.evalEmergency, hback, hcommand]

/-- A homing command in LOCKED goes to HOMING (R67). -/
theorem Slice.moved_homeLocked (hquiet : p.quiet e = true) (hst : p.portal.st = .locked) (hcommand : p.portal.command = 3) : p.moved e = (p.begun e).enterHoming e true := by
  have hbegun : (p.begun e).portal.st = .locked := hst
  have hcause : p.timerCause e = 0 := by simp only [Slice.timerCause, hst]
  rw [Slice.moved_row e p hquiet (by simp [hst]) hcause]
  simp [Slice.evalState, hbegun, Slice.evalLocked, hcommand]

end

/-! ### A teach cycle that a command interrupts (R152) -/

section
variable {e : Env} {a : Fin 3} {sl : Slice}

theorem Slice.teachBreak_idle (h : sl.teach = none) : sl.teachBreak = sl := by simp [Slice.teachBreak, h]

theorem Slice.teachBreak_runs {t : TeachRun} (h : sl.teach = some t) (hstep : t.step ≠ 6) : sl.teachBreak.teach = some { t with step := 6, interrupted := true } := by
  simp only [Slice.teachBreak, h, if_neg hstep]
  rw [forAxes_keeps Slice.teach _ (by intros; rfl)]

@[simp] theorem Slice.askGrant_teach : (sl.askGrant e a).teach = sl.teach := by
  unfold Slice.askGrant
  split <;> rfl

@[simp] theorem Slice.decideMove_teach (mv : Move) : (sl.decideMove e a mv).teach = sl.teach := by simp [Slice.decideMove]

@[simp] theorem Slice.envelopeReset_teach : (sl.envelopeReset e a).teach = sl.teach := by
  unfold Slice.envelopeReset
  split <;> rfl

@[simp] theorem Slice.clearLatch_teach (k : Fin 6) : (sl.clearLatch e k).teach = sl.teach := by
  unfold Slice.clearLatch
  dsimp only
  repeat' split
  all_goals rfl

/-! What each code does once its register is empty. -/

theorem Slice.takeAxisCommand_stop (hc : sl.axes[a].m.command = 1) : sl.takeAxisCommand e a = (sl.modM a fun m => { m with command := 0 }).teachBreak.modM a Motion.stop := by
  unfold Slice.takeAxisCommand
  rw [hc]
  rfl

theorem Slice.takeDriveCommand_teach (hc : sl.axes[(0 : Fin 3)].d.command = 1) : sl.takeDriveCommand e 0 = (sl.modD 0 fun d => { d with command := 0 }).teachBreak.teachBegins e := by
  unfold Slice.takeDriveCommand
  rw [hc]
  rfl

theorem Slice.takeDriveCommand_reset (hc : sl.axes[a].d.command = 2) : sl.takeDriveCommand e a = (sl.modD a fun d => { d with command := 0 }).teachBreak.envelopeReset e a := by
  unfold Slice.takeDriveCommand
  rw [hc]
  rfl

theorem Slice.takeDriveCommand_freeze (hc : sl.axes[a].d.command = 3) :
    sl.takeDriveCommand e a = (sl.modD a fun d => { d with command := 0 }).teachBreak.modD a fun d => { d with frozenCmd := true } := by
  unfold Slice.takeDriveCommand
  rw [hc]
  rfl

theorem Slice.takeDriveCommand_thaw (hc : sl.axes[a].d.command = 4) :
    sl.takeDriveCommand e a = (sl.modD a fun d => { d with command := 0 }).teachBreak.modD a fun d => { d with frozenCmd := false } := by
  unfold Slice.takeDriveCommand
  rw [hc]
  rfl

theorem Slice.takeSwitchCommand_clear {k : Fin 6} (hc : sl.sw.command = 1) (hk : sl.sw.commandChannel = k.val) :
    sl.takeSwitchCommand e = (sl.modSw fun x => { x with command := 0 }).teachBreak.clearLatch e k := by
  unfold Slice.takeSwitchCommand
  simp only [hc, hk, k.isLt, dif_pos, if_true, true_or]

theorem Slice.takeAxisCommand_breaks {t : TeachRun} (h : sl.teach = some t) (hstep : t.step ≠ 6) (hcommand : sl.axes[a].m.command = 1 ∨ sl.axes[a].m.command = 2) :
    (sl.takeAxisCommand e a).teach = some { t with step := 6, interrupted := true } := by
  rw [← Slice.teachBreak_runs (sl := sl.modM a fun m => { m with command := 0 }) h hstep]
  unfold Slice.takeAxisCommand
  dsimp only
  rw [if_pos hcommand]
  repeat' split
  all_goals simp

theorem Slice.takeDriveCommand_breaks {t : TeachRun} (h : sl.teach = some t) (hstep : t.step ≠ 6) (hcommand : sl.axes[a].d.command = 2 ∨ sl.axes[a].d.command = 3 ∨ sl.axes[a].d.command = 4) :
    (sl.takeDriveCommand e a).teach = some { t with step := 6, interrupted := true } := by
  rw [← Slice.teachBreak_runs (sl := sl.modD a fun d => { d with command := 0 }) h hstep]
  rcases hcommand with hc | hc | hc
  · rw [Slice.takeDriveCommand_reset hc, Slice.envelopeReset_teach]
  · rw [Slice.takeDriveCommand_freeze hc, Slice.modD_teach]
  · rw [Slice.takeDriveCommand_thaw hc, Slice.modD_teach]

theorem Slice.takeSwitchCommand_breaks {t : TeachRun} (h : sl.teach = some t) (hstep : t.step ≠ 6) (hcommand : sl.sw.command = 1 ∨ sl.sw.command = 2) :
    (sl.takeSwitchCommand e).teach = some { t with step := 6, interrupted := true } := by
  rw [← Slice.teachBreak_runs (sl := sl.modSw fun x => { x with command := 0 }) h hstep]
  unfold Slice.takeSwitchCommand
  dsimp only
  rw [if_pos hcommand]
  repeat' split
  all_goals simp

end

/-! ### One axis's records written twice -/

section
variable {a : Fin 3} (sl : Slice)

theorem Slice.modM_modM (f g : Motion → Motion) : (sl.modM a f).modM a g = sl.modM a fun m => g (f m) := by simp [Slice.modM, Slice.modAxis]

theorem Slice.modD_modD (f g : Drive → Drive) : (sl.modD a f).modD a g = sl.modD a fun d => g (f d) := by simp [Slice.modD, Slice.modAxis]

/-- A write of an axis's drive leaves every axis's motion. -/
@[simp] theorem Slice.modD_motion (b : Fin 3) (f : Drive → Drive) : (sl.modD a f).axes[b].m = sl.axes[b].m := by
  by_cases h : a.val = b.val <;> simp [Slice.modD, Slice.modAxis, h]

theorem Slice.gearMaster_modD (e : Env) (n : Nat) (f : Drive → Drive) : (sl.modD a f).gearMaster e n = sl.gearMaster e n := by
  have hpos (b : Fin 3) : (sl.modD a f).axes[b].m.pos = sl.axes[b].m.pos := congrArg Motion.pos (sl.modD_motion b f)
  unfold Slice.gearMaster
  split
  · rfl
  · rfl
  · rfl
  · exact hpos 0
  · exact hpos 1
  · exact hpos 2

/-- A command read from a drive's register moves no axis. -/
@[simp] theorem Slice.speedOf_modD (e : Env) (b : Fin 3) (f : Drive → Drive) : (sl.modD a f).speedOf e b = sl.speedOf e b := by
  simp only [Slice.speedOf, Slice.engaged, Slice.gearGoal, Slice.gearMaster_modD, Slice.modD_motion]
  rfl

theorem Slice.teachAllowed_modD (e : Env) (f : Drive → Drive) : (sl.modD a f).teachAllowed e = sl.teachAllowed e := by
  simp only [Slice.teachAllowed, Slice.speedOf_modD, Slice.modD_motion, Slice.modD_portal, Slice.modD_teach, Slice.input, Slice.modD_inp]
  rfl

end

/-! ### A teach cycle begins (R151) -/

/-- What an axis shows of the teach cycle. -/
def Slice.teaches (a : Fin 3) (sl : Slice) : Bool × Nat := (sl.axes[a].d.teachRunning, sl.axes[a].d.teachDone)

section
variable {e : Env} {a : Fin 3} {sl : Slice}

@[simp] theorem Slice.teaches_modM (b : Fin 3) (f : Motion → Motion) : (sl.modM b f).teaches a = sl.teaches a := by
  by_cases h : b.val = a.val <;> simp [Slice.teaches, h]

theorem Slice.teaches_modD (b : Fin 3) (f : Drive → Drive) : (sl.modD b f).teaches a = if b = a then ((f sl.axes[a].d).teachRunning, (f sl.axes[a].d).teachDone) else sl.teaches a := by
  by_cases h : b = a
  · subst h
    simp [Slice.teaches]
  · simp [Slice.teaches, h, Fin.val_ne_of_ne h]

@[simp] theorem Slice.teaches_askGrant (b : Fin 3) : (sl.askGrant e b).teaches a = sl.teaches a := by
  unfold Slice.askGrant
  split <;> simp

@[simp] theorem Slice.teaches_decideMode (sel : Fin 3 → Bool) (md : DriveMode) : (sl.decideMode e sel md).teaches a = sl.teaches a := by
  refine forAxes_keeps (Slice.teaches a) _ (fun b sl => ?_) sl
  have hmode (b : Fin 3) (sl : Slice) : (sl.modD b fun d => { d with pendMode := some md }).teaches a = sl.teaches a := by
    rw [Slice.teaches_modD]
    split <;> rfl
  dsimp only
  repeat' split
  all_goals simp [hmode]

@[simp] theorem Slice.decideMode_teach (sel : Fin 3 → Bool) (md : DriveMode) : (sl.decideMode e sel md).teach = sl.teach := by
  refine forAxes_keeps Slice.teach _ (fun b sl => ?_) sl
  dsimp only
  repeat' split
  all_goals simp

/-- Every enabled axis is in the cycle that begins. -/
theorem Slice.teaches_teachStart (hallowed : sl.teachAllowed e = true) (henabled : e.enabledAxis a = true) : (sl.teachStart e).teaches a = (true, 0) := by
  have hone (b : Fin 3) (sl : Slice) : (if e.enabledAxis b then sl.modD b fun d => { d with teachRunning := true, teachDone := 0, taught := [] } else sl).teaches a = if b = a then (true, 0) else sl.teaches a := by
    split
    · exact Slice.teaches_modD b _
    · rename_i hdisabled
      rw [if_neg (by rintro rfl; exact hdisabled henabled)]
  unfold Slice.teachStart
  rw [if_pos hallowed]
  change (forAxes _ sl).teaches a = _
  unfold forAxes
  rw [hone, hone, hone]
  fin_cases a <;> rfl

theorem Slice.teachBegins_teaches : (sl.teachBegins e).teach = (sl.teachStart e).teach ∧ ∀ a : Fin 3, (sl.teachBegins e).teaches a = (sl.teachStart e).teaches a := by
  unfold Slice.teachBegins
  dsimp only
  split
  · exact ⟨Slice.decideMode_teach .., fun a => Slice.teaches_decideMode ..⟩
  · exact ⟨rfl, fun _ => rfl⟩

/-- The measurements of three axes take 420 ms at most. -/
theorem Env.teachMeasured_bounds (e : Env) : e.now ≤ e.teachMeasured ∧ e.teachMeasured ≤ e.now + 420000000 := by
  have haxes : ([0, 1, 2].filter fun a => e.enabledAxis a).length ≤ 3 := List.length_filter_le ..
  unfold Env.teachMeasured
  generalize ([0, 1, 2].filter fun a => e.enabledAxis a).length = axes at haxes ⊢
  have hwithin := Nat.mod_lt (Config.freeNat 67 e.draw) (show 0 < axes * 140000000 + 1 by omega)
  omega

theorem Slice.teachStart_allowed (hallowed : sl.teachAllowed e = true) : ∃ t, (sl.teachStart e).teach = some t ∧ t.step = 1 ∧ t.moves = 0 ∧ t.interrupted = false ∧ t.measuredAt = e.teachMeasured := by
  unfold Slice.teachStart
  rw [if_pos hallowed]
  exact ⟨_, rfl, rfl, rfl, rfl, rfl⟩

end

/-! ### What each register's command leaves (R110, R120, R160, R161, R206, R225) -/

section
variable {e : Env} {a : Fin 3} {sl : Slice}

/-- AX_COMMAND 1 stops the axis (R120). -/
theorem Slice.takeAxisCommand_stops (hc : sl.axes[a].m.command = 1) (hteach : sl.teach = none) :
    sl.takeAxisCommand e a = sl.modM a fun m =>
      let m := { m with command := 0, queue := [], rev := none, caught := [], pending := [], learnable := false, req := .idle, needsGrant := false }
      if m.v = 0 ∧ m.home = none then { m with edgeAt := none, stopping := false } else { m with stopping := true, decel := true, freshStop := true } := by
  rw [Slice.takeAxisCommand_stop hc, Slice.teachBreak_idle (by exact hteach), Slice.modM_modM]
  simp only [Motion.stop, Option.isNone_iff_eq_none]

theorem Slice.modM_motion (f : Motion → Motion) : (sl.modM a f).axes[a].m = f sl.axes[a].m := by simp

theorem Slice.faulted_modM (b : Fin 3) (f : Motion → Motion) : (sl.modM b f).faulted a = sl.faulted a := congrArg (fun n => decide (n ≠ 0)) (sl.faultOf_modM a b f)

/-- AX_COMMAND 2 decides the test move where it may run (R110, R168). -/
theorem Slice.takeAxisCommand_test (hc : sl.axes[a].m.command = 2) (hteach : sl.teach = none) :
    sl.takeAxisCommand e a = if decide (sl.portal.st = .fault) && sl.zeroSpeed && e.active && !sl.faulted a then
      (sl.modM a fun m => { m with command := 0 }).decideMove e a ⟨sl.axes[a].m.testTarget, 0, false, false⟩ else sl.modM a fun m => { m with command := 0 } := by
  unfold Slice.takeAxisCommand
  dsimp only
  rw [hc, if_pos (Or.inr rfl : (2 : Nat) = 1 ∨ (2 : Nat) = 2), Slice.teachBreak_idle (by exact hteach), if_neg (by decide : ¬(2 : Nat) = 1), Slice.faulted_modM, Slice.modM_motion]
  rfl

/-- What a decided move leaves of its axis. -/
theorem Slice.decideMove_motion (mv : Move) : (sl.decideMove e a mv).axes[a].m.pending = sl.axes[a].m.pending ++ [mv] ∧ (sl.decideMove e a mv).axes[a].m.command = sl.axes[a].m.command ∧
    (sl.decideMove e a mv).axes[a].m.queue = sl.axes[a].m.queue := by
  unfold Slice.decideMove Slice.askGrant
  split <;> simp

/-- An envelope reset at standstill empties every bin (R161). -/
theorem Slice.envelopeReset_env (hspeed : sl.speedOf e a = 0) (b : Fin 128) : (sl.envelopeReset e a).axes[a].d.env[b] = EnvBin.reset := by
  simp [Slice.envelopeReset, hspeed]

theorem Slice.envelopeReset_refused (hspeed : sl.speedOf e a ≠ 0) : sl.envelopeReset e a = sl.modD a fun d => { d with cntRefusals := satInc 255 d.cntRefusals } := by
  simp [Slice.envelopeReset, hspeed]

/-- A teach command that is refused counts (R151). -/
theorem Slice.teachBegins_refused (hteach : sl.teach = none) (hallowed : sl.teachAllowed e = false) : sl.teachBegins e = sl.teachRefused := by
  have hstart : sl.teachStart e = sl.teachRefused := by rw [Slice.teachStart, hallowed, if_neg Bool.false_ne_true]
  have hnone : sl.teachRefused.teach = none := hteach
  simp [Slice.teachBegins, hstart, hnone]

/-- A latch of a channel that has cooled clears (R206). -/
theorem Slice.clearLatch_cooled {k : Fin 6} (hlatched : sl.sw.ch[k].st = .latchedOff) (hcool : sl.sw.ch[k].deltaT + 20 ≤ sl.sw.tether.stored.dtTrip[k]) (hoff : sl.sw.ch[k].cmd = false) :
    sl.clearLatch e k = sl.modCh k fun c => { c with trips := 0, st := .off } := by
  unfold Slice.clearLatch
  dsimp only
  rw [if_pos hlatched, if_pos hcool]
  have hopen : sl.sw.ch[k.val].cmd = false := hoff
  simp [Slice.reopenChannel, Slice.modCh, Slice.modSw, hopen]

/-- The clearing of a channel that is still hot is refused (R206). -/
theorem Slice.clearLatch_hot {k : Fin 6} (hlatched : sl.sw.ch[k].st = .latchedOff) (hhot : sl.sw.tether.stored.dtTrip[k] < sl.sw.ch[k].deltaT + 20) :
    sl.clearLatch e k = sl.modTether fun t => { t with cntRefused := satInc 255 t.cntRefused } := by
  unfold Slice.clearLatch
  dsimp only
  rw [if_pos hlatched, if_neg (not_le.mpr hhot)]

/-- LSW_COMMAND 2 starts the tether test (R225). -/
theorem Slice.takeSwitchCommand_tests (hc : sl.sw.command = 2) (hteach : sl.teach = none) (hst : sl.portal.st = .fault) (hzero : sl.zeroSpeed = true) (hactive : e.active = true) :
    sl.takeSwitchCommand e = (sl.modSw fun x => { x with command := 0 }).modTether fun t => { t with testRunning := true, testPassed := false, testAt := e.now } := by
  have hruns : (decide ((2 : Nat) = 2) && decide ((sl.modSw fun x => { x with command := 0 }).portal.st = .fault) && (sl.modSw fun x => { x with command := 0 }).zeroSpeed && e.active) = true := by
    rw [hactive, Slice.modSw_portal, hst, show (sl.modSw fun x => { x with command := 0 }).zeroSpeed = true from hzero]
    rfl
  unfold Slice.takeSwitchCommand
  dsimp only
  rw [hc, if_pos (Or.inr rfl : (2 : Nat) = 1 ∨ (2 : Nat) = 2), Slice.teachBreak_idle (by exact hteach), if_neg (by decide : ¬(2 : Nat) = 1), if_pos hruns]

end

/-- Settles O15: each command is taken from its register and leaves what its own lemma says. -/
theorem syncPointTakesSlicesCommands : Obligations.SyncPointTakesSlicesCommands := by
  unfold Obligations.SyncPointTakesSlicesCommands
  refine ⟨fun e p hegress haccess hiso hobs hst hc => Slice.evaluate_homes (Slice.moved_faultReset hegress haccess hiso hobs hst hc),
    fun e p hegress haccess hst hc => Slice.evaluate_homes (Slice.moved_emergencyReset hegress haccess hst hc),
    fun e p hquiet hst hc => Slice.evaluate_homes (Slice.moved_homeLocked hquiet hst hc),
    Slice.command_evaluate,
    fun e a sl hc hteach => Slice.takeAxisCommand_stops hc hteach,
    fun e a sl hc hteach hst hzero hactive hfault => ?test,
    fun e a sl hc hteach helse => ?ignored,
    fun e sl hc hallowed => ?teach,
    fun e sl hc hteach hrefused => ?refused,
    fun e a sl hc hteach hspeed b => ?reset,
    fun e a sl hc hteach hspeed => ?moving,
    fun e a sl hc hteach => ?freeze,
    fun e a sl hc hteach => ?thaw,
    fun e k sl hc hteach hk hlatched hcool hoff => ?cooled,
    fun e k sl hc hteach hk hlatched hhot => ?hot,
    fun e sl hc hteach hst hzero hactive => ?tether,
    fun e a t sl hteach hstep => ⟨Slice.takeAxisCommand_breaks hteach hstep, Slice.takeDriveCommand_breaks hteach hstep, Slice.takeSwitchCommand_breaks hteach hstep⟩⟩
  case test =>
    rw [Slice.takeAxisCommand_test hc hteach, if_pos (by rw [hst, hzero, hactive, Slice.faulted, hfault]; rfl)]
    obtain ⟨hpending, hcommand, hqueue⟩ := Slice.decideMove_motion (e := e) (a := a) (sl := sl.modM a fun m => { m with command := 0 }) ⟨sl.axes[a].m.testTarget, 0, false, false⟩
    rw [hpending, hcommand, hqueue, Slice.modM_motion]
    exact ⟨rfl, rfl, rfl⟩
  case ignored =>
    rw [Slice.takeAxisCommand_test hc hteach, if_neg]
    simp only [Slice.faulted, Bool.and_eq_true, decide_eq_true_eq, Bool.not_eq_true', decide_eq_false_iff_not, not_and, ne_eq, not_not]
    rintro ⟨⟨hst, hzero⟩, hactive⟩ hfault
    simp_all
  case teach =>
    have htaken : (sl.modD 0 fun d => { d with command := 0 }).teachAllowed e = true := by rw [Slice.teachAllowed_modD, hallowed]
    have hnone : sl.teach = none := by
      simp only [Slice.teachAllowed, Bool.and_eq_true, Option.isNone_iff_eq_none] at hallowed
      obtain ⟨⟨-, hnone⟩, -⟩ := hallowed
      exact hnone
    rw [Slice.takeDriveCommand_teach hc, Slice.teachBreak_idle (by exact hnone)]
    obtain ⟨hcycle, hmarks⟩ := Slice.teachBegins_teaches (e := e) (sl := sl.modD 0 fun d => { d with command := 0 })
    obtain ⟨t, ht, hstep, hmoves, hwhole, hmeasured⟩ := Slice.teachStart_allowed htaken
    obtain ⟨hafter, hbefore⟩ := e.teachMeasured_bounds
    refine ⟨fun a henabled => ?_, t, hcycle.trans ht, hstep, hmoves, hwhole, by rw [hmeasured]; exact hafter, by rw [hmeasured]; exact hbefore⟩
    exact Prod.mk.inj ((hmarks a).trans (Slice.teaches_teachStart htaken henabled))
  case refused =>
    rw [Slice.takeDriveCommand_teach hc, Slice.teachBreak_idle (by exact hteach), Slice.teachBegins_refused (by exact hteach) (by rw [Slice.teachAllowed_modD, hrefused])]
    exact Slice.modD_modD ..
  case reset =>
    rw [Slice.takeDriveCommand_reset hc, Slice.teachBreak_idle (by exact hteach)]
    exact Slice.envelopeReset_env (by rw [Slice.speedOf_modD, hspeed]) b
  case moving =>
    rw [Slice.takeDriveCommand_reset hc, Slice.teachBreak_idle (by exact hteach), Slice.envelopeReset_refused (by rw [Slice.speedOf_modD]; exact hspeed), Slice.modD_modD]
  case freeze =>
    rw [Slice.takeDriveCommand_freeze hc, Slice.teachBreak_idle (by exact hteach), Slice.modD_modD]
  case thaw =>
    rw [Slice.takeDriveCommand_thaw hc, Slice.teachBreak_idle (by exact hteach), Slice.modD_modD]
  case cooled =>
    rw [Slice.takeSwitchCommand_clear hc hk, Slice.teachBreak_idle (by exact hteach), Slice.clearLatch_cooled (by exact hlatched) (by exact hcool) (by exact hoff)]
    simp
  case hot =>
    rw [Slice.takeSwitchCommand_clear hc hk, Slice.teachBreak_idle (by exact hteach), Slice.clearLatch_hot (by exact hlatched) (by exact hhot)]
    exact ⟨rfl, rfl⟩
  case tether =>
    rw [Slice.takeSwitchCommand_tests hc hteach hst hzero hactive]
    exact ⟨rfl, rfl⟩

end Sys2Proof.Machine
end

section
/-! PROOFS. Step edges and the homing confirmation: O18, O19. -/

namespace Sys2Proof.Machine

/-! ### What the motion layer leaves of an axis's slice -/

/-- The course of an axis: its motion without the marks of gearing, learning, requests and the step timer. -/
def Motion.course (m : Motion) : Motion :=
  { m with edgeAt := none, lastEdge := none, edgeGap := 0, firstAt := none, freshStop := false, target := 0, startPos := 0, learnable := false, req := .idle, atSoftLimit := false, gearHold := false,
           gearLatched := false, faultCause := 0, cntLagFaults := 0 }

/-- What two motions of one course have in common. -/
theorem Motion.like {α : Type} {m m' : Motion} (h : m.course = m'.course) (g : Motion → α) : g m.course = g m'.course := congrArg g h

/-- The portal's stand, the car bus, the switch channels and the course of one axis. -/
def Slice.scene (a : Fin 3) (sl : Slice) := (sl.std, sl.can, sl.sw.ch, sl.axes[a].m.course)

section
variable {e : Env} {a : Fin 3} {sl : Slice}

theorem Slice.of_scene {x y : Slice} {m : Motion} (h : x.scene a = (y.std, y.can, y.sw.ch, m.course)) :
    x.portal.st = y.portal.st ∧ x.portal.tState = y.portal.tState ∧ x.can = y.can ∧ x.sw.ch = y.sw.ch ∧ x.axes[a].m.course = m.course := by
  simp only [Slice.scene, Slice.std, Portal.stand, Prod.mk.injEq] at h
  obtain ⟨⟨hst, -, ht, -⟩, hcan, hch, hcourse⟩ := h
  exact ⟨hst, ht, hcan, hch, hcourse⟩

theorem Slice.modM_own (f : Motion → Motion) : (sl.modM a f).scene a = (sl.std, sl.can, sl.sw.ch, (f sl.axes[a].m).course) :=
  congrArg (fun m : Motion => (sl.std, sl.can, sl.sw.ch, m.course)) (Slice.modM_motion f)

/-- A write of an axis's motion that leaves its course. -/
theorem Slice.modM_scene (b : Fin 3) (f : Motion → Motion) (sl : Slice) (hf : ∀ m, (f m).course = m.course) : (sl.modM b f).scene a = sl.scene a := by
  by_cases h : b = a
  · subst h
    rw [Slice.modM_own, hf]
    rfl
  · have hother : (sl.modM b f).axes[a].m = sl.axes[a].m := by simp [Slice.modM, Slice.modAxis, Fin.val_ne_of_ne h]
    exact congrArg (fun m : Motion => (sl.std, sl.can, sl.sw.ch, m.course)) hother

@[simp] theorem Slice.ite_scene (c : Prop) [Decidable c] (x y : Slice) : (if c then x else y).scene a = if c then x.scene a else y.scene a := apply_ite (Slice.scene a) c x y

@[simp] theorem Slice.modD_scene (b : Fin 3) (f : Drive → Drive) (sl : Slice) : (sl.modD b f).scene a = sl.scene a :=
  congrArg (fun m : Motion => (sl.std, sl.can, sl.sw.ch, m.course)) (sl.modD_motion a f)

@[simp] theorem Slice.modTether_scene (f : Tether → Tether) (sl : Slice) : (sl.modTether f).scene a = sl.scene a := rfl

@[simp] theorem Slice.modInp_scene (f : Inputs → Inputs) (sl : Slice) : (sl.modInp f).scene a = sl.scene a := rfl

@[simp] theorem Slice.raise_scene (k code hi : Nat) (sl : Slice) : (sl.raise e k code hi).scene a = sl.scene a := rfl

theorem Slice.modPortal_scene (f : Portal → Portal) (sl : Slice) (hf : ∀ q, (f q).stand = q.stand) : (sl.modPortal f).scene a = sl.scene a :=
  congrArg (fun q => (q, sl.can, sl.sw.ch, sl.axes[a].m.course)) (hf sl.portal)

@[simp] theorem Slice.axisFault_scene (b : Fin 3) (cause : Nat) (sl : Slice) : (sl.axisFault e b cause).scene a = sl.scene a := by
  rw [← Slice.modM_scene b (fun m => { m with faultCause := cause }) sl fun _ => rfl]
  unfold Slice.axisFault
  dsimp only
  split <;> rfl

@[simp] theorem Slice.setMode_scene (b : Fin 3) (md : DriveMode) (sl : Slice) : (sl.setMode e b md).scene a = sl.scene a := Slice.modD_scene b _ sl

@[simp] theorem Slice.followGenerator_scene (b : Fin 3) (sl : Slice) : (sl.followGenerator e b).scene a = sl.scene a := by simp [Slice.followGenerator]

/-! Gearing -/

@[simp] theorem Slice.gearFault_scene (b : Fin 3) (cause : Nat) (sl : Slice) : (sl.gearFault e b cause).scene a = sl.scene a := by
  rw [Slice.gearFault, Slice.axisFault_scene]
  exact Slice.modM_scene b _ sl fun _ => rfl

@[simp] theorem Slice.gearUpdate_scene (b : Fin 3) (sl : Slice) : (sl.gearUpdate e b).scene a = sl.scene a := by
  have hlimit (out : Bool) : (sl.modM b fun m => { m with atSoftLimit := out }).scene a = sl.scene a := Slice.modM_scene b _ sl fun _ => rfl
  simp [Slice.gearUpdate, hlimit]

@[simp] theorem Slice.gearFollow_scene (src : Nat) (sl : Slice) : (sl.gearFollow e src).scene a = sl.scene a :=
  forAxes_keeps (Slice.scene a) _ (fun _ _ => by simp) sl

theorem Slice.withFollowers_scene (b : Fin 3) (f : Fin 3 → Slice → Slice) (hf : ∀ c sl, (f c sl).scene a = sl.scene a) (sl : Slice) : (sl.withFollowers e b f).scene a = sl.scene a :=
  forAxes_keeps (Slice.scene a) _ (fun c sl => by rw [Slice.ite_scene, hf, ite_self]) sl

/-! Learning -/

@[simp] theorem Slice.learnBin_scene (b : Fin 3) (opening : Bool) (k : Fin 64) (sl : Slice) : (sl.learnBin e b opening k).scene a = sl.scene a := by simp [Slice.learnBin]

@[simp] theorem Slice.learnPeaks_scene (b : Fin 3) (opening : Bool) (sl : Slice) : (sl.learnPeaks e b opening).scene a = sl.scene a :=
  foldl_keeps (Slice.scene a) _ (fun _ _ => by simp) _ sl

@[simp] theorem Slice.sendTeach_scene (b : Fin 3) (sl : Slice) : (sl.sendTeach e b).scene a = sl.scene a := rfl

@[simp] theorem Slice.learnAxis_scene (b : Fin 3) (opening : Bool) (sl : Slice) : (sl.learnAxis e b opening).scene a = sl.scene a := by simp [Slice.learnAxis]

@[simp] theorem Slice.learnMove_scene (b : Fin 3) (opening : Bool) (sl : Slice) : (sl.learnMove e b opening).scene a = sl.scene a := by
  refine Slice.withFollowers_scene b _ (fun c sl => (Slice.modM_scene c _ _ fun _ => by rfl).trans ?_) sl
  rw [Slice.ite_scene, Slice.learnAxis_scene, ite_self]

/-! The steps around a microstep -/

@[simp] theorem Slice.moveBegins_scene (b : Fin 3) (sl : Slice) : (sl.moveBegins e b).scene a = sl.scene a := by
  unfold Slice.moveBegins
  dsimp only
  refine (Slice.withFollowers_scene b _ (fun c sl => (Slice.modM_scene c _ _ fun _ => by rfl).trans (Slice.modD_scene c _ sl)) _).trans ?_
  split
  · exact Slice.modPortal_scene _ sl fun _ => rfl
  · rfl

@[simp] theorem Slice.moveEnds_scene (b : Fin 3) (opening : Bool) (sl : Slice) : (sl.moveEnds e b opening).scene a = sl.scene a := by
  unfold Slice.moveEnds
  dsimp only
  refine (Slice.modM_scene b _ _ fun _ => by rfl).trans ((Slice.learnMove_scene b opening _).trans ?_)
  split
  · exact Slice.modPortal_scene _ sl fun _ => rfl
  · rfl

@[simp] theorem Slice.actionDone_scene (b : Fin 3) (sl : Slice) : (sl.actionDone e b).scene a = sl.scene a := by
  unfold Slice.actionDone
  dsimp only
  split
  · exact Slice.modPortal_scene _ sl fun _ => rfl
  · rfl

@[simp] theorem Slice.powerStep_scene (b : Fin 3) (old : Int) (sl : Slice) : (sl.powerStep e b old).scene a = sl.scene a := by simp [Slice.powerStep]

end

/-! ### A microstep of a queued move (R92, R104, R107, R112) -/

/-- One microstep in a direction. -/
def microstep (forward : Bool) : Int := if forward then 1 else -1

theorem microstep_moves (pos : Int) (forward : Bool) : pos + microstep forward ≠ pos := by
  unfold microstep
  split <;> omega

theorem microstep_toward (pos goal : Int) : microstep (decide (pos < goal)) = if pos < goal then 1 else -1 := by simp [microstep]

section
variable {e : Env} {a : Nat} {m : Motion}

theorem Motion.oneStep_pos : m.oneStep.pos = m.pos + microstep m.dirPos := by
  unfold Motion.oneStep microstep
  dsimp only
  split <;> omega

theorem Motion.drive_pos (f : Prof) : (m.drive f).pos = m.pos := by
  unfold Motion.drive
  split <;> rfl

theorem Motion.advance_pos (mv : Move) (rest : List Move) : (m.advance e a mv rest).pos = m.pos := by
  unfold Motion.advance
  dsimp only
  split
  · rfl
  · split
    · rfl
    · exact Motion.drive_pos _

theorem Motion.endMove_pos (rest : List Move) : (m.endMove e a rest).pos = m.pos := by
  unfold Motion.endMove
  split
  · split
    · exact Motion.advance_pos _ _
    · rfl
  · dsimp only
    split <;> rfl

/-- An axis at standstill with nothing to run. -/
def Motion.rests (m : Motion) : Prop := m.v = 0 ∧ m.queue = [] ∧ m.running = false

theorem Motion.endMove_rests : (m.endMove e a []).rests := ⟨rfl, rfl, rfl⟩

/-- After a microstep of a move: the position stays, and at the target the last move has ended. -/
theorem Motion.stepped (mv : Move) (rest : List Move) {x : Motion} (hx : x = if m.pos = mv.target then m.endMove e a rest else m.advance e a mv rest) :
    x.pos = m.pos ∧ (x.pos = mv.target → rest = [] → x.rests) := by
  subst hx
  split
  · exact ⟨Motion.endMove_pos rest, fun _ hlast => hlast ▸ Motion.endMove_rests⟩
  next hahead => exact ⟨Motion.advance_pos mv rest, fun hat => absurd ((Motion.advance_pos mv rest).symm.trans hat) hahead⟩

theorem dropDone_ahead {pos : Int} {mv : Move} (h : mv.target ≠ pos) (rest : List Move) : dropDone pos (mv :: rest) = mv :: rest := if_neg h

/-- The step edge of a running move. -/
theorem Motion.queueEdge_runs {mv : Move} {rest : List Move} (hrunning : m.running = true) (hqueue : m.queue = mv :: rest) :
    (m.queueEdge e a).pos = m.pos + microstep m.dirPos ∧ ((m.queueEdge e a).pos = mv.target → rest = [] → (m.queueEdge e a).rests) := by
  have hedge : m.queueEdge e a = if m.oneStep.pos = mv.target then m.oneStep.endMove e a rest else m.oneStep.advance e a mv rest := by
    rw [Motion.queueEdge, if_pos hrunning, hqueue]
  rw [← Motion.oneStep_pos]
  exact Motion.stepped mv rest hedge

/-- The first step edge of a move takes the direction of its target. -/
theorem Motion.queueEdge_starts {mv : Move} {rest : List Move} (hstands : m.running = false) (hqueue : m.queue = mv :: rest) (hahead : mv.target ≠ m.pos) :
    (m.queueEdge e a).pos = m.pos + microstep (decide (m.pos < mv.target)) ∧ ((m.queueEdge e a).pos = mv.target → rest = [] → (m.queueEdge e a).rests) := by
  obtain ⟨x, hpos, hdir, hedge⟩ : ∃ x : Motion, x.pos = m.pos ∧ x.dirPos = decide (m.pos < mv.target) ∧
      m.queueEdge e a = if x.oneStep.pos = mv.target then x.oneStep.endMove e a rest else x.oneStep.advance e a mv rest := by
    refine ⟨{ m with dirPos := decide (m.pos < mv.target), startPos := m.pos, running := true, decel := false, queue := mv :: rest, profile := mv.set, v := (e.prof a mv.set).vStart * 65536, exact := none }, rfl, rfl, ?_⟩
    rw [Motion.queueEdge, hstands, if_neg Bool.false_ne_true, hqueue, dropDone_ahead hahead]
  rw [← hdir, ← hpos, ← Motion.oneStep_pos]
  exact Motion.stepped mv rest hedge

/-- The step edge of the move at the head of the queue, given the course of the axis. -/
theorem Motion.queueEdge_moves {m0 : Motion} {mv : Move} {rest : List Move} (hm : m.course = m0.course) (hqueue : m0.queue = mv :: rest) (hahead : m0.running = false → mv.target ≠ m0.pos) :
    (m.queueEdge e a).pos = m0.pos + microstep (if m0.running then m0.dirPos else decide (m0.pos < mv.target)) ∧
      ((m.queueEdge e a).pos = mv.target → rest = [] → (m.queueEdge e a).rests) := by
  have hq : m.queue = mv :: rest := (Motion.like hm Motion.queue).trans hqueue
  have hpos : m.pos = m0.pos := Motion.like hm Motion.pos
  have hdir : m.dirPos = m0.dirPos := Motion.like hm Motion.dirPos
  have hrunning : m.running = m0.running := Motion.like hm Motion.running
  rw [← hpos, ← hdir, ← hrunning]
  cases hr : m.running with
  | true => exact Motion.queueEdge_runs hr hq
  | false => exact Motion.queueEdge_starts hr hq (hpos ▸ hahead (hrunning ▸ hr))

end

end Sys2Proof.Machine
end

section
namespace Sys2Proof.Machine

/-! ### One step edge (R97, R98, R100, R107, R124, R128) -/

section
variable {e : Env} {a : Fin 3} {sl : Slice}

/-- What a microstep of the queue is given: the axis's own course. -/
theorem Slice.moveEdge_scene (hstop : sl.axes[a].m.stopping = false) (hrev : sl.axes[a].m.rev = none) :
    ∃ m : Motion, m.course = sl.axes[a].m.course ∧ (sl.moveEdge e a).scene a = (sl.std, sl.can, sl.sw.ch, (m.queueEdge e a).course) := by
  obtain ⟨y, hy, hedge⟩ : ∃ y : Slice, y.scene a = sl.scene a ∧ (sl.moveEdge e a).scene a = (y.modM a (Motion.queueEdge e a)).scene a := by
    refine ⟨if !sl.axes[a].m.running && decide (dropDone sl.axes[a].m.pos sl.axes[a].m.queue ≠ []) then sl.moveBegins e a else sl, by simp, ?_⟩
    unfold Slice.moveEdge
    dsimp only
    rw [hstop, hrev, Slice.actionDone_scene, Slice.ite_scene, Slice.moveEnds_scene, ite_self]
    rfl
  obtain ⟨-, -, -, -, hcourse⟩ := Slice.of_scene hy
  simp only [Slice.scene, Prod.mk.injEq] at hy
  obtain ⟨hstd, hcan, hch, -⟩ := hy
  exact ⟨y.axes[a].m, hcourse, by rw [hedge, Slice.modM_own, hstd, hcan, hch]⟩

/-- The move at the head of the queue gives AX_TARGET. -/
def Slice.aimed (a : Fin 3) (sl : Slice) : Slice :=
  match sl.axes[a].m.queue with
  | mv :: _ => sl.modM a fun m => { m with target := mv.target }
  | [] => sl

theorem Slice.modM_self : sl.modM a (fun m => m) = sl := by
  have hself : sl.axes.set a sl.axes[a] = sl.axes := by simp
  exact congrArg (fun axes => { sl with axes := axes }) hself

/-- It changes nothing but the register. -/
theorem Slice.aimed_eq : ∃ t : Int, sl.aimed a = sl.modM a fun m => { m with target := t } := by
  unfold Slice.aimed
  split
  · exact ⟨_, rfl⟩
  · exact ⟨sl.axes[a].m.target, Slice.modM_self.symm⟩

theorem Slice.aimed_course : (sl.aimed a).axes[a].m.course = sl.axes[a].m.course := by
  obtain ⟨t, h⟩ := Slice.aimed_eq (a := a) (sl := sl)
  rw [h, Slice.modM_motion]
  rfl

theorem Slice.aimed_rest : (sl.aimed a).std = sl.std ∧ (sl.aimed a).can = sl.can ∧ (sl.aimed a).sw.ch = sl.sw.ch ∧ (sl.aimed a).inp = sl.inp := by
  obtain ⟨t, h⟩ := Slice.aimed_eq (a := a) (sl := sl)
  rw [h]
  exact ⟨rfl, rfl, rfl, rfl⟩

theorem Slice.aimed_engaged : (sl.aimed a).engaged e a = sl.engaged e a := by
  obtain ⟨t, h⟩ := Slice.aimed_eq (a := a) (sl := sl)
  unfold Slice.engaged
  rw [h, Slice.modM_motion]

theorem Slice.aimed_gearGoal : (sl.aimed a).gearGoal e a = sl.gearGoal e a := by
  obtain ⟨t, h⟩ := Slice.aimed_eq (a := a) (sl := sl)
  have hpos (b : Fin 3) : (sl.aimed a).axes[b].m.pos = sl.axes[b].m.pos := by
    rw [h]
    by_cases hb : a = b
    · subst hb
      simp
    · simp [Fin.val_ne_of_ne hb]
  have hmaster (n : Nat) : (sl.aimed a).gearMaster e n = sl.gearMaster e n := by
    unfold Slice.gearMaster
    rw [Slice.aimed_rest.2.2.2]
    split
    · rfl
    · rfl
    · rfl
    · exact hpos 0
    · exact hpos 1
    · exact hpos 2
  rw [Slice.gearGoal, hmaster]
  rfl

/-- What follows from the microstep of an axis that stood at `old` with the motion `m` before it. -/
def Slice.edged (e : Env) (a : Fin 3) (m : Motion) (sl : Slice) : Slice :=
  let sl := sl.modM a fun m' => { m' with freshStop := false, firstAt := if m.v = 0 ∧ m'.pos ≠ m.pos then some e.now else m'.firstAt }
  let sl := (sl.powerStep e a m.pos).followGenerator e a
  if sl.axes[a].m.pos = m.pos then sl else sl.gearFollow e (4 + a.val)

@[simp] theorem Slice.edged_scene (m : Motion) : (sl.edged e a m).scene a = sl.scene a := by
  unfold Slice.edged
  simp only [Slice.ite_scene, Slice.gearFollow_scene, Slice.followGenerator_scene, Slice.powerStep_scene, ite_self]
  exact Slice.modM_scene a _ sl fun _ => rfl

theorem Slice.stepEdge_homes {h : HomeRun} (hdriven : sl.axes[a].d.mode.driven = true) (hhome : sl.axes[a].m.home = some h) :
    sl.stepEdge e a = ((sl.aimed a).homingEdge e a h).edged e a sl.axes[a].m := by
  unfold Slice.stepEdge
  dsimp only
  rw [hdriven, hhome]
  rfl

theorem Slice.stepEdge_follows (hdriven : sl.axes[a].d.mode.driven = true) (hhome : sl.axes[a].m.home = none) (hgear : e.geared a = true) :
    sl.stepEdge e a = ((sl.aimed a).followerEdge e a).edged e a sl.axes[a].m := by
  unfold Slice.stepEdge
  dsimp only
  rw [hdriven, hhome, if_pos hgear]
  rfl

theorem Slice.stepEdge_moves (hdriven : sl.axes[a].d.mode.driven = true) (hhome : sl.axes[a].m.home = none) (hgear : e.geared a = false) :
    sl.stepEdge e a = ((sl.aimed a).moveEdge e a).edged e a sl.axes[a].m := by
  unfold Slice.stepEdge
  dsimp only
  rw [hdriven, hhome, hgear]
  rfl

theorem Motion.arm_course (base : Nat) (old : Int) (more : Bool) (m : Motion) : (m.arm base old more).course = m.course := by
  unfold Motion.arm
  split <;> rfl

theorem Slice.timedEdge_scene (base : Nat) (hdriven : sl.axes[a].d.mode.driven = true) : (sl.timedEdge e a base).scene a = (sl.stepEdge e a).scene a := by
  unfold Slice.timedEdge
  rw [if_pos hdriven]
  exact Slice.modM_scene a _ _ fun m => Motion.arm_course ..

/-- The timer after an edge that has moved an ungeared axis and leaves it moving (R97, R98). -/
theorem Slice.timedEdge_next {base : Nat} {x : Slice} (hx : x = sl.timedEdge e a base) (hdriven : sl.axes[a].d.mode.driven = true) (hgear : e.geared a = false)
    (hmoved : x.axes[a].m.pos ≠ sl.axes[a].m.pos) (hmoves : x.axes[a].m.v ≠ 0) :
    x.axes[a].m.edgeAt = some (base + x.axes[a].m.interval * stageDiv x.axes[a].m.stage * 5) := by
  let y := sl.stepEdge e a
  have harm : x.axes[a].m = y.axes[a].m.arm base sl.axes[a].m.pos (y.edgeDue e a) := by
    rw [hx, Slice.timedEdge, if_pos hdriven]
    exact Slice.modM_motion _
  have hcourse : x.axes[a].m.course = y.axes[a].m.course := by rw [harm, Motion.arm_course]
  have hpos : y.axes[a].m.pos ≠ sl.axes[a].m.pos := fun h => hmoved ((Motion.like hcourse Motion.pos).trans h)
  have hv : y.axes[a].m.v ≠ 0 := fun h => hmoves ((Motion.like hcourse Motion.v).trans h)
  have hdue : y.edgeDue e a = true := by
    unfold Slice.edgeDue
    dsimp only
    rw [hgear, decide_eq_true hv]
    rfl
  rw [harm, hdue, Motion.arm, if_neg hpos]
  rfl

/-- The step edge of a move that does not brake: the edge of the queue, from the course the axis has. -/
theorem Slice.timedEdge_moves (base : Nat) (hdriven : sl.axes[a].d.mode.driven = true) (hhome : sl.axes[a].m.home = none) (hgear : e.geared a = false) (hstop : sl.axes[a].m.stopping = false)
    (hrev : sl.axes[a].m.rev = none) : ∃ m : Motion, m.course = sl.axes[a].m.course ∧ (sl.timedEdge e a base).scene a = (sl.std, sl.can, sl.sw.ch, (m.queueEdge e a).course) := by
  obtain ⟨hstd, hcan, hch, -⟩ := Slice.aimed_rest (a := a) (sl := sl)
  obtain ⟨m, hm, hedge⟩ := Slice.moveEdge_scene (e := e) ((Motion.like Slice.aimed_course Motion.stopping).trans hstop) ((Motion.like Slice.aimed_course Motion.rev).trans hrev)
  refine ⟨m, hm.trans Slice.aimed_course, ?_⟩
  rw [Slice.timedEdge_scene base hdriven, Slice.stepEdge_moves hdriven hhome hgear, Slice.edged_scene, hedge, hstd, hcan, hch]

/-! ### The step edge of a homing run (R128, R130, R131) -/

/-- The motion of an axis whose homing run has failed. -/
def Motion.homeFails (code : Nat) (m : Motion) : Motion := { m.halt with homed := false, homeCode := code }

theorem Slice.homeFail_scene (code : Nat) : (sl.homeFail e a code).scene a = (sl.modM a (Motion.homeFails code)).scene a := by
  unfold Slice.homeFail
  rw [Slice.followGenerator_scene, Slice.axisFault_scene]
  rfl

/-- A homing run that is stopped and stands fails with code 1 (log entry 105). -/
theorem Slice.homingEdge_ends {h : HomeRun} (hrun : h.stallAt = none) (hstop : sl.axes[a].m.stopping = true) (hv : sl.axes[a].m.v = 0) : sl.homingEdge e a h = sl.homeFail e a 1 := by
  unfold Slice.homingEdge
  dsimp only
  rw [hrun, if_neg (by simp), if_pos ⟨hv, hstop⟩]

/-- One microstep of a homing run, from standstill at the speed `v`. -/
def Motion.homingStep (v : Nat) (h : HomeRun) (m : Motion) : Motion :=
  { (if m.v = 0 then { m with v := v } else m).oneStep with home := some { h with travel := h.travel + 1 } }

theorem Motion.homingStep_pos {v : Nat} {h : HomeRun} {m : Motion} : (m.homingStep v h).pos = m.pos + microstep m.dirPos := by
  refine Motion.oneStep_pos.trans ?_
  split <;> rfl

/-- The ramp of a homing run to the homing speed `hs`, with `rem` microsteps of its travel left (R128). -/
def Motion.homingRamp (f : Prof) (hs rem : Nat) (m : Motion) : Motion :=
  let v : Rat := (m.v : Rat) / 65536
  let stopDist : Rat := if m.v ≤ f.vStop * 65536 then 0 else (v * v - (f.vStop : Rat) * f.vStop) / (2 * f.d1)
  let m := { m with decel := m.decel || decide ((rem : Rat) ≤ stopDist) }
  if m.stopping then m.brake f (f.vStop * 65536) else if m.decel then m.ramp [(-(f.d1 : Int), f.vStop * 65536)] else m.ramp [(f.a1, hs)]

theorem Motion.homingRamp_pos {f : Prof} {hs rem : Nat} {m : Motion} : (m.homingRamp f hs rem).pos = m.pos := by
  unfold Motion.homingRamp
  dsimp only
  repeat' split
  all_goals rfl

/-- Every other step edge of a homing run before the stall is one microstep in its direction. -/
theorem Slice.homingEdge_moves {h : HomeRun} (hrun : h.stallAt = none) (hmoves : sl.axes[a].m.stopping = false ∨ sl.axes[a].m.v ≠ 0) :
    ∃ m : Motion, m.pos = sl.axes[a].m.pos + microstep sl.axes[a].m.dirPos ∧ (sl.homingEdge e a h).scene a = (sl.std, sl.can, sl.sw.ch, m.course) := by
  have hgoes : ¬(sl.axes[a].m.v = 0 ∧ sl.axes[a].m.stopping = true) := by
    rintro ⟨hv, hstop⟩
    rcases hmoves with h | h
    · rw [h] at hstop
      exact Bool.false_ne_true hstop
    · exact h hv
  obtain ⟨f, hf, hedge⟩ : ∃ f : Motion → Motion, (∀ m, (f m).pos = m.pos) ∧ (sl.homingEdge e a h).scene a = ((sl.modM a (Motion.homingStep (min ((e.prof a 0).vStart * 65536) (cfgAxHomeSpeed e.p e.i a * 65536)) h)).modM a f).scene a := by
    unfold Slice.homingEdge
    dsimp only
    rw [if_neg (by simp [hrun]), if_neg hgoes]
    split
    · exact ⟨Motion.homeFails 1, fun _ => rfl, Slice.homeFail_scene 1⟩
    · exact ⟨Motion.homingRamp (e.prof a 0) (cfgAxHomeSpeed e.p e.i a * 65536) (cfgAxHomeMaxTravel e.p e.i a - (h.travel + 1)), fun _ => Motion.homingRamp_pos, rfl⟩
  rw [hedge, Slice.modM_modM, Slice.modM_own]
  exact ⟨_, (hf _).trans Motion.homingStep_pos, rfl⟩

theorem Slice.engaged_geared (hengaged : sl.engaged e a = true) : e.geared a = true := by
  simp only [Slice.engaged, Bool.and_eq_true] at hengaged
  obtain ⟨⟨⟨hgear, -⟩, -⟩, -⟩ := hengaged
  exact hgear

/-- The step edge of a follower that is off its demand (R124). -/
theorem Slice.followerEdge_moves (hengaged : sl.engaged e a = true) (hoff : sl.axes[a].m.pos ≠ sl.gearGoal e a) :
    ∃ m : Motion, m.pos = sl.axes[a].m.pos + microstep (decide (sl.axes[a].m.pos < sl.gearGoal e a)) ∧ (sl.followerEdge e a).scene a = (sl.std, sl.can, sl.sw.ch, m.course) := by
  unfold Slice.followerEdge
  rw [if_pos (by rw [hengaged, decide_eq_true hoff]; rfl), Slice.modM_own]
  exact ⟨_, Motion.oneStep_pos, rfl⟩

/-! Each with what follows from it -/

theorem Slice.timedEdge_homes {h : HomeRun} (base : Nat) (hdriven : sl.axes[a].d.mode.driven = true) (hhome : sl.axes[a].m.home = some h) (hrun : h.stallAt = none)
    (hmoves : sl.axes[a].m.stopping = false ∨ sl.axes[a].m.v ≠ 0) :
    ∃ m : Motion, m.pos = sl.axes[a].m.pos + microstep sl.axes[a].m.dirPos ∧ (sl.timedEdge e a base).scene a = (sl.std, sl.can, sl.sw.ch, m.course) := by
  obtain ⟨hstd, hcan, hch, -⟩ := Slice.aimed_rest (a := a) (sl := sl)
  have hcourse := Slice.aimed_course (a := a) (sl := sl)
  obtain ⟨m, hm, hedge⟩ := Slice.homingEdge_moves (e := e) (a := a) (sl := sl.aimed a) hrun (hmoves.imp (Motion.like hcourse Motion.stopping).trans fun hv h => hv ((Motion.like hcourse Motion.v).symm.trans h))
  refine ⟨m, hm.trans (Motion.like hcourse fun m => m.pos + microstep m.dirPos), ?_⟩
  rw [Slice.timedEdge_scene base hdriven, Slice.stepEdge_homes hdriven hhome, Slice.edged_scene, hedge, hstd, hcan, hch]

theorem Slice.timedEdge_homingEnds {h : HomeRun} (base : Nat) (hdriven : sl.axes[a].d.mode.driven = true) (hhome : sl.axes[a].m.home = some h) (hrun : h.stallAt = none)
    (hstop : sl.axes[a].m.stopping = true) (hv : sl.axes[a].m.v = 0) :
    (sl.timedEdge e a base).scene a = (sl.std, sl.can, sl.sw.ch, (sl.axes[a].m.homeFails 1).course) := by
  obtain ⟨hstd, hcan, hch, -⟩ := Slice.aimed_rest (a := a) (sl := sl)
  have hcourse := Slice.aimed_course (a := a) (sl := sl)
  rw [Slice.timedEdge_scene base hdriven, Slice.stepEdge_homes hdriven hhome, Slice.edged_scene,
    Slice.homingEdge_ends hrun ((Motion.like hcourse Motion.stopping).trans hstop) ((Motion.like hcourse Motion.v).trans hv), Slice.homeFail_scene, Slice.modM_own, hstd, hcan, hch]
  exact Motion.like hcourse fun m => (sl.std, sl.can, sl.sw.ch, (m.homeFails 1).course)

theorem Slice.timedEdge_follows (base : Nat) (hdriven : sl.axes[a].d.mode.driven = true) (hhome : sl.axes[a].m.home = none) (hengaged : sl.engaged e a = true)
    (hoff : sl.axes[a].m.pos ≠ sl.gearGoal e a) :
    ∃ m : Motion, m.pos = sl.axes[a].m.pos + microstep (decide (sl.axes[a].m.pos < sl.gearGoal e a)) ∧ (sl.timedEdge e a base).scene a = (sl.std, sl.can, sl.sw.ch, m.course) := by
  obtain ⟨hstd, hcan, hch, -⟩ := Slice.aimed_rest (a := a) (sl := sl)
  have hcourse := Slice.aimed_course (a := a) (sl := sl)
  have hpos : (sl.aimed a).axes[a].m.pos = sl.axes[a].m.pos := Motion.like hcourse Motion.pos
  have hgoal := Slice.aimed_gearGoal (e := e) (a := a) (sl := sl)
  obtain ⟨m, hm, hedge⟩ := Slice.followerEdge_moves (e := e) (a := a) (sl := sl.aimed a) (Slice.aimed_engaged.trans hengaged) (by rw [hpos, hgoal]; exact hoff)
  refine ⟨m, by rw [hm, hpos, hgoal], ?_⟩
  rw [Slice.timedEdge_scene base hdriven, Slice.stepEdge_follows hdriven hhome (Slice.engaged_geared hengaged), Slice.edged_scene, hedge, hstd, hcan, hch]

end

/-! ### STEP_EDGE -/

section
variable {i : Fin 16} {a : Fin 3} {s : State}

/-- The state in which a step edge takes place. -/
def State.atEdge (i : Fin 16) (a : Fin 3) (s : State) : State := s.advance ((s.edgeBase i a + 1) / 2)

theorem State.complete_stepEdge (hruns : s.sliceRuns i = true) (hdriven : s.slices[i].axes[a].d.mode.driven = true) :
    exec (.stepEdge i a) s = .next ((s.atEdge i a).modSlice i fun _ => s.slices[i].timedEdge ((s.atEdge i a).env i) a (s.edgeBase i a)).draw := by
  refine congrArg State.complete ((if_pos ?_).trans (if_pos hruns))
  rw [hdriven, hruns]
  rfl

theorem State.complete_stepEdge_free (hfree : s.slices[i].axes[a].d.mode.driven = false) : exec (.stepEdge i a) s = .next s.draw := by
  refine congrArg State.complete (if_neg ?_)
  rw [hfree]
  exact Bool.false_ne_true

end

/-- Settles O18: a queued move, a homing run and a follower each by its own step edge, of which what follows a microstep leaves the course. -/
theorem stepEdgeMovesOneMicrostep : Obligations.StepEdgeMovesOneMicrostep := by
  unfold Obligations.StepEdgeMovesOneMicrostep
  refine ⟨fun i a mv rest s hruns hdriven hhome hgear hstop hrev hqueue hahead => ?move, fun i a h s hruns hdriven hhome hrun => ?homing,
    fun i a s hruns hdriven hhome hgear hhomed hhold hoff => ?follower, fun i a s hfree => State.complete_stepEdge_free hfree⟩
  case move =>
    obtain ⟨m, hm, hedge⟩ := s.slices[i].timedEdge_moves (e := (s.atEdge i a).env i) (s.edgeBase i a) hdriven hhome hgear hstop hrev
    obtain ⟨hst, ht, hcan, hch, hcourse⟩ := Slice.of_scene hedge
    obtain ⟨hstep, hend⟩ := Motion.queueEdge_moves (e := (s.atEdge i a).env i) (a := a) hm hqueue hahead
    have hpos : (s.slices[i].timedEdge ((s.atEdge i a).env i) a (s.edgeBase i a)).axes[a].m.pos = _ := (Motion.like hcourse Motion.pos).trans hstep
    have hmoved : (s.slices[i].timedEdge ((s.atEdge i a).env i) a (s.edgeBase i a)).axes[a].m.pos ≠ s.slices[i].axes[a].m.pos := by
      rw [hpos]
      exact microstep_moves _ _
    refine ⟨_, State.complete_stepEdge hruns hdriven, hst, ht, hcan, hch, fun hr => ?_, fun hr => ?_, fun hat hlast => ?_, Slice.timedEdge_next rfl hdriven hgear hmoved⟩
    · rw [hpos, if_pos hr]
      rfl
    · rw [hpos, hr, if_neg Bool.false_ne_true, microstep_toward]
    · obtain ⟨hv, hq, hr⟩ := hend ((Motion.like hcourse Motion.pos).symm.trans hat) hlast
      exact ⟨(Motion.like hcourse Motion.v).trans hv, (Motion.like hcourse Motion.queue).trans hq, (Motion.like hcourse Motion.running).trans hr⟩
  case homing =>
    by_cases hmoves : s.slices[i].axes[a].m.stopping = false ∨ s.slices[i].axes[a].m.v ≠ 0
    · obtain ⟨m, hpos, hedge⟩ := s.slices[i].timedEdge_homes (e := (s.atEdge i a).env i) (s.edgeBase i a) hdriven hhome hrun hmoves
      obtain ⟨hst, ht, hcan, hch, hcourse⟩ := Slice.of_scene hedge
      refine ⟨_, State.complete_stepEdge hruns hdriven, hst, ht, hcan, hch, fun _ => (Motion.like hcourse Motion.pos).trans hpos, fun hstop hv => ?_⟩
      rcases hmoves with hgoes | hgoes
      · exact absurd (hgoes.symm.trans hstop) Bool.false_ne_true
      · exact absurd hv hgoes
    · obtain ⟨hstop, hv⟩ := not_or.mp hmoves
      have hedge := s.slices[i].timedEdge_homingEnds (e := (s.atEdge i a).env i) (s.edgeBase i a) hdriven hhome hrun (Bool.eq_true_of_not_eq_false hstop) (not_not.mp hv)
      obtain ⟨hst, ht, hcan, hch, hcourse⟩ := Slice.of_scene hedge
      exact ⟨_, State.complete_stepEdge hruns hdriven, hst, ht, hcan, hch, fun h => absurd h hmoves,
        fun _ _ => ⟨Motion.like hcourse Motion.pos, Motion.like hcourse Motion.home, Motion.like hcourse Motion.homeCode⟩⟩
  case follower =>
    have hengaged : s.slices[i].engaged ((s.atEdge i a).env i) a = true := by
      have hgear' : ((s.atEdge i a).env i).geared a = true := hgear
      simp only [Slice.engaged, hgear', hhomed, hhold, hhome]
      rfl
    obtain ⟨m, hpos, hedge⟩ := s.slices[i].timedEdge_follows (s.edgeBase i a) hdriven hhome hengaged hoff
    obtain ⟨hst, ht, hcan, hch, hcourse⟩ := Slice.of_scene hedge
    exact ⟨_, State.complete_stepEdge hruns hdriven, hst, ht, hcan, hch, ((Motion.like hcourse Motion.pos).trans hpos).trans (by rw [microstep_toward]; rfl)⟩

end Sys2Proof.Machine
end

section
/-! PROOFS. The homing confirmation: O19. -/

namespace Sys2Proof.Machine

/-! ### A command of a slice and a command that its timer gives (R33) -/

section
variable {i : Fin 16} {s : State}

theorem State.complete_onSlice (hruns : s.sliceRuns i = true) (f : Env → Slice → Slice) : State.complete (s.onSlice i f) = .next (s.modSlice i fun _ => f (s.env i) s.slices[i]).draw :=
  congrArg State.complete (State.onSlice_of_runs i f s hruns)

theorem State.complete_onSliceAt {due : Env → Slice → Option Nat} {t : Nat} (hruns : s.sliceRuns i = true) (hdue : due (s.env i) s.slices[i] = some t) (f : Env → Slice → Slice) :
    State.complete (s.onSliceAt i due f) = .next ((s.advance t).modSlice i fun _ => f ((s.advance t).env i) s.slices[i]).draw := by
  unfold State.onSliceAt
  rw [hdue]
  exact (congrArg State.complete (if_pos hruns)).trans (State.complete_onSlice (s := s.advance t) hruns f)

/-- An instant that a timer names has come when its command acts. -/
theorem State.advance_reaches (t : Nat) (i : Fin 16) (s : State) : t ≤ ((s.advance t).env i).now := Nat.le_max_right ..

end

/-! ### How a homing run ends (R126, R130, R131) -/

section
variable {e : Env} {a : Fin 3} {sl : Slice}

/-- The motion of an axis, which its drive's modes leave. -/
def Slice.motion (a : Fin 3) (sl : Slice) : Motion := sl.axes[a].m

@[simp] theorem Slice.ite_motion (c : Prop) [Decidable c] (x y : Slice) : (if c then x else y).motion a = if c then x.motion a else y.motion a := apply_ite (Slice.motion a) c x y

@[simp] theorem Slice.modD_keepsMotion (b : Fin 3) (f : Drive → Drive) (sl : Slice) : (sl.modD b f).motion a = sl.motion a := sl.modD_motion a f

@[simp] theorem Slice.setMode_keepsMotion (b : Fin 3) (md : DriveMode) (sl : Slice) : (sl.setMode e b md).motion a = sl.motion a := Slice.modD_keepsMotion b _ sl

@[simp] theorem Slice.followGenerator_keepsMotion (b : Fin 3) (sl : Slice) : (sl.followGenerator e b).motion a = sl.motion a := by simp [Slice.followGenerator]

theorem Slice.followGenerator_motion (b : Fin 3) (sl : Slice) : (sl.followGenerator e b).axes[a].m = sl.axes[a].m := Slice.followGenerator_keepsMotion b sl

@[simp] theorem Slice.followGenerator_portal (b : Fin 3) (sl : Slice) : (sl.followGenerator e b).portal = sl.portal := by
  unfold Slice.followGenerator
  dsimp only
  repeat' split
  all_goals simp

theorem Slice.axisFault_motion (cause : Nat) : (sl.axisFault e a cause).axes[a].m = { sl.axes[a].m with faultCause := cause } := by
  rw [← Slice.modM_motion (sl := sl) fun m => { m with faultCause := cause }]
  unfold Slice.axisFault
  dsimp only
  split <;> rfl

/-- A homing code is no cause for the sequencer. -/
theorem Slice.axisFault_portal {cause : Nat} (h : cause ≤ 4) : (sl.axisFault e a cause).portal = sl.portal := by
  unfold Slice.axisFault
  dsimp only
  rw [if_pos h]
  rfl

theorem Slice.homeFail_motion (code : Nat) : (sl.homeFail e a code).axes[a].m = { sl.axes[a].m.homeFails code with faultCause := code } := by
  unfold Slice.homeFail
  rw [Slice.followGenerator_motion, Slice.axisFault_motion, Slice.modM_motion]
  rfl

theorem Slice.homeFail_portal {code : Nat} (h : code ≤ 4) : (sl.homeFail e a code).portal = sl.portal := by
  unfold Slice.homeFail
  rw [Slice.followGenerator_portal, Slice.axisFault_portal h]
  rfl

/-- The motion of an axis whose homing run has succeeded. -/
def Motion.homes (m : Motion) : Motion := { m.halt with homed := true, homeCode := 0 }

theorem Slice.setPowerPos_scene (b : Fin 3) (sl : Slice) : (sl.setPowerPos b).scene a = sl.scene a := rfl

theorem Slice.homeDone_scene : (sl.homeDone e a).scene a = (sl.std, sl.can, sl.sw.ch, sl.axes[a].m.homes.course) := by
  unfold Slice.homeDone
  simp only [Slice.followGenerator_scene, Slice.gearFollow_scene, Slice.gearUpdate_scene, Slice.ite_scene, Slice.modInp_scene, ite_self, Slice.setPowerPos_scene]
  exact Slice.modM_own Motion.homes

/-- After the stall an active edge takes the position of the stall (R130). -/
theorem Slice.homeLatchNow_scene {h : HomeRun} (hstall : h.stallAt.isSome = true) : (sl.homeLatchNow e a h).scene a = (sl.std, sl.can, sl.sw.ch, ({ sl.axes[a].m with homeLatch := sl.axes[a].m.homeStall } : Motion).homes.course) := by
  unfold Slice.homeLatchNow
  rw [if_pos hstall, Slice.homeDone_scene, Slice.modM_motion]
  rfl

/-- A latch is discarded within the limit, or homing fails with code 4 (R130). -/
theorem Slice.homeRelatch_spec (h : HomeRun) :
    let x := sl.homeRelatch e a h
    let n := sl.axes[a].m.relatches + 1
    x.axes[a].m.relatches = n ∧ (n ≤ cfgAxHomeRelatchLimit e.p e.i a → x.axes[a].m.home = some { h with latch := none, chatterAt := none } ∧ x.portal = sl.portal) ∧
      (cfgAxHomeRelatchLimit e.p e.i a < n → x.axes[a].m.home = none ∧ x.axes[a].m.homeCode = 4 ∧ x.axes[a].m.homed = false ∧ x.axes[a].m.v = 0) := by
  intro x n
  by_cases hlimit : cfgAxHomeRelatchLimit e.p e.i a < n
  · have hx : x = (sl.modM a fun m => { m with relatches := n, home := some { h with latch := none, chatterAt := none } }).homeFail e a 4 := if_pos hlimit
    rw [hx, Slice.homeFail_motion, Slice.modM_motion]
    exact ⟨rfl, fun hwithin => absurd hlimit (not_lt.mpr hwithin), fun _ => ⟨rfl, rfl, rfl, rfl⟩⟩
  · have hx : x = sl.modM a fun m => { m with relatches := n, home := some { h with latch := none, chatterAt := none } } := if_neg hlimit
    rw [hx, Slice.modM_motion]
    exact ⟨rfl, fun _ => ⟨rfl, rfl⟩, fun hover => absurd hover hlimit⟩

/-! ### The confirmation input (R130) -/

theorem Slice.homeConfirmEdge_latches {h : HomeRun} (hhome : sl.axes[a].m.home = some h) (hinput : cfgAxHomeConfirmInput e.p e.i a ≠ 0xFF) (hchatter : h.chatterAt = none) (hlatch : h.latch = none) :
    sl.homeConfirmEdge e a true = sl.homeLatchNow e a h := by
  unfold Slice.homeConfirmEdge
  rw [hhome]
  simp [hinput, hchatter, hlatch]

theorem Slice.homeConfirmEdge_discards {h : HomeRun} {l : Int} (hhome : sl.axes[a].m.home = some h) (hinput : cfgAxHomeConfirmInput e.p e.i a ≠ 0xFF) (hchatter : h.chatterAt = none) (hlatch : h.latch = some l)
    (hstall : h.stallAt = none) : sl.homeConfirmEdge e a false = sl.homeRelatch e a h := by
  unfold Slice.homeConfirmEdge
  rw [hhome]
  simp [hinput, hchatter, hlatch, hstall]

/-- The level of the confirmation input, where the axis names an input (R176). -/
theorem Slice.homeChatterEnd_eq {h : HomeRun} {t n : Nat} (hn : n < 16) (hhome : sl.axes[a].m.home = some h) (hchatter : h.chatterAt = some t) (hover : t + ms (cfgAxHomeChatterMs e.p e.i a) ≤ e.now)
    (hinput : cfgAxHomeConfirmInput e.p e.i a = n) :
    sl.homeChatterEnd e a = if (sl.inp.dig[n].level != (cfgInpInFlags e.p e.i n).testBit 3) then sl.modM a fun m => { m with home := some { h with chatterAt := none } } else sl.homeRelatch e a h := by
  subst hinput
  unfold Slice.homeChatterEnd
  rw [hhome]
  dsimp only
  rw [hchatter]
  dsimp only
  rw [if_neg (not_lt.mpr hover), dif_pos hn]

theorem Slice.homeWaitEnd_fails {h : HomeRun} {t : Nat} (hhome : sl.axes[a].m.home = some h) (hstall : h.stallAt = some t) (hover : t + ms 20 ≤ e.now) : sl.homeWaitEnd e a = sl.homeFail e a 3 := by
  unfold Slice.homeWaitEnd
  rw [hhome]
  dsimp only
  rw [hstall]
  exact if_neg (not_lt.mpr hover)

end

/-- Settles O19: the commands of the confirmation input by how the homing run goes on or ends, the timers at the instant they name. -/
theorem homingConfirmsLatchesAndFails : Obligations.HomingConfirmsLatchesAndFails := by
  unfold Obligations.HomingConfirmsLatchesAndFails
  refine ⟨fun i a h s hruns hhome hinput hchatter hlatch hstall => ?latch, fun i a h t0 s hruns hhome hinput hchatter hlatch hstall => ?done,
    fun i a h l s hruns hhome hinput hchatter hlatch hstall => ?discard, fun i a h t0 n hn s hruns hhome hchatter hinput => ?chatter, fun i a h t0 s hruns hhome hstall => ?wait⟩
  case latch =>
    have hedge : s.slices[i].homeConfirmEdge (s.env i) a true = s.slices[i].modM a fun m => { m with homeLatch := m.pos, home := some { h with latch := some m.pos, chatterAt := some s.now } } :=
      (Slice.homeConfirmEdge_latches hhome hinput hchatter hlatch).trans (if_neg (by simp [hstall]))
    refine (State.complete_onSlice hruns _).trans ?_
    rw [hedge]
    rfl
  case done =>
    have hedge := (congrArg (Slice.scene a) (Slice.homeConfirmEdge_latches (e := s.env i) hhome hinput hchatter hlatch)).trans (Slice.homeLatchNow_scene (by simp [hstall]))
    obtain ⟨hst, ht, hcan, -, hcourse⟩ := Slice.of_scene hedge
    exact ⟨_, State.complete_onSlice hruns _, Motion.like hcourse Motion.homed, Motion.like hcourse Motion.homeCode, Motion.like hcourse Motion.home, Motion.like hcourse Motion.homeLatch,
      Motion.like hcourse Motion.pos, hst, ht, hcan⟩
  case discard =>
    refine ⟨_, (State.complete_onSlice hruns _).trans (by rw [Slice.homeConfirmEdge_discards hhome hinput hchatter hlatch hstall]), ?_⟩
    exact Slice.homeRelatch_spec h
  case chatter =>
    have hdue : s.slices[i].chatterDue (s.env i) a = some (t0 + ms (cfgAxHomeChatterMs s.params i a)) := by
      unfold Slice.chatterDue
      rw [hhome, Option.bind_some, hchatter]
      rfl
    have hedge := Slice.homeChatterEnd_eq (e := (s.advance (t0 + ms (cfgAxHomeChatterMs s.params i a))).env i) hn hhome hchatter (State.advance_reaches ..) hinput
    refine ⟨_, State.complete_onSliceAt hruns hdue _, fun hactive => hedge.trans (if_pos hactive), fun hidle => ?_⟩
    rw [hedge, if_neg (Bool.not_eq_true _ ▸ hidle)]
    obtain ⟨hcount, hkeeps, -⟩ := Slice.homeRelatch_spec (e := (s.advance (t0 + ms (cfgAxHomeChatterMs s.params i a))).env i) (a := a) (sl := s.slices[i]) h
    exact ⟨hcount, fun hwithin => (hkeeps hwithin).1⟩
  case wait =>
    have hdue : s.slices[i].homeWaitDue a = some (t0 + 20000000) := by
      unfold Slice.homeWaitDue
      rw [hhome, Option.bind_some, hstall]
      rfl
    have hedge := Slice.homeWaitEnd_fails (e := (s.advance (t0 + 20000000)).env i) hhome hstall (State.advance_reaches ..)
    refine ⟨_, (State.complete_onSliceAt hruns hdue _).trans (by rw [hedge]), ?_⟩
    obtain ⟨-, -, hcan, -, -⟩ := Slice.of_scene ((Slice.homeFail_scene (e := (s.advance (t0 + 20000000)).env i) 3).trans (Slice.modM_own (a := a) (sl := s.slices[i]) _))
    rw [Slice.homeFail_motion, Slice.homeFail_portal (by decide)]
    exact ⟨rfl, rfl, rfl, rfl, rfl, rfl, rfl, hcan⟩

end Sys2Proof.Machine
end

section
/-! PROOFS. The interrupted move of an auxiliary axis and the end of a teach cycle: O21. -/

namespace Sys2Proof.Machine

/-! ### A move that is offered (R110, R164, R237) -/

/-- What an offered move leaves of the slice and of its axis. -/
def Slice.still (a : Fin 3) (sl : Slice) := (sl.inp, sl.sw, sl.can, sl.axes[a].m.pos, sl.axes[a].m.interrupted)

section
variable {e : Env} {a : Fin 3} {mv : Move} {sl : Slice}

@[simp] theorem Slice.ite_still (c : Prop) [Decidable c] (x y : Slice) : (if c then x else y).still a = if c then x.still a else y.still a := apply_ite (Slice.still a) c x y

theorem Slice.modM_still (b : Fin 3) (f : Motion → Motion) (sl : Slice) (hf : ∀ m, (f m).pos = m.pos ∧ (f m).interrupted = m.interrupted) : (sl.modM b f).still a = sl.still a := by
  by_cases h : b = a
  · subst h
    obtain ⟨hpos, hinterrupted⟩ := hf sl.axes[b].m
    rw [Slice.still, Slice.modM_motion, hpos, hinterrupted]
    rfl
  · have hother : (sl.modM b f).axes[a].m = sl.axes[a].m := by simp [Slice.modM, Slice.modAxis, Fin.val_ne_of_ne h]
    rw [Slice.still, hother]
    rfl

@[simp] theorem Slice.modD_still (b : Fin 3) (f : Drive → Drive) (sl : Slice) : (sl.modD b f).still a = sl.still a := by
  rw [Slice.still, Slice.modD_motion]
  rfl

@[simp] theorem Slice.setMode_still (b : Fin 3) (md : DriveMode) (sl : Slice) : (sl.setMode e b md).still a = sl.still a := Slice.modD_still b _ sl

@[simp] theorem Slice.wantMode_still (b : Fin 3) (md : DriveMode) (sl : Slice) : (sl.wantMode e b md).still a = sl.still a := by simp [Slice.wantMode]

@[simp] theorem Slice.axisFault_still (b : Fin 3) (cause : Nat) (sl : Slice) : (sl.axisFault e b cause).still a = sl.still a := by
  rw [← Slice.modM_still b (fun m => { m with faultCause := cause }) sl fun _ => ⟨rfl, rfl⟩]
  unfold Slice.axisFault
  dsimp only
  split <;> rfl

@[simp] theorem Slice.askGrant_still (b : Fin 3) (sl : Slice) : (sl.askGrant e b).still a = sl.still a := by
  unfold Slice.askGrant
  split
  · exact Slice.modM_still b _ sl fun _ => ⟨rfl, rfl⟩
  · rfl

theorem Slice.wantMode_motion (b : Fin 3) (md : DriveMode) : (sl.wantMode e b md).axes[a].m = sl.axes[a].m :=
  show (sl.wantMode e b md).motion a = sl.motion a by simp [Slice.wantMode]

theorem Slice.withFollowers_still (b : Fin 3) (f : Fin 3 → Slice → Slice) (hf : ∀ c sl, (f c sl).still a = sl.still a) (sl : Slice) : (sl.withFollowers e b f).still a = sl.still a :=
  forAxes_keeps (Slice.still a) _ (fun c sl => by rw [Slice.ite_still, hf, ite_self]) sl

theorem Motion.append_still (m : Motion) : (m.append e a mv).pos = m.pos ∧ (m.append e a mv).interrupted = m.interrupted := by
  unfold Motion.append
  dsimp only
  repeat' split
  all_goals exact ⟨rfl, rfl⟩

theorem Slice.offerMove_still (hrep : mv.replace = false) : (sl.offerMove e a mv).still a = sl.still a := by
  have hmode : (if sl.axes[a].d.mode.driven then sl else sl.wantMode e a .hold).still a = sl.still a := by simp
  unfold Slice.offerMove
  dsimp only
  rw [hrep, if_neg Bool.false_ne_true]
  split
  · rfl
  · split
    · exact (Slice.axisFault_still a 8 _).trans (Slice.modM_still a _ sl fun _ => ⟨rfl, rfl⟩)
    · have hqueued := (Slice.modM_still a (fun m => m.append e a mv) _ Motion.append_still).trans hmode
      split
      · exact (Slice.withFollowers_still a _ (fun c sl => Slice.modM_still c _ sl fun _ => by exact ⟨rfl, rfl⟩) _).trans ((Slice.modM_still a _ _ fun _ => by exact ⟨rfl, rfl⟩).trans hqueued)
      · exact hqueued

theorem Motion.append_starts {m : Motion} (hv : m.v = 0) (hqueue : m.queue = []) (hahead : mv.target ≠ m.pos) : (m.append e a mv).queue = [mv] := by
  unfold Motion.append
  rw [if_pos ⟨hv, hqueue⟩]
  exact dropDone_ahead hahead []

/-- A move that an axis at standstill with an empty queue takes, once its drive holds (R110). -/
theorem Slice.offerMove_taken (hrep : mv.replace = false) (hnow : sl.axes[a].m.replacedAt ≠ some e.now) (htaken : e.refuses a mv sl.axes[a].m = false) (hqueue : sl.axes[a].m.queue = [])
    (hv : sl.axes[a].m.v = 0) : ∃ full : Bool, sl.offerMove e a mv =
      (((if sl.axes[a].d.mode.driven then sl else sl.wantMode e a .hold).modM a fun m => m.append e a mv).modM a fun m => { m with profile := mv.set, carry := 0, startPos := m.pos }).withFollowers e a
        fun b sl => sl.modM b fun m => { m with learnable := full } := by
  unfold Slice.offerMove
  dsimp only
  rw [hrep, if_neg (by rw [decide_eq_false hnow]; decide), htaken, if_neg Bool.false_ne_true, if_neg Bool.false_ne_true, if_pos (by rw [hqueue, hv]; rfl)]
  exact ⟨_, rfl⟩

/-- It stands in the queue, and the portal is not told. -/
theorem Slice.offerMove_starts (hrep : mv.replace = false) (hnow : sl.axes[a].m.replacedAt ≠ some e.now) (htaken : e.refuses a mv sl.axes[a].m = false) (hqueue : sl.axes[a].m.queue = [])
    (hv : sl.axes[a].m.v = 0) (hahead : mv.target ≠ sl.axes[a].m.pos) : (sl.offerMove e a mv).axes[a].m.queue = [mv] ∧ (sl.offerMove e a mv).portal = sl.portal := by
  obtain ⟨full, hoffer⟩ := Slice.offerMove_taken hrep hnow htaken hqueue hv
  have hmotion : (if sl.axes[a].d.mode.driven then sl else sl.wantMode e a .hold).axes[a].m = sl.axes[a].m := by
    split
    · rfl
    · exact Slice.wantMode_motion a .hold
  constructor
  · have hscene := (congrArg (Slice.scene a) hoffer).trans (Slice.withFollowers_scene a _ (fun c sl => Slice.modM_scene c _ sl fun _ => by rfl) _)
    rw [Slice.modM_modM, Slice.modM_own, hmotion] at hscene
    obtain ⟨-, -, -, -, hcourse⟩ := Slice.of_scene hscene
    exact (Motion.like hcourse Motion.queue).trans (Motion.append_starts hv hqueue hahead)
  · rw [hoffer]
    refine (Slice.portal_withFollowers _ _ _ (fun c sl => Slice.portal_modM c _ sl) _).trans ?_
    dsimp only [Slice.portal_modM]
    split
    · rfl
    · simp

end

/-! ### The interrupted move (R164) -/

section
variable {e : Env} {a : Fin 3} {mv : Move} {t : Nat} {sl : Slice}

/-- The axis without its interrupted move. -/
def Slice.resumed (a : Fin 3) (sl : Slice) : Slice := sl.modM a fun m => { m with interrupted := none }

theorem Slice.reissueAux_eq (hinterrupted : sl.axes[a].m.interrupted = some (mv, t)) (hv : sl.axes[a].m.v = 0) (hover : t + ms (cfgPrtReclosePauseMs e.p e.i) ≤ e.now) :
    sl.reissueAux e a = if e.enrolled (6 + a.val) && !sl.sw.unarbitrated then (sl.resumed a).decideMove e a mv else (sl.resumed a).offerMove e a mv := by
  unfold Slice.reissueAux
  rw [hinterrupted]
  exact if_pos ⟨hv, hover⟩

theorem Slice.resumed_motion : (sl.resumed a).axes[a].m = { sl.axes[a].m with interrupted := none } := Slice.modM_motion _

theorem Slice.resumed_still : (sl.resumed a).still a = (sl.inp, sl.sw, sl.can, sl.axes[a].m.pos, none) := by
  rw [Slice.still, Slice.resumed_motion]
  rfl

theorem Slice.decideMove_still (mv : Move) (sl : Slice) : (sl.decideMove e a mv).still a = sl.still a := by
  rw [Slice.decideMove, Slice.askGrant_still]
  exact Slice.modM_still a _ sl fun _ => ⟨rfl, rfl⟩

/-- Either way the move is no longer interrupted, and the inputs, switches, car bus and position stand. -/
theorem Slice.reissueAux_still (hrep : mv.replace = false) (hinterrupted : sl.axes[a].m.interrupted = some (mv, t)) (hv : sl.axes[a].m.v = 0) (hover : t + ms (cfgPrtReclosePauseMs e.p e.i) ≤ e.now) :
    (sl.reissueAux e a).still a = (sl.inp, sl.sw, sl.can, sl.axes[a].m.pos, none) := by
  rw [Slice.reissueAux_eq hinterrupted hv hover, Slice.ite_still, Slice.decideMove_still, Slice.offerMove_still hrep, ite_self, Slice.resumed_still]

/-- A decided move of an enrolled axis at standstill waits for its grant (R237). -/
theorem Slice.decideMove_waits (henrolled : (e.enrolled (6 + a.val) && !sl.sw.unarbitrated) = true) (hv : sl.axes[a].m.v = 0) : (sl.decideMove e a mv).axes[a].m.needsGrant = true := by
  unfold Slice.decideMove Slice.askGrant
  rw [if_pos (by rw [Slice.modM_motion]; simp_all), Slice.modM_motion]

end

/-! ### The end of a teach cycle (R152, R154, R158) -/

/-- A drive without its envelopes and samples. -/
def Drive.untaught (d : Drive) : Drive := { d with env := Vector.replicate 128 EnvBin.reset, peaks := Vector.replicate 64 ⟨0, 0⟩ }

/-- What two drives share that differ in their envelopes and samples alone. -/
theorem Drive.like {α : Type} {d d' : Drive} (h : d.untaught = d'.untaught) (g : Drive → α) : g d.untaught = g d'.untaught := congrArg g h

/-- A slice without the envelopes that its axes learn, and without its intake queue. -/
def Slice.unlearned (sl : Slice) : Slice :=
  { sl with iq := Slice.reset.iq, axes := sl.axes.map fun x => { x with d := x.d.untaught } }

section
variable {e : Env} {a : Fin 3} {t : Teach} {r : TeachRun} {sl : Slice}

@[simp] theorem Slice.ite_unlearned (c : Prop) [Decidable c] (x y : Slice) : (if c then x else y).unlearned = if c then x.unlearned else y.unlearned := apply_ite Slice.unlearned c x y

@[simp] theorem Slice.raise_unlearned (k code hi : Nat) (sl : Slice) : (sl.raise e k code hi).unlearned = sl.unlearned := rfl

@[simp] theorem Slice.sendTeach_unlearned (sl : Slice) : (sl.sendTeach e a).unlearned = sl.unlearned := rfl

theorem Slice.unlearned_axis (b : Fin 3) (sl : Slice) : sl.unlearned.axes[b] = { m := sl.axes[b].m, d := sl.axes[b].d.untaught } := by simp [Slice.unlearned]

/-- Envelopes and samples that an axis takes. -/
theorem Slice.modD_unlearned (f : Drive → Drive) (sl : Slice) (hf : ∀ d, (f d).untaught = d.untaught) : (sl.modD a f).unlearned = sl.unlearned := by
  unfold Slice.unlearned
  congr 1
  refine Vector.ext fun j hj => ?_
  by_cases h : a.val = j
  · subst h
    simp [Slice.modD, Slice.modAxis, hf]
  · simp [Slice.modD, Slice.modAxis, h]

@[simp] theorem Slice.learnBin_unlearned (opening : Bool) (k : Fin 64) (sl : Slice) : (sl.learnBin e a opening k).unlearned = sl.unlearned := by
  unfold Slice.learnBin
  dsimp only
  split
  · rw [Slice.ite_unlearned, Slice.raise_unlearned, ite_self]
    exact Slice.modD_unlearned _ sl fun _ => rfl
  · rfl

@[simp] theorem Slice.learnPeaks_unlearned (opening : Bool) (sl : Slice) : (sl.learnPeaks e a opening).unlearned = sl.unlearned :=
  foldl_keeps Slice.unlearned _ (fun _ _ => by simp) _ sl

/-- The samples of a cycle's moves, learned one after the other. -/
theorem Slice.learnTaught_unlearned (l : List (Bool × Vector PeakBin 64)) (sl : Slice) :
    (l.foldl (fun sl x => (sl.modD a fun d => { d with peaks := x.2 }).learnPeaks e a x.1) sl).unlearned = sl.unlearned := by
  refine foldl_keeps Slice.unlearned _ (fun sl x => ?_) l sl
  rw [Slice.learnPeaks_unlearned]
  exact Slice.modD_unlearned _ sl fun _ => rfl

/-- A slice whose axis's drive alone has changed, but for what its axes have learned. -/
theorem Slice.of_unlearned {x : Slice} {f : Drive → Drive} (h : x.unlearned = (sl.modD a f).unlearned) :
    x.portal = sl.portal ∧ x.inp = sl.inp ∧ x.sw = sl.sw ∧ x.can = sl.can ∧ x.axes[a].m = sl.axes[a].m ∧ x.axes[a].d.untaught = (f sl.axes[a].d).untaught ∧
      ∀ b : Fin 3, b ≠ a → x.axes[b].d.untaught = sl.axes[b].d.untaught := by
  have haxis (b : Fin 3) : x.axes[b].m = (sl.modD a f).axes[b].m ∧ x.axes[b].d.untaught = (sl.modD a f).axes[b].d.untaught := by
    have hb : x.unlearned.axes[b] = (sl.modD a f).unlearned.axes[b] := by rw [h]
    rw [Slice.unlearned_axis, Slice.unlearned_axis] at hb
    exact Axis.mk.inj hb
  refine ⟨(congrArg Slice.portal h :), (congrArg Slice.inp h :), (congrArg Slice.sw h :), (congrArg Slice.can h :), (haxis a).1.trans (sl.modD_motion a f), (haxis a).2.trans ?_, fun b hb => (haxis b).2.trans ?_⟩
  · simp
  · simp [Fin.val_ne_of_ne (Ne.symm hb)]

/-- A cycle's end on one axis: its code, and on a pass what it has measured. -/
def Drive.judged (c : Nat) (d : Drive) : Drive := { d with teachRunning := false, teachResult := c, taught := [] }
def Drive.takes (t : Teach) (d : Drive) : Drive := { d with teach := t, rUseA := t.rA, rUseB := t.rB, teachValid := true }

/-- The cycle is over once it runs on no axis. -/
def Slice.teachCloses (sl : Slice) : Slice := if [0, 1, 2].any fun b => sl.axes[(b : Fin 3)].d.teachRunning then sl else { sl with teach := none }

theorem Slice.teachCloses_keeps {α : Type} (g : Slice → α) (sl : Slice) (hg : ∀ sl : Slice, g { sl with teach := none } = g sl) : g sl.teachCloses = g sl := by
  unfold Slice.teachCloses
  split
  · rfl
  · exact hg sl

theorem Slice.teachCloses_over (h : ∀ b : Fin 3, sl.axes[b].d.teachRunning = false) : sl.teachCloses.teach = none := by
  unfold Slice.teachCloses
  rw [if_neg (by simp only [List.any_cons, List.any_nil, h]; decide)]

theorem Slice.teachEnd_eq (hcycle : sl.teach = some r) (hstep : r.step = 6) (hruns : sl.axes[a].d.teachRunning = true) :
    let c := teachCode e a t (!r.unhomed[a]) r.interrupted r.faulted[a]
    ∃ x : Slice, sl.teachEnd e a t = x.teachCloses ∧ (c ≠ 0 → x = sl.modD a (Drive.judged c)) ∧ (c = 0 → x.unlearned = (sl.modD a fun d => (d.judged c).takes t).unlearned) := by
  intro c
  unfold Slice.teachEnd
  rw [hcycle]
  dsimp only
  rw [if_pos ⟨hstep, hruns⟩]
  refine ⟨_, rfl, fun hfailed => if_pos hfailed, fun hpassed => ?_⟩
  rw [if_neg (not_not.mpr hpassed), Slice.sendTeach_unlearned, Slice.learnTaught_unlearned, Slice.modD_modD]
  rfl

/-- Nothing ends on an axis that the cycle does not run on, nor before the cycle has run its steps. -/
theorem Slice.teachEnd_idle (h : sl.axes[a].d.teachRunning = false ∨ sl.teach = none ∨ ∃ r, sl.teach = some r ∧ r.step ≠ 6) : sl.teachEnd e a t = sl := by
  unfold Slice.teachEnd
  split
  next r hcycle =>
    refine if_neg ?_
    rintro ⟨hstep, hruns⟩
    rcases h with hfree | hnone | ⟨r', hr', hbefore⟩
    · exact Bool.false_ne_true (hfree.symm.trans hruns)
    · exact Option.some_ne_none _ (hcycle.symm.trans hnone)
    · exact hbefore (Option.some.inj (hcycle.symm.trans hr') ▸ hstep)
  next => rfl

end

/-- A slice function that leaves a slice as it is. -/
theorem State.complete_onSlice_idle {i : Fin 16} {s : State} {f : Env → Slice → Slice} (h : ∀ e, f e s.slices[i] = s.slices[i]) : State.complete (s.onSlice i f) = .next s.draw := by
  refine congrArg State.complete ?_
  unfold State.onSlice
  split
  · have hself : s.slices.set i s.slices[i] = s.slices := by simp
    rw [State.modSlice, h, hself]
  · rfl

/-- Settles O21: the interrupted move as a decided or an offered one, the end of a teach cycle by its code. -/
theorem auxiliaryReissueAndTeachEnd : Obligations.AuxiliaryReissueAndTeachEnd := by
  unfold Obligations.AuxiliaryReissueAndTeachEnd
  refine ⟨fun i a mv t0 s hruns hinterrupted hv hrep => ?reissue, fun i a t r s hruns hruns' hcycle hstep => ?teach, fun i a t s h => State.complete_onSlice_idle fun e => Slice.teachEnd_idle (h.imp_right Or.inl),
    fun i a t r s hcycle hstep => State.complete_onSlice_idle fun e => Slice.teachEnd_idle (Or.inr (Or.inr ⟨r, hcycle, hstep⟩))⟩
  case reissue =>
    intro due
    have hdue : s.slices[i].reissueDue (s.env i) a = some due := by
      unfold Slice.reissueDue
      rw [hinterrupted]
      rfl
    let e := (s.advance due).env i
    have hover : t0 + ms (cfgPrtReclosePauseMs e.p e.i) ≤ e.now := State.advance_reaches due i s
    have hstill := Slice.reissueAux_still hrep hinterrupted hv hover
    have heq := Slice.reissueAux_eq hinterrupted hv hover
    simp only [Slice.still, Prod.mk.injEq] at hstill
    obtain ⟨hinp, hsw, hcan, hpos, hnone⟩ := hstill
    refine ⟨_, State.complete_onSliceAt hruns hdue _, hnone, hpos, hinp, hsw, hcan, fun henrolled => ?_, fun hfree htaken hnow hqueue hahead => ?_⟩
    · rw [heq.trans (if_pos henrolled)]
      obtain ⟨hpending, -, hqueue⟩ := Slice.decideMove_motion (e := e) (a := a) (sl := s.slices[i].resumed a) mv
      rw [hpending, hqueue, Slice.resumed_motion]
      exact ⟨rfl, Slice.decideMove_waits henrolled (by rw [Slice.resumed_motion]; exact hv), rfl⟩
    · have hnot : ¬(e.enrolled (6 + a.val) && !s.slices[i].sw.unarbitrated) = true := fun h => Bool.false_ne_true (hfree.symm.trans h)
      rw [heq.trans (if_neg hnot)]
      exact Slice.offerMove_starts hrep (by rw [Slice.resumed_motion]; exact hnow) (by rw [Slice.resumed_motion]; exact htaken) (by rw [Slice.resumed_motion]; exact hqueue)
        (by rw [Slice.resumed_motion]; exact hv) (by rw [Slice.resumed_motion]; exact hahead)
  case teach =>
    intro c
    obtain ⟨x, hend, hfailed, hpassed⟩ := Slice.teachEnd_eq (e := s.env i) (t := t) hcycle hstep hruns'
    have hexec : exec (.teachCycleEnd i a (t.rA, t.rB) (t.lA, t.lB) t.c t.ke t.noise) s = .next (s.modSlice i fun _ => x.teachCloses).draw := (State.complete_onSlice hruns _).trans (by rw [← hend])
    obtain ⟨f, hx, hrunning, hresult⟩ : ∃ f : Drive → Drive, x.unlearned = (s.slices[i].modD a f).unlearned ∧ (∀ d, (f d).teachRunning = false) ∧ ∀ d, (f d).teachResult = c := by
      by_cases hc : c = 0
      · exact ⟨_, hpassed hc, fun _ => rfl, fun _ => rfl⟩
      · exact ⟨_, congrArg Slice.unlearned (hfailed hc), fun _ => rfl, fun _ => rfl⟩
    obtain ⟨hportal, hinp, hsw, hcan, hmotion, hdrive, hothers⟩ := Slice.of_unlearned hx
    have haxes : x.teachCloses.axes = x.axes := x.teachCloses_keeps Slice.axes fun _ => rfl
    refine ⟨_, hexec, ?_, ?_, ?_, ?_, ?_, ?_, ?_, fun hc => ?_, fun hc => ?_, fun hrest => Slice.teachCloses_over fun b => ?_⟩
    · rw [haxes]
      exact (Drive.like hdrive Drive.teachRunning).trans (hrunning _)
    · rw [haxes]
      exact (Drive.like hdrive Drive.teachResult).trans (hresult _)
    · exact (x.teachCloses_keeps Slice.portal fun _ => rfl).trans hportal
    · rw [haxes]
      exact hmotion
    · exact (x.teachCloses_keeps Slice.inp fun _ => rfl).trans hinp
    · exact (x.teachCloses_keeps Slice.sw fun _ => rfl).trans hsw
    · exact (x.teachCloses_keeps Slice.can fun _ => rfl).trans hcan
    · obtain ⟨-, -, -, -, -, htaken, -⟩ := Slice.of_unlearned (hpassed hc)
      rw [haxes]
      exact ⟨Drive.like htaken Drive.teach, Drive.like htaken Drive.teachValid, Drive.like htaken Drive.rUseA, Drive.like htaken Drive.rUseB⟩
    · have hkept := hfailed hc
      obtain ⟨-, -, -, -, -, hjudged, -⟩ := Slice.of_unlearned (congrArg Slice.unlearned hkept)
      rw [haxes, x.teachCloses_keeps Slice.iq fun _ => rfl]
      exact ⟨Drive.like hjudged Drive.teach, Drive.like hjudged Drive.teachValid, (congrArg Slice.iq hkept :)⟩
    · by_cases hb : b = a
      · rw [hb]
        exact (Drive.like hdrive Drive.teachRunning).trans (hrunning _)
      · exact (Drive.like (hothers b hb) Drive.teachRunning).trans (hrest b hb)

end Sys2Proof.Machine
end

section
/-! PROOFS. The tether between engine and power island: O27. -/

namespace Sys2Proof.Machine

/-! ### Every channel and every axis in turn -/

/-- A slice with other channels. -/
def Slice.withCh (v : Vector Channel 6) (sl : Slice) : Slice := sl.modSw fun x => { x with ch := v }

theorem forChannels_each {sl : Slice} (g : Fin 6 → Channel → Channel) (f : Fin 6 → Slice → Slice) (h : ∀ k v, f k (sl.withCh v) = (sl.withCh v).modCh k (g k)) :
    forChannels f sl = sl.withCh (Vector.ofFn fun k => g k sl.sw.ch[k]) := by
  have hstep (k : Fin 6) (v : Vector Channel 6) : f k (sl.withCh v) = sl.withCh (v.set k (g k v[k])) := h k v
  have hstart : sl = sl.withCh sl.sw.ch := rfl
  have hend : forChannels f (sl.withCh sl.sw.ch) = sl.withCh (Vector.ofFn fun k => g k sl.sw.ch[k]) := by
    unfold forChannels
    rw [hstep, hstep, hstep, hstep, hstep, hstep]
    refine congrArg sl.withCh (Vector.ext fun k hk => ?_)
    interval_cases k <;> simp
  exact hend

/-- What becomes of one axis where each is changed apart from the others. -/
theorem forAxes_at {β : Type} (p : Fin 3 → Slice → β) (g : Fin 3 → β → β) (f : Fin 3 → Slice → Slice) (hown : ∀ a sl, p a (f a sl) = g a (p a sl)) (hother : ∀ a b sl, b ≠ a → p a (f b sl) = p a sl)
    (a : Fin 3) (sl : Slice) : p a (forAxes f sl) = g a (p a sl) := by
  unfold forAxes
  fin_cases a
  · exact (hother 0 2 _ (by decide)).trans ((hother 0 1 _ (by decide)).trans (hown 0 sl))
  · exact (hother 1 2 _ (by decide)).trans ((hown 1 _).trans (congrArg (g 1) (hother 1 0 sl (by decide))))
  · exact (hown 2 _).trans (congrArg (g 2) ((hother 2 1 _ (by decide)).trans (hother 2 0 sl (by decide))))

/-! ### A frame to the power island (R202, R214 to R217) -/

section
variable {e : Env} {sl : Slice}

/-- The microsteps of the period leave with the engine's frame (R214, R224). -/
theorem Slice.frameSent_eq : ∃ sent, sl.frameSent = { sl.modTether fun t => { t with steps := [], sentAlive := t.alive } with heldSent := sent } := by
  unfold Slice.frameSent
  dsimp only
  split <;> exact ⟨_, rfl⟩

/-- What a frame carries to the power island. -/
def Slice.frameOut (sl : Slice) : TetherOut :=
  ⟨Vector.ofFn fun k : Fin 6 => sl.sw.ch[k].commanded, Vector.ofFn fun k : Fin 6 => match sl.sw.ch[k].req with | .granted _ => true | _ => false, sl.sw.tether.alive, sl.sw.tether.strobe⟩

/-- The tether of a frame that refreshes it. -/
def Tether.refreshes (now seq : Nat) (out : TetherOut) (t : Tether) : Tether :=
  { t with seqToPower := seq % 16, toPower := out, lastAlive := t.alive, prevRefresh := t.lastRefresh, lastRefresh := now, st := .refreshed }

/-- A frame in order with a new alive count, neither late nor to an island that is lost or has failed safe, refreshes the tether and is taken. -/
theorem Slice.tetherToPower_refreshes {seq : Nat} (horder : seqInOrder sl.sw.tether.seqToPower seq = true) (hnew : sl.sw.tether.alive ≠ sl.sw.tether.lastAlive) (hsafe : sl.sw.tether.safe = false)
    (hheard : sl.sw.tether.st ≠ .lost) (htime : e.now < sl.sw.tether.lastRefresh + sl.sw.tether.stored.timeoutMs * 1050000 + 50000) :
    sl.tetherToPower e true seq = (sl.modTether (Tether.refreshes e.now seq sl.frameOut)).takeFrame e := by
  have hlate : sl.sw.tether.timedOut e.now (sl.sw.tether.lastRefresh + sl.sw.tether.stored.timeoutMs * 100000 + 50000) = false := by
    have hbefore : ¬sl.sw.tether.lastRefresh + sl.sw.tether.stored.timeoutMs * 100000 + 50000 + sl.sw.tether.stored.timeoutMs * 950000 ≤ e.now := by omega
    rw [Tether.timedOut, decide_eq_false hbefore, Bool.and_false]
  unfold Slice.tetherToPower
  dsimp only
  simp only [horder, hlate, hnew, decide_false, hsafe, Bool.and_self, Bool.false_and, Bool.false_eq_true, if_true, if_false, Slice.modTether_sw]
  refine congrArg (Slice.takeFrame e) ?_
  simp only [Slice.modTether, Slice.modSw, Tether.refreshes, hheard, if_false]
  rfl

/-! The commands of a frame at the gates -/

section
variable {k : Nat} {on supply unarb : Bool} {c : Channel}

theorem Env.turnOn_keeps : (e.turnOn k supply unarb c).cmd = c.cmd ∧ (e.turnOn k supply unarb c).trips = c.trips ∧ (e.turnOn k supply unarb c).failsafe = c.failsafe := by
  unfold Env.turnOn
  split
  · exact ⟨rfl, rfl, rfl⟩
  · split <;> exact ⟨rfl, rfl, rfl⟩

theorem Env.turnOn_unsupplied (h : supply = false) : (e.turnOn k supply unarb c).st = .off := by
  rw [Env.turnOn, h]
  rfl

theorem Env.turnOn_free (hsupply : supply = true) (h : e.enrolled k = false ∨ unarb = true) : (e.turnOn k supply unarb c).st = .on ∧ (e.turnOn k supply unarb c).onAt = e.now := by
  have hfree : (e.enrolled k && !unarb) = false := by rcases h with h | h <;> simp [h]
  rw [Env.turnOn, hsupply, hfree]
  exact ⟨rfl, rfl⟩

theorem Env.turnOn_enrolled (hsupply : supply = true) (henrolled : e.enrolled k = true) (harb : unarb = false) :
    (e.turnOn k supply unarb c).st = .waiting ∧ (e.turnOn k supply unarb c).req.isWaiting = true := by
  rw [Env.turnOn, hsupply, henrolled, harb]
  exact ⟨rfl, rfl⟩

/-- A channel that has taken a command, before its gate follows. -/
def Channel.commandedBy (now : Nat) (on : Bool) (c : Channel) : Channel := { c with cmd := on, failsafe := false, cmdOffAt := if c.cmd && !on then now else c.cmdOffAt }

theorem Env.applyCommand_tripped (h : c.st = .thermalOff ∨ c.st = .latchedOff) : e.applyCommand k on supply unarb c = { c.commandedBy e.now on with req := .idle } := by
  unfold Env.applyCommand
  dsimp only
  split
  · rfl
  · rfl
  · rename_i hoff
    rcases h with h | h <;> exact absurd (h.symm.trans hoff) (by decide)
  · rename_i hthermal hlatched _
    exact (h.elim hthermal hlatched).elim

theorem Env.applyCommand_off (h : c.st = .off) : e.applyCommand k on supply unarb c = if on then e.turnOn k supply unarb (c.commandedBy e.now on) else c.commandedBy e.now on := by
  unfold Env.applyCommand
  dsimp only
  split
  · exact absurd (h.symm.trans ‹_›) (by decide)
  · exact absurd (h.symm.trans ‹_›) (by decide)
  · rfl
  · rename_i hoff
    exact absurd h hoff

theorem Env.applyCommand_running (hoff : c.st ≠ .off) (hthermal : c.st ≠ .thermalOff) (hlatched : c.st ≠ .latchedOff) :
    e.applyCommand k on supply unarb c = if on then c.commandedBy e.now on else (c.commandedBy e.now on).off e.now := by
  unfold Env.applyCommand
  dsimp only
  split
  · exact absurd ‹_› hthermal
  · exact absurd ‹_› hlatched
  · exact absurd ‹_› hoff
  · rfl

theorem Env.applyCommand_keeps : (e.applyCommand k on supply unarb c).cmd = on ∧ (e.applyCommand k on supply unarb c).trips = c.trips ∧ (e.applyCommand k on supply unarb c).failsafe = false := by
  by_cases hoff : c.st = .off
  · rw [Env.applyCommand_off hoff]
    split
    · exact Env.turnOn_keeps
    · exact ⟨rfl, rfl, rfl⟩
  · by_cases htripped : c.st = .thermalOff ∨ c.st = .latchedOff
    · rw [Env.applyCommand_tripped htripped]
      exact ⟨rfl, rfl, rfl⟩
    · obtain ⟨hthermal, hlatched⟩ := not_or.mp htripped
      rw [Env.applyCommand_running hoff hthermal hlatched]
      split <;> exact ⟨rfl, rfl, rfl⟩

end

/-- What a channel makes of the frame's commands, in an island that is enabled. -/
def Env.frameChannel (e : Env) (x : Switches) (k : Fin 6) (c : Channel) : Channel := if x.enabled then e.applyCommand k.val c.commanded x.supply x.unarbitrated c else c

theorem Slice.frameChannels_disabled (h : sl.sw.enabled = false) : (Vector.ofFn fun k : Fin 6 => e.frameChannel sl.sw k sl.sw.ch[k]) = sl.sw.ch :=
  Vector.ext fun k hk => by simp [Env.frameChannel, h]

/-- A frame is taken by an island that holds its parameters and no fail-safe states. -/
theorem Slice.takeFrame_taken (hstored : sl.sw.tether.storedValid = true) (hsafe : sl.sw.tether.safe = false) :
    sl.takeFrame e = (sl.withCh (Vector.ofFn fun k => e.frameChannel sl.sw k sl.sw.ch[k])).modTether fun t =>
      { t with axes := Vector.ofFn fun a : Fin 3 => sl.frameAxis a, posSet := Vector.replicate 3 none, strobe := false } := by
  unfold Slice.takeFrame
  rw [hstored, hsafe, if_neg (by decide)]
  exact congrArg (fun y : Slice => y.modTether fun t => { t with axes := Vector.ofFn fun a : Fin 3 => y.frameAxis a, posSet := Vector.replicate 3 none, strobe := false })
    (forChannels_each (e.frameChannel sl.sw) _ fun _ _ => rfl)

theorem Slice.takeFrame_unstored (hstored : sl.sw.tether.storedValid = false) : sl.takeFrame e = sl := by
  unfold Slice.takeFrame
  rw [hstored]
  rfl

theorem Slice.frameAxis_spec (a : Fin 3) :
    (sl.frameAxis a).current = sl.axes[a].d.current ∧ (sl.frameAxis a).angle = sl.axes[a].d.est.thetaA ∧
      (sl.frameAxis a).pos = match sl.sw.tether.posSet[a] with | some p => p | none => sl.sw.tether.axes[a].pos + sl.sw.tether.steps.foldl (fun (n : Int) y => if y.axis = a then n + y.by_ else n) 0 := by
  unfold Slice.frameAxis
  dsimp only
  cases sl.sw.tether.posSet[a] <;> exact ⟨rfl, rfl, rfl⟩

/-- A channel of an enabled island after a frame: trips and latches stand, a commanded channel that is off comes on as its supply and its grant allow (R202, R205, R208, R236). -/
theorem Env.applyCommand_spec {k : Nat} {supply unarb : Bool} {c x : Channel} (hx : x = e.applyCommand k c.commanded supply unarb c) :
    x.cmd = c.commanded ∧ x.trips = c.trips ∧ x.failsafe = false ∧
      (c.st = .thermalOff ∨ c.st = .latchedOff → x.st = c.st) ∧
      (c.commanded = false → c.st ≠ .thermalOff → c.st ≠ .latchedOff → x.st = .off ∧ (c.st ≠ .off → x.req = .idle)) ∧
      (c.commanded = true → c.st = .on ∨ c.st = .waiting → x.st = c.st ∧ x.req = c.req) ∧
      (c.commanded = true → c.st = .off → supply = false → x.st = .off) ∧
      (c.commanded = true → c.st = .off → supply = true → e.enrolled k = false ∨ unarb = true → x.st = .on ∧ x.onAt = e.now) ∧
      (c.commanded = true → c.st = .off → supply = true → e.enrolled k = true → unarb = false → x.st = .waiting ∧ x.req.isWaiting = true) := by
  subst hx
  obtain ⟨hcmd, htrips, hsafe⟩ := Env.applyCommand_keeps (e := e) (k := k) (on := c.commanded) (supply := supply) (unarb := unarb) (c := c)
  refine ⟨hcmd, htrips, hsafe, fun htripped => ?_, fun hon hthermal hlatched => ?_, fun hon hst => ?_, fun hon hoff hsupply => ?_, fun hon hoff hsupply hfree => ?_, fun hon hoff hsupply henrolled harb => ?_⟩
  · rw [Env.applyCommand_tripped htripped]
    rfl
  · by_cases hoff : c.st = .off
    · rw [Env.applyCommand_off hoff, hon]
      exact ⟨hoff, fun h => absurd hoff h⟩
    · rw [Env.applyCommand_running hoff hthermal hlatched, hon]
      exact ⟨rfl, fun _ => rfl⟩
  · have hrunning : c.st ≠ .off ∧ c.st ≠ .thermalOff ∧ c.st ≠ .latchedOff := by rcases hst with h | h <;> rw [h] <;> decide
    obtain ⟨hoff, hthermal, hlatched⟩ := hrunning
    rw [Env.applyCommand_running hoff hthermal hlatched, hon]
    exact ⟨rfl, rfl⟩
  · rw [Env.applyCommand_off hoff, hon]
    exact Env.turnOn_unsupplied hsupply
  · rw [Env.applyCommand_off hoff, hon]
    exact Env.turnOn_free hsupply hfree
  · rw [Env.applyCommand_off hoff, hon]
    exact Env.turnOn_enrolled hsupply henrolled harb

end

section
variable {i : Fin 16} {s : State}

/-- A frame to the power island acts on it and goes out with what the period held. -/
theorem State.complete_frameToPower {crcOk : Bool} {seq : Nat} (hpower : s.powerUp i = true) (hengine : s.engineUp i = true) (hresumed : s.slices[i].waitsResume = false) :
    exec (.tetherFrame i (.toPower crcOk seq)) s = .next (s.modSlice i fun _ => (s.slices[i].tetherToPower (s.env i) crcOk seq).frameSent).draw := by
  change execTetherFrame i (.toPower crcOk seq) s = _
  unfold execTetherFrame
  dsimp only
  rw [hpower, hengine, hresumed]
  rfl

/-- A frame from the power island goes to the engine's slice. -/
theorem State.complete_frameToEngine {crcOk : Bool} {seq : Nat} {ma dt : Vector Nat 6} {high : Vector Bool 6} {caseT : Int} (hpower : s.powerUp i = true) (hruns : s.sliceRuns i = true) :
    exec (.tetherFrame i (.toEngine crcOk seq ma dt high caseT)) s = .next (s.modSlice i fun _ => s.slices[i].tetherToEngine (s.env i) crcOk seq ma dt high caseT).draw := by
  change execTetherFrame i (.toEngine crcOk seq ma dt high caseT) s = _
  unfold execTetherFrame
  dsimp only
  rw [hpower, if_pos rfl]
  exact State.complete_onSlice hruns _

end

/-! ### A frame to the engine (R214) -/

section
variable {e : Env} {sl : Slice}

theorem Env.noteCurrent_keeps (k ma : Nat) (c : Channel) : (e.noteCurrent k ma c).st = c.st ∧ (e.noteCurrent k ma c).current = min 65535 ma ∧ (e.noteCurrent k ma c).outputHigh = c.outputHigh := by
  unfold Env.noteCurrent
  dsimp only
  split
  · exact ⟨rfl, rfl, rfl⟩
  · split
    · exact ⟨rfl, rfl, rfl⟩
    · split <;> exact ⟨rfl, rfl, rfl⟩

/-- What a channel shows after a frame to the engine; its current and its temperature where its island is enabled. -/
def Env.heardChannel (e : Env) (enabled : Bool) (k ma dt : Nat) (high : Bool) (c : Channel) : Channel :=
  if enabled then { e.noteCurrent k ma { c with outputHigh := high } with deltaT := min 255 dt } else { c with outputHigh := high }

theorem Env.heardChannel_spec {enabled : Bool} {k ma dt : Nat} {high : Bool} {c x : Channel} (hx : x = e.heardChannel enabled k ma dt high c) :
    x.outputHigh = high ∧ x.st = c.st ∧ (enabled = true → x.current = min 65535 ma ∧ x.deltaT = min 255 dt) ∧ (enabled = false → x.current = c.current ∧ x.deltaT = c.deltaT) := by
  subst hx
  cases enabled
  · exact ⟨rfl, rfl, fun h => absurd h (by decide), fun _ => ⟨rfl, rfl⟩⟩
  · obtain ⟨hst, hcurrent, hhigh⟩ := Env.noteCurrent_keeps (e := e) k ma { c with outputHigh := high }
    exact ⟨hhigh, hst, fun _ => ⟨hcurrent, rfl⟩, fun h => absurd h (by decide)⟩

/-- A slice that a frame in order has reached. -/
def Slice.heard (seq : Nat) (caseT : Int) (sl : Slice) : Slice := (sl.modTether fun t => { t with seqToEngine := seq % 16, missing := 0 }).modSw fun x => { x with caseT := caseT }

theorem Slice.tetherToEngine_heard {seq : Nat} {ma dt : Vector Nat 6} {high : Vector Bool 6} {caseT : Int} (horder : seqInOrder sl.sw.tether.seqToEngine seq = true) :
    sl.tetherToEngine e true seq ma dt high caseT =
      ((sl.heard seq caseT).withCh (Vector.ofFn fun k => e.heardChannel sl.sw.enabled k.val ma[k] dt[k] high[k] sl.sw.ch[k])).hearPower := by
  unfold Slice.tetherToEngine
  dsimp only
  rw [horder, Bool.and_self, if_pos rfl]
  exact congrArg Slice.hearPower (forChannels_each (sl := sl.heard seq caseT) (fun k => e.heardChannel sl.sw.enabled k.val ma[k] dt[k] high[k]) _ fun _ _ => rfl)

end

end Sys2Proof.Machine
end

section
/-! PROOFS. The fail-safe states of a power island, its loss and its handover: O27. -/

namespace Sys2Proof.Machine

theorem State.complete_onPowerAt {i : Fin 16} {s : State} {due : Env → Slice → Option Nat} {t : Nat} (hpower : s.powerUp i = true) (hdue : due (s.env i) s.slices[i] = some t) (f : Env → Slice → Slice) :
    State.complete (s.onPowerAt i due f) = .next ((s.advance t).modSlice i fun _ => f ((s.advance t).env i) s.slices[i]).draw := by
  unfold State.onPowerAt
  rw [hdue]
  exact (congrArg State.complete (if_pos hpower)).trans (congrArg State.complete (State.onPower_of_runs i f (s.advance t) hpower))

/-- The engine of a slice that runs is up and has resumed. -/
theorem State.sliceRuns_engine {i : Fin 16} {s : State} (h : s.sliceRuns i = true) : s.engineUp i = true ∧ s.slices[i].waitsResume = false := by
  simp only [State.sliceRuns, Bool.and_eq_true, Bool.not_eq_true'] at h
  exact ⟨h.1.2, h.2⟩

/-! ### The stored fail-safe states (R132, R216, R218) -/

section
variable {e : Env} {sl : Slice}

/-- The command that a stored fail-safe state is: off, on, or the state held. -/
def Channel.safeCommand (now f : Nat) (c : Channel) : Channel :=
  let on := if f = 0 then false else if f = 1 then true else c.cmd
  { c with cmd := on, cmdOffAt := if c.cmd && !on then now else c.cmdOffAt }

/-- A channel of an enabled island in its stored fail-safe state. -/
def Channel.failsafed (now f : Nat) (supply : Bool) (c : Channel) : Channel :=
  match c.st with
  | .thermalOff | .latchedOff => c.safeCommand now f
  | .on => { (if f = 0 then (c.safeCommand now f).off now else c.safeCommand now f) with failsafe := true }
  | .waiting => { (if f = 0 then (c.safeCommand now f).off now else if f = 1 then { (c.safeCommand now f).on now with req := .idle } else c.safeCommand now f) with failsafe := true }
  | _ => { (if f = 1 ∧ supply then (c.safeCommand now f).on now else c.safeCommand now f) with failsafe := true }

theorem Slice.failsafeChannel_enabled (henabled : sl.sw.enabled = true) (k : Fin 6) : sl.failsafeChannel e k = sl.modCh k (Channel.failsafed e.now sl.sw.tether.stored.chSafe[k] sl.sw.supply) := by
  unfold Slice.failsafeChannel
  dsimp only
  rw [henabled]
  rfl

theorem Channel.failsafed_spec {now f : Nat} {supply : Bool} {c x : Channel} (hx : x = c.failsafed now f supply) :
    (c.st = .on → x.failsafe = true ∧ x.st = if f = 0 then .off else .on) ∧ (c.st = .off → x.st = if f = 1 ∧ supply = true then .on else .off) ∧
      (c.st = .thermalOff ∨ c.st = .latchedOff → x.st = c.st) := by
  subst hx
  refine ⟨fun h => ?_, fun h => ?_, fun h => ?_⟩
  · simp only [Channel.failsafed, h]
    by_cases hf : f = 0
    · rw [if_pos hf, if_pos hf]
      exact ⟨trivial, rfl⟩
    · rw [if_neg hf, if_neg hf]
      exact ⟨trivial, h⟩
  · simp only [Channel.failsafed, h]
    by_cases hf : f = 1 ∧ supply = true
    · rw [if_pos hf, if_pos hf]
      rfl
    · rw [if_neg hf, if_neg hf]
      exact h
  · rcases h with h | h <;> simp only [Channel.failsafed, h] <;> exact h

/-- An axis of the power island in its stored fail-safe state. -/
def PowerAxis.failsafed (axisSafe holdMa : Nat) (p : PowerAxis) : PowerAxis :=
  if p.mode.driven then
    (if p.mode.driven && decide (axisSafe = 0) then { p.apply .shortBrake with current := 0, chopper := none } else { p.apply .hold with current := holdMa, chopper := none })
  else p

theorem PowerAxis.failsafed_spec (axisSafe holdMa : Nat) (p : PowerAxis) :
    (p.failsafed axisSafe holdMa).pos = p.pos ∧ (p.failsafed axisSafe holdMa).mode = if p.mode.driven then (if axisSafe = 0 then .shortBrake else .hold) else p.mode := by
  unfold PowerAxis.failsafed
  by_cases hdriven : p.mode.driven = true
  · by_cases hbrake : axisSafe = 0 <;> simp [hdriven, hbrake, PowerAxis.apply]
  · simp [hdriven]

/-- Halt an axis, which is homed no more where its motor is short-braked. -/
def Motion.failsafed (brakes : Bool) (m : Motion) : Motion := { m.halt with homed := m.homed && !brakes }

/-- One axis on both sides of the tether, and the island's parameters. -/
def Slice.ends (a : Fin 3) (sl : Slice) : Axis × PowerAxis × Stored := (sl.axes[a], sl.sw.tether.axes[a], sl.sw.tether.stored)

/-- Both ends of an axis in the stored fail-safe state. -/
def failsafeEnds (a : Fin 3) : Axis × PowerAxis × Stored → Axis × PowerAxis × Stored
  | (x, p, st) => ({ x with m := x.m.failsafed (p.mode.driven && decide (st.axisSafe[a] = 0)) }, p.failsafed st.axisSafe[a] st.holdMa[a], st)

theorem Slice.modM_ends (a : Fin 3) (f : Motion → Motion) (sl : Slice) : (sl.modM a f).ends a = ({ sl.axes[a] with m := f sl.axes[a].m }, sl.sw.tether.axes[a], sl.sw.tether.stored) := by simp [Slice.ends]

theorem Slice.powerAxis_ends (a : Fin 3) (f : Tether → PowerAxis) (sl : Slice) :
    (sl.modTether fun t => { t with axes := t.axes.set a (f t) }).ends a = (sl.axes[a], f sl.sw.tether, sl.sw.tether.stored) := by simp [Slice.ends]

theorem Slice.failsafeAxis_ends (a : Fin 3) (sl : Slice) : (sl.failsafeAxis a).ends a = failsafeEnds a (sl.ends a) := by
  have hmotion := Slice.modM_ends a (Motion.failsafed (sl.sw.tether.axes[a].mode.driven && decide (sl.sw.tether.stored.axisSafe[a] = 0))) sl
  unfold Slice.failsafeAxis Slice.ends failsafeEnds PowerAxis.failsafed
  dsimp only
  split
  · exact (Slice.powerAxis_ends a _ _).trans (congrArg (fun u => (u.1, _, u.2.2)) hmotion)
  · exact hmotion

theorem Slice.failsafeAxis_otherEnds {a b : Fin 3} (h : b ≠ a) (sl : Slice) : (sl.failsafeAxis b).ends a = sl.ends a := by
  have hne : b.val ≠ a.val := fun hval => h (Fin.ext hval)
  unfold Slice.failsafeAxis
  dsimp only
  split <;> simp [Slice.ends, hne]

/-- What no axis's fail-safe state touches. -/
def Slice.aroundAxes (sl : Slice) : Portal × Vector Channel 6 × TetherState × Nat := (sl.portal, sl.sw.ch, sl.sw.tether.st, sl.sw.tether.cntTimeouts)

theorem Slice.failsafeAxis_around (a : Fin 3) (sl : Slice) : (sl.failsafeAxis a).aroundAxes = sl.aroundAxes := by
  unfold Slice.failsafeAxis
  dsimp only
  split <;> rfl

/-- An enabled island with its channels in their stored fail-safe states. -/
def Slice.channelsSafe (e : Env) (sl : Slice) : Slice := sl.withCh (Vector.ofFn fun k : Fin 6 => sl.sw.ch[k].failsafed e.now sl.sw.tether.stored.chSafe[k] sl.sw.supply)

theorem Slice.forChannels_failsafe (henabled : sl.sw.enabled = true) : forChannels (fun k sl => sl.failsafeChannel e k) sl = sl.channelsSafe e :=
  forChannels_each (fun k => Channel.failsafed e.now sl.sw.tether.stored.chSafe[k] sl.sw.supply) _ fun k v => Slice.failsafeChannel_enabled (sl := sl.withCh v) henabled k

/-- The fail-safe states of an enabled island that its engine has not declared lost. -/
theorem Slice.applyFailsafe_spec {x : Slice} (henabled : sl.sw.enabled = true) (hheard : sl.sw.tether.st ≠ .lost) (hx : x = sl.applyFailsafe e) :
    x.sw.tether.st = .failsafe ∧ x.sw.tether.safe = true ∧ x.sw.tether.cntTimeouts = satInc 255 sl.sw.tether.cntTimeouts ∧ x.portal = sl.portal ∧
      (∀ k : Fin 6, x.sw.ch[k] = sl.sw.ch[k].failsafed e.now sl.sw.tether.stored.chSafe[k] sl.sw.supply) ∧
      ∀ a : Fin 3, x.axes[a] = { sl.axes[a] with m := sl.axes[a].m.failsafed (sl.sw.tether.axes[a].mode.driven && decide (sl.sw.tether.stored.axisSafe[a] = 0)) } ∧
        x.sw.tether.axes[a] = sl.sw.tether.axes[a].failsafed sl.sw.tether.stored.axisSafe[a] sl.sw.tether.stored.holdMa[a] := by
  obtain ⟨y, hy⟩ : ∃ y, y = forAxes (fun a sl => sl.failsafeAxis a) (sl.channelsSafe e) := ⟨_, rfl⟩
  have hends (a : Fin 3) : y.ends a = failsafeEnds a (sl.ends a) := hy ▸ forAxes_at Slice.ends failsafeEnds _ Slice.failsafeAxis_ends (fun a b sl h => Slice.failsafeAxis_otherEnds h sl) a (sl.channelsSafe e)
  have haround : y.aroundAxes = (sl.channelsSafe e).aroundAxes := hy ▸ forAxes_keeps Slice.aroundAxes _ Slice.failsafeAxis_around _
  simp only [Slice.aroundAxes, Prod.mk.injEq] at haround
  obtain ⟨hportal, hch, hst, hcount⟩ := haround
  have hxy : x = y.modTether fun t => { t with safe := true, st := if t.st = .lost then .lost else .failsafe, cntTimeouts := satInc 255 t.cntTimeouts, safeAt := e.now } := by
    rw [hx, Slice.applyFailsafe, Slice.forChannels_failsafe henabled, hy]
  subst hxy
  refine ⟨if_neg fun h => hheard (hst.symm.trans h), rfl, congrArg (satInc 255) hcount, hportal, fun k => ?_, fun a => ⟨congrArg Prod.fst (hends a), congrArg (fun u => u.2.1) (hends a)⟩⟩
  exact (congrArg (fun v : Vector Channel 6 => v[k]) hch).trans (by simp [Slice.channelsSafe, Slice.withCh])

/-- The time of the timeout has come: the fail-safe states are applied. -/
theorem Slice.tetherTimeout_failsafe (hstored : sl.sw.tether.storedValid = true) (hsafe : sl.sw.tether.safe = false) (htest : sl.sw.tether.testRunning = false) (hbefore : sl.sw.tether.lastRefresh ≠ e.now)
    (hover : sl.sw.tether.lastRefresh + sl.sw.tether.stored.timeoutMs * 950000 ≤ e.now) : sl.tetherTimeout e = sl.applyFailsafe e := by
  have htimed : sl.sw.tether.timedOut e.now sl.sw.tether.lastRefresh = true := by rw [Tether.timedOut, hstored, hsafe, decide_eq_true hover]; rfl
  unfold Slice.tetherTimeout
  dsimp only
  rw [decide_eq_false hbefore, htimed, htest]
  rfl

end

/-! ### The loss of a power island and its handover (R220 to R223) -/

section
variable {e : Env} {sl : Slice}

theorem Channel.readBack_spec (supply : Bool) (c : Channel) :
    (c.readBack supply).st = c.st ∧ (c.st = .on ∨ c.st = .waiting → (c.readBack supply).commanded = true) ∧ (c.st = .latchedOff → (c.readBack supply).commanded = false) := by
  refine ⟨rfl, fun h => ?_, fun h => ?_⟩
  · rcases h with h | h <;> simp [Channel.readBack, h]
  · simp [Channel.readBack, h]

/-- An axis as its engine reads it back from the power island. -/
def Axis.back (p : PowerAxis) (homed : Bool) (x : Axis) : Axis where
  m := { x.m.halt with pos := p.pos, homed := homed && p.valid }
  d := { x.d with mode := p.mode, current := p.current, isolators := decide (p.mode ≠ .free), wanted := none, pendMode := none,
                  chop := p.chopper.getD x.d.chop, est := { x.d.est with thetaA := p.angle, amp := p.chopper.getD x.d.est.amp } }

/-- One axis and the tether it is read back from. -/
def Slice.tied (a : Fin 3) (sl : Slice) : Axis × Tether := (sl.axes[a], sl.sw.tether)

theorem Slice.axisBack_tied (a : Fin 3) (homed : Bool) (sl : Slice) : (sl.axisBack a homed).tied a = (sl.axes[a].back sl.sw.tether.axes[a] homed, sl.sw.tether) := by
  simp [Slice.axisBack, Slice.tied, Axis.back]

theorem Slice.axisBack_otherTied {a b : Fin 3} (h : b ≠ a) (homed : Bool) (sl : Slice) : (sl.axisBack b homed).tied a = sl.tied a := by
  have hne : b.val ≠ a.val := fun hval => h (Fin.ext hval)
  simp [Slice.axisBack, Slice.tied, hne]

/-- The engine resumes from what its power island holds. -/
theorem Slice.tetherResume_spec {x : Slice} {homed : Vector Bool 3} (hx : x = sl.tetherResume e homed) :
    x.portal = sl.portal ∧
      x.sw.tether = { sl.sw.tether with st := .refreshed, safe := false, prevRefresh := sl.sw.tether.lastRefresh, lastRefresh := e.now, lastAlive := sl.sw.tether.alive, strobe := false, steps := [] } ∧
      (∀ k : Fin 6, x.sw.ch[k] = sl.sw.ch[k].readBack sl.sw.supply) ∧ ∀ a : Fin 3, x.axes[a] = sl.axes[a].back sl.sw.tether.axes[a] homed[a] := by
  obtain ⟨r, hr⟩ : ∃ r, r = forChannels (fun k sl' => sl'.modCh k (Channel.readBack sl.sw.supply)) sl := ⟨_, rfl⟩
  obtain ⟨y, hy⟩ : ∃ y, y = forAxes (fun a sl => sl.axisBack a homed[a]) r := ⟨_, rfl⟩
  have hsw : y.sw = r.sw := hy ▸ forAxes_keeps Slice.sw _ (fun _ _ => rfl) r
  have hportal : y.portal = r.portal := hy ▸ forAxes_keeps Slice.portal _ (fun _ _ => rfl) r
  have htied (a : Fin 3) : y.tied a = (r.axes[a].back r.sw.tether.axes[a] homed[a], r.sw.tether) := hy ▸
    forAxes_at Slice.tied (fun a (u : Axis × Tether) => (u.1.back u.2.axes[a] homed[a], u.2)) _ (fun a sl => Slice.axisBack_tied a homed[a] sl) (fun a b sl h => Slice.axisBack_otherTied h homed[b] sl) a r
  have hxy : x = (y.modTether fun t => { t with st := .refreshed, safe := false, prevRefresh := t.lastRefresh, lastRefresh := e.now, lastAlive := t.alive, strobe := false, steps := [] }).switchEvent e 10 7 0 := by
    rw [hx, hy, hr, Slice.tetherResume]
  have haxis (a : Fin 3) : y.axes[a] = r.axes[a].back r.sw.tether.axes[a] homed[a] := congrArg Prod.fst (htied a)
  subst hxy
  rw [forChannels_modCh sl] at hr
  subst hr
  refine ⟨hportal, ?_, fun k => ?_, haxis⟩
  · have hheld : y.sw.tether = sl.sw.tether := by rw [hsw]
    rw [← hheld]
    rfl
  · change y.sw.ch[k] = _
    rw [hsw]
    simp

/-- An island is lost once (R222). -/
theorem Slice.powerLost_eq (h : sl.sw.tether.st ≠ .lost) :
    sl.powerLost e = ((sl.modTether fun t => { t with st := .lost, testRunning := false }).modPortal fun q => { q with cause11 := true }).switchEvent e 10 8 0 := if_neg h

/-- The handover, the resume and the first report of a power island that was lost or has reset. -/
theorem Slice.tetherRepeat_eq (h : sl.sw.tether.st = .lost ∨ sl.sw.tether.storedValid = false) :
    sl.tetherRepeat e = ((sl.tetherHandover e).tetherResume e (Vector.ofFn fun a : Fin 3 => sl.axes[a].m.homed && sl.sw.tether.axes[a].valid)).hearPower := if_pos h

/-- A handover sets every position of the island anew, and keeps its modes. -/
theorem Slice.tetherHandover_axis (a : Fin 3) : (sl.tetherHandover e).sw.tether.axes[a] = { sl.sw.tether.axes[a] with pos := sl.axes[a].m.pos, valid := true } := by
  simp [Slice.tetherHandover]

theorem Slice.tetherRepeat_spec {x : Slice} (h : sl.sw.tether.st = .lost ∨ sl.sw.tether.storedValid = false) (hx : x = sl.tetherRepeat e) :
    x.sw.tether.st = .refreshed ∧ x.sw.tether.safe = false ∧ x.sw.tether.storedValid = true ∧ x.sw.tether.stored = e.storedParams ∧ x.sw.tether.missing = 0 ∧ x.portal = sl.portal ∧
      (∀ k : Fin 6, x.sw.ch[k] = sl.sw.ch[k].readBack sl.sw.supply) ∧
      ∀ a : Fin 3, x.sw.tether.axes[a] = { sl.sw.tether.axes[a] with pos := sl.axes[a].m.pos, valid := true } ∧
        x.axes[a] = sl.axes[a].back { sl.sw.tether.axes[a] with pos := sl.axes[a].m.pos, valid := true } (sl.axes[a].m.homed && sl.sw.tether.axes[a].valid) := by
  obtain ⟨y, hy⟩ : ∃ y, y = (sl.tetherHandover e).tetherResume e (Vector.ofFn fun a : Fin 3 => sl.axes[a].m.homed && sl.sw.tether.axes[a].valid) := ⟨_, rfl⟩
  obtain ⟨hportal, htether, hch, haxes⟩ := Slice.tetherResume_spec hy
  have hxy : x = y.hearPower := hx.trans ((Slice.tetherRepeat_eq h).trans (congrArg Slice.hearPower hy.symm))
  have hheard : y.hearPower.sw.tether = { y.sw.tether with toEngine := y.hearPower.sw.tether.toEngine } := rfl
  rw [htether] at hheard
  rw [hxy, hheard]
  refine ⟨rfl, rfl, rfl, rfl, rfl, hportal, hch, fun a => ⟨Slice.tetherHandover_axis (e := e) a, (haxes a).trans ?_⟩⟩
  rw [Slice.tetherHandover_axis a]
  exact congrArg (Axis.back _ · _) (Vector.getElem_ofFn a.isLt)

end

/-- Settles O27: a frame in order is the refresh and the commands it carries at the gates, the timeout is the stored fail-safe state of every channel and of both ends of every axis, and the repeated handover reads back what the island holds. -/
theorem tetherRefreshesAndFailsSafe : Obligations.TetherRefreshesAndFailsSafe := by
  unfold Obligations.TetherRefreshesAndFailsSafe
  refine ⟨fun i seq s hpower hengine hresumed horder hnew hsafe hheard htime => ?toPower, fun i seq ma dt high ct s hpower hruns horder => ?toEngine, fun i seq ma dt high ct s hpower hruns => ?broken,
    fun i s hpower hstored hsafe hheard htest hbefore henabled => ?timeout, fun i s hruns hheard => ?lost, fun i s hpower hruns h => ?handover⟩
  case toPower =>
    intro t
    let e := s.env i
    let sl := s.slices[i].modTether (Tether.refreshes e.now seq s.slices[i].frameOut)
    have htaken : s.slices[i].tetherToPower e true seq = sl.takeFrame e := Slice.tetherToPower_refreshes horder hnew hsafe hheard htime
    have hexec := State.complete_frameToPower (crcOk := true) (seq := seq) hpower hengine hresumed
    rw [htaken] at hexec
    cases hstored : t.storedValid with
    | false =>
      obtain ⟨sent, hsent⟩ := Slice.frameSent_eq (sl := sl)
      rw [Slice.takeFrame_unstored (sl := sl) hstored, hsent] at hexec
      exact ⟨_, hexec, rfl, rfl, rfl, rfl, rfl, rfl, rfl, rfl, rfl, rfl, fun _ => rfl, fun _ => rfl, fun h => absurd h (by decide), fun h => absurd h (by decide)⟩
    | true =>
      rw [Slice.takeFrame_taken (sl := sl) hstored hsafe] at hexec
      obtain ⟨sent, hsent⟩ := Slice.frameSent_eq (sl := (sl.withCh (Vector.ofFn fun k => e.frameChannel sl.sw k sl.sw.ch[k])).modTether fun t =>
        { t with axes := Vector.ofFn fun a : Fin 3 => sl.frameAxis a, posSet := Vector.replicate 3 none, strobe := false })
      rw [hsent] at hexec
      refine ⟨_, hexec, rfl, rfl, rfl, rfl, rfl, rfl, rfl, rfl, rfl, rfl, fun h => ?_, fun h => absurd h (by decide), fun _ a => ?_, fun _ henabled k => ?_⟩
      · have hdisabled : s.slices[i].sw.enabled = false := h.resolve_left (by decide)
        exact Slice.frameChannels_disabled (sl := sl) hdisabled
      · have haxis : (Vector.ofFn fun a : Fin 3 => sl.frameAxis a)[a] = sl.frameAxis a := Vector.getElem_ofFn a.isLt
        have hspec := Slice.frameAxis_spec (sl := sl) a
        rw [← haxis] at hspec
        exact hspec
      · exact Env.applyCommand_spec (e := e) ((Vector.getElem_ofFn k.isLt).trans (if_pos henabled))
  case toEngine =>
    have hexec := State.complete_frameToEngine (crcOk := true) (seq := seq) (ma := ma) (dt := dt) (high := high) (caseT := ct) hpower hruns
    rw [Slice.tetherToEngine_heard horder] at hexec
    exact ⟨_, hexec, rfl, rfl, rfl, rfl, fun k => Env.heardChannel_spec (e := s.env i) (Vector.getElem_ofFn k.isLt)⟩
  case broken =>
    obtain ⟨hup, hresumed⟩ := State.sliceRuns_engine hruns
    obtain ⟨sent, hsent⟩ := Slice.frameSent_eq (sl := s.slices[i].tetherToPower (s.env i) false seq)
    have hexec := State.complete_frameToPower (crcOk := false) (seq := seq) hpower hup hresumed
    rw [hsent] at hexec
    exact ⟨⟨_, hexec, rfl, rfl, rfl, rfl, rfl, rfl, rfl⟩, State.complete_frameToEngine hpower hruns⟩
  case timeout =>
    intro t
    obtain ⟨due, hdueAt⟩ : ∃ due, due = t.lastRefresh + t.stored.timeoutMs * 950000 := ⟨_, rfl⟩
    have hdue : s.slices[i].tetherDue (s.env i).now = some due := by
      unfold Slice.tetherDue
      dsimp only
      rw [hstored, if_pos rfl, if_neg (show ¬s.slices[i].sw.tether.lastRefresh = (s.env i).now from Nat.ne_of_lt hbefore), hdueAt]
    have hover : t.lastRefresh + t.stored.timeoutMs * 950000 ≤ ((s.advance due).env i).now := hdueAt ▸ State.advance_reaches due i s
    have hafter : t.lastRefresh ≠ ((s.advance due).env i).now := Nat.ne_of_lt (Nat.lt_of_lt_of_le hbefore (Nat.le_max_left _ _))
    obtain ⟨hst, hsafed, hcount, hportal, hch, hends⟩ := Slice.applyFailsafe_spec henabled hheard (Slice.tetherTimeout_failsafe hstored hsafe htest hafter hover)
    rw [← hdueAt]
    refine ⟨_, State.complete_onPowerAt hpower hdue _, hst, hsafed, hcount, hportal, fun a => ?_, fun k => (Channel.failsafed_spec (hch k)).1, fun k => (Channel.failsafed_spec (hch k)).2.1,
      fun k => (Channel.failsafed_spec (hch k)).2.2, fun a => ?_⟩
    · obtain ⟨haxis, -⟩ := hends a
      rw [haxis]
      exact ⟨rfl, rfl, rfl, rfl, rfl⟩
    · obtain ⟨-, hisland⟩ := hends a
      rw [hisland]
      exact PowerAxis.failsafed_spec ..
  case lost =>
    obtain ⟨late, hlate⟩ : ∃ late, late = s.advance (s.now + (4 - s.slices[i].sw.tether.missing) * 25000) := ⟨_, rfl⟩
    have hexec : exec (.powerIslandLost i) s = .next (late.modSlice i fun _ => s.slices[i].powerLost (late.env i)).draw := hlate ▸ State.complete_onSlice (s := s.advance _) hruns _
    rw [Slice.powerLost_eq hheard] at hexec
    rw [← hlate]
    exact ⟨_, hexec, rfl, rfl, rfl, rfl, rfl, rfl⟩
  case handover =>
    obtain ⟨x, hx⟩ : ∃ x, x = s.slices[i].tetherRepeat (s.env i) := ⟨_, rfl⟩
    have hexec : execTetherHandoverRepeat i s = .next (s.modSlice i fun _ => x).draw := hx ▸ (congrArg State.complete (if_pos hpower)).trans (State.complete_onSlice hruns _)
    obtain ⟨hst, hsafe, hvalid, hstored, hmissing, hportal, hch, haxes⟩ := Slice.tetherRepeat_spec h hx
    refine ⟨x, hexec, hst, hsafe, hvalid, hstored, hmissing, hportal, fun k => ?_, fun a => ?_⟩
    · rw [hch k]
      exact Channel.readBack_spec ..
    · obtain ⟨hisland, haxis⟩ := haxes a
      rw [hisland, haxis]
      exact ⟨rfl, rfl, rfl, Bool.and_true _, rfl, rfl⟩

end Sys2Proof.Machine
end

section
/-! PROOFS. Two axes of a slice in one estimator period: O20. -/

namespace Sys2Proof.Machine

/-! ### The slice after an estimator period (R143) -/

section
variable {i : Fin 16} {x0 x1 x2 : PhaseAvg} {s : State}

/-- The instant of the slice's next estimator period. -/
def State.estimatorAt (i : Fin 16) (s : State) : Nat := s.clocks[i.val].counter.nextMultiple 25000 s.slices[i].estAt s.now

/-- The surroundings in which that period runs. -/
def State.estimatorEnv (i : Fin 16) (s : State) : Env := (s.advance (s.estimatorAt i)).env i

/-- The slice after its next estimator period. -/
def State.estimated (i : Fin 16) (x0 x1 x2 : PhaseAvg) (s : State) : Slice :=
  { s.slices[i].estimatorPeriod (s.estimatorEnv i) x0 x1 x2 with estAt := s.estimatorAt i }

theorem State.estimatorTick_of_runs (hruns : s.sliceRuns i = true) : s.estimatorTick i x0 x1 x2 = (s.advance (s.estimatorAt i)).modSlice i fun _ => s.estimated i x0 x1 x2 := by
  unfold State.estimatorTick
  rw [if_pos hruns]
  exact State.modSlice_at i _ _

/-- ESTIMATOR_PERIOD leaves its slice in one way only. -/
theorem State.estimatorPeriod_slice {x : Slice} (hruns : s.sliceRuns i = true)
    (hexec : exec (.estimatorPeriod i x0 x1 x2) s = .next ((s.advance (s.estimatorAt i)).modSlice i fun _ => x).draw) : x = s.estimated i x0 x1 x2 := by
  have hnext : State.complete (s.estimatorTick i x0 x1 x2) = _ := hexec
  rw [State.estimatorTick_of_runs hruns] at hnext
  have hslices := congrArg (fun t : State => t.slices[i]) (Host.Outcome.next.inj hnext)
  simpa only [State.draw_slices, State.modSlice_same rfl] using hslices.symm

end

/-! ### A hot axis is driven on (R168) -/

/-- A running module whose slice 0 has an axis A0 that follows encoder ENC1, its last two step edges 10 µs apart (R124), and an axis A1 that homes without a confirmation input and sets ENC1 by home_sync (R190).
stall_confirm of A1 is 0 instead of 8 to 400, since only so its homing run stalls in this period whatever the estimator's open figures are (log entry 1); what follows the stall does not look at it. Both axes are slower than their lambda_valid_speed. -/
def State.followerBehindHoming : State :=
  let follower : Axis :=
    { Axis.reset with
      m := { Motion.reset with homed := true, lastEdge := some 20000, edgeGap := 20000 }
      d := { Drive.reset with mode := .quiet, isolators := true, readback := true } }
  let homing : Axis :=
    { Axis.reset with
      m := { Motion.reset with home := some ⟨0, none, none, none, false⟩ }
      d := { Drive.reset with mode := .hold, isolators := true, readback := true } }
  { State.reset with
    islands := Vector.replicate 34 ⟨true, 0, 0, none⟩
    start := { Start.reset with stage := .running }
    cfg := { Cfg.reset with state := 2 }
    twn := { State.reset.twn with auth := { State.reset.twn.auth with readback := true, inp := false } }
    params := [
      (cfgKey 0x10 0, 1),
      (cfgKey 0x11 0, 1), (cfgKey 0x11 1, 4), (cfgKey 0x11 3, 1),
      (cfgKey 0x11 224, 1), (cfgKey 0x11 (224 + 145), 0xFF),
      (cfgKey 0x12 10, 2), (cfgKey 0x12 14, 2), (cfgKey 0x12 (64 + 12), 1),
      (cfgKey 0x13 (16 + 161 + 8), 4)]
    slices := State.reset.slices.set 0 { Slice.reset with waitsResume := false, axes := #v[follower, homing, Axis.reset] } }

/-- The averages of a period without voltage and current, of bridges whose isolators are closed. -/
def idlePhases (dieHot : Bool) : PhaseAvg := ⟨0, 0, 0, 0, dieHot, true⟩

/-- A0's own part of the period puts it into drive fault 5 and into hold. -/
theorem State.followerBehindHoming_holds :
    let x := State.followerBehindHoming.slices[0].axisPeriod (State.followerBehindHoming.estimatorEnv 0) 0 (idlePhases true)
    x.axes[0].d.fault = 5 ∧ x.axes[0].d.mode = .hold := by decide +kernel

/-- A1's part then ends its homing run, which sets ENC1; A0 recomputes its demand with fault 5 standing, and regulates again. -/
theorem State.followerBehindHoming_leavesHold :
    let x := State.followerBehindHoming.estimated 0 (idlePhases true) (idlePhases false) (idlePhases false)
    x.axes[0].d.fault = 5 ∧ x.axes[0].d.mode = .quiet ∧ x.axes[1].m.homed = true := by decide +kernel

/-- Refutes O20, by its clause that a driven axis whose die is hot holds after the estimator period.
Its drive fault does put the axis into hold, but `Slice.followGenerator` asks for no fault: where the homing run of a later axis ends in the same period and sets the encoder that the hot axis is geared to, the hot axis leaves hold while the fault stands, against the last column of R168. -/
theorem not_driveFaultsIsolatorsAndEstimator : ¬ Obligations.DriveFaultsIsolatorsAndEstimator := by
  unfold Obligations.DriveFaultsIsolatorsAndEstimator
  intro ⟨_, _, _, _, _, hperiod, _⟩
  have hruns : State.followerBehindHoming.sliceRuns 0 = true := by decide +kernel
  obtain ⟨x, hexec, -, -, -, -, -, -, -, -, -, hhot⟩ := hperiod 0 (idlePhases true) (idlePhases false) (idlePhases false) State.followerBehindHoming hruns
  obtain ⟨-, -, hholds⟩ := hhot 0 (by decide +kernel) rfl (by decide +kernel) (by decide +kernel) (by decide +kernel)
  have hhold : x.axes[0].d.mode = .hold := hholds (by decide +kernel) (by decide +kernel)
  obtain ⟨-, hquiet, -⟩ := State.followerBehindHoming_leavesHold
  rw [State.estimatorPeriod_slice hruns hexec, hquiet] at hhold
  exact absurd hhold (by decide)

end Sys2Proof.Machine
end

section
/-! PROOFS. The supervision of the digital inputs: O23. -/

namespace Sys2Proof.Machine

/-! ### One digital input of a slice (R173, R182) -/

section
variable {e : Env} {k : Fin 16} {sl : Slice}

theorem Slice.modDig_own (f : Dig → Dig) : (sl.modDig k f).inp.dig[k] = f sl.inp.dig[k] := by simp

theorem Slice.modDig_otherInput {j : Fin 16} (h : j ≠ k) (f : Dig → Dig) : (sl.modDig k f).inp.dig[j] = sl.inp.dig[j] := by
  simp [Fin.val_ne_of_ne h.symm]

theorem Slice.setStuck_dig : (sl.setStuck e k).inp.dig = (sl.modDig k fun d => { d with stuck := true }).inp.dig := rfl

theorem Slice.inputFault_dig (code source : Nat) : (sl.inputFault e code source).inp.dig = sl.inp.dig := rfl

/-! ### The timers of an input and what their expiry does (R180, R181, R183) -/

theorem Slice.stuckTime_of_active (hdeb : sl.inp.dig[k].deb = true) (hfree : sl.inp.dig[k].stuck = false) (hon : cfgInpStuckTimeout e.p e.i k ≠ 0) :
    sl.stuckTime e k = some (sl.inp.dig[k].activeAt + ms (cfgInpStuckTimeout e.p e.i k * 1000)) := by
  unfold Slice.stuckTime
  exact if_pos (by rw [hdeb, hfree]; simp [hon])

theorem Slice.stuckExpiry_of_active (hdeb : sl.inp.dig[k].deb = true) (hfree : sl.inp.dig[k].stuck = false) (hon : cfgInpStuckTimeout e.p e.i k ≠ 0)
    (hover : sl.inp.dig[k].activeAt + ms (cfgInpStuckTimeout e.p e.i k * 1000) ≤ e.now) : (if e.stuckDue k e.now sl.inp.dig[k] then sl.setStuck e k else sl) = sl.setStuck e k := by
  refine if_pos ?_
  unfold Env.stuckDue
  rw [hdeb, hfree]
  simpa [hon] using hover

theorem Slice.quietTime_of_chatter (h : sl.inp.dig[k].chatter = true) : sl.quietTime e k = some (sl.inp.dig[k].changeAt + ms (cfgInpChatterQuiet e.p e.i k)) := if_pos h

theorem Slice.quietExpiry_of_chatter (h : sl.inp.dig[k].chatter = true) (hover : sl.inp.dig[k].changeAt + ms (cfgInpChatterQuiet e.p e.i k) ≤ e.now) :
    (if e.quietDue k e.now sl.inp.dig[k] then sl.modDig k fun d => { d with chatter := false } else sl) = sl.modDig k fun d => { d with chatter := false } := by
  refine if_pos ?_
  unfold Env.quietDue
  rw [h]
  simpa using hover

theorem Slice.twinDiffTime_of_differs {t : Nat} (h : sl.inp.dig[k].diffAt = some t) : sl.twinDiffTime e k = some (t + ms (cfgInpTwinCompareMs e.p e.i)) := congrArg (Option.map _) h

/-- A difference that has lasted for twin_compare_ms (R183). -/
theorem Slice.twinCompare_lasting {t : Nat} (hsince : sl.inp.dig[k].diffAt = some t) (hfree : sl.inp.dig[k].diff = false) (hon : cfgInpTwinCompareMs e.p e.i ≠ 0)
    (hover : t + ms (cfgInpTwinCompareMs e.p e.i) ≤ e.now) : sl.twinCompare e k = (sl.modDig k fun d => { d with diff := true }).inputFault e 4 k := by
  unfold Slice.twinCompare
  dsimp only
  rw [hsince]
  exact if_pos (by rw [hfree]; simp [hon, hover])

/-- A level that the comparator has already is no edge (R179). -/
theorem Slice.inputEdge_eq (lev : Bool) : sl.inputEdge e k lev = sl.modDig k fun d => { d with level := lev, edgeAt := if d.level = lev then d.edgeAt else e.now } := by
  refine congrArg (fun f => sl.modDig k f) (funext fun d => ?_)
  split
  next h => rw [← h]
  · rfl

end

/-- A command that its timer gives, by what it does to its slice once the instant has come (R33). -/
theorem State.complete_onSliceAt_of_act {i : Fin 16} {s : State} {due : Env → Slice → Option Nat} {f : Env → Slice → Slice} {t : Nat} {x : Slice} (hruns : s.sliceRuns i = true)
    (hdue : due (s.env i) s.slices[i] = some t) (hact : t ≤ ((s.advance t).env i).now → f ((s.advance t).env i) s.slices[i] = x) :
    State.complete (s.onSliceAt i due f) = .next ((s.advance t).modSlice i fun _ => x).draw := by
  rw [← hact (State.advance_reaches ..)]
  exact State.complete_onSliceAt hruns hdue f

/-- Settles O23: each timer by the instant that it names and what its expiry writes, the edge by what the detector stores of it. -/
theorem inputSupervisionFlags : Obligations.InputSupervisionFlags := by
  unfold Obligations.InputSupervisionFlags
  refine ⟨fun i k s hruns hdeb hfree hon => ?stuck, fun i k s hruns hchatter => ?quiet, fun i k t0 s hruns hsince hfree hon => ?twin, fun i k lev s hruns => ?edge⟩
  case stuck =>
    refine ⟨_, State.complete_onSliceAt_of_act hruns (Slice.stuckTime_of_active hdeb hfree hon) fun hover => Slice.stuckExpiry_of_active hdeb hfree hon hover, rfl, rfl, rfl, rfl, ?_⟩
    rw [Slice.setStuck_dig]
    exact ⟨congrArg Dig.stuck (Slice.modDig_own _), (congrArg Dig.deb (Slice.modDig_own _)).trans hdeb, rfl, rfl, rfl, fun j hj => Slice.modDig_otherInput hj _⟩
  case quiet =>
    exact State.complete_onSliceAt_of_act hruns (Slice.quietTime_of_chatter hchatter) fun hover => Slice.quietExpiry_of_chatter hchatter hover
  case twin =>
    refine ⟨_, State.complete_onSliceAt_of_act hruns (Slice.twinDiffTime_of_differs hsince) fun hover => Slice.twinCompare_lasting hsince hfree hon hover, rfl, rfl, rfl, rfl, ?_⟩
    rw [Slice.inputFault_dig]
    exact ⟨congrArg Dig.diff (Slice.modDig_own _), rfl, rfl, fun j hj => Slice.modDig_otherInput hj _⟩
  case edge =>
    exact (State.complete_onSlice hruns _).trans (by rw [Slice.inputEdge_eq]; rfl)

end Sys2Proof.Machine
end

section
/-! PROOFS. A sample that ends a homing run, and a hold that outlasts its excitation: O22, O24. -/

namespace Sys2Proof.Machine

/-! ### A running module and what a command leaves of one slice -/

/-- A command changes its slice in one way only. -/
theorem State.slice_of_complete {i : Fin 16} {s t : State} {x y : Slice} (hx : State.complete t = .next (s.modSlice i fun _ => x).draw)
    (hy : State.complete t = .next (s.modSlice i fun _ => y).draw) : x = y := by
  have hslices := congrArg (fun u : State => u.slices[i]) (Host.Outcome.next.inj (hx.symm.trans hy))
  simpa only [State.draw_slices, State.modSlice_same rfl] using hslices

/-- A module that runs with its parameters and has just asserted AUTH_OUT; the readback that opens its power gate has not come (R395, R413). -/
def State.runningWith (params : Mem) : State :=
  { State.reset with
    islands := Vector.replicate 34 ⟨true, 0, 0, none⟩
    start := { Start.reset with stage := .running }
    cfg := { Cfg.reset with state := 2 }
    twn := { State.reset.twn with auth := { State.reset.twn.auth with out := true } }
    params := params
    slices := State.reset.slices.set 0 { Slice.reset with waitsResume := false } }

/-! ### The slice after a sample of its inputs (R176) -/

section
variable {i : Fin 16} {pins : Vector Int 16} {lines : Vector Int 5} {s : State}

/-- The instant of the slice's next sample. -/
def State.sampleAt (i : Fin 16) (s : State) : Nat := s.clocks[i.val].counter.nextMultiple 100000 s.slices[i].inp.sampleAt s.now

/-- The slice after that sample. -/
def State.sampled (i : Fin 16) (pins : Vector Int 16) (lines : Vector Int 5) (s : State) : Slice :=
  s.slices[i].inputSample ((s.advance (s.sampleAt i)).env i) (s.sampleAt i) pins lines

theorem State.complete_sampleTick (hruns : s.sliceRuns i = true) :
    State.complete (s.sampleTick i pins lines) = .next ((s.advance (s.sampleAt i)).modSlice i fun _ => s.sampled i pins lines).draw :=
  (congrArg State.complete (if_pos hruns)).trans (State.complete_onSlice (s := s.advance (s.sampleAt i)) hruns _)

end

/-! ### The first sample of a homing run that has stalled (R125, R130, R131) -/

/-- Axis A0 of slice 0 has a role and follows ENC0, an RS-422 encoder. I0 confirms its homing. -/
def State.followsEncoder : State := (State.runningWith [(cfgKey 0x10 0, 1), (cfgKey 0x11 0, 1), (cfgKey 0x11 1, 4), (cfgKey 0x13 (16 + 160), 1)]).authReadback true

/-- ENC0 has broken, and A0 has begun to home and stalled, with no sample of the inputs in between. -/
def State.stalledBeforeSample : State :=
  let e := State.followsEncoder.env 0
  State.followsEncoder.modSlice 0 fun sl => (((sl.encoderLineBreak e 0 0 true).startHoming e 0).isolatorConfirmed e 0 false).homeStallNow e 0

/-- 24 V at I0 alone. -/
def confirmingPins : Vector Int 16 := (Vector.replicate 16 0).set 0 240

theorem State.stalledBeforeSample_waits :
    State.stalledBeforeSample.sliceRuns 0 = true ∧ State.stalledBeforeSample.slices[(0 : Fin 16)].axes[0].m.home = some ⟨0, none, none, some 0, false⟩ ∧
      State.stalledBeforeSample.slices[(0 : Fin 16)].portal.cause11 = false := by decide +kernel

/-- I0 confirms the stall: A0 has homed and engages behind an encoder that is faulty. -/
theorem State.stalledBeforeSample_homes :
    let x := State.stalledBeforeSample.sampled 0 confirmingPins (Vector.replicate 5 0)
    x.axes[0].m.homed = true ∧ x.axes[0].m.faultCause = 7 ∧ x.portal.cause11 = true := by decide +kernel

/-- Refutes O22, by its clause that a sample leaves the portal alone.
The first sample of a homing run begins the latch where the confirmation input is active (R131), and after a stall that latch ends the run (R130). The follower engages (R126), and behind a faulty encoder it raises axis fault 7, which gives the portal cause 11 (R125). Where a sample comes every 100 µs, one normally precedes the stall, which takes at least 8 periods of 25 µs (R170); but the statement is about every state, and no command waits for a sample. -/
theorem not_inputSamplesAreDebounced : ¬ Obligations.InputSamplesAreDebounced := by
  unfold Obligations.InputSamplesAreDebounced
  intro hsample
  obtain ⟨hruns, -, hbefore⟩ := State.stalledBeforeSample_waits
  obtain ⟨-, -, hafter⟩ := State.stalledBeforeSample_homes
  obtain ⟨x, hexec, hportal, -⟩ := hsample 0 confirmingPins (Vector.replicate 5 0) State.stalledBeforeSample hruns
  rw [State.slice_of_complete hexec (State.complete_sampleTick hruns)] at hportal
  rw [hportal, hbefore] at hafter
  exact absurd hafter (by decide)

/-! ### An excitation that ends within its first millisecond (R187) -/

section
variable {e : Env} {k : Fin 4} {sl : Slice}

/-- With neither module's excitation on, the class of a resistance input stays held once the hold ends. -/
theorem Slice.excitationHoldEnd_held (hmode : cfgInpAnMode e.p e.i k = 1) (hoff : sl.inp.an[k].exciting = false) (htwin : e.twinDrives = false) :
    (sl.excitationHoldEnd e).inp.an[k].held = true := by
  have hheld : (sl.excitationHoldEnd e).inp.an[k].held = e.anHolds k { sl.inp.an[k] with settling := false } := by simp [Slice.excitationHoldEnd, Slice.refreshHeld]
  rw [hheld]
  unfold Env.anHolds
  rw [hoff, htwin]
  simp [hmode]

theorem State.excitationHoldEnd_held {i : Fin 16} {t : Nat} {s : State} {x : Slice} (hruns : s.sliceRuns i = true) (hsettle : s.slices[i].inp.settleAt = some t)
    (hmode : cfgInpAnMode s.params i k = 1) (hoff : s.slices[i].inp.an[k].exciting = false) (htwin : s.twn.auth.inp = false)
    (hexec : exec (.excitationHoldEnd i) s = .next ((s.advance (t + 1000000)).modSlice i fun _ => x).draw) : x.inp.an[k].held = true := by
  rw [State.slice_of_complete hexec (State.complete_onSliceAt hruns (congrArg (Option.map _) hsettle) _)]
  exact Slice.excitationHoldEnd_held hmode hoff htwin

end

/-- AN0 of slice 0 measures a resistance. The power gate has opened on the readback of AUTH_OUT and closed again on its loss, within 1 ms. -/
def State.excitationCut : State := ((State.runningWith [(cfgKey 0x13 (16 + 128), 1)]).authReadback true).authReadback false

theorem State.excitationCut_settles :
    State.excitationCut.sliceRuns 0 = true ∧ State.excitationCut.slices[(0 : Fin 16)].inp.settleAt = some 0 ∧
      State.excitationCut.slices[(0 : Fin 16)].inp.an[(0 : Fin 4)].settling = true := by decide +kernel

theorem State.excitationCut_stands :
    cfgInpAnMode State.excitationCut.params (0 : Fin 16) (0 : Fin 4) = 1 ∧ State.excitationCut.slices[(0 : Fin 16)].inp.an[(0 : Fin 4)].exciting = false ∧
      State.excitationCut.twn.auth.inp = false := by decide +kernel

/-- Refutes O24, by its clause that EXCITATION_HOLD_END releases every class that was settling.
The power gate can close within the 1 ms of the hold. The excitation is then off on both modules when the hold ends, and the class holds on for that reason (R187). -/
theorem not_analogueAndEncoderInputs : ¬ Obligations.AnalogueAndEncoderInputs := by
  unfold Obligations.AnalogueAndEncoderInputs
  intro ⟨_, _, hholdEnd, _⟩
  obtain ⟨hruns, hsettle, hsettling⟩ := State.excitationCut_settles
  obtain ⟨hmode, hoff, htwin⟩ := State.excitationCut_stands
  obtain ⟨x, hexec, -, -, -, -, -, hinputs⟩ := hholdEnd 0 0 State.excitationCut hruns hsettle
  obtain ⟨-, -, -, hreleased⟩ := hinputs 0
  have hheld : x.inp.an[(0 : Fin 4)].held = true := State.excitationHoldEnd_held hruns hsettle hmode hoff htwin hexec
  rw [hreleased hsettling] at hheld
  exact absurd hheld (by decide)

end Sys2Proof.Machine
end

section
/-! PROOFS. The protection of a load switch: O25. -/

namespace Sys2Proof.Machine

/-! ### A command that acts on a power island -/

section
variable {i : Fin 16} {s : State}

theorem State.complete_onPower (hpower : s.powerUp i = true) (f : Env → Slice → Slice) : State.complete (s.onPower i f) = .next (s.modSlice i fun _ => f (s.env i) s.slices[i]).draw :=
  congrArg State.complete (State.onPower_of_runs i f s hpower)

/-- A function that leaves its slice as it is leaves the module as it is. -/
theorem State.complete_onPower_idle {f : Env → Slice → Slice} (h : f (s.env i) s.slices[i] = s.slices[i]) : State.complete (s.onPower i f) = .next s.draw := by
  refine congrArg State.complete ?_
  unfold State.onPower
  split
  · have hself : s.slices.set i s.slices[i] = s.slices := by simp
    rw [State.modSlice, h, hself]
  · rfl

/-- A command that its timer gives, by what it does to its slice once the instant has come (R33). -/
theorem State.complete_onPowerAt_of_act {due : Env → Slice → Option Nat} {f : Env → Slice → Slice} {t : Nat} {x : Slice} (hpower : s.powerUp i = true)
    (hdue : due (s.env i) s.slices[i] = some t) (hact : t ≤ ((s.advance t).env i).now → f ((s.advance t).env i) s.slices[i] = x) :
    State.complete (s.onPowerAt i due f) = .next ((s.advance t).modSlice i fun _ => x).draw := by
  rw [← hact (State.advance_reaches ..)]
  exact State.complete_onPowerAt hpower hdue f

end

/-! ### One channel of a slice -/

/-- From `x` to `y` channel `k` has become `c`; the other channels, the portal, the axes, the inputs and the car bus stand. -/
structure Slice.ChannelBecomes (k : Fin 6) (c : Channel) (x y : Slice) : Prop where
  own : y.sw.ch[k] = c
  others : ∀ j : Fin 6, j ≠ k → y.sw.ch[j] = x.sw.ch[j]
  portal : y.portal = x.portal
  axes : y.axes = x.axes
  inp : y.inp = x.inp
  can : y.can = x.can

namespace Slice.ChannelBecomes
variable {k : Fin 6} {c : Channel} {x y : Slice}

theorem start (k : Fin 6) (x : Slice) : ChannelBecomes k x.sw.ch[k] x x := ⟨rfl, fun _ _ => rfl, rfl, rfl, rfl, rfl⟩

theorem modCh (h : ChannelBecomes k c x y) (f : Channel → Channel) : ChannelBecomes k (f c) x (y.modCh k f) where
  own := by simp [h.own]
  others j hj := by simpa [Fin.val_ne_of_ne hj.symm] using h.others j hj
  portal := h.portal
  axes := h.axes
  inp := h.inp
  can := h.can

/-- An event and the fault display stand beside the channels. -/
theorem event (h : ChannelBecomes k c x y) (e : Env) (n code ch : Nat) : ChannelBecomes k c x (y.switchEvent e n code ch) :=
  ⟨h.own, h.others, h.portal, h.axes, h.inp, h.can⟩

/-- A diagnostic flag that is newly set is counted. -/
theorem diagSet (h : ChannelBecomes k c x y) (e : Env) (code : Nat) : ChannelBecomes k { c with cntDiag := satInc 255 c.cntDiag } x (y.diagSet e k code) :=
  (h.modCh fun c => { c with cntDiag := satInc 255 c.cntDiag }).event e 9 code k.val

end Slice.ChannelBecomes

/-! ### Current limiting, trips and retries (R203 to R208) -/

section
variable {e : Env} {k : Fin 6} {sl : Slice}

theorem Slice.limitEntry_enters (hon : sl.sw.ch[k].st = .on) (hfree : sl.sw.ch[k].limiting = false) :
    sl.limitEntry k = sl.modCh k fun c => { c with limiting := true, cntLimit := satInc 255 c.cntLimit } :=
  if_pos (by rw [hon, hfree]; rfl)

/-- A channel that has tripped, with `limit` retries (R205). -/
def Channel.tripped (now dt limit : Nat) (c : Channel) : Channel :=
  let latched := decide (limit < c.trips + 1)
  { c.off now with
    trips := c.trips + 1, deltaT := min 255 dt, tripAt := now,
    st := if latched then .latchedOff else .thermalOff, cntTrips := satInc 255 c.cntTrips,
    cntLatch := if latched then satInc 255 c.cntLatch else c.cntLatch }

theorem Slice.thermalTrip_spec {dt : Nat} {x : Slice} (hon : sl.sw.ch[k].st = .on) (hhot : sl.sw.tripLimit k ≤ dt) (hx : x = sl.thermalTrip e k dt) :
    Slice.ChannelBecomes k (sl.sw.ch[k].tripped e.now dt sl.sw.tether.stored.retryLimit[k]) sl x ∧ x.sw.faultCode = if sl.sw.tether.stored.retryLimit[k] < sl.sw.ch[k].trips + 1 then 2 else 1 := by
  have htrip := (Slice.ChannelBecomes.start k sl).modCh fun _ => sl.sw.ch[k].tripped e.now dt sl.sw.tether.stored.retryLimit[k]
  obtain rfl := hx.trans (if_pos ⟨hon, hhot⟩)
  exact ⟨htrip.event e 8 _ k.val, by simp [Slice.switchEvent]⟩

theorem Slice.thermalTrip_cool {dt : Nat} (hcool : (dt : Int) < sl.sw.tripLimit k) : sl.thermalTrip e k dt = sl :=
  if_neg fun h => absurd h.2 (Int.not_le.mpr hcool)

/-- A channel whose trip or latch has ended, by what its island and its supply allow (R199, R202, R208). -/
def Env.reopened (e : Env) (k : Nat) (x : Switches) (c : Channel) : Channel :=
  if c.cmd && x.enabled then e.turnOn k x.supply x.unarbitrated c else { c with st := .off }

theorem Env.reopened_spec {k : Nat} {x : Switches} {c d : Channel} (hd : d = e.reopened k x c) :
    (c.cmd = false ∨ x.enabled = false ∨ x.supply = false → d.st = .off) ∧
      (c.cmd = true → x.enabled = true → x.supply = true → e.enrolled k = false ∨ x.unarbitrated = true → d.st = .on) ∧
      (c.cmd = true → x.enabled = true → x.supply = true → e.enrolled k = true → x.unarbitrated = false → d.st = .waiting ∧ d.req.isWaiting = true) ∧
      d.cmd = c.cmd ∧ d.trips = c.trips := by
  by_cases hwanted : (c.cmd && x.enabled) = true
  · obtain ⟨hcmd, henabled⟩ := (Bool.and_eq_true ..).mp hwanted
    obtain rfl : d = e.turnOn k x.supply x.unarbitrated c := hd.trans (if_pos hwanted)
    obtain ⟨hkeepsCmd, hkeepsTrips, -⟩ := Env.turnOn_keeps (e := e) (k := k) (supply := x.supply) (unarb := x.unarbitrated) (c := c)
    refine ⟨fun h => ?_, fun _ _ hsupply hfree => (Env.turnOn_free hsupply hfree).1, fun _ _ hsupply henrolled harb => Env.turnOn_enrolled hsupply henrolled harb, hkeepsCmd, hkeepsTrips⟩
    have hsupply : x.supply = false := by simpa [hcmd, henabled] using h
    exact Env.turnOn_unsupplied hsupply
  · obtain rfl : d = { c with st := .off } := hd.trans (if_neg hwanted)
    have hnever (hcmd : c.cmd = true) (henabled : x.enabled = true) : False := hwanted (by rw [hcmd, henabled]; rfl)
    exact ⟨fun _ => rfl, fun hcmd henabled => (hnever hcmd henabled).elim, fun hcmd henabled => (hnever hcmd henabled).elim, rfl, rfl⟩

/-- The wait of a channel that has cooled ends (R205). -/
theorem Slice.retryEnd_reopens {dt : Nat} (htripped : sl.sw.ch[k].st = .thermalOff) (hover : sl.sw.ch[k].tripAt + ms sl.sw.tether.stored.retryDelay[k] ≤ e.now)
    (hcool : dt + 20 ≤ sl.sw.tether.stored.dtTrip[k]) : Slice.ChannelBecomes k (e.reopened k.val sl.sw { sl.sw.ch[k] with deltaT := min 255 dt }) sl (sl.retryEnd e k dt) := by
  have hready : (decide (sl.sw.ch[k].st = .thermalOff) && decide (sl.sw.ch[k].tripAt + ms sl.sw.tether.stored.retryDelay[k] ≤ e.now) && decide (dt + 20 ≤ sl.sw.tether.stored.dtTrip[k])) = true := by
    rw [decide_eq_true htripped, decide_eq_true hover, decide_eq_true hcool]
    rfl
  have heq : sl.retryEnd e k dt = (sl.modCh k fun c => { c with deltaT := min 255 dt }).reopenChannel e k := if_pos hready
  rw [heq]
  exact ((Slice.ChannelBecomes.start k sl).modCh fun c => { c with deltaT := min 255 dt }).modCh fun c => e.reopened k.val sl.sw c

theorem Slice.tripReset_on (hon : sl.sw.ch[k].st = .on) (hover : sl.sw.ch[k].onAt + ms (sl.sw.tether.stored.retryReset[k] * 1000) ≤ e.now) :
    sl.tripReset e k = sl.modCh k fun c => { c with trips := 0 } :=
  if_pos (by rw [decide_eq_true hon, decide_eq_true hover]; rfl)

theorem Slice.tripReset_uncommanded (hcmd : sl.sw.ch[k].cmd = false) (hover : sl.sw.ch[k].cmdOffAt + ms (sl.sw.tether.stored.retryReset[k] * 1000) ≤ e.now) :
    sl.tripReset e k = sl.modCh k fun c => { c with trips := 0 } :=
  if_pos (by rw [hcmd, decide_eq_true hover]; exact Bool.or_true _)

/-! ### Clamp pulses (R209, R210) -/

/-- A clamp pulse at its end, over the limit of its interval or not. -/
def Channel.clamped (now mj : Nat) (exceeds : Bool) (c : Channel) : Channel :=
  { c with clampEnergy := min 65535 mj, clampAt := some now, overLimit := if exceeds then satInc 65535 c.overLimit else c.overLimit }

theorem Slice.clampEnd_spec {mj : Nat} {x : Slice} {exceeds : Bool} (hexceeds : exceeds = clampOver (decide (k.val < 2)) (sl.sw.ch[k].clampAt.map fun t => e.now - t) mj) (hx : x = sl.clampEnd e k mj) :
    Slice.ChannelBecomes k (sl.sw.ch[k].clamped e.now mj exceeds) sl x ∧ (exceeds = true → x.sw.faultCode = 6 ∧ x.sw.faultChannel = k.val) := by
  have hpulse : Slice.ChannelBecomes k (sl.sw.ch[k].clamped e.now mj exceeds) sl (sl.modCh k (Channel.clamped e.now mj exceeds)) := (Slice.ChannelBecomes.start k sl).modCh _
  unfold Slice.clampEnd at hx
  dsimp only at hx
  rw [← hexceeds] at hx
  cases exceeds with
  | false => exact ⟨hx ▸ hpulse, fun h => absurd h (by decide)⟩
  | true =>
    obtain ⟨hown, hothers, hportal, haxes, hinp, hcan⟩ := hpulse
    subst hx
    exact ⟨⟨hown, hothers, hportal, haxes, hinp, hcan⟩, fun _ => ⟨rfl, rfl⟩⟩

end

/-- Settles O25: each command by what it makes of its channel, in the slice as it stands or at the instant that its timer names. -/
theorem switchProtectionTripsAndRetries : Obligations.SwitchProtectionTripsAndRetries := by
  unfold Obligations.SwitchProtectionTripsAndRetries
  refine ⟨fun i k s hpower hon hfree => ?limits, fun i k dt s hpower hon hhot => ?trips, fun i k dt s hcool => ?cool, fun i k dt s hpower htripped hcool => ?retries,
    fun i k s hpower hon => ?resetOn, fun i k s hpower hoff hcmd => ?resetOff, fun i k mj s hpower => ?clamps⟩
  case limits =>
    exact (State.complete_onPower hpower _).trans (by rw [Slice.limitEntry_enters hon hfree]; rfl)
  case trips =>
    obtain ⟨x, hx⟩ : ∃ x, x = s.slices[i].thermalTrip (s.env i) k dt := ⟨_, rfl⟩
    have hexec : exec (.thermalTrip i k dt) s = .next (s.modSlice i fun _ => x).draw := hx ▸ State.complete_onPower hpower fun e sl => sl.thermalTrip e k dt
    obtain ⟨htrip, hcode⟩ := Slice.thermalTrip_spec hon hhot hx
    refine ⟨x, hexec, congrArg Channel.trips htrip.own, congrArg Channel.req htrip.own, congrArg Channel.tripAt htrip.own, ?_, hcode, htrip.others, htrip.portal, htrip.axes, htrip.inp, htrip.can⟩
    exact (congrArg Channel.st htrip.own).trans (by simp [Channel.tripped])
  case cool => exact State.complete_onPower_idle (Slice.thermalTrip_cool hcool)
  case retries =>
    have hexec := State.complete_onPowerAt (due := fun _ sl => sl.retryDue k) hpower (if_pos htripped) fun e sl => sl.retryEnd e k dt
    have hopen := Slice.retryEnd_reopens htripped (State.advance_reaches _ i s) hcool
    obtain ⟨hoff, hfree, henrolled, hcmd, htrips⟩ := Env.reopened_spec hopen.own
    exact ⟨_, hexec, hoff, hfree, henrolled, hcmd, htrips, hopen.others, hopen.portal, hopen.axes⟩
  case resetOn =>
    exact State.complete_onPowerAt_of_act (f := fun e sl => sl.tripReset e k) hpower (if_pos hon) fun hover => Slice.tripReset_on hon hover
  case resetOff =>
    have hdue : s.slices[i].tripDue k = some (s.slices[i].sw.ch[k].cmdOffAt + ms (s.slices[i].sw.tether.stored.retryReset[k] * 1000)) := (if_neg hoff).trans (if_neg (by rw [hcmd]; decide))
    exact State.complete_onPowerAt_of_act (f := fun e sl => sl.tripReset e k) hpower hdue fun hover => Slice.tripReset_uncommanded hcmd hover
  case clamps =>
    intro ovr
    obtain ⟨x, hx⟩ : ∃ x, x = s.slices[i].clampEnd (s.env i) k mj := ⟨_, rfl⟩
    have hexec : exec (.clampPulseEnd i k mj) s = .next (s.modSlice i fun _ => x).draw := hx ▸ State.complete_onPower hpower fun e sl => sl.clampEnd e k mj
    obtain ⟨hpulse, hfault⟩ := Slice.clampEnd_spec (exceeds := ovr) rfl hx
    refine ⟨x, hexec, ?_, ?_, ?_, ?_, hfault, hpulse.others, hpulse.portal, hpulse.axes⟩ <;> rw [hpulse.own] <;> rfl

end Sys2Proof.Machine
end

section
/-! PROOFS. The diagnostics of a load switch: O26. -/

namespace Sys2Proof.Machine

/-! ### Flags of a channel (R213) -/

/-- A flag is set and counted where it is due. -/
def Channel.flagged (due : Bool) (set : Channel → Channel) (c : Channel) : Channel := if due then { set c with cntDiag := satInc 255 (set c).cntDiag } else c

theorem Slice.ChannelBecomes.flagged {k : Fin 6} {c : Channel} {x y : Slice} (h : Slice.ChannelBecomes k c x y) (e : Env) (code : Nat) (due : Bool) (set : Channel → Channel) :
    Slice.ChannelBecomes k (c.flagged due set) x (if due then (y.modCh k set).diagSet e k code else y) := by
  cases due with
  | false => exact h
  | true => exact (h.modCh set).diagSet e code

section
variable {e : Env} {k : Fin 6} {sl : Slice}

/-! ### The off-state test (R211, R213) -/

/-- A channel whose test has read its output high in its first step or not, and open or not. -/
def Channel.tested (now : Nat) (high open_ : Bool) (c : Channel) : Channel :=
  { c with testedAt := some now, outputHigh := high, nShort := consec high c.nShort, nNoShort := consec (!high) c.nNoShort, nOpen := consec open_ c.nOpen, nNoOpen := consec (!open_) c.nNoOpen }

/-- The flags that three results without the condition clear. -/
def Channel.cleared (c : Channel) : Channel := { c with short := c.short && decide (c.nNoShort < 3), openLoad := c.openLoad && decide (c.nNoOpen < 3) }

/-- The flags after a test whose results stand in the channel. -/
def Channel.diagnosed (c : Channel) : Channel :=
  ((c.flagged (decide (3 ≤ c.nShort) && !c.short) fun c => { c with short := true }).flagged (decide (3 ≤ c.nOpen) && !c.openLoad) fun c => { c with openLoad := true }).cleared

/-- The same in the slice of the channel `c`. -/
def Slice.diagnose (e : Env) (k : Fin 6) (c : Channel) (y : Slice) : Slice :=
  let y := if decide (3 ≤ c.nShort) && !c.short then (y.modCh k fun c => { c with short := true }).diagSet e k 4 else y
  let y := if decide (3 ≤ c.nOpen) && !c.openLoad then (y.modCh k fun c => { c with openLoad := true }).diagSet e k 3 else y
  y.modCh k Channel.cleared

theorem Slice.ChannelBecomes.diagnose {c : Channel} {x y : Slice} (h : Slice.ChannelBecomes k c x y) : Slice.ChannelBecomes k c.diagnosed x (y.diagnose e k c) :=
  ((h.flagged e 4 _ _).flagged e 3 _ _).modCh Channel.cleared

/-- A channel is tested when it is off, not commanded and supplied in an enabled island, 100 ms after it went off and a second after its last test. -/
theorem Slice.offTest_tests {high1 high2 : Bool} (hflag : e.diagOff k.val = true) (henabled : sl.sw.enabled = true) (hsupply : sl.sw.supply = true) (hoff : sl.sw.ch[k].st = .off) (hcmd : sl.sw.ch[k].cmd = false)
    (hcommanded : sl.sw.ch[k].commanded = false) (hover : max (sl.sw.ch[k].offAt + ms 100) ((sl.sw.ch[k].testedAt.map fun t => t + ms 1000).getD 0) ≤ e.now) :
    Slice.ChannelBecomes k (sl.sw.ch[k].tested e.now high1 (high2 && !high1)).diagnosed sl (sl.offTest e k high1 high2) := by
  obtain ⟨hsince, htested⟩ := Nat.max_le.mp hover
  have hlast : (sl.sw.ch[k].testedAt.all fun t => decide (t + ms 1000 ≤ e.now)) = true := by
    cases hat : sl.sw.ch[k].testedAt with
    | none => rfl
    | some t =>
      have hsecond : t + ms 1000 ≤ e.now := by simpa only [hat, Option.map_some, Option.getD_some] using htested
      exact Option.all_some.trans (decide_eq_true hsecond)
  have hready : (e.diagOff k.val && sl.sw.enabled && sl.sw.supply && decide (sl.sw.ch[k].st = .off) && !sl.sw.ch[k].cmd && !sl.sw.ch[k].commanded && decide (sl.sw.ch[k].offAt + ms 100 ≤ e.now) &&
      sl.sw.ch[k].testedAt.all fun t => decide (t + ms 1000 ≤ e.now)) = true := by
    rw [hflag, henabled, hsupply, decide_eq_true hoff, hcmd, hcommanded, decide_eq_true hsince, hlast]
    rfl
  have htest := (Slice.ChannelBecomes.start k sl).modCh (Channel.tested e.now high1 (high2 && !high1))
  have hdiagnosis := htest.diagnose (e := e)
  have heq : sl.offTest e k high1 high2 = _ := if_pos hready
  rw [heq]
  exact htest.own ▸ hdiagnosis

theorem Channel.diagnosed_keeps {β : Type} (g : Channel → β) (hg : ∀ c short openLoad n, g { c with short := short, openLoad := openLoad, cntDiag := n } = g c) (c : Channel) : g c.diagnosed = g c := by
  have hflag {due : Bool} {set : Channel → Channel} (c : Channel) (hset : ∀ c n, g { set c with cntDiag := n } = g c) : g (c.flagged due set) = g c := by
    cases due with
    | false => rfl
    | true => exact hset c _
  have hshort := hflag (due := decide (3 ≤ c.nShort) && !c.short) (set := fun c => { c with short := true }) c fun c n => hg c true c.openLoad n
  have hopen := hflag (due := decide (3 ≤ c.nOpen) && !c.openLoad) (set := fun c => { c with openLoad := true }) (c.flagged (decide (3 ≤ c.nShort) && !c.short) fun c => { c with short := true }) fun c n => hg c c.short true n
  exact (hg _ _ _ _).trans (hopen.trans hshort)

/-- Three results in a row set a flag or clear it. -/
theorem Channel.diagnosed_flags (c : Channel) :
    c.diagnosed.short = ((c.short || decide (3 ≤ c.nShort)) && decide (c.nNoShort < 3)) ∧ c.diagnosed.openLoad = ((c.openLoad || decide (3 ≤ c.nOpen)) && decide (c.nNoOpen < 3)) := by
  unfold Channel.diagnosed Channel.cleared Channel.flagged
  cases hshort : decide (3 ≤ c.nShort) <;> cases hopen : decide (3 ≤ c.nOpen) <;> cases hs : c.short <;> cases ho : c.openLoad <;> simp [hs, ho]

/-- A channel after its test: what the test has read, the runs of its results, and the flags they set or clear. -/
theorem Channel.diagnosed_tested_spec {now : Nat} {high open_ : Bool} {c d : Channel} (hd : d = (c.tested now high open_).diagnosed) :
    d.st = c.st ∧ d.outputHigh = high ∧ d.testedAt = some now ∧ d.nShort = (if high then c.nShort + 1 else 0) ∧ d.nOpen = (if open_ then c.nOpen + 1 else 0) ∧
      (high = true → 2 ≤ c.nShort → d.short = true) ∧ (high = false → 2 ≤ c.nNoShort → d.short = false) ∧
      (open_ = true → 2 ≤ c.nOpen → d.openLoad = true) ∧ (open_ = false → 2 ≤ c.nNoOpen → d.openLoad = false) := by
  subst hd
  obtain ⟨hshort, hopen⟩ := (c.tested now high open_).diagnosed_flags
  refine ⟨Channel.diagnosed_keeps Channel.st (fun _ _ _ _ => rfl) _, Channel.diagnosed_keeps Channel.outputHigh (fun _ _ _ _ => rfl) _, Channel.diagnosed_keeps Channel.testedAt (fun _ _ _ _ => rfl) _,
    Channel.diagnosed_keeps Channel.nShort (fun _ _ _ _ => rfl) _, Channel.diagnosed_keeps Channel.nOpen (fun _ _ _ _ => rfl) _, fun hset hrun => ?_, fun hclear hrun => ?_, fun hset hrun => ?_, fun hclear hrun => ?_⟩
  · rw [hshort]
    simp [Channel.tested, consec, hset, hrun]
  · rw [hshort]
    simp [Channel.tested, consec, hclear, hrun]
  · rw [hopen]
    simp [Channel.tested, consec, hset, hrun]
  · rw [hopen]
    simp [Channel.tested, consec, hclear, hrun]

/-! ### The under-current flag (R212) -/

/-- The side of min_current on which a reading lies, and since when: the first of all counts from the switching on. -/
theorem Env.noteCurrent_side {k ma : Nat} {c : Channel} (hon : c.st = .on) :
    (e.noteCurrent k ma c).side = some (decide (ma < cfgLswMinCurrent e.p e.i k)) ∧ (e.noteCurrent k ma c).under = c.under ∧
      (e.noteCurrent k ma c).sideAt = if c.side = none then c.onAt else if c.side = some (decide (ma < cfgLswMinCurrent e.p e.i k)) then c.sideAt else e.now := by
  unfold Env.noteCurrent
  dsimp only
  rw [if_neg (not_not_intro hon)]
  cases hside : c.side with
  | none => exact ⟨rfl, rfl, rfl⟩
  | some b =>
    by_cases hb : b = decide (ma < cfgLswMinCurrent e.p e.i k)
    · simp [hb]
    · simp [hb]

/-- The flag of a channel whose side has stood for 100 ms. -/
def Channel.judged (now : Nat) (c : Channel) : Channel :=
  if now < c.sideAt + ms 100 then c else if c.side = some true then c.flagged (!c.under) fun c => { c with under := true } else { c with under := false }

/-- The same in the slice of the channel `c`. -/
def Slice.judge (e : Env) (k : Fin 6) (c : Channel) (y : Slice) : Slice :=
  if e.now < c.sideAt + ms 100 then y else if c.side = some true then (if c.under then y else (y.modCh k fun c => { c with under := true }).diagSet e k 5) else y.modCh k fun c => { c with under := false }

theorem Slice.ChannelBecomes.judge {c : Channel} {x y : Slice} (h : Slice.ChannelBecomes k c x y) : Slice.ChannelBecomes k (c.judged e.now) x (y.judge e k c) := by
  unfold Slice.judge Channel.judged
  split
  · exact h
  · split
    · have hflag := h.flagged e 5 (!c.under) fun c => { c with under := true }
      cases hunder : c.under <;> rw [hunder] at hflag <;> exact hflag
    · exact h.modCh fun c => { c with under := false }

theorem Channel.judged_spec (now : Nat) (c : Channel) :
    (c.judged now).st = c.st ∧ (c.judged now).current = c.current ∧ (c.judged now).side = c.side ∧ (c.judged now).sideAt = c.sideAt ∧
      (c.judged now).under = if now < c.sideAt + ms 100 then c.under else decide (c.side = some true) := by
  unfold Channel.judged
  split
  · exact ⟨rfl, rfl, rfl, rfl, rfl⟩
  · split
    next hbelow =>
      unfold Channel.flagged
      cases hunder : c.under <;> simp [hunder, hbelow]
    next habove => exact ⟨rfl, rfl, rfl, rfl, (decide_eq_false habove).symm⟩

theorem Slice.underCurrent_judges {ma : Nat} (hmin : cfgLswMinCurrent e.p e.i k.val ≠ 0) (hon : sl.sw.ch[k].st = .on) (hfree : sl.sw.ch[k].limiting = false) :
    Slice.ChannelBecomes k ((e.noteCurrent k.val ma sl.sw.ch[k]).judged e.now) sl (sl.underCurrent e k ma) := by
  have hready : (decide (cfgLswMinCurrent e.p e.i k.val ≠ 0) && decide (sl.sw.ch[k].st = .on) && !sl.sw.ch[k].limiting) = true := by
    rw [decide_eq_true hmin, decide_eq_true hon, hfree]
    rfl
  have hread := (Slice.ChannelBecomes.start k sl).modCh (e.noteCurrent k.val ma)
  have hjudged := hread.judge (e := e)
  have heq : sl.underCurrent e k ma = _ := if_pos hready
  rw [heq]
  exact hread.own ▸ hjudged

/-- A reading of a channel that is on: on the side of the one before, or as the first of all, it sets or clears the flag; on the other side its time begins anew. -/
theorem Channel.judged_noteCurrent_spec {k ma : Nat} {c d : Channel} (hon : c.st = .on) (hover : (if c.side = none then c.onAt else c.sideAt) + ms 100 ≤ e.now) (hd : d = (e.noteCurrent k ma c).judged e.now) :
    d.st = .on ∧ d.current = min 65535 ma ∧ d.side = some (decide (ma < cfgLswMinCurrent e.p e.i k)) ∧
      (c.side = none ∨ c.side = some (decide (ma < cfgLswMinCurrent e.p e.i k)) → d.under = decide (ma < cfgLswMinCurrent e.p e.i k)) ∧
      (c.side = some (!decide (ma < cfgLswMinCurrent e.p e.i k)) → d.under = c.under ∧ d.sideAt = e.now) := by
  obtain ⟨hst, hcurrent, -⟩ := Env.noteCurrent_keeps (e := e) k ma c
  obtain ⟨hside, hunder, hsideAt⟩ := Env.noteCurrent_side (e := e) (k := k) (ma := ma) hon
  obtain ⟨hst', hcurrent', hside', hsideAt', hunder'⟩ := Channel.judged_spec e.now (e.noteCurrent k ma c)
  subst hd
  refine ⟨(hst'.trans hst).trans hon, hcurrent'.trans hcurrent, hside'.trans hside, fun h => ?_, fun h => ?_⟩
  · have hstood : ¬e.now < (e.noteCurrent k ma c).sideAt + ms 100 := by
      rw [hsideAt]
      rcases h with h | h <;> simpa [h] using hover
    rw [hunder', if_neg hstood, hside]
    simp
  · have hanew : (e.noteCurrent k ma c).sideAt = e.now := by rw [hsideAt, h]; simp
    refine ⟨?_, hsideAt'.trans hanew⟩
    rw [hunder', hanew, if_pos (Nat.lt_add_of_pos_right (by decide)), hunder]

end

/-- Settles O26: a test is the runs of its results and the flags they set or clear, a reading the side of min_current it lies on and the flag that 100 ms there give. -/
theorem switchDiagnosticsFlag : Obligations.SwitchDiagnosticsFlag := by
  unfold Obligations.SwitchDiagnosticsFlag
  refine ⟨fun i k h1 h2 s hpower hoff hcommanded hcmd hflag henabled hsupply => ?test, fun i k ma s hpower hon hfree hmin => ?reading⟩
  case test =>
    obtain ⟨due, hdueAt⟩ : ∃ due, due = max (s.slices[i].sw.ch[k].offAt + 100000000) ((s.slices[i].sw.ch[k].testedAt.map fun t => t + 1000000000).getD 0) := ⟨_, rfl⟩
    have hdue : s.slices[i].diagDue k = some due := hdueAt ▸ if_pos hoff
    have hover := (Nat.le_of_eq hdueAt.symm).trans (State.advance_reaches due i s)
    have htest := Slice.offTest_tests (e := (s.advance due).env i) (high1 := h1) (high2 := h2) hflag henabled hsupply hoff hcmd hcommanded hover
    obtain ⟨hst, hhigh, htested, hshort, hopen, hsetShort, hclearShort, hsetOpen, hclearOpen⟩ := Channel.diagnosed_tested_spec htest.own
    rw [← hdueAt]
    exact ⟨_, State.complete_onPowerAt hpower hdue _, hst.trans hoff, hhigh, htested, hshort, hopen, hsetShort, hclearShort, hsetOpen, hclearOpen, htest.others, htest.portal, htest.axes⟩
  case reading =>
    intro c below
    obtain ⟨due, hdueAt⟩ : ∃ due, due = (if c.side = none then c.onAt else c.sideAt) + 100000000 := ⟨_, rfl⟩
    have hsince : (if c.side.isSome then c.sideAt else c.onAt) = if c.side = none then c.onAt else c.sideAt := by cases c.side <;> rfl
    have hdue : s.slices[i].underDue k = some due := (if_pos hon).trans (congrArg (fun t => some (t + 100000000)) hsince |>.trans (congrArg some hdueAt.symm))
    have hover : (if c.side = none then c.onAt else c.sideAt) + ms 100 ≤ ((s.advance due).env i).now := (Nat.le_of_eq hdueAt.symm).trans (State.advance_reaches due i s)
    have hread := Slice.underCurrent_judges (e := (s.advance due).env i) (ma := ma) hmin hon hfree
    obtain ⟨hst, hcurrent, hside, hjudged, hanew⟩ := Channel.judged_noteCurrent_spec hon hover hread.own
    have hnow : ((s.advance due).env i).now = max s.now ((if c.side = none then c.onAt else c.sideAt) + 100000000) := congrArg (max s.now) hdueAt
    rw [← hdueAt]
    refine ⟨_, State.complete_onPowerAt hpower hdue _, hst, hcurrent, hside, hjudged, fun h => ?_, hread.others, hread.portal, hread.axes⟩
    obtain ⟨hunder, hsideAt⟩ := hanew h
    refine ⟨hunder, hsideAt.trans (hnow.trans ?_)⟩
    rw [if_neg (by rw [h]; exact Option.some_ne_none _)]

end Sys2Proof.Machine
end

section
/-! PROOFS. The resume of a restarted engine: O28. -/

namespace Sys2Proof.Machine

section
variable {e : Env} {sl : Slice}

/-! ### The car bus and the inputs of a restarted engine (R187, R333, R335) -/

/-- An engine that no longer waits, with its car bus and its excitation started anew. -/
def Slice.restarted (e : Env) (sl : Slice) : Slice :=
  let y := ({ sl with waitsResume := false } : Slice).canHandover e
  if e.gate then (y.canEnableGain e).setExcitation e true else y.refreshHeld e

theorem Slice.clearErrors_eq : ∃ can iq, sl.clearErrors e = { sl with can := can, iq := iq } := by
  unfold Slice.clearErrors
  dsimp only
  split <;> exact ⟨_, _, rfl⟩

theorem Slice.canEnableGain_eq : ∃ can iq, sl.canEnableGain e = { sl with can := can, iq := iq } := by
  unfold Slice.canEnableGain
  split
  · split
    · exact ⟨_, _, rfl⟩
    · exact Slice.clearErrors_eq (sl := sl.modCan fun c => { c with mode := .normal })
  · exact ⟨_, _, rfl⟩

theorem Slice.restarted_eq : ∃ can iq inp, sl.restarted e = { sl with waitsResume := false, can := can, iq := iq, inp := inp } := by
  unfold Slice.restarted
  dsimp only
  split
  · obtain ⟨can, iq, hgain⟩ := Slice.canEnableGain_eq (e := e) (sl := ({ sl with waitsResume := false } : Slice).canHandover e)
    rw [hgain]
    exact ⟨_, _, _, rfl⟩
  · exact ⟨_, _, _, rfl⟩

/-! ### What deciding moves and entering a state leave of the power side -/

/-- The switches of a slice, whether it waits, and one axis's drive, position and homed flag. -/
def Slice.powerSide (a : Fin 3) (sl : Slice) : Switches × Bool × Drive × Int × Bool := (sl.sw, sl.waitsResume, sl.axes[a].d, sl.axes[a].m.pos, sl.axes[a].m.homed)

section
variable {a b : Fin 3}

theorem Slice.powerSide_modM {f : Motion → Motion} (hpos : ∀ m, (f m).pos = m.pos) (hhomed : ∀ m, (f m).homed = m.homed) : (sl.modM b f).powerSide a = sl.powerSide a := by
  by_cases hab : b = a
  · subst hab
    simp [Slice.powerSide, hpos, hhomed]
  · simp [Slice.powerSide, Fin.val_ne_of_ne hab]

theorem Slice.powerSide_askGrant : (sl.askGrant e b).powerSide a = sl.powerSide a := by
  unfold Slice.askGrant
  split
  · exact Slice.powerSide_modM (fun _ => rfl) fun _ => rfl
  · rfl

theorem Slice.powerSide_decideMove (mv : Move) : (sl.decideMove e b mv).powerSide a = sl.powerSide a :=
  Slice.powerSide_askGrant.trans (Slice.powerSide_modM (fun _ => rfl) fun _ => rfl)

theorem Slice.powerSide_decideLeaf (set : Nat) (pos : Fin 3 → Int) : (sl.decideLeaf e set pos).powerSide a = sl.powerSide a := by
  unfold Slice.decideLeaf
  split
  · split
    · rfl
    · exact Slice.powerSide_decideMove _
  · rfl

theorem Slice.powerSide_decideAux (pos : Fin 3 → Int) : (sl.decideAux e pos).powerSide a = sl.powerSide a := by
  refine forAxes_keeps (Slice.powerSide a) _ (fun b sl => ?_) sl
  split
  · exact Slice.powerSide_decideMove _
  · rfl

theorem Slice.powerSide_endCycle (st : PState) (cause : Nat) : (sl.endCycle e st cause).powerSide a = sl.powerSide a := by
  unfold Slice.endCycle
  split
  · dsimp only
    split <;> rfl
  · rfl

theorem Slice.powerSide_enter (st : PState) (ph : Phase) : (sl.enter e st ph).powerSide a = sl.powerSide a := by
  unfold Slice.enter
  extract_lets _ _ _ _ _ _ _ entered settled
  have hsettled : settled.powerSide a = sl.powerSide a := by
    unfold settled
    split
    · rfl
    · exact forAxes_keeps (Slice.powerSide a) (fun b sl => sl.modM b fun m => { m with learnable := false }) (fun _ _ => Slice.powerSide_modM (fun _ => rfl) fun _ => rfl) entered
  split
  · exact (Slice.powerSide_endCycle _ _).trans hsettled
  · exact hsettled

theorem Slice.powerSide_enterHoming (warn : Bool) : (sl.enterHoming e warn).powerSide a = sl.powerSide a := Slice.powerSide_enter _ _

theorem Slice.powerSide_resumeFrom (st : PState) : (sl.resumeFrom e st).powerSide a = sl.powerSide a := by
  unfold Slice.resumeFrom
  extract_lets unhomed stands opened target
  split
  · exact Slice.powerSide_enterHoming true
  · split
    · exact Slice.powerSide_enterHoming true
    · have hopened : opened.powerSide a = sl.powerSide a := (Slice.powerSide_decideAux _).trans (Slice.powerSide_enter _ _)
      split
      · exact (Slice.powerSide_decideLeaf (sl := opened) _ _).trans hopened
      · exact hopened
    · exact (Slice.powerSide_decideAux _).trans (Slice.powerSide_enter _ _)
    · exact Slice.powerSide_enter _ _
    · exact (Slice.powerSide_decideLeaf _ _).trans (Slice.powerSide_enter _ _)
    · rfl

theorem Slice.powerSide_resumeHeld : (sl.resumeHeld e).powerSide a = sl.powerSide a := by
  unfold Slice.resumeHeld
  dsimp only
  split
  · exact Slice.powerSide_resumeFrom _
  · rfl

end

/-! ### The state in which a portal stands again (R224) -/

theorem Slice.enterHoming_st (warn : Bool) : (sl.enterHoming e warn).portal.st = .homing := congrArg Prod.fst (sl.enter_look e .homing (if warn || !sl.s1 e then .warn else .move))

/-- Every enabled axis is homed. -/
def Slice.enabledHomed (e : Env) (sl : Slice) : Bool := allAxes fun a => !e.enabledAxis a || sl.axes[a].m.homed

theorem Slice.enabledHomed_iff : sl.enabledHomed e = true ↔ ∀ a : Fin 3, e.enabledAxis a = true → sl.axes[a].m.homed = true := by
  have hall (f : Fin 3 → Bool) : allAxes f = true ↔ ∀ a, f a = true := by simp [allAxes, Fin.forall_fin_succ, and_assoc]
  rw [Slice.enabledHomed, hall]
  refine forall_congr' fun a => ?_
  cases e.enabledAxis a <;> simp

theorem Slice.resumeFrom_stands {st : PState} (h : st = .fault ∨ st = .isolated ∨ st = .emergency) : (sl.resumeFrom e st).portal.st = st := by
  rcases h with h | h | h <;> subst h <;> rfl

theorem Slice.resumeFrom_locked_homed (h : sl.enabledHomed e = true) : (sl.resumeFrom e .locked).portal.st = .locked :=
  congrArg (fun y : Slice => y.portal.st) (if_neg (show ¬(!false && !sl.enabledHomed e) = true by rw [h]; decide))

theorem Slice.resumeFrom_locked_unhomed (h : sl.enabledHomed e = false) : (sl.resumeFrom e .locked).portal.st = .homing :=
  (congrArg (fun y : Slice => y.portal.st) (if_pos (show (!false && !sl.enabledHomed e) = true by rw [h]; rfl))).trans (Slice.enterHoming_st true)

/-- A portal stands again as its region held it: as it was in a module that does not drive and in the states that need no homing, locked where every enabled axis is homed, else homing. -/
theorem Slice.resumeHeld_st {x : Slice} (hx : x = sl.resumeHeld e) :
    (e.active = false → x.portal.st = sl.held.st) ∧ (sl.held.st = .fault ∨ sl.held.st = .isolated ∨ sl.held.st = .emergency → x.portal.st = sl.held.st) ∧
      (e.active = true → sl.held.st = .locked → sl.enabledHomed e = true → x.portal.st = .locked) ∧ (e.active = true → sl.held.st = .locked → sl.enabledHomed e = false → x.portal.st = .homing) := by
  subst hx
  unfold Slice.resumeHeld
  dsimp only
  cases e.active with
  | false => exact ⟨fun _ => rfl, fun _ => rfl, fun h => absurd h (by decide), fun h => absurd h (by decide)⟩
  | true =>
    refine ⟨fun h => absurd h (by decide), fun h => Slice.resumeFrom_stands h, fun _ hlocked hhomed => ?_, fun _ hlocked hunhomed => ?_⟩ <;> rw [if_pos rfl] <;> dsimp only [Slice.modPortal_held] <;> rw [hlocked]
    · exact Slice.resumeFrom_locked_homed hhomed
    · exact Slice.resumeFrom_locked_unhomed hunhomed

/-! ### What an engine reads back (R223) -/

/-- What stays commanded while a channel waits: its retry keeps the command, and its supply too. -/
theorem Channel.readBack_waiting (supply : Bool) (c : Channel) : (c.st = .thermalOff → (c.readBack supply).commanded = c.cmd) ∧ (c.st = .off → (c.readBack supply).commanded = (c.cmd && !supply)) := by
  refine ⟨fun h => ?_, fun h => ?_⟩ <;> simp [Channel.readBack, h]

/-- An engine that has read its power island back, as its first frame shows it. -/
def Slice.tiedAgain (e : Env) (sl : Slice) : Slice := ((sl.tetherResume e sl.heldHomed).modTether fun t => { t with resumed := true }).hearPower

/-- What of a slice says how its engine resumes. -/
def Slice.resumption (sl : Slice) : Bool × Portal := (sl.waitsResume, sl.held)

theorem Slice.tetherResume_resumption (homed : Vector Bool 3) : (sl.tetherResume e homed).resumption = sl.resumption := by
  obtain ⟨r, hr⟩ : ∃ r, r = forChannels (fun k y => y.modCh k (Channel.readBack sl.sw.supply)) sl := ⟨_, rfl⟩
  obtain ⟨y, hy⟩ : ∃ y, y = forAxes (fun a sl => sl.axisBack a homed[a]) r := ⟨_, rfl⟩
  have hchannels : r.resumption = sl.resumption := hr ▸ forChannels_keeps Slice.resumption _ (fun _ _ => rfl) sl
  have haxes : y.resumption = r.resumption := hy ▸ forAxes_keeps Slice.resumption _ (fun _ _ => rfl) r
  rw [Slice.tetherResume, ← hr, ← hy]
  exact haxes.trans hchannels

theorem Slice.tiedAgain_spec {x : Slice} (hx : x = sl.tiedAgain e) :
    x.waitsResume = sl.waitsResume ∧ x.held = sl.held ∧ x.sw.tether.resumed = true ∧ x.sw.tether.st = .refreshed ∧ (∀ k : Fin 6, x.sw.ch[k] = sl.sw.ch[k].readBack sl.sw.supply) ∧
      ∀ a : Fin 3, x.axes[a] = sl.axes[a].back sl.sw.tether.axes[a] sl.heldHomed[a] := by
  obtain ⟨y, hy⟩ : ∃ y, y = sl.tetherResume e sl.heldHomed := ⟨_, rfl⟩
  obtain ⟨-, htether, hch, haxes⟩ := Slice.tetherResume_spec hy
  have hresumption : y.resumption = sl.resumption := hy ▸ Slice.tetherResume_resumption _
  obtain ⟨hwaits, hheld⟩ := Prod.mk.inj hresumption
  have hst : y.sw.tether.st = .refreshed := by rw [htether]
  obtain rfl : x = (y.modTether fun t => { t with resumed := true }).hearPower := hx.trans (by rw [hy]; rfl)
  exact ⟨hwaits, hheld, rfl, hst, hch, haxes⟩

end

/-! ### ENGINE_RESUME -/

section
variable {i : Fin 16} {s : State}

/-- What an engine that waits makes of its slice. -/
def Slice.engineBack (e : Env) (sl : Slice) : Slice :=
  let y := sl.restarted e
  if sl.sw.tether.storedValid then (y.tiedAgain e).resumeHeld e
  else if e.active && (List.finRange 3).any fun a => e.enabledAxis a then (y.modPortal y.held.fromHeld).enterHoming e true
  else y.resumeHeld e

theorem State.complete_engineResume (hconfigured : s.configured = true) (hup : s.engineUp i = true) (hwaits : s.slices[i].waitsResume = true) :
    exec (.engineResume i) s = .next (s.modSlice i fun _ => s.slices[i].engineBack (s.env i)).draw :=
  congrArg State.complete (if_neg (by rw [hconfigured, hup, hwaits]; decide))

theorem State.complete_engineResume_idle (hresumed : s.slices[i].waitsResume = false) : exec (.engineResume i) s = .next s.draw :=
  congrArg State.complete (if_pos (by rw [hresumed, Bool.and_false]; rfl))

end

section
variable {e : Env} {sl : Slice}

/-- An engine whose power island has kept its parameters. -/
theorem Slice.engineBack_stored {x : Slice} (hstored : sl.sw.tether.storedValid = true) (hx : x = sl.engineBack e) :
    ∃ y : Slice, y.held = sl.held ∧ x = y.resumeHeld e ∧ y.waitsResume = false ∧ y.sw.tether.resumed = true ∧ y.sw.tether.st = .refreshed ∧ (∀ k : Fin 6, y.sw.ch[k] = sl.sw.ch[k].readBack sl.sw.supply) ∧
      ∀ a : Fin 3, y.axes[a] = sl.axes[a].back sl.sw.tether.axes[a] sl.heldHomed[a] := by
  obtain ⟨can, iq, inp, hrestarted⟩ := Slice.restarted_eq (e := e) (sl := sl)
  obtain ⟨hwaits, hheld, hresumed, hst, hch, haxes⟩ := Slice.tiedAgain_spec (e := e) (sl := sl.restarted e) rfl
  refine ⟨(sl.restarted e).tiedAgain e, ?_, hx.trans (if_pos hstored), ?_, hresumed, hst, ?_, ?_⟩
  · rw [hheld, hrestarted]
  · rw [hwaits, hrestarted]
  · simpa only [hrestarted] using hch
  · simpa only [hrestarted] using haxes

/-- An engine whose power island has reset too, with an axis to home. -/
theorem Slice.engineBack_homes {a : Fin 3} {x : Slice} (hstored : sl.sw.tether.storedValid = false) (hactive : e.active = true) (henabled : e.enabledAxis a = true) (hx : x = sl.engineBack e) :
    x.waitsResume = false ∧ x.portal.st = .homing ∧ x.sw.ch = sl.sw.ch := by
  obtain ⟨y, hy⟩ : ∃ y, y = sl.restarted e := ⟨_, rfl⟩
  obtain ⟨can, iq, inp, hrestarted⟩ := Slice.restarted_eq (e := e) (sl := sl)
  have hhomes : (e.active && (List.finRange 3).any fun a => e.enabledAxis a) = true := by
    rw [hactive, Bool.true_and]
    exact List.any_eq_true.mpr ⟨a, List.mem_finRange a, henabled⟩
  have hxy : x = (y.modPortal y.held.fromHeld).enterHoming e true := by
    rw [hx, hy]
    exact (if_neg (by rw [hstored]; decide)).trans (if_pos hhomes)
  have hside : x.powerSide 0 = y.powerSide 0 := hxy ▸ Slice.powerSide_enterHoming true
  simp only [Slice.powerSide, Prod.mk.injEq] at hside
  obtain ⟨hsw, hwaits, -⟩ := hside
  refine ⟨?_, hxy ▸ Slice.enterHoming_st true, ?_⟩
  · rw [hwaits, hy, hrestarted]
  · rw [hsw, hy, hrestarted]

end

/-- Settles O28: the engine reads its power island back and its portal stands again from its region; neither the move nor the homing that follows touches what was read back. -/
theorem engineResumesFromItsPowerIsland : Obligations.EngineResumesFromItsPowerIsland := by
  unfold Obligations.EngineResumesFromItsPowerIsland
  refine ⟨fun i s hconfigured hup hwaits hstored => ?kept, fun i a s hconfigured hup hwaits hstored hactive henabled => ?homes, fun i s hresumed => State.complete_engineResume_idle hresumed⟩
  case kept =>
    obtain ⟨x, hx⟩ : ∃ x, x = s.slices[i].engineBack (s.env i) := ⟨_, rfl⟩
    obtain ⟨y, hheld, hxy, hresumes, hresumed, hst, hch, haxes⟩ := Slice.engineBack_stored hstored hx
    have hside (a : Fin 3) : x.powerSide a = y.powerSide a := hxy ▸ Slice.powerSide_resumeHeld
    simp only [Slice.powerSide, Prod.mk.injEq] at hside
    obtain ⟨hsw, hnowaits, -⟩ := hside 0
    have hdrive (a : Fin 3) : x.axes[a].d = (s.slices[i].axes[a].back s.slices[i].sw.tether.axes[a] s.slices[i].heldHomed[a]).d := (hside a).2.2.1.trans (congrArg Axis.d (haxes a))
    have hhomed (a : Fin 3) : y.axes[a].m.homed = (s.slices[i].heldHomed[a] && s.slices[i].sw.tether.axes[a].valid) := congrArg (fun z : Axis => z.m.homed) (haxes a)
    obtain ⟨hstandby, hstands, hlocked, hhoming⟩ := Slice.resumeHeld_st hxy
    rw [hheld] at hstandby hstands hlocked hhoming
    refine ⟨x, hx ▸ State.complete_engineResume hconfigured hup hwaits, hnowaits.trans hresumes, ?_, ?_, fun a => ?_, fun k => ?_, fun k => ?_, fun _ a => ?_, hstandby, hstands, fun hactive hst hall => ?_, fun hactive hst hsome => ?_⟩
    · rw [hsw, hresumed]
    · rw [hsw, hst]
    · obtain ⟨-, -, -, hpos, hkept⟩ := hside a
      exact ⟨hpos.trans (congrArg (fun z : Axis => z.m.pos) (haxes a)), hkept.trans (hhomed a)⟩
    · rw [hsw, hch k]
      exact (Channel.readBack_spec ..).1
    · rw [hsw, hch k]
      obtain ⟨-, hon, hlatched⟩ := Channel.readBack_spec s.slices[i].sw.supply s.slices[i].sw.ch[k]
      obtain ⟨hthermal, hoff⟩ := Channel.readBack_waiting s.slices[i].sw.supply s.slices[i].sw.ch[k]
      exact ⟨hon, hthermal, hoff, hlatched⟩
    · rw [hdrive a]
      exact ⟨rfl, rfl, rfl⟩
    · exact hlocked hactive hst (Slice.enabledHomed_iff.mpr fun a ha => (hhomed a).trans (hall a ha))
    · obtain ⟨a, ha, hunhomed⟩ := hsome
      refine hhoming hactive hst (Bool.eq_false_iff.mpr fun h => ?_)
      have hboth := Slice.enabledHomed_iff.mp h a ha
      rw [hhomed a, hunhomed] at hboth
      exact absurd hboth (by decide)
  case homes =>
    obtain ⟨x, hx⟩ : ∃ x, x = s.slices[i].engineBack (s.env i) := ⟨_, rfl⟩
    exact ⟨x, hx ▸ State.complete_engineResume hconfigured hup hwaits, Slice.engineBack_homes hstored hactive henabled hx⟩

end Sys2Proof.Machine
end

section
/-! PROOFS. The requests that stand at Belay's requesters: one request of a slice, the requests of a group, and one grant. -/

namespace Sys2Proof.Machine

/-! ### One request of a slice (R234) -/

/-- The items of a slice's requesters: its switches, then its axes. -/
abbrev switchItem (k : Fin 6) : Fin 9 := ⟨k.val, by omega⟩
abbrev axisItem (a : Fin 3) : Fin 9 := ⟨6 + a.val, by omega⟩

theorem item_cases (j : Fin 9) : (∃ k : Fin 6, j = switchItem k) ∨ ∃ a : Fin 3, j = axisItem a := by
  by_cases h : j.val < 6
  · exact .inl ⟨⟨j.val, h⟩, rfl⟩
  · exact .inr ⟨⟨j.val - 6, by omega⟩, Fin.ext (show j.val = 6 + (j.val - 6) by omega)⟩

theorem switchItem_injective {i k : Fin 6} (h : switchItem i = switchItem k) : i = k := Fin.ext (congrArg (fun j : Fin 9 => j.val) h)

theorem axisItem_sub (a : Fin 3) (h : (axisItem a).val - 6 < 3) : (⟨(axisItem a).val - 6, h⟩ : Fin 3) = a := Fin.ext (Nat.add_sub_cancel_left ..)

section
variable (sl : Slice) (k : Fin 6) (a : Fin 3) (j : Fin 9) (q : Req)

theorem Slice.reqOf_switch : sl.reqOf (switchItem k) = sl.sw.ch[k].req := dif_pos k.isLt
theorem Slice.reqOf_axis : sl.reqOf (axisItem a) = sl.axes[a].m.req := by
  rw [Slice.reqOf, dif_neg (by simp)]
  exact congrArg (fun b : Fin 3 => sl.axes[b].m.req) (axisItem_sub a _)

theorem Slice.setReq_switch : sl.setReq (switchItem k) q = sl.modCh k fun c => { c with req := q } := dif_pos k.isLt
theorem Slice.setReq_axis : sl.setReq (axisItem a) q = sl.modM a fun m => { m with req := q } := by
  rw [Slice.setReq, dif_neg (by simp), axisItem_sub]

theorem Slice.reqOf_congr {x y : Slice} (hch : y.sw.ch = x.sw.ch) (haxes : y.axes = x.axes) : y.reqOf j = x.reqOf j := by
  simp only [Slice.reqOf, hch, haxes]

theorem Slice.reqOf_switchEvent (e : Env) (n code ch : Nat) : (sl.switchEvent e n code ch).reqOf j = sl.reqOf j := Slice.reqOf_congr j rfl rfl
theorem Slice.reqOf_modPortal (f : Portal → Portal) : (sl.modPortal f).reqOf j = sl.reqOf j := Slice.reqOf_congr j rfl rfl

/-- What changes one channel changes no other request. -/
theorem Slice.reqOf_modCh_other (f : Channel → Channel) {l : Fin 9} (h : l ≠ switchItem k) : (sl.modCh k f).reqOf l = sl.reqOf l := by
  obtain ⟨i, rfl⟩ | ⟨b, rfl⟩ := item_cases l
  · have hne : k.val ≠ i.val := fun e => h (Fin.ext e.symm)
    rw [Slice.reqOf_switch, Slice.reqOf_switch]
    simp [hne]
  · rw [Slice.reqOf_axis, Slice.reqOf_axis, Slice.modCh_axes]

/-- What changes one axis changes no other request. -/
theorem Slice.reqOf_modM_other (f : Motion → Motion) {l : Fin 9} (h : l ≠ axisItem a) : (sl.modM a f).reqOf l = sl.reqOf l := by
  obtain ⟨i, rfl⟩ | ⟨b, rfl⟩ := item_cases l
  · rw [Slice.reqOf_switch, Slice.reqOf_switch, Slice.modM_sw]
  · have hne : a.val ≠ b.val := fun e => h (Fin.ext (congrArg (6 + ·) e.symm))
    rw [Slice.reqOf_axis, Slice.reqOf_axis]
    simp [hne]

theorem Slice.reqOf_setReq_same : (sl.setReq j q).reqOf j = q := by
  obtain ⟨k, rfl⟩ | ⟨a, rfl⟩ := item_cases j
  · simp [Slice.setReq_switch, Slice.reqOf_switch]
  · simp [Slice.setReq_axis, Slice.reqOf_axis]

theorem Slice.reqOf_setReq_other {l : Fin 9} (h : l ≠ j) : (sl.setReq j q).reqOf l = sl.reqOf l := by
  obtain ⟨k, rfl⟩ | ⟨a, rfl⟩ := item_cases j
  · rw [Slice.setReq_switch]; exact sl.reqOf_modCh_other k _ h
  · rw [Slice.setReq_axis]; exact sl.reqOf_modM_other a _ h

/-- What of a slice is no request: its portal and its teach cycle, the loss of its arbiter, the states of its channels and the positions of its axes. -/
def Slice.besideRequests (sl : Slice) : Portal × Option TeachRun × Bool × (Fin 6 → ChState) × (Fin 3 → Int) :=
  (sl.portal, sl.teach, sl.sw.unarbitrated, fun k => sl.sw.ch[k].st, fun a => sl.axes[a].m.pos)

theorem Slice.besideRequests_setReq : (sl.setReq j q).besideRequests = sl.besideRequests := by
  obtain ⟨k, rfl⟩ | ⟨a, rfl⟩ := item_cases j
  · have hst (i : Fin 6) : (sl.setReq (switchItem k) q).sw.ch[i].st = sl.sw.ch[i].st := by
      rw [Slice.setReq_switch]
      by_cases h : k = i
      · subst h; simp
      · simp [Fin.val_ne_of_ne h]
    simp only [Slice.besideRequests, hst]
    rw [Slice.setReq_switch]
    rfl
  · have hpos (b : Fin 3) : (sl.setReq (axisItem a) q).axes[b].m.pos = sl.axes[b].m.pos := by
      rw [Slice.setReq_axis]
      by_cases h : a = b
      · subst h; simp
      · simp [Fin.val_ne_of_ne h]
    simp only [Slice.besideRequests, hpos]
    rw [Slice.setReq_axis]
    rfl

/-- Requests that end one after another. -/
theorem Slice.reqOf_foldl_setReq (items : List (Fin 9)) : (items.foldl (fun sl j => sl.setReq j .idle) sl).reqOf j = if j ∈ items then .idle else sl.reqOf j := by
  induction items generalizing sl with
  | nil => simp
  | cons l t ih =>
    rw [List.foldl_cons, ih]
    by_cases h : j = l
    · subst h; simp [Slice.reqOf_setReq_same]
    · simp [h, Slice.reqOf_setReq_other]

end

/-! ### The requests of a group (R234, R235) -/

section
variable {s t : State} {g : Fin 2}

theorem State.req_setReq_same (r : Requester) (q : Req) (s : State) : (s.setReq r q).req r = q := by
  simp [State.req, State.setReq, Slice.reqOf_setReq_same]

theorem State.req_setReq_other {r x : Requester} (h : x ≠ r) (q : Req) (s : State) : (s.setReq r q).req x = s.req x := by
  obtain ⟨i, j⟩ := r
  obtain ⟨i', j'⟩ := x
  show (s.modSlice i _).slices[i'].reqOf j' = s.slices[i'].reqOf j'
  by_cases hi : i' = i
  · subst hi
    rw [State.modSlice_same rfl]
    exact Slice.reqOf_setReq_other _ _ _ fun hj => h (by rw [hj])
  · rw [State.modSlice_other (Fin.val_ne_of_ne hi)]

theorem State.req_of_slices (h : t.slices = s.slices) (r : Requester) : t.req r = s.req r := congrArg (fun v : Vector Slice 16 => v[r.1].reqOf r.2) h

/-- What decides which requesters a group has, and what each of them draws (R234, R235). -/
def State.roster (s : State) : Cfg × Bool × Mem := (s.cfg, s.small, s.params)

/-- The same requesters with the same requests. -/
structure State.SameRequests (s t : State) : Prop where
  roster : t.roster = s.roster
  req : ∀ r, t.req r = s.req r

theorem State.SameRequests.of_slices (hroster : t.roster = s.roster) (hslices : t.slices = s.slices) : s.SameRequests t := ⟨hroster, State.req_of_slices hslices⟩

theorem State.requesters_of_roster (h : t.roster = s.roster) : t.requesters g = s.requesters g := by
  simp only [State.roster, Prod.mk.injEq] at h
  obtain ⟨hcfg, hsmall, hparams⟩ := h
  have henrolled (r : Requester) : (t.env r.1).enrolled r.2 = (s.env r.1).enrolled r.2 :=
    congrArg (fun p => (cfgPrtPortalEnable p).testBit r.1.val && decide (cfgBlyClass p r.1.val r.2.val < 8)) hparams
  have hfilter : (fun r : Requester => decide (r.1.val < s.sliceCount) && (t.env r.1).enrolled r.2) = fun r => decide (r.1.val < s.sliceCount) && (s.env r.1).enrolled r.2 :=
    funext fun r => congrArg (decide (r.1.val < s.sliceCount) && ·) (henrolled r)
  have hcount : t.sliceCount = s.sliceCount := by simp only [State.sliceCount, hsmall]
  have hconfigured : t.configured = s.configured := by simp only [State.configured, hcfg]
  rw [State.requesters, hconfigured, hcount, hfilter]
  rfl

theorem State.inrushI_of_roster (h : t.roster = s.roster) (r : Requester) : t.inrushI r = s.inrushI r :=
  congrArg (fun x : Cfg × Bool × Mem => cfgBlyInrushCurrent x.2.2 (groupOf r.1).val (cfgBlyClass x.2.2 r.1 r.2)) h

theorem State.SameRequests.granted (h : s.SameRequests t) : t.granted g = s.granted g := by
  simp only [State.granted, State.requesters_of_roster h.roster, h.req]

theorem State.SameRequests.waiting (h : s.SameRequests t) : t.waiting g = s.waiting g := by
  simp only [State.waiting, State.requesters_of_roster h.roster, h.req]

theorem State.SameRequests.allocated (h : s.SameRequests t) : t.allocated g = s.allocated g := by
  simp only [State.allocated, h.granted, State.inrushI_of_roster h.roster]

/-- No requester stands twice in its group. -/
theorem groupSlots_nodup (g : Fin 2) : (groupSlots g).Nodup := by
  have hflat : groupSlots g = ((List.finRange 8) ×ˢ (List.finRange 9)).map fun x => (⟨g.val * 8 + x.1.val, by omega⟩, x.2) := by
    simp [groupSlots, SProd.sprod, List.product, List.map_flatMap, Function.comp_def]
  rw [hflat]
  refine ((List.nodup_finRange 8).product (List.nodup_finRange 9)).map fun x y h => ?_
  simp only [Prod.mk.injEq, Fin.mk.injEq] at h
  exact Prod.ext (Fin.ext (by omega)) h.2

theorem State.requesters_nodup (g : Fin 2) (s : State) : (s.requesters g).Nodup := by
  unfold State.requesters
  split
  · exact (groupSlots_nodup g).filter _
  · exact List.nodup_nil

theorem State.mem_granted {r : Requester} : r ∈ s.granted g ↔ r ∈ s.requesters g ∧ (s.req r).isGranted = true := List.mem_filter
theorem State.mem_waiting {r : Requester} : r ∈ s.waiting g ↔ r ∈ s.requesters g ∧ (s.req r).isWaiting = true := List.mem_filter

/-- A request that waits is not granted. -/
theorem State.not_granted_of_waiting {r : Requester} (h : r ∈ s.waiting g) : r ∉ s.granted g := by
  intro hg
  have hwaits := (State.mem_waiting.mp h).2
  have hgranted := (State.mem_granted.mp hg).2
  cases hr : s.req r <;> simp [hr, Req.isWaiting, Req.isGranted] at hwaits hgranted

theorem State.allocated_eq_sum (g : Fin 2) (s : State) : s.allocated g = ((s.granted g).map s.inrushI).sum := by
  rw [State.allocated, List.sum_eq_foldl, List.foldl_map]

/-! ### One grant (R240) -/

theorem State.grant_roster (g : Fin 2) (now : Nat) (r : Requester) (s : State) : (s.grant g now r).roster = s.roster := rfl

theorem State.req_grant_same (g : Fin 2) (now : Nat) (r : Requester) (s : State) : (s.grant g now r).req r = .granted now :=
  State.req_setReq_same ..

theorem State.req_grant_other (g : Fin 2) (now : Nat) {r x : Requester} (h : x ≠ r) (s : State) : (s.grant g now r).req x = s.req x :=
  State.req_setReq_other h ..

/-- A grant adds its requester to those that hold one. -/
theorem State.granted_grant {r : Requester} (now : Nat) (h : r ∈ s.waiting g) : ((s.grant g now r).granted g).Perm (r :: s.granted g) := by
  have hroster := State.requesters_of_roster (g := g) (s.grant_roster g now r)
  refine (List.perm_ext_iff_of_nodup ((State.requesters_nodup ..).filter _) (List.nodup_cons.mpr ⟨State.not_granted_of_waiting h, (State.requesters_nodup ..).filter _⟩)).mpr fun x => ?_
  rw [List.mem_cons, State.mem_granted, List.mem_filter, hroster]
  by_cases hx : x = r
  · subst hx
    simp [State.req_grant_same, (State.mem_waiting.mp h).1, Req.isGranted]
  · simp [State.req_grant_other g now hx, hx]

theorem State.allocated_grant {r : Requester} (now : Nat) (h : r ∈ s.waiting g) : (s.grant g now r).allocated g = s.inrushI r + s.allocated g := by
  have hsum := ((s.granted_grant now h).map s.inrushI).sum_nat
  have hcurrent : (s.grant g now r).inrushI = s.inrushI := funext (State.inrushI_of_roster (s.grant_roster g now r))
  rw [State.allocated_eq_sum, State.allocated_eq_sum, hcurrent, hsum, List.map_cons, List.sum_cons]

end

end Sys2Proof.Machine
end

section
/-! PROOFS. The arbitration rounds of Belay: rank order, the grants of a round, and what a round leaves: O30. -/

namespace Sys2Proof.Machine

/-! ### Rank order (R241, R242) -/

section
variable {s : State} {g : Fin 2}

theorem State.earliest_mem {r : Requester} {w : List Requester} (h : s.earliest w = some r) : r ∈ w := by
  induction w generalizing r with
  | nil => cases h
  | cons x t ih =>
    rw [State.earliest] at h
    split at h
    next => cases h; exact List.mem_cons_self
    next q hq =>
      split at h
      · cases h; exact List.mem_cons_of_mem _ (ih hq)
      · cases h; exact List.mem_cons_self

theorem State.byTicket_mem {r : Requester} {x acc : Nat} {w : List Requester} (h : s.byTicket x w acc = some r) : r ∈ w := by
  induction w generalizing acc with
  | nil => cases h
  | cons y t ih =>
    rw [State.byTicket] at h
    split at h
    · cases h; exact List.mem_cons_self
    · exact List.mem_cons_of_mem _ (ih h)

/-- Whichever way the group ranks, the first place goes to a request that waits. -/
theorem State.nextRanked_mem {r : Requester} {w : List Requester} (h : (s.nextRanked g w).1 = some r) : r ∈ w := by
  unfold State.nextRanked at h
  dsimp only at h
  split at h
  · exact State.earliest_mem h
  · exact State.byTicket_mem h

/-- A request that waits alone ranks first by its deadline. -/
theorem State.nextRanked_alone (h : (s.requesters g).length ≤ 24) (r : Requester) : s.nextRanked g [r] = (some r, s.groups[g].lfsr) := if_pos h

end

/-! ### A round's grants (R240) -/

/-- The LFSR of a group after a draw (R242). -/
def State.drawn (g : Fin 2) (l : Nat) (s : State) : State := s.modGroup g fun x => { x with lfsr := l }

section
variable {s : State} {g : Fin 2} (now n free : Nat)

theorem State.sameRequests_drawn (g : Fin 2) (l : Nat) (s : State) : s.SameRequests (s.drawn g l) := .of_slices rfl rfl

/-- One place of a round: none is given, or the first-ranked request is granted because it fits. -/
theorem State.grantLoop_cases (g : Fin 2) (s : State) :
    s.grantLoop g now (n + 1) free = s ∨ (∃ l, s.grantLoop g now (n + 1) free = s.drawn g l) ∨
      ∃ l r, r ∈ s.waiting g ∧ s.inrushI r ≤ free ∧ s.grantLoop g now (n + 1) free = ((s.drawn g l).grant g now r).grantLoop g now n (free - s.inrushI r) := by
  rw [State.grantLoop]
  dsimp only
  split
  · exact .inl rfl
  · split
    next => exact .inr (.inl ⟨_, rfl⟩)
    next r hr =>
      split
      next => exact .inr (.inl ⟨_, rfl⟩)
      next hfits => exact .inr (.inr ⟨_, r, State.nextRanked_mem hr, Nat.le_of_not_lt hfits, rfl⟩)

/-- A request that waits alone and fits is granted in the round's first place. -/
theorem State.grantLoop_alone {r : Requester} (hrank : (s.requesters g).length ≤ 24) (hwaits : s.waiting g = [r]) (hfits : s.inrushI r ≤ free) :
    ∃ l, s.grantLoop g now (n + 1) free = ((s.drawn g l).grant g now r).grantLoop g now n (free - s.inrushI r) := by
  refine ⟨s.groups[g].lfsr, ?_⟩
  rw [State.grantLoop]
  dsimp only
  rw [hwaits, State.nextRanked_alone hrank]
  exact (if_neg Bool.false_ne_true).trans (if_neg (Nat.not_lt.mpr hfits))

/-- What neither a draw nor a grant touches, a round's grants leave. -/
theorem State.grantLoop_keeps {β : Type} (p : State → β) (hdrawn : ∀ l s, p (State.drawn g l s) = p s) (hgrant : ∀ r s, p (State.grant g now r s) = p s) (s : State) :
    p (s.grantLoop g now n free) = p s := by
  induction n generalizing free s with
  | zero => rfl
  | succ n ih =>
    obtain heq | ⟨l, heq⟩ | ⟨l, r, -, -, heq⟩ := s.grantLoop_cases now n free g
    · rw [heq]
    · rw [heq, hdrawn]
    · rw [heq, ih, hgrant, hdrawn]

/-- A grant that is held stays: a round grants requests that wait, and ends none. -/
theorem State.grantLoop_holds {r : Requester} {since : Nat} (h : s.req r = .granted since) : (s.grantLoop g now n free).req r = .granted since := by
  induction n generalizing free s with
  | zero => exact h
  | succ n ih =>
    obtain heq | ⟨l, heq⟩ | ⟨l, x, hwaits, -, heq⟩ := s.grantLoop_cases now n free g
    · rw [heq, h]
    · rw [heq, (s.sameRequests_drawn g l).req, h]
    · have hother : r ≠ x := by
        rintro rfl
        have hstands := (State.mem_waiting.mp hwaits).2
        rw [h] at hstands
        exact absurd hstands Bool.false_ne_true
      rw [heq]
      exact ih _ ((State.req_grant_other g now hother _).trans (((s.sameRequests_drawn g l).req r).trans h))

/-- A round's grants draw no more than the free budget beside those held. -/
theorem State.grantLoop_allocated {budget : Nat} (h : free + s.allocated g ≤ budget) : (s.grantLoop g now n free).allocated g ≤ budget := by
  induction n generalizing free s with
  | zero => exact Nat.le_of_add_left_le h
  | succ n ih =>
    obtain heq | ⟨l, heq⟩ | ⟨l, r, hwaits, hfits, heq⟩ := s.grantLoop_cases now n free g
    · rw [heq]; omega
    · rw [heq, (s.sameRequests_drawn g l).allocated]; omega
    · have hsame := s.sameRequests_drawn g l
      have hgrant := (s.drawn g l).allocated_grant now (by rw [hsame.waiting]; exact hwaits)
      rw [State.inrushI_of_roster hsame.roster, hsame.allocated] at hgrant
      rw [heq]
      exact ih _ (by rw [hgrant]; omega)

end

/-! ### What a round leaves (R230, R240) -/

/-- What of a group its inputs and its oscillator set, and no grant. -/
def Group.board (x : Group) : Nat × Nat × Nat × Nat × Nat := (x.roundAt, x.loadV, x.motorV, x.loadI, x.motorI)

/-- What the grants of a round leave in the module: all but the requests and the counts of the group. -/
def State.besideRound (g : Fin 2) (s : State) :
    Nat × Hawser × (Cfg × Bool × Mem) × (Nat × Nat × Nat × Nat × Nat) × (Fin 2 → Option Group) × (Fin 16 → Portal × Option TeachRun × Bool × (Fin 6 → ChState) × (Fin 3 → Int)) :=
  (s.now, s.hws, s.roster, s.groups[g].board, fun h => if h = g then none else some s.groups[h], fun i => s.slices[i].besideRequests)

/-- The start of a round: the clock stands at it, and a measurement that is due falls in it. -/
def State.roundBegins (g : Fin 2) (m : GroupInputs) (s : State) : State :=
  let now := nextRound s.groups[g].roundAt s.now
  (s.advance now).modGroup g fun x => { x.measure now m with roundAt := now }

section
variable {s : State} {g : Fin 2}

theorem State.besideRound_modGroup {f : Group → Group} (hf : ∀ x, (f x).board = x.board) (g : Fin 2) (s : State) : (s.modGroup g f).besideRound g = s.besideRound g := by
  have hother : (fun h => if h = g then none else some (s.modGroup g f).groups[h]) = fun h : Fin 2 => if h = g then none else some s.groups[h] := by
    funext h
    split
    · rfl
    · rw [State.modGroup_group_other _ _ _ h ‹_›]
  have hboard : (s.modGroup g f).groups[g].board = s.groups[g].board := by rw [State.modGroup_group, hf]
  simp only [State.besideRound, hother, hboard]
  rfl

theorem State.besideRound_setReq (g : Fin 2) (r : Requester) (q : Req) (s : State) : (s.setReq r q).besideRound g = s.besideRound g := by
  have hslice (i : Fin 16) : (s.setReq r q).slices[i].besideRequests = s.slices[i].besideRequests := by
    by_cases hi : i.val = r.1.val
    · obtain rfl : i = r.1 := Fin.ext hi
      rw [State.setReq, State.modSlice_same rfl, Slice.besideRequests_setReq]
    · rw [State.setReq, State.modSlice_other hi]
  simp only [State.besideRound, hslice]
  rfl

theorem State.besideRound_grant (g : Fin 2) (now : Nat) (r : Requester) (s : State) : (s.grant g now r).besideRound g = s.besideRound g := by
  rw [State.grant, State.besideRound_modGroup (by intro; rfl), State.besideRound_setReq]

theorem State.besideRound_drawn (g : Fin 2) (l : Nat) (s : State) : (s.drawn g l).besideRound g = s.besideRound g := by
  rw [State.drawn, State.besideRound_modGroup (by intro; rfl)]

theorem State.besideRound_noteViews (g : Fin 2) (now : Nat) (s : State) : (s.noteViews g now).besideRound g = s.besideRound g := by
  unfold State.noteViews
  refine State.besideRound_modGroup (fun x => ?_) g s
  simp only [Group.board]

theorem State.sameRequests_noteViews (g : Fin 2) (now : Nat) (s : State) : s.SameRequests (s.noteViews g now) := .of_slices rfl rfl

theorem State.sameRequests_roundBegins (g : Fin 2) (m : GroupInputs) (s : State) : s.SameRequests (s.roundBegins g m) := .of_slices rfl rfl

theorem State.arbitrate_configured (m : GroupInputs) (hc : s.configured = true) (hg : s.hasGroup g = true) (hstage : s.start.stage ≠ .off) :
    s.arbitrate g m = (((s.roundBegins g m).noteViews g (nextRound s.groups[g].roundAt s.now)).grantLoop g (nextRound s.groups[g].roundAt s.now) 48
      (cfgBlyBudget s.params g - s.allocated g)).noteViews g (nextRound s.groups[g].roundAt s.now) := by
  rw [← (s.sameRequests_roundBegins g m).allocated]
  exact (if_neg (by simp [hg, hstage])).trans (if_pos hc)

theorem State.arbitrate_unconfigured (m : GroupInputs) (hc : s.configured = false) (hg : s.hasGroup g = true) (hstage : s.start.stage ≠ .off) : s.arbitrate g m = s.roundBegins g m :=
  (if_neg (by simp [hg, hstage])).trans (if_neg (Bool.eq_false_iff.mp hc))

theorem State.arbitrate_idle (m : GroupInputs) (h : s.hasGroup g = false ∨ s.start.stage = .off) : s.arbitrate g m = s :=
  if_pos (by rcases h with h | h <;> simp [h])

/-- Past its start a round of a configured node changes the requests and the counts of its group alone. -/
theorem State.besideRound_arbitrate (m : GroupInputs) (hc : s.configured = true) (hg : s.hasGroup g = true) (hstage : s.start.stage ≠ .off) :
    (s.arbitrate g m).besideRound g = (s.roundBegins g m).besideRound g := by
  rw [State.arbitrate_configured m hc hg hstage, State.besideRound_noteViews,
    State.grantLoop_keeps _ _ _ (State.besideRound g) (State.besideRound_drawn g) (State.besideRound_grant g _), State.besideRound_noteViews]

/-- A measurement that is due shows the inputs of the round (R230). -/
theorem Group.measure_due {now : Nat} (m : GroupInputs) {x : Group} (h : (x.measuredAt.all fun t => decide (t + 100000 ≤ now)) = true) :
    x.measure now m = { x with loadV := m.loadV, motorV := m.motorV, loadI := m.loadI, motorI := m.motorI, measuredAt := some now } := if_pos h

/-- A round keeps a group whose grants fit its budget within it (R240). -/
theorem State.allocated_arbitrate (m : GroupInputs) (hc : s.configured = true) (hg : s.hasGroup g = true) (hstage : s.start.stage ≠ .off) (hfits : s.allocated g ≤ cfgBlyBudget s.params g) :
    (s.arbitrate g m).allocated g ≤ cfgBlyBudget s.params g := by
  rw [State.arbitrate_configured m hc hg hstage, (State.sameRequests_noteViews ..).allocated]
  refine State.grantLoop_allocated _ _ _ ?_
  rw [(State.sameRequests_noteViews ..).allocated, (State.sameRequests_roundBegins ..).allocated]
  omega

/-- A request that waits alone and fits is granted in its round (R240). -/
theorem State.req_arbitrate_alone (m : GroupInputs) {r : Requester} (hc : s.configured = true) (hg : s.hasGroup g = true) (hstage : s.start.stage ≠ .off)
    (hrank : (s.requesters g).length ≤ 24) (hwaits : s.waiting g = [r]) (hfits : s.allocated g + s.inrushI r ≤ cfgBlyBudget s.params g) :
    (s.arbitrate g m).req r = .granted (nextRound s.groups[g].roundAt s.now) := by
  have hnoted := (s.roundBegins g m).sameRequests_noteViews g (nextRound s.groups[g].roundAt s.now)
  have hbegun := s.sameRequests_roundBegins g m
  have hroster := hnoted.roster.trans hbegun.roster
  obtain ⟨l, hloop⟩ := State.grantLoop_alone (nextRound s.groups[g].roundAt s.now) 47 (cfgBlyBudget s.params g - s.allocated g)
    ((congrArg List.length (State.requesters_of_roster hroster)).trans_le hrank) (hnoted.waiting.trans (hbegun.waiting.trans hwaits)) (by rw [State.inrushI_of_roster hroster]; omega)
  rw [State.arbitrate_configured m hc hg hstage, (State.sameRequests_noteViews ..).req, hloop]
  exact State.grantLoop_holds _ _ _ (State.req_grant_same ..)

end

/-- Settles O30: a grant adds its requester's inrush current to those held, and a round gives one only where it fits in the free budget. -/
theorem arbitrationKeepsTheBudget : Obligations.ArbitrationKeepsTheBudget := by
  refine ⟨fun g m s hc hg hstage => ?round, fun g m r s hc hg hstage hrank hwaits hfits => ?alone, fun g m s hc hg hstage => ?unconfigured, fun g m s h => ?idle⟩
  case round =>
    have hbeside := State.besideRound_arbitrate m hc hg hstage
    simp only [State.besideRound, Prod.mk.injEq] at hbeside
    obtain ⟨hnow, hhws, hroster, hboard, hother, hslices⟩ := hbeside
    have hgroup : (s.roundBegins g m).groups[g] = { s.groups[g].measure (nextRound s.groups[g].roundAt s.now) m with roundAt := nextRound s.groups[g].roundAt s.now } := State.modGroup_group ..
    rw [hgroup] at hboard
    simp only [State.roster, Group.board, Prod.mk.injEq] at hroster hboard
    obtain ⟨-, -, hparams⟩ := hroster
    obtain ⟨hround, hloadV, hmotorV, hloadI, hmotorI⟩ := hboard
    refine ⟨_, rfl, hnow, hround, hparams, hhws, fun h hne => ?_, fun hdue => ?_, fun i k => ?_, State.allocated_arbitrate m hc hg hstage⟩
    · have hh := congrFun hother h
      rw [if_neg hne, if_neg hne, Option.some.injEq] at hh
      exact hh.trans (State.modGroup_group_other _ _ _ h hne)
    · rw [Group.measure_due m hdue] at hloadV hmotorV hloadI hmotorI
      exact ⟨hloadV, hmotorV, hloadI, hmotorI⟩
    · have hslice := congrFun hslices i
      simp only [Slice.besideRequests, Prod.mk.injEq] at hslice
      obtain ⟨hportal, -, -, hst, -⟩ := hslice
      exact ⟨congrFun hst k, hportal⟩
  case alone => exact ⟨_, rfl, State.req_arbitrate_alone m hc hg hstage hrank hwaits hfits⟩
  case unconfigured => exact congrArg State.complete (State.arbitrate_unconfigured m hc hg hstage)
  case idle => exact congrArg State.complete (State.arbitrate_idle m h)

end Sys2Proof.Machine
end

section
/-! PROOFS. Grants that arrive and end, deadlines, the watchdog's bite, and the loss and return of the arbiter: O31. -/

namespace Sys2Proof.Machine

/-! ### Grants, inrush times and deadlines (R236, R237, R243) -/

section
variable {s : State} {i : Fin 16} {k : Fin 6} {a : Fin 3}

theorem State.setReq_switch (q : Req) : s.setReq (i, switchItem k) q = s.modSlice i fun sl => sl.modCh k fun c => { c with req := q } :=
  congrArg (s.modSlice i) (funext fun sl => sl.setReq_switch k q)

theorem State.setReq_axis (q : Req) : s.setReq (i, axisItem a) q = s.modSlice i fun sl => sl.modM a fun m => { m with req := q } :=
  congrArg (s.modSlice i) (funext fun sl => sl.setReq_axis a q)

/-- A waiting switch whose grant has arrived turns on (R236). -/
theorem State.grantArrival_waits (hpower : s.powerUp i = true) (hst : s.slices[i].sw.ch[k].st = .waiting) (hgranted : s.slices[i].sw.ch[k].req.isGranted = true) :
    s.grantArrival i (switchItem k) = s.modSlice i fun sl => sl.modCh k fun c => c.on s.now := by
  rw [State.grantArrival, State.onPower_of_runs _ _ _ hpower, State.modSlice, State.modSlice]
  refine congrArg (fun x => { s with slices := s.slices.set i x }) ?_
  exact (dif_pos k.isLt).trans (if_pos ⟨hst, hgranted⟩)

/-- The request of a switch ends t_c after it came on, while it does not limit (R236). -/
theorem State.inrushExpiry_switch (hgranted : s.slices[i].sw.ch[k].req.isGranted = true) (hst : s.slices[i].sw.ch[k].st = .on) (hfree : s.slices[i].sw.ch[k].limiting = false) :
    s.inrushExpiry i (switchItem k) = (s.advance (s.slices[i].sw.ch[k].onAt + ms (s.inrushT (i, switchItem k)))).setReq (i, switchItem k) .idle := by
  have hreq : (s.req (i, switchItem k)).isGranted = true := by rw [State.req, Slice.reqOf_switch]; exact hgranted
  rw [State.inrushExpiry]
  dsimp only
  rw [if_neg (by simp [hreq]), dif_pos k.isLt]
  exact if_pos ⟨hst, hfree⟩

/-- The request of an axis ends t_c after its inrush began (R237). -/
theorem State.inrushExpiry_axis {start : Nat} (hgranted : s.slices[i].axes[a].m.req.isGranted = true) (hstart : s.slices[i].axes[a].m.inrushFrom = some start) :
    s.inrushExpiry i (axisItem a) = (s.advance (start + ms (s.inrushT (i, axisItem a)))).setReq (i, axisItem a) .idle := by
  have hreq : (s.req (i, axisItem a)).isGranted = true := by rw [State.req, Slice.reqOf_axis]; exact hgranted
  have hfrom (h : (axisItem a).val - 6 < 3) : s.slices[i].axes[(⟨(axisItem a).val - 6, h⟩ : Fin 3)].m.inrushFrom = some start :=
    (congrArg (fun b : Fin 3 => s.slices[i].axes[b].m.inrushFrom) (axisItem_sub a h)).trans hstart
  rw [State.inrushExpiry]
  dsimp only
  rw [if_neg (by simp [hreq]), dif_neg (by simp), hfrom]

/-- The inrush of a granted axis begins with its first microstep under the grant (R237). -/
theorem Motion.inrushFrom_microstep {m : Motion} {since first : Nat} (hreq : m.req = .granted since) (hfirst : m.firstAt = some first) (h : since ≤ first) : m.inrushFrom = some first := by
  simp only [Motion.inrushFrom, hreq, hfirst, if_pos h]

/-- A request at its deadline is missed, with the group's event (R243). -/
theorem State.deadlineMissed_waits {j : Fin 9} {since deadline : Nat} (h : s.req (i, j) = .waiting since deadline false) :
    ∃ index, s.deadlineMissed i j = ((s.advance deadline).setReq (i, j) (.waiting since deadline true)).blyEvent (groupOf i) 3 1 index :=
  ⟨_, by rw [State.deadlineMissed]; dsimp only; rw [h]⟩

theorem State.deadlineMissed_idle {j : Fin 9} (h : ∀ since deadline, s.req (i, j) ≠ .waiting since deadline false) : s.deadlineMissed i j = s := by
  rw [State.deadlineMissed]
  dsimp only
  split
  next since deadline hreq => exact absurd hreq (h since deadline)
  next => rfl

end

/-! ### The loss of the arbiter and its return (R246) -/

/-- A channel that waits comes on without its grant. -/
def Channel.freed (now : Nat) (c : Channel) : Channel := if c.st = .waiting then { c.on now with req := .idle } else c

def Slice.freeChannel (now : Nat) (k : Fin 6) (sl : Slice) : Slice := if sl.sw.ch[k].st = .waiting then sl.modCh k fun c => { c.on now with req := .idle } else sl

/-- What the loss of the arbiter makes of a slice. -/
def Slice.arbiterLost (now : Nat) (sl : Slice) : Slice :=
  forAxes (fun a sl => if sl.axes[a].m.req.isWaiting then sl.modM a fun m => { m with req := .idle } else sl)
    (forChannels (fun k sl => sl.freeChannel now k) (sl.modSw fun x => { x with unarbitrated := true }))

theorem Slice.arbiterLost_channels (now : Nat) (sl : Slice) :
    forChannels (fun k sl => sl.freeChannel now k) sl = sl.withCh (Vector.ofFn fun k => sl.sw.ch[k].freed now) := by
  refine forChannels_each (fun _ c => c.freed now) _ fun k v => ?_
  have hself : (sl.withCh v).modCh k (fun c => c) = sl.withCh v := by simp [Slice.withCh, Slice.modCh, Slice.modSw]
  by_cases h : v[k].st = .waiting
  · exact (if_pos h).trans (congrArg (fun c => sl.withCh (v.set k c)) (if_pos h).symm)
  · refine (if_neg h).trans (hself.symm.trans ?_)
    exact congrArg (fun c => sl.withCh (v.set k c)) (if_neg h).symm

theorem Slice.arbiterLost_sw (now : Nat) (sl : Slice) : (sl.arbiterLost now).sw = { sl.sw with unarbitrated := true, ch := Vector.ofFn fun k => sl.sw.ch[k].freed now } := by
  rw [Slice.arbiterLost, forAxes_keeps Slice.sw _ (fun a x => by split <;> rfl), Slice.arbiterLost_channels]
  rfl

theorem Slice.arbiterLost_portal (now : Nat) (sl : Slice) : (sl.arbiterLost now).portal = sl.portal := by
  rw [Slice.arbiterLost, forAxes_keeps Slice.portal _ (fun a x => by split <;> rfl), Slice.arbiterLost_channels]
  rfl

theorem Slice.arbiterLost_channel (now : Nat) (k : Fin 6) (sl : Slice) : (sl.arbiterLost now).sw.ch[k] = sl.sw.ch[k].freed now := by
  simp [Slice.arbiterLost_sw]

theorem State.arbiterLost_up {i : Fin 16} {s : State} (hpower : s.powerUp i = true) (harb : s.slices[i].sw.unarbitrated = false) :
    s.arbiterLost i = (s.modSlice i (·.arbiterLost s.now)).blyEvent (groupOf i) 4 1 i.val :=
  if_neg (by simp only [hpower, harb]; decide)

/-- What the return of the arbiter makes of a slice: none of its requesters holds a request. -/
def Slice.arbiterBack (sl : Slice) : Slice := (List.finRange 9).foldl (fun sl j => sl.setReq j .idle) (sl.modSw fun x => { x with unarbitrated := false })

theorem Slice.arbiterBack_idle (j : Fin 9) (sl : Slice) : sl.arbiterBack.reqOf j = .idle :=
  (Slice.reqOf_foldl_setReq _ j _).trans (if_pos (List.mem_finRange j))

theorem Slice.arbiterBack_beside (sl : Slice) : sl.arbiterBack.besideRequests = (sl.modSw fun x => { x with unarbitrated := false }).besideRequests :=
  foldl_keeps Slice.besideRequests _ (fun x j => x.besideRequests_setReq j .idle) _ _

theorem State.arbiterBack_unarbitrated {i : Fin 16} {s : State} (h : s.slices[i].sw.unarbitrated = true) : s.arbiterBack i = s.modSlice i fun _ => s.slices[i].arbiterBack := by
  rw [State.arbiterBack, if_pos h, State.modSlice, State.modSlice]
  rfl

/-! ### The watchdog's bite (R244, R245) -/

/-- From `x` to `y` the request of item `j` has ended, and a stuck switch may have gone off: no request is raised, and none but `j`'s ends outside a teach cycle. -/
structure Slice.Revokes (j : Fin 9) (x y : Slice) : Prop where
  ended : y.reqOf j = .idle
  idle : ∀ l, x.reqOf l = .idle → y.reqOf l = .idle
  stands : x.teach = none → y.teach = none ∧ ∀ l, l ≠ j → y.reqOf l = x.reqOf l
  channel : ∀ k, switchItem k ≠ j → y.sw.ch[k] = x.sw.ch[k]
  latched : ∀ k : Fin 6, x.sw.ch[k].st = .latchedOff → y.sw.ch[k].st = .latchedOff

section
variable {e : Env} (sl : Slice) (j : Fin 9) (k : Fin 6) (a : Fin 3)

theorem Slice.sw_setReq_other (q : Req) {k : Fin 6} (h : switchItem k ≠ j) : (sl.setReq j q).sw.ch[k] = sl.sw.ch[k] := by
  obtain ⟨i, rfl⟩ | ⟨a, rfl⟩ := item_cases j
  · have hne : i.val ≠ k.val := fun e => h (Fin.ext e.symm)
    simp [Slice.setReq_switch, hne]
  · rw [Slice.setReq_axis, Slice.modM_sw]

/-- A holder that was not stuck loses its request alone (R245). -/
theorem Slice.setReq_revokes : sl.Revokes j (sl.setReq j .idle) := by
  have hbeside := sl.besideRequests_setReq j .idle
  simp only [Slice.besideRequests, Prod.mk.injEq] at hbeside
  obtain ⟨-, hteach, -, hst, -⟩ := hbeside
  refine ⟨sl.reqOf_setReq_same j _, fun l hl => ?_, fun hnone => ⟨hteach.trans hnone, fun l hl => sl.reqOf_setReq_other j _ hl⟩, fun k hk => sl.sw_setReq_other j _ hk, fun k hk => (congrFun hst k).trans hk⟩
  by_cases h : l = j
  · subst h; exact sl.reqOf_setReq_same l _
  · rw [sl.reqOf_setReq_other j _ h, hl]

theorem Slice.forceOff_switch : sl.forceOff e (switchItem k) = (sl.modCh k fun c => { c.off e.now with st := .latchedOff, cntLatch := satInc 255 c.cntLatch }).switchEvent e 8 2 k.val :=
  dif_pos k.isLt

/-- An axis that is forced off stops, with its teach cycle, and the portal takes fault cause 11. -/
def Slice.axisForcedOff (e : Env) (sl : Slice) (a : Fin 3) : Slice :=
  (sl.teachBreak.modM a fun m => { m.stop with req := .idle, needsGrant := sl.homingDue e a }).modPortal fun q => { q with cause11 := true }

theorem Slice.forceOff_axis : sl.forceOff e (axisItem a) = sl.axisForcedOff e a := by
  rw [Slice.forceOff, dif_neg (by simp)]
  exact congrArg (sl.axisForcedOff e) (axisItem_sub a _)

theorem Slice.forceOff_latches : (sl.forceOff e (switchItem k)).sw.ch[k].st = .latchedOff := by
  rw [Slice.forceOff_switch]
  simp [Slice.switchEvent]

theorem Slice.forceOff_switch_revokes : sl.Revokes (switchItem k) (sl.forceOff e (switchItem k)) := by
  have hreq : (sl.forceOff e (switchItem k)).reqOf (switchItem k) = .idle := by
    rw [Slice.reqOf_switch, Slice.forceOff_switch]
    simp [Slice.switchEvent, Channel.off]
  have hother (l : Fin 9) (hl : l ≠ switchItem k) : (sl.forceOff e (switchItem k)).reqOf l = sl.reqOf l := by
    rw [Slice.forceOff_switch, Slice.reqOf_switchEvent, Slice.reqOf_modCh_other _ _ _ hl]
  have hchannel (i : Fin 6) (hi : switchItem i ≠ switchItem k) : (sl.forceOff e (switchItem k)).sw.ch[i] = sl.sw.ch[i] := by
    have hne : k.val ≠ i.val := fun e => hi (Fin.ext e.symm)
    rw [Slice.forceOff_switch]
    simp [Slice.switchEvent, hne]
  refine ⟨hreq, fun l hl => ?_, fun hnone => ⟨?_, hother⟩, hchannel, fun i hi => ?_⟩
  · by_cases h : l = switchItem k
    · rw [h, hreq]
    · rw [hother l h, hl]
  · rw [Slice.forceOff_switch]; exact hnone
  · by_cases h : switchItem i = switchItem k
    · obtain rfl := switchItem_injective h
      exact sl.forceOff_latches i
    · rw [hchannel i h, hi]

theorem Motion.stop_req (m : Motion) : m.stop.req = .idle := by
  unfold Motion.stop
  dsimp only
  split <;> rfl

/-- A teach cycle that breaks off raises no request and leaves the switches. -/
theorem Slice.teachBreak_requests : sl.teachBreak.sw = sl.sw ∧ ∀ l, sl.reqOf l = .idle → sl.teachBreak.reqOf l = .idle := by
  unfold Slice.teachBreak
  split
  next t ht =>
    split
    · exact ⟨rfl, fun _ h => h⟩
    · refine ⟨forAxes_keeps Slice.sw _ (fun _ _ => rfl) _, fun l hl => ?_⟩
      obtain ⟨k, rfl⟩ | ⟨a, rfl⟩ := item_cases l
      · rw [Slice.reqOf_switch] at hl ⊢
        exact (congrArg (fun x : Switches => x.ch[k].req) (forAxes_keeps Slice.sw _ (fun _ _ => rfl) _)).trans hl
      · rw [Slice.reqOf_axis]
        have hstop := forAxes_at (fun a sl => sl.axes[a].m) (fun _ m => m.stop) (fun a sl => sl.modM a Motion.stop) (by simp) (fun a b x hb => by simp [Fin.val_ne_of_ne hb]) a
        exact (congrArg Motion.req (hstop _)).trans (Motion.stop_req _)
  next => exact ⟨rfl, fun _ h => h⟩

theorem Slice.forceOff_axis_revokes : sl.Revokes (axisItem a) (sl.forceOff e (axisItem a)) := by
  obtain ⟨hsw, hidle⟩ := sl.teachBreak_requests
  have hother (l : Fin 9) (hl : l ≠ axisItem a) : (sl.forceOff e (axisItem a)).reqOf l = sl.teachBreak.reqOf l := by
    rw [Slice.forceOff_axis, Slice.axisForcedOff, Slice.reqOf_modPortal, Slice.reqOf_modM_other _ _ _ hl]
  have hswitches : (sl.forceOff e (axisItem a)).sw = sl.sw := by rw [Slice.forceOff_axis]; exact hsw
  have hreq : (sl.forceOff e (axisItem a)).reqOf (axisItem a) = .idle := by
    rw [Slice.reqOf_axis, Slice.forceOff_axis]
    simp [Slice.axisForcedOff, Slice.modPortal]
  refine ⟨hreq, fun l hl => ?_, fun hnone => ⟨?_, fun l hl => ?_⟩, fun k _ => by rw [hswitches], fun k hk => by rw [hswitches, hk]⟩
  · by_cases h : l = axisItem a
    · rw [h, hreq]
    · rw [hother l h, hidle l hl]
  · have hteach := congrArg Slice.teach (Slice.teachBreak_idle hnone)
    rw [Slice.forceOff_axis]
    exact hteach.trans hnone
  · rw [hother l hl, Slice.teachBreak_idle hnone]

/-- A stuck holder is forced off (R244). -/
theorem Slice.forceOff_revokes : sl.Revokes j (sl.forceOff e j) := by
  obtain ⟨k, rfl⟩ | ⟨a, rfl⟩ := item_cases j
  · exact sl.forceOff_switch_revokes k
  · exact sl.forceOff_axis_revokes a

end

/-- The end of one grant at a bite: its holder is forced off if it has held the grant for the watchdog time `wd` (R244, R245). -/
def State.revoke (wd : Nat) (s : State) (q : Requester) : State :=
  if decide ((s.req q).since + wd ≤ s.now) then s.modSlice q.1 (·.forceOff (s.env q.1) q.2) else s.setReq q .idle

/-- From `s` to `t` every grant of the list has ended, each by `State.revoke`. -/
structure State.Revokes (wd : Nat) (held : List Requester) (s t : State) : Prop where
  slicesOnly : ∃ sls : Vector Slice 16, t = { s with slices := sls }
  ended : ∀ r ∈ held, t.req r = .idle
  idle : ∀ r, s.req r = .idle → t.req r = .idle
  stands : ∀ i : Fin 16, s.slices[i].teach = none → t.slices[i].teach = none ∧ ∀ j, (i, j) ∉ held → t.req (i, j) = s.req (i, j)
  channel : ∀ (i : Fin 16) (k : Fin 6), (i, switchItem k) ∉ held → t.slices[i].sw.ch[k] = s.slices[i].sw.ch[k]
  latched : ∀ (i : Fin 16) (k : Fin 6), s.slices[i].sw.ch[k].st = .latchedOff → t.slices[i].sw.ch[k].st = .latchedOff
  stuck : ∀ (i : Fin 16) (k : Fin 6), (i, switchItem k) ∈ held → (s.req (i, switchItem k)).since + wd ≤ s.now → t.slices[i].sw.ch[k].st = .latchedOff

section
variable {wd : Nat} {g : Fin 2} {s t u : State}

/-- A bite that ends no grant. -/
theorem State.Revokes.nil (wd : Nat) (s : State) : s.Revokes wd [] s where
  slicesOnly := ⟨s.slices, rfl⟩
  ended _ h := absurd h List.not_mem_nil
  idle _ h := h
  stands _ h := ⟨h, fun _ _ => rfl⟩
  channel _ _ _ := rfl
  latched _ _ h := h
  stuck _ _ h := absurd h List.not_mem_nil

/-- Grants that end one after the other. -/
theorem State.Revokes.trans {l₁ l₂ : List Requester} (h₁ : s.Revokes wd l₁ u) (h₂ : u.Revokes wd l₂ t) : s.Revokes wd (l₁ ++ l₂) t where
  slicesOnly := by
    obtain ⟨sls, rfl⟩ := h₁.slicesOnly
    exact h₂.slicesOnly
  ended r hr := (List.mem_append.mp hr).elim (fun h => h₂.idle r (h₁.ended r h)) (h₂.ended r)
  idle r h := h₂.idle r (h₁.idle r h)
  stands i h := by
    obtain ⟨hu, hreq₁⟩ := h₁.stands i h
    obtain ⟨ht, hreq₂⟩ := h₂.stands i hu
    refine ⟨ht, fun j hj => ?_⟩
    rw [List.mem_append, not_or] at hj
    exact (hreq₂ j hj.2).trans (hreq₁ j hj.1)
  channel i k h := by
    rw [List.mem_append, not_or] at h
    exact (h₂.channel i k h.2).trans (h₁.channel i k h.1)
  latched i k h := h₂.latched i k (h₁.latched i k h)
  stuck i k hr hheld := by
    by_cases hfirst : (i, switchItem k) ∈ l₁
    · exact h₂.latched i k (h₁.stuck i k hfirst hheld)
    · have hreq : u.req (i, switchItem k) = s.req (i, switchItem k) := by
        rw [State.req, State.req, Slice.reqOf_switch, Slice.reqOf_switch, h₁.channel i k hfirst]
      have hnow : u.now = s.now := by
        obtain ⟨sls, rfl⟩ := h₁.slicesOnly
        rfl
      exact h₂.stuck i k ((List.mem_append.mp hr).resolve_left hfirst) (by rw [hreq, hnow]; exact hheld)

/-- One grant ends in its slice. -/
theorem State.revoke_slice (wd : Nat) (s : State) (r : Requester) :
    ∃ y, s.revoke wd r = s.modSlice r.1 (fun _ => y) ∧ s.slices[r.1].Revokes r.2 y ∧ ∀ k, r.2 = switchItem k → (s.req r).since + wd ≤ s.now → y.sw.ch[k].st = .latchedOff := by
  unfold State.revoke
  by_cases h : (s.req r).since + wd ≤ s.now
  · refine ⟨_, if_pos (decide_eq_true h), Slice.forceOff_revokes _ _, fun k hk _ => ?_⟩
    rw [hk]
    exact Slice.forceOff_latches _ k
  · exact ⟨_, if_neg (by simpa using h), Slice.setReq_revokes _ _, fun _ _ hstuck => absurd hstuck h⟩

theorem State.revoke_revokes (wd : Nat) (s : State) (r : Requester) : s.Revokes wd [r] (s.revoke wd r) := by
  obtain ⟨y, heq, hy, hstuck⟩ := s.revoke_slice wd r
  have hown : (s.revoke wd r).slices[r.1] = y := by rw [heq, State.modSlice_same rfl]
  have hother (i : Fin 16) (h : i ≠ r.1) : (s.revoke wd r).slices[i] = s.slices[i] := by rw [heq, State.modSlice_other (Fin.val_ne_of_ne h)]
  refine ⟨⟨_, heq⟩, fun x hx => ?_, fun ⟨i, j⟩ hi => ?_, fun i hi => ?_, fun i k hk => ?_, fun i k hk => ?_, fun i k hk hheld => ?_⟩
  · obtain rfl := List.mem_singleton.mp hx
    rw [State.req, hown, hy.ended]
  · rw [State.req] at hi ⊢
    by_cases h : i = r.1
    · subst h; rw [hown]; exact hy.idle j hi
    · rw [hother i h, hi]
  · by_cases h : i = r.1
    · subst h
      obtain ⟨hteach, hreq⟩ := hy.stands hi
      refine ⟨by rw [hown, hteach], fun j hj => ?_⟩
      rw [State.req, hown]
      exact hreq j fun e => hj (List.mem_singleton.mpr (Prod.ext rfl e))
    · refine ⟨by rw [hother i h, hi], fun j _ => ?_⟩
      rw [State.req, State.req, hother i h]
  · by_cases h : i = r.1
    · subst h
      rw [hown]
      exact hy.channel k fun e => hk (List.mem_singleton.mpr (Prod.ext rfl e))
    · rw [hother i h]
  · by_cases h : i = r.1
    · subst h; rw [hown]; exact hy.latched k hk
    · rw [hother i h, hk]
  · obtain rfl := List.mem_singleton.mp hk
    rw [hown]
    exact hstuck k rfl hheld

theorem State.foldl_revoke_revokes (wd : Nat) (held : List Requester) (s : State) : s.Revokes wd held (held.foldl (State.revoke wd) s) := by
  induction held generalizing s with
  | nil => exact .nil wd s
  | cons r l ih => exact (s.revoke_revokes wd r).trans (ih _)

theorem State.longestHeld_isSome {held : List Requester} (h : held ≠ []) : ∃ r, s.longestHeld held = some r := by
  cases held with
  | nil => exact absurd rfl h
  | cons r l =>
    rw [State.longestHeld]
    split
    · exact ⟨r, rfl⟩
    · split <;> exact ⟨_, rfl⟩

/-- The module as the bite finds it: at its instant, with the event and the holds noted. -/
def State.bitten (g : Fin 2) (instant index : Nat) (s : State) : State :=
  let u := (s.advance instant).blyEvent g 0 1 index
  u.noteViews g u.now

theorem foldl_some_isSome {α β : Type} (f : Option β → α → β) {l : List α} (h : l ≠ []) (x : Option β) : ∃ b, l.foldl (fun n a => some (f n a)) x = some b := by
  induction l generalizing x with
  | nil => exact absurd rfl h
  | cons a l ih =>
    cases l with
    | nil => exact ⟨_, rfl⟩
    | cons b l => exact ih (List.cons_ne_nil b l) _

/-- With a grant held and a request that waits the watchdog bites: every grant of the group ends (R244). -/
theorem State.watchdogBite_eq (hheld : s.granted g ≠ []) (hwaits : s.waiting g ≠ []) :
    ∃ instant index, s.watchdogBite g = (s.granted g).foldl (State.revoke (ms (cfgBlyWatchdog s.params g * 100))) (s.bitten g instant index) := by
  obtain ⟨r, hr⟩ := State.longestHeld_isSome (s := s) hheld
  unfold State.watchdogBite
  dsimp only
  split
  next => exact ⟨_, _, rfl⟩
  next hidle => exact (hidle _ r (foldl_some_isSome _ hwaits none).choose_spec hr).elim

end

section
variable {g : Fin 2} {s : State} (instant index : Nat)

/-- The event of a bite stands in the group, and what it notes of the holds leaves it (R244). -/
theorem State.bitten_group (g : Fin 2) (s : State) :
    (s.bitten g instant index).groups[g].faultEvent = 1 ∧ (s.bitten g instant index).groups[g].cntBites = satInc 15 s.groups[g].cntBites ∧
      ∀ h : Fin 2, h ≠ g → (s.bitten g instant index).groups[h] = s.groups[h] := by
  have hevent := (s.advance instant).blyEvent_group g 0 1 index
  unfold State.bitten State.noteViews
  dsimp only
  rw [State.modGroup_group, hevent]
  refine ⟨rfl, rfl, fun h hne => ?_⟩
  rw [State.modGroup_group_other _ _ _ h hne, State.blyEvent_group_other _ _ _ _ _ h hne]
  rfl

theorem State.bitten_slices (g : Fin 2) (s : State) : (s.bitten g instant index).slices = s.slices := State.blyEvent_slices ..

theorem State.bitten_now (g : Fin 2) (s : State) : (s.bitten g instant index).now = max s.now instant := State.blyEvent_now ..

theorem State.bitten_rest (g : Fin 2) (s : State) : (s.bitten g instant index).params = s.params ∧ (s.bitten g instant index).hws = s.hws :=
  ⟨State.raise_params .., State.blyEvent_hws ..⟩

end

/-- Settles O31: each command by what it does to the request of its requester, and the bite by the grants that end one after the other. -/
theorem grantsSwitchOnAndEnd : Obligations.GrantsSwitchOnAndEnd := by
  refine ⟨fun i k s hpower hst hgranted => ?arrival, fun i k s hgranted hst hfree => ?switchExpiry, fun i a t0 f s hreq hfirst h => ?axisExpiry, fun i j t0 d s hreq => ?missed,
    fun i j s hreq => ?notMissed, fun g s hheld hwaits => ?bite, fun i s hpower harb => ?loss, fun i s hlost => ?back⟩
  case arrival => exact congrArg State.complete (State.grantArrival_waits hpower hst hgranted)
  case switchExpiry => exact congrArg State.complete ((State.inrushExpiry_switch hgranted hst hfree).trans (State.setReq_switch _))
  case axisExpiry =>
    exact congrArg State.complete ((State.inrushExpiry_axis (hreq ▸ rfl) (Motion.inrushFrom_microstep hreq hfirst h)).trans (State.setReq_axis _))
  case missed =>
    obtain ⟨index, heq⟩ := State.deadlineMissed_waits hreq
    have hslices := State.blyEvent_slices (groupOf i) 3 1 index ((s.advance d).setReq (i, j) (.waiting t0 d true))
    have hgroup := State.blyEvent_group (groupOf i) 3 1 index ((s.advance d).setReq (i, j) (.waiting t0 d true))
    have hown := s.slices[i].besideRequests_setReq j (.waiting t0 d true)
    simp only [Slice.besideRequests, Prod.mk.injEq] at hown
    obtain ⟨hportal, -⟩ := hown
    refine ⟨_, congrArg State.complete heq, State.blyEvent_now .., (State.req_of_slices hslices _).trans (State.req_setReq_same ..),
      congrArg Group.faultEvent hgroup, congrArg Group.cntMisses hgroup, ?_, fun l hl => ?_⟩
    · exact (congrArg (fun v : Vector Slice 16 => v[i].portal) hslices).trans ((congrArg Slice.portal (State.modSlice_same rfl _ _)).trans hportal)
    · exact (congrArg (fun v : Vector Slice 16 => v[l]) hslices).trans (State.modSlice_other (Fin.val_ne_of_ne hl) _ _)
  case notMissed => exact congrArg State.complete (State.deadlineMissed_idle hreq)
  case bite =>
    obtain ⟨instant, index, heq⟩ := State.watchdogBite_eq hheld hwaits
    have hbite := State.foldl_revoke_revokes (ms (cfgBlyWatchdog s.params g * 100)) (s.granted g) (s.bitten g instant index)
    rw [← heq] at hbite
    obtain ⟨sls, hsls⟩ := hbite.slicesOnly
    obtain ⟨hevent, hbites, hothers⟩ := s.bitten_group instant index g
    obtain ⟨hparams, hhws⟩ := s.bitten_rest instant index g
    have hslices := s.bitten_slices instant index g
    have hnow : (s.watchdogBite g).now = max s.now instant := (congrArg State.now hsls).trans (s.bitten_now instant index g)
    have hgroup (h : Fin 2) : (s.watchdogBite g).groups[h] = (s.bitten g instant index).groups[h] := by rw [hsls]
    refine ⟨_, rfl, (Nat.le_max_left ..).trans_eq hnow.symm, (congrArg Group.faultEvent (hgroup g)).trans hevent, (congrArg Group.cntBites (hgroup g)).trans hbites,
      (congrArg State.params hsls).trans hparams, (congrArg State.hws hsls).trans hhws, hbite.ended, fun r hr hteach => ?_, fun i k t0 hr hgranted hstuck => ?_, fun h hne => (hgroup h).trans (hothers h hne)⟩
    · obtain ⟨-, hstands⟩ := hbite.stands r.1 ((congrArg (fun v : Vector Slice 16 => v[r.1].teach) hslices).trans hteach)
      exact (hstands r.2 (State.not_granted_of_waiting hr)).trans (State.req_of_slices hslices r)
    · refine hbite.stuck i k hr ?_
      have hreq : s.req (i, switchItem k) = .granted t0 := (Slice.reqOf_switch ..).trans hgranted
      rw [State.req_of_slices hslices, hreq, s.bitten_now, ← hnow]
      exact hstuck
  case loss =>
    have heq := State.arbiterLost_up hpower harb
    have hslices := State.blyEvent_slices (groupOf i) 4 1 i.val (s.modSlice i (·.arbiterLost s.now))
    have hgroup := State.blyEvent_group (groupOf i) 4 1 i.val (s.modSlice i (·.arbiterLost s.now))
    rw [← heq] at hslices hgroup
    have hown : (s.arbiterLost i).slices[i] = s.slices[i].arbiterLost s.now := (congrArg (fun v : Vector Slice 16 => v[i]) hslices).trans (State.modSlice_same rfl _ _)
    have hchannel (k : Fin 6) : (s.arbiterLost i).slices[i].sw.ch[k] = s.slices[i].sw.ch[k].freed s.now := by rw [hown, Slice.arbiterLost_channel]
    refine ⟨_, rfl, ?_, congrArg Group.faultEvent hgroup, ?_, fun k hst => ?_, fun k hst => (hchannel k).trans (if_neg hst), fun l hl => ?_⟩
    · exact (congrArg (fun x : Slice => x.sw.unarbitrated) hown).trans (congrArg Switches.unarbitrated (Slice.arbiterLost_sw s.now s.slices[i]))
    · exact (congrArg Slice.portal hown).trans (Slice.arbiterLost_portal ..)
    · have hon := (hchannel k).trans (if_pos hst)
      exact ⟨congrArg Channel.st hon, congrArg Channel.req hon⟩
    · exact (congrArg (fun v : Vector Slice 16 => v[l]) hslices).trans (State.modSlice_other (Fin.val_ne_of_ne hl) _ _)
  case back =>
    refine ⟨s.slices[i].arbiterBack, congrArg State.complete (State.arbiterBack_unarbitrated hlost), ?_⟩
    have hbeside := s.slices[i].arbiterBack_beside
    simp only [Slice.besideRequests, Prod.mk.injEq] at hbeside
    obtain ⟨hportal, -, harb, hst, hpos⟩ := hbeside
    refine ⟨harb, fun k => ⟨?_, congrFun hst k⟩, fun a => ⟨?_, congrFun hpos a⟩, hportal⟩
    · rw [← Slice.reqOf_switch, Slice.arbiterBack_idle]
    · rw [← Slice.reqOf_axis, Slice.arbiterBack_idle]

end Sys2Proof.Machine
end

section
/-! PROOFS. Frames that a node puts on the ring: O35. -/

namespace Sys2Proof.Machine

/-! ### Frames filled from the process image (R365, R367) -/

/-- The state without what the mapping of received and sent data changes: of Splice the event messages alone are left, and neither the data-plane queue nor the Hawser region. -/
def State.besideMapping (s : State) : State :=
  { s with dq := .reset, hwsRegion := .reset, spl := { Splice.reset with events := s.spl.events, eventsReady := s.spl.eventsReady } }

theorem State.noteStale_besideMapping (num : Nat) (m : MapEntry) (age : Nat) (s : State) : (s.noteStale num m age).besideMapping = s.besideMapping := by
  unfold State.noteStale
  dsimp only
  repeat' split
  all_goals rfl

theorem State.assemble_besideMapping (c : Fin 2) (ref n : Nat) (head : List Byte) (s : State) : (s.assemble c ref n head).1.besideMapping = s.besideMapping := by
  unfold State.assemble
  refine foldl_keeps (fun x : State × Mem × Bool => x.1.besideMapping) _ (fun x y => ?_) _ _
  dsimp only
  split
  · exact State.noteStale_besideMapping ..
  · rfl

theorem State.receiveEntries_besideMapping (p : Fin 128) (c : Fin 2) (data : List Byte) (s : State) : (s.receiveEntries p c data).besideMapping = s.besideMapping := by
  unfold State.receiveEntries
  refine foldl_keeps State.besideMapping _ (fun x y => ?_) _ _
  dsimp only
  split
  · exact State.noteStale_besideMapping ..
  · rfl

theorem memGetBytes_length (d : Byte) (m : Mem) (a n : Nat) : (memGetBytes d m a n).length = n := by
  induction n generalizing a with
  | zero => rfl
  | succ n ih => rw [memGetBytes, List.length_cons, ih]

/-- An assembled frame is as long as asked for. -/
theorem State.assemble_length (c : Fin 2) (ref n : Nat) (head : List Byte) (s : State) : (s.assemble c ref n head).2.1.length = n := memGetBytes_length ..

/-! ### Octets of a frame (R8, R258, R259, R261) -/

theorem beBytes_length (n v : Nat) : (beBytes n v).length = n := by simp [beBytes]

theorem padTo_length {n : Nat} {b : List Byte} (h : b.length ≤ n) : (padTo n b).length = n := by
  simp only [padTo, List.length_append, List.length_replicate]
  omega

theorem headerBytes_length (ty : Nat) (h : HwsHeader) : (headerBytes ty h).length = 16 := by simp [headerBytes]

theorem beaconBytes_length (b : Beacon) : (beaconBytes b).length = 64 := by
  have hdigest : (padTo 8 (b.digest.take 8)).length = 8 := padTo_length (List.length_take_le ..)
  simp [beaconBytes, hdigest]

theorem macAddress_length (c : MacChannel) (p : Nat) : (macAddress c p).length = 6 := by simp [macAddress]

/-- 18 octets stand around the content of a frame: two addresses, the EtherType and the FCS. -/
theorem ethernet_length (dest source : List Byte) (ty : Nat) (content : List Byte) : (ethernet dest source ty content).length = dest.length + source.length + content.length + 6 := by
  simp only [ethernet, fcs, List.length_append, beBytes_length, leBytes_length]
  omega

/-- A frame opens with its addresses and its EtherType. -/
theorem ethernet_take (dest source : List Byte) (ty : Nat) (content : List Byte) (h : dest.length + source.length = 12) : (ethernet dest source ty content).take 14 = dest ++ source ++ beBytes 2 ty := by
  have hopen : (dest ++ source ++ beBytes 2 ty).length = 14 := by rw [List.length_append, List.length_append, h, beBytes_length]
  rw [ethernet, List.append_assoc (dest ++ source ++ beBytes 2 ty), ← hopen, List.take_left]

/-- The octets of a beacon that the node puts on a ring. -/
theorem State.octets_beacon (c : Fin 2) (q : Passing) (port : Nat) (h : HwsHeader) (b : Beacon) (s : State) :
    (s.octets ⟨.ring c.val port q, 0, h, .beacon b⟩).length = 98 ∧
      (s.octets ⟨.ring c.val port q, 0, h, .beacon b⟩).take 14 = groupAddress ++ macAddress (hawserChannel c.val) h.sender ++ beBytes 2 s.etherType := by
  have hpay : s.payloadLen c.val (.beacon b) = 64 := by simp [State.payloadLen, bodyBytes, beaconBytes_length]
  have hcontent : (headerBytes 1 h ++ padTo (s.payloadLen c.val (.beacon b)) (beaconBytes b)).length = 80 := by
    rw [List.length_append, headerBytes_length, padTo_length (by rw [hpay, beaconBytes_length]), hpay]
  refine ⟨(ethernet_length ..).trans ?_, ethernet_take _ _ _ _ ?_⟩
  · exact congrArg₂ (fun m n => 6 + m + n + 6) (macAddress_length ..) hcontent
  · exact congrArg (6 + ·) (macAddress_length ..)

/-! ### A frame goes onto the ring (R256, R260) -/

section
variable (c : Fin 2) (dest : Nat) (empty repeated : Bool) (dataLen eventLen : Nat) (body : Body) (s : State)

/-- An own frame on the wire: from the insertion point, to a position or to all. -/
def State.ownFrame : Sent := ⟨.ring c.val (s.outPort c).val .own, dest, { s.header c empty repeated dataLen eventLen with dest := dest }, body⟩

theorem State.sendRing_hws : (s.sendRing c dest empty repeated dataLen eventLen body).hws =
    { s.hws with wire := s.hws.wire ++ [s.ownFrame c dest empty repeated dataLen eventLen body], octets := s.hws.octets ++ [s.octets (s.ownFrame c dest empty repeated dataLen eventLen body)], health := s.healthWord } := rfl

theorem State.sendRing_ina : (s.sendRing c dest empty repeated dataLen eventLen body).ina = s.ina := rfl

end

/-! ### FRAME_INSERTION by what the frame is (R263, R266, R267) -/

section
variable {c : Fin 2} {s : State}

theorem State.insertFrame_none (what : Slotted) (hout : s.inserts c = false) : s.insertFrame c what = s := if_pos (by simp [hout])

/-- The data section of a static frame is what its event slots leave of it (R383). -/
def State.staticLen (c : Fin 2) (s : State) : Nat := (s.chanMode c).static - 8 * s.eventSlots c

/-- The event messages that ride in the static frame of a cycle (R383). -/
def State.riding (c : Fin 2) (s : State) : List EventMsg := (s.spl.events.take s.spl.eventsReady).take (s.eventSlots c)

/-- The node at the insertion instant of its static frame, and the frame's data assembled there. -/
def State.staticInstant (c : Fin 2) (s : State) : State := s.advance (s.insertAt c (staticAt (s.chanMode c) s.ownIndex))
def State.staticFilled (c : Fin 2) (s : State) : State × List Byte × Bool :=
  (s.staticInstant c).assemble c 0 (s.staticLen c) (authBytes (s.staticInstant c).authRec ++ leBytes 4 (s.staticInstant c).barrierWord)

/-- The node at the insertion instant of its poll response `j`, and the response assembled there. -/
def State.responseInstant (c : Fin 2) (j : Nat) (s : State) : State := s.advance (s.insertAt c (respAt (s.chanMode c) s.hws.n (s.ring c) j))
def State.responseFilled (c : Fin 2) (j request : Nat) (s : State) : State × List Byte × Bool :=
  (s.responseInstant c j).assemble c (request % 256) (s.chanMode c).respLen []

section
variable (hin : s.inserts c = true)
include hin

theorem State.insertFrame_beacon (hmaster : s.isMaster = true) :
    s.insertFrame c .beacon = (s.advance (s.insertAt c 0)).sendRing c 0 false false 64 0 (.beacon ((s.advance (s.insertAt c 0)).beacon c)) :=
  (if_neg (by simp [hin])).trans (if_pos hmaster)

theorem State.insertFrame_static (hquiet : s.quiet = false) (hstatic : (s.chanMode c).static ≠ 0) :
    s.insertFrame c .static = let a := s.staticFilled c
      (a.1.sendRing c 0 false a.2.2 (s.staticLen c) (8 * (a.1.riding c).length) (.static a.2.1 (a.1.riding c))).modHws fun h => { h with sentNow := h.sentNow.set c true } :=
  (if_neg (by simp [hin])).trans (if_neg (by simp [hquiet, hstatic]))

theorem State.insertFrame_poll (hquiet : s.quiet = false) (hmaster : s.isMaster = true) (hslots : (s.chanMode c).slots ≠ 0) :
    s.insertFrame c .poll = let u := s.advance (s.insertAt c (pollAt (s.chanMode c) s.hws.n (s.ring c)))
      (u.sendRing c 0 false false (8 + 8 * (s.nextPoll c).length) 0 (.poll (s.nextPoll c))).modHws fun h =>
        { h with
          listedNext := h.listedNext.set c (s.nextPoll c)
          pollCursor := h.pollCursor.set c (if (u.pollTable c).length = 0 then 0 else (h.pollCursor[c] + (s.chanMode c).slots) % (u.pollTable c).length) } :=
  (if_neg (by simp [hin])).trans (if_neg (by simp [hquiet, hmaster, hslots]))

theorem State.insertFrame_response {j : Nat} {e : PollSlot} (hquiet : s.quiet = false) (hslots : (s.chanMode c).slots ≠ 0) (hlisted : (s.hws.listedNow[c])[j]? = some e) (hown : e.position = s.hws.position) :
    s.insertFrame c (.response j) = let a := s.responseFilled c j e.request
      a.1.sendRing c 0 false a.2.2 (s.chanMode c).respLen 0 (.response a.2.1) := by
  refine (if_neg (by simp [hin])).trans ?_
  dsimp only
  rw [hlisted]
  exact if_pos (by simp [hquiet, hslots, hown])

theorem State.insertFrame_container {j : Nat} (hquiet : s.quiet = false) (hmaster : s.isMaster = true) (hj : j < (s.chanMode c).containers) :
    s.insertFrame c (.container j) = (s.advance (s.insertAt c (contAt (s.chanMode c) s.hws.n (s.ring c) j))).sendRing c 0 true false 0 0 .container :=
  (if_neg (by simp [hin])).trans (if_pos (by simp [hquiet, hmaster, hj]))

end

/-! ### The frame on the wire -/

/-- A frame that the node sends at an instant, its data assembled there or not: time, car side and inauguration beside it, and what stands on the wire. -/
theorem State.sendRing_at (dest : Nat) (empty repeated : Bool) (dataLen eventLen : Nat) (body : Body) {t : Nat} {u : State} (hview : u.view = (s.advance t).view) (hbeside : u.besideMapping = (s.advance t).besideMapping) :
    let v := u.sendRing c dest empty repeated dataLen eventLen body
    v.now = max s.now t ∧ v.carSide = s.carSide ∧ v.ina = s.ina ∧
      v.hws.wire = s.hws.wire ++ [⟨.ring c.val (s.outPort c).val .own, dest, { s.header c empty repeated dataLen eventLen with dest := dest }, body⟩] := by
  have hport : u.outPort c = s.outPort c := (congrArg (State.outPort c) hbeside :)
  have hheader : u.header c empty repeated dataLen eventLen = s.header c empty repeated dataLen eventLen := (congrArg (State.header c empty repeated dataLen eventLen) hbeside :)
  have hhws : u.hws = s.hws := (congrArg State.hws hbeside :)
  refine ⟨(State.now_of_view ((State.sendRing_view ..).trans hview) :), (State.carSide_of_view ((State.sendRing_view ..).trans hview) :), (congrArg State.ina hbeside :), ?_⟩
  rw [State.sendRing_hws, State.ownFrame, hport, hheader, hhws]

section
variable (hin : s.inserts c = true)
include hin

theorem State.beaconInserted (hmaster : s.isMaster = true) :
    ∃ t, exec (.frameInsertion c .beacon) s = .next t ∧ t.now = max s.now (s.insertAt c 0) ∧ t.carSide = s.carSide ∧ t.ina = s.ina ∧ t.hws.health = s.healthWord ∧
      t.hws.wire = s.hws.wire ++ [⟨.ring c.val (s.outPort c).val .own, 0, s.header c false false 64 0, .beacon ((s.advance (s.insertAt c 0)).beacon c)⟩] ∧
      ∃ b : List Byte, t.hws.octets = s.hws.octets ++ [b] ∧ b.length = 98 ∧ b.take 14 = groupAddress ++ macAddress (hawserChannel c.val) s.hws.position ++ beBytes 2 s.etherType := by
  refine ⟨_, congrArg State.complete (State.insertFrame_beacon hin hmaster), rfl, rfl, rfl, rfl, rfl, _, rfl, ?_⟩
  exact State.octets_beacon c .own _ _ _ (s.advance (s.insertAt c 0))

theorem State.staticInserted (hquiet : s.quiet = false) (hstatic : (s.chanMode c).static ≠ 0) :
    ∃ t hd data, exec (.frameInsertion c .static) s = .next t ∧ t.now = max s.now (s.insertAt c (staticAt (s.chanMode c) s.ownIndex)) ∧ t.carSide = s.carSide ∧ t.ina = s.ina ∧ t.hws.sentNow[c] = true ∧
      t.hws.wire = s.hws.wire ++ [⟨.ring c.val (s.outPort c).val .own, 0, hd, .static data ((s.spl.events.take s.spl.eventsReady).take (s.eventSlots c))⟩] ∧ data.length = (s.chanMode c).static - 8 * s.eventSlots c ∧
      hd.sender = s.hws.position ∧ hd.mode = s.hws.mode ∧ hd.cycle = s.hws.cycle ∧ hd.health = s.healthWord := by
  obtain ⟨a, ha⟩ : ∃ a, s.staticFilled c = a := ⟨_, rfl⟩
  have hbeside : a.1.besideMapping = (s.staticInstant c).besideMapping := ha ▸ State.assemble_besideMapping ..
  have hview : a.1.view = (s.staticInstant c).view := ha ▸ State.assemble_view ..
  have hlen : a.2.1.length = s.staticLen c := ha ▸ State.assemble_length ..
  have hride : a.1.riding c = s.riding c := (congrArg (State.riding c) hbeside :)
  have heq := State.insertFrame_static hin hquiet hstatic
  rw [ha] at heq
  dsimp only at heq
  rw [hride] at heq
  obtain ⟨hnow, hcar, hina, hwire⟩ := State.sendRing_at (c := c) 0 false a.2.2 (s.staticLen c) (8 * (s.riding c).length) (.static a.2.1 (s.riding c)) hview hbeside
  refine ⟨_, _, a.2.1, congrArg State.complete heq, hnow, hcar, hina, ?_, hwire, hlen, rfl, rfl, rfl, rfl⟩
  simp

theorem State.pollInserted (hquiet : s.quiet = false) (hmaster : s.isMaster = true) (hslots : (s.chanMode c).slots ≠ 0) :
    ∃ t, exec (.frameInsertion c .poll) s = .next t ∧ t.now = max s.now (s.insertAt c (pollAt (s.chanMode c) s.hws.n (s.ring c))) ∧ t.carSide = s.carSide ∧ t.ina = s.ina ∧
      t.hws.listedNext[c] = s.nextPoll c ∧ t.hws.wire = s.hws.wire ++ [⟨.ring c.val (s.outPort c).val .own, 0, s.header c false false (8 + 8 * (s.nextPoll c).length) 0, .poll (s.nextPoll c)⟩] := by
  refine ⟨_, congrArg State.complete (State.insertFrame_poll hin hquiet hmaster hslots), rfl, rfl, rfl, ?_, rfl⟩
  simp

theorem State.responseInserted {j : Nat} {e : PollSlot} (hquiet : s.quiet = false) (hslots : (s.chanMode c).slots ≠ 0) (hlisted : (s.hws.listedNow[c])[j]? = some e) (hown : e.position = s.hws.position) :
    ∃ t hd data, exec (.frameInsertion c (.response j)) s = .next t ∧ t.now = max s.now (s.insertAt c (respAt (s.chanMode c) s.hws.n (s.ring c) j)) ∧ t.carSide = s.carSide ∧ t.ina = s.ina ∧
      t.hws.wire = s.hws.wire ++ [⟨.ring c.val (s.outPort c).val .own, 0, hd, .response data⟩] ∧ data.length = (s.chanMode c).respLen ∧ hd.sender = s.hws.position := by
  obtain ⟨a, ha⟩ : ∃ a, s.responseFilled c j e.request = a := ⟨_, rfl⟩
  have hbeside : a.1.besideMapping = (s.responseInstant c j).besideMapping := ha ▸ State.assemble_besideMapping ..
  have hview : a.1.view = (s.responseInstant c j).view := ha ▸ State.assemble_view ..
  have hlen : a.2.1.length = (s.chanMode c).respLen := ha ▸ State.assemble_length ..
  have heq := State.insertFrame_response hin hquiet hslots hlisted hown
  rw [ha] at heq
  obtain ⟨hnow, hcar, hina, hwire⟩ := State.sendRing_at (c := c) 0 false a.2.2 (s.chanMode c).respLen 0 (.response a.2.1) hview hbeside
  exact ⟨_, _, a.2.1, congrArg State.complete heq, hnow, hcar, hina, hwire, hlen, rfl⟩

theorem State.containerInserted {j : Nat} (hquiet : s.quiet = false) (hmaster : s.isMaster = true) (hj : j < (s.chanMode c).containers) :
    ∃ t, exec (.frameInsertion c (.container j)) s = .next t ∧ t.now = max s.now (s.insertAt c (contAt (s.chanMode c) s.hws.n (s.ring c) j)) ∧ t.carSide = s.carSide ∧ t.ina = s.ina ∧
      t.hws.wire = s.hws.wire ++ [⟨.ring c.val (s.outPort c).val .own, 0, s.header c true false 0 0, .container⟩] :=
  ⟨_, congrArg State.complete (State.insertFrame_container hin hquiet hmaster hj), rfl, rfl, rfl, rfl⟩

end
end

/-! ### Containers (R267, R373) -/

/-- The head of a queue goes first where it may go. -/
theorem nextAsync_head {may : AsyncFrame → Bool} {f : AsyncFrame} (rest : List AsyncFrame) (h : may f = true) : nextAsync may [] (f :: rest) = some (f, rest) :=
  if_pos (by simp [h])

/-- Where no frame may go, none goes. -/
theorem nextAsync_none {may : AsyncFrame → Bool} {l : List AsyncFrame} (passed : List AsyncFrame) (h : ∀ f ∈ l, may f = false) : nextAsync may passed l = none := by
  induction l generalizing passed with
  | nil => rfl
  | cons f t ih =>
    obtain ⟨hf, ht⟩ := List.forall_mem_cons.1 h
    rw [nextAsync, hf, if_neg (by simp), ih _ ht]
    rfl

/-- A waiting frame may go into a container that holds its payload, if no event message raised before it still waits (R267, R382). -/
def State.mayFill (c : Fin 2) (s : State) (f : AsyncFrame) : Bool := decide (s.payloadLen c.val f.body ≤ (s.chanMode c).contLen) && !s.waitsForEvent f

/-- An empty container is within the schedule, the quota and the alternation (R267). -/
def State.mayBeFilled (c : Fin 2) (k : Nat) (empty : Bool) (s : State) : Bool :=
  s.inserts c && empty && !s.quiet && decide (k < (s.chanMode c).containers) && decide (s.hws.filled[c] < cfgHwsAsyncQuota s.params s.hws.mode) &&
    (match s.hws.lastFilled[c] with | some l => decide (k ≠ l + 1) && decide (k ≠ l) | none => true)

theorem State.containerPass_eq (c : Fin 2) (k : Nat) (empty : Bool) (s : State) : s.containerPass c k empty =
    match nextAsync (s.mayFill c) [] s.hws.async[c] with
    | some (f, rest) => if s.mayBeFilled c k empty then
        (s.sendRing c f.dest false false 0 0 f.body).modHws fun h => { h with async := h.async.set c rest, filled := h.filled.set c (h.filled[c] + 1), lastFilled := h.lastFilled.set c (some k) }
      else s
    | none => s := rfl

theorem State.containerPass_fills {c : Fin 2} {k : Nat} {f : AsyncFrame} {rest : List AsyncFrame} {s : State} (hasync : s.hws.async[c] = f :: rest) (hmay : s.mayFill c f = true) (hfree : s.mayBeFilled c k true = true) :
    s.containerPass c k true =
      (s.sendRing c f.dest false false 0 0 f.body).modHws fun h => { h with async := h.async.set c rest, filled := h.filled.set c (h.filled[c] + 1), lastFilled := h.lastFilled.set c (some k) } := by
  rw [State.containerPass_eq, hasync, nextAsync_head rest hmay]
  exact if_pos hfree

theorem State.containerPass_empty {c : Fin 2} {k : Nat} {empty : Bool} {s : State} (h : empty = false ∨ ∀ f ∈ s.hws.async[c], (s.chanMode c).contLen < s.payloadLen c.val f.body) : s.containerPass c k empty = s := by
  rw [State.containerPass_eq]
  rcases h with rfl | hlong
  · have hfull : ¬s.mayBeFilled c k false = true := by simp [State.mayBeFilled]
    split
    · exact if_neg hfull
    · rfl
  · rw [nextAsync_none [] fun f hf => ?_]
    have hover := Nat.not_le.2 (hlong f hf)
    simp [State.mayFill, hover]

theorem State.mayBeFilled_of {c : Fin 2} {k : Nat} {s : State} (hin : s.inserts c = true) (hquiet : s.quiet = false) (hk : k < (s.chanMode c).containers) (hquota : s.hws.filled[c] < cfgHwsAsyncQuota s.params s.hws.mode)
    (hlast : ∀ l, s.hws.lastFilled[c] = some l → k ≠ l ∧ k ≠ l + 1) : s.mayBeFilled c k true = true := by
  unfold State.mayBeFilled
  rw [hin, hquiet, decide_eq_true hk, decide_eq_true hquota]
  split
  next l hl =>
    obtain ⟨hsame, hnext⟩ := hlast l hl
    simp [hsame, hnext]
  next => rfl

theorem State.containerFilled {c : Fin 2} {k : Nat} {f : AsyncFrame} {rest : List AsyncFrame} {s : State} (hasync : s.hws.async[c] = f :: rest) (hmay : s.mayFill c f = true) (hfree : s.mayBeFilled c k true = true) :
    ∃ t, exec (.containerPass c k true) s = .next t ∧ t.now = s.now ∧ t.carSide = s.carSide ∧ t.ina = s.ina ∧ t.hws.async[c] = rest ∧ t.hws.filled[c] = s.hws.filled[c] + 1 ∧ t.hws.lastFilled[c] = some k ∧
      t.hws.wire = s.hws.wire ++ [⟨.ring c.val (s.outPort c).val .own, f.dest, { s.header c false false 0 0 with dest := f.dest }, f.body⟩] := by
  have heq := State.containerPass_fills hasync hmay hfree
  have hview := State.containerPass_view c k true s
  refine ⟨_, rfl, (State.now_of_view hview :), (State.carSide_of_view hview :), ?_⟩
  simp [heq, State.sendRing_ina, State.sendRing_hws, State.ownFrame]

/-- Settles O35: each frame is one equation of FRAME_INSERTION, and a container is filled by the head of the queue. -/
theorem hawserFramesEnterTheRing : Obligations.HawserFramesEnterTheRing := by
  unfold Obligations.HawserFramesEnterTheRing
  refine ⟨fun c s hin => State.beaconInserted hin, fun c s hin => State.staticInserted hin, fun c s hin => State.pollInserted hin,
    fun c j e s hin hquiet hslots hlisted hown => State.responseInserted hin hquiet hslots hlisted hown, fun c j s hin hquiet hmaster hj => State.containerInserted hin hquiet hmaster hj,
    fun c w s hout => congrArg State.complete (State.insertFrame_none w hout), fun c k f rest s hin hquiet hasync hevent hfits hk hquota hlast => ?_,
    fun c k e s h => congrArg State.complete (State.containerPass_empty h)⟩
  have hmay : s.mayFill c f = true := by simp [State.mayFill, hevent, hfits]
  exact State.containerFilled hasync hmay (State.mayBeFilled_of hin hquiet hk hquota hlast)

end Sys2Proof.Machine
end

section
/-! PROOFS. Frames that a node receives, and what watches the ring: O36. -/

namespace Sys2Proof.Machine

/-! ### Events and slots of the Hawser engine -/

theorem State.hwsEvent_hws (e port channel position : Nat) (s : State) : (s.hwsEvent e port channel position).hws =
    { s.hws with faultEvent := e, faultPort := port, faultChannel := channel, faultPosition := position } := by simp [State.hwsEvent]

theorem State.hwsEvent_ina (e port channel position : Nat) (s : State) : (s.hwsEvent e port channel position).ina = s.ina := by simp [State.hwsEvent]

theorem Hawser.slot_setSlot (c : Fin 2) (p : Fin 128) (x : Slot) (h : Hawser) : (h.setSlot c p x).slot c p = x := by
  unfold Hawser.setSlot Hawser.slot
  split <;> simp

theorem Hawser.setSlot_rx (c : Fin 2) (p : Fin 128) (x : Slot) (h : Hawser) : (h.setSlot c p x).rx = h.rx := by
  unfold Hawser.setSlot
  split <;> rfl

/-- The engine without what a guardian changes: its ports, and the last fault. -/
def Hawser.besidePorts (h : Hawser) : Hawser := { h with ports := Vector.replicate 4 HPort.reset, faultEvent := 0, faultPort := 0, faultChannel := 0, faultPosition := 0 }

/-- The engine without what a received static frame changes: slots, what was heard, and data. -/
def Hawser.besideSlots (h : Hawser) : Hawser :=
  { h with slotsA := Vector.replicate 128 Slot.reset, slotsB := Vector.replicate 128 Slot.reset, rx := Vector.replicate 128 NodeRx.reset, data := Vector.replicate 2 (Vector.replicate 128 []) }

theorem Hawser.setSlot_besideSlots (c : Fin 2) (p : Fin 128) (x : Slot) (h : Hawser) : (h.setSlot c p x).besideSlots = h.besideSlots := by
  unfold Hawser.setSlot
  split <;> rfl

/-- What was heard of a position changes. -/
def Hawser.hear (q : Fin 128) (f : NodeRx → NodeRx) (w : Hawser) : Hawser := { w with rx := w.rx.set q (f w.rx[q]) }

theorem Hawser.hear_hear (q : Fin 128) (f g : NodeRx → NodeRx) (w : Hawser) : (w.hear q f).hear q g = w.hear q fun o => g (f o) := by
  simp [Hawser.hear]

/-! ### The guardian acts (R279, R280) -/

section
variable (i : Fin 4) (cut : Bool) (s : State)

theorem State.modPort_port (f : HPort → HPort) : (s.modPort i f).hws.ports[i] = f s.hws.ports[i] := by simp

theorem State.modPort_port_other (f : HPort → HPort) (j : Fin 4) (h : j ≠ i) : (s.modPort i f).hws.ports[j] = s.hws.ports[j] := by
  have hne : i.val ≠ j.val := fun e => h (Fin.ext e.symm)
  simp [hne]

/-- A port counts a frame that its guardian truncates or blocks. -/
def HPort.counted (cut : Bool) (x : HPort) : HPort := if cut then { x with truncated := satInc 65535 x.truncated } else { x with blocked := satInc 65535 x.blocked }

/-- The cycle of a port becomes bad, with what that raises (R280). -/
def State.markBad (i : Fin 4) (s : State) : State :=
  let x := s.hws.ports[i]
  if x.bad then s
  else
    let first := match x.e194At with | some t => decide (t + 1000000000 ≤ s.now) | none => true
    let s := s.modPort i fun x => { x with bad := true, e194At := if first then some s.now else x.e194At }
    let s := if first then s.hwsEvent 2 i.val 0 0 else s
    if 8 ≤ ones (x.hist * 2 % 2 ^ 64 + 1) ∧ x.guardFold = false then (s.modPort i fun x => { x with folded := true, guardFold := true, lost := true }).hwsEvent 1 i.val 0 0
    else s

theorem State.guardAct_eq : s.guardAct i cut = (s.modPort i (HPort.counted cut)).markBad i := rfl

theorem State.markBad_beside : (s.markBad i).hws.besidePorts = s.hws.besidePorts ∧ (s.markBad i).ina = s.ina := by
  unfold State.markBad
  dsimp only
  repeat' split
  all_goals simp only [State.hwsEvent_hws, State.hwsEvent_ina, State.modPort_hws, State.modPort_ina]; trivial

theorem State.markBad_port_other (j : Fin 4) (h : j ≠ i) : (s.markBad i).hws.ports[j] = s.hws.ports[j] := by
  have hne : i.val ≠ j.val := fun e => h (Fin.ext e.symm)
  unfold State.markBad
  dsimp only
  repeat' split
  all_goals simp [State.hwsEvent_hws, hne]

theorem State.markBad_port : (s.markBad i).hws.ports[i].bad = true ∧ (s.markBad i).hws.ports[i].blocked = s.hws.ports[i].blocked ∧ (s.markBad i).hws.ports[i].truncated = s.hws.ports[i].truncated := by
  unfold State.markBad
  dsimp only
  split
  next hbad => exact ⟨hbad, rfl, rfl⟩
  next =>
    repeat' split
    all_goals simp [State.hwsEvent_hws]

/-- What the guardian's act leaves of the engine, and of the inauguration. -/
theorem State.guardAct_beside : (s.guardAct i cut).hws.besidePorts = s.hws.besidePorts ∧ (s.guardAct i cut).ina = s.ina := by
  rw [State.guardAct_eq]
  exact State.markBad_beside i _

theorem State.guardAct_port_other (j : Fin 4) (h : j ≠ i) : (s.guardAct i cut).hws.ports[j] = s.hws.ports[j] :=
  (State.markBad_port_other i _ j h).trans (State.modPort_port_other i s _ j h)

/-- The port of a frame that is blocked or truncated counts it, and its cycle is bad. -/
theorem State.guardAct_port : (s.guardAct i cut).hws.ports[i].bad = true ∧ (s.guardAct i cut).hws.ports[i].blocked = (s.hws.ports[i].counted cut).blocked ∧
    (s.guardAct i cut).hws.ports[i].truncated = (s.hws.ports[i].counted cut).truncated := by
  obtain ⟨hbad, hblocked, htruncated⟩ := State.markBad_port i (s.modPort i (HPort.counted cut))
  rw [State.modPort_port] at hblocked htruncated
  exact ⟨hbad, hblocked, htruncated⟩

/-- The port that frames go on by stands at the other end. -/
theorem portAt_other_ne : portAt (portChannel i) (!portAft i) ≠ i := by
  revert i
  decide

theorem State.guardAct_passPort : (s.guardAct i cut).passPort i = s.passPort i := by
  unfold State.passPort
  dsimp only
  rw [State.guardAct_port_other i cut s _ (portAt_other_ne i)]

end

/-! ### A static frame is copied (R272, R273, R402, R497) -/

section
variable (c : Fin 2) (p : Nat) (h : HwsHeader) (data : List Byte) (evs : List EventMsg) (s : State)

theorem State.noteHealth_hws (w : Nat) : (s.noteHealth p w).hws = s.hws.hear (pos128 p) fun o => { o with health := w } := (State.ite_logEvent_blocks _ 6 0 p _).2.1

theorem State.noteHealth_ina (w : Nat) : (s.noteHealth p w).ina = s.ina := (State.ite_logEvent_blocks _ 6 0 p _).2.2

theorem State.noteEvents_blocks : (s.noteEvents p evs).hws = s.hws ∧ (s.noteEvents p evs).ina = s.ina := by
  have hkeeps := foldl_keeps (fun t : State => (t.hws, t.ina)) (fun (t : State) (m : EventMsg) =>
    let key := (m.number, p, m.at_)
    if t.node.arriving.any (fun x => decide ((x.msg.number, x.position, x.msg.at_) = key)) || decide (key ∈ t.node.seen) then t
    else t.modNode fun n => { n with arriving := n.arriving ++ [⟨m, p, t.ina.generation⟩] }) (fun t m => by dsimp only; split <;> rfl) evs s
  exact Prod.mk.inj hkeeps

/-- The slot of a position after its first valid frame in a cycle. -/
def Slot.taken (repeated : Bool) (x : Slot) : Slot := if repeated then { x with got := .repeated } else { x with got := .fresh, raised := false }

theorem Slot.taken_got (repeated : Bool) (x : Slot) : (x.taken repeated).got = if repeated then .repeated else .fresh := by
  unfold Slot.taken
  split <;> rfl

/-- What is heard of a position with a valid static frame. -/
def NodeRx.heard (h : HwsHeader) (data : List Byte) (o : NodeRx) : NodeRx := { o with auth := authOfBytes data, barrier := leNat ((data.drop 8).take 4), now := true, health := h.health }

/-- A later copy in a cycle leaves the first. -/
theorem State.copyStatic_later (ok : Bool) (hgot : (s.hws.slot c (pos128 p)).got ≠ .nothing) : s.copyStatic c p h data evs ok = s := if_pos hgot

theorem State.copyStatic_invalid (hgot : (s.hws.slot c (pos128 p)).got = .nothing) :
    s.copyStatic c p h data evs false = s.modHws fun w => w.setSlot c (pos128 p) { s.hws.slot c (pos128 p) with got := .invalid } :=
  (if_neg (not_not_intro hgot)).trans (if_pos rfl)

/-- What a received static frame changes, and the rest of the engine: one slot, what was heard. -/
def Hawser.copied (c : Fin 2) (p : Fin 128) (w : Hawser) : Slot × Vector NodeRx 128 × Hawser := (w.slot c p, w.rx, w.besideSlots)

theorem State.withData_copied (q : Fin 128) (d : Vector (Vector (List Byte) 128) 2) : ((s.modHws fun w => { w with data := d }).receiveEntries q c data).hws.copied c q = s.hws.copied c q ∧
    ((s.modHws fun w => { w with data := d }).receiveEntries q c data).ina = s.ina := by
  obtain ⟨u, hu⟩ : ∃ u, (s.modHws fun w => { w with data := d }) = u := ⟨_, rfl⟩
  have hbeside := State.receiveEntries_besideMapping q c data u
  have hhws : (u.receiveEntries q c data).hws = u.hws := (congrArg State.hws hbeside :)
  have hina : (u.receiveEntries q c data).ina = u.ina := (congrArg State.ina hbeside :)
  rw [hu, hhws, hina, ← hu]
  exact ⟨rfl, rfl⟩

/-- The state with a valid static frame in its slot and heard, its event messages waiting. -/
def State.staticTaken (s : State) : State :=
  (((s.modHws fun w => w.setSlot c (pos128 p) ((s.hws.slot c (pos128 p)).taken (h.flags.testBit 1))).modHws fun w =>
    w.hear (pos128 p) fun o => { o with auth := authOfBytes data, barrier := leNat ((data.drop 8).take 4), now := true }).noteHealth p h.health).noteEvents p evs

theorem State.staticTaken_hws : (s.staticTaken c p h data evs).hws = (s.hws.setSlot c (pos128 p) ((s.hws.slot c (pos128 p)).taken (h.flags.testBit 1))).hear (pos128 p) (NodeRx.heard h data) := by
  rw [State.staticTaken, (State.noteEvents_blocks ..).1, State.noteHealth_hws, State.modHws_hws, State.modHws_hws, Hawser.hear_hear]
  rfl

theorem State.staticTaken_ina : (s.staticTaken c p h data evs).ina = s.ina := by
  rw [State.staticTaken, (State.noteEvents_blocks ..).2, State.noteHealth_ina]
  rfl

theorem State.staticTaken_copied : (s.staticTaken c p h data evs).hws.copied c (pos128 p) =
    ((s.hws.slot c (pos128 p)).taken (h.flags.testBit 1), s.hws.rx.set (pos128 p) (s.hws.rx[pos128 p].heard h data), s.hws.besideSlots) := by
  rw [State.staticTaken_hws]
  exact Prod.ext (Hawser.slot_setSlot ..) (Prod.ext (by simp only [Hawser.copied, Hawser.hear, Hawser.setSlot_rx]) (Hawser.setSlot_besideSlots ..))

/-- A valid first copy: the slot, what is heard, and nothing else of the engine but the data. -/
theorem State.copyStatic_valid (hgot : (s.hws.slot c (pos128 p)).got = .nothing) :
    (s.copyStatic c p h data evs true).hws.copied c (pos128 p) =
        ((s.hws.slot c (pos128 p)).taken (h.flags.testBit 1), s.hws.rx.set (pos128 p) (s.hws.rx[pos128 p].heard h data), s.hws.besideSlots) ∧
      (s.copyStatic c p h data evs true).ina = s.ina := by
  have heq : s.copyStatic c p h data evs true =
      let v := s.staticTaken c p h data evs
      if h.flags.testBit 1 then v else (v.modHws fun w => { w with data := w.data.set c (w.data[c].set (pos128 p) data) }).receiveEntries (pos128 p) c data :=
    (if_neg (not_not_intro hgot)).trans (if_neg (by decide))
  rw [heq]
  dsimp only
  split
  · exact ⟨State.staticTaken_copied .., State.staticTaken_ina ..⟩
  · obtain ⟨hcopied, hina⟩ := State.withData_copied c data (s.staticTaken c p h data evs) (pos128 p) _
    exact ⟨hcopied.trans (State.staticTaken_copied ..), hina.trans (State.staticTaken_ina ..)⟩

/-- A copied static frame leaves the rest of the engine, whatever its slot has brought before. -/
theorem State.copyStatic_beside :
    (s.copyStatic c p h data evs true).hws.besideSlots = s.hws.besideSlots ∧ (s.copyStatic c p h data evs true).ina = s.ina := by
  by_cases hgot : (s.hws.slot c (pos128 p)).got = .nothing
  · obtain ⟨hcopied, hina⟩ := State.copyStatic_valid c p h data evs s hgot
    exact ⟨congrArg (fun x => x.2.2) hcopied, hina⟩
  · rw [State.copyStatic_later c p h data evs s true hgot]
    exact ⟨rfl, rfl⟩

end

/-! ### HAWSER_FRAME_RECEIVE by what the guardian decides (R256, R279) -/

section
variable {i : Fin 4} {h : HwsHeader} {t0 t1 : Nat} {s : State} (hruns : s.hawserRuns = true) (hlink : s.hws.ports[i].linkUp = true) (hopen : s.hws.ports[i].folded = false)
include hruns hlink hopen

/-- A passive node takes nothing of what it forwards. -/
theorem State.hawserFrame_passive (body : Body) (a : Arrival) (hst : s.ina.st = .passive) : s.hawserFrame i h body a t0 t1 = (s.advance t1).passOn i false h body := by
  unfold State.hawserFrame
  dsimp only
  rw [if_neg (by rw [hruns, hlink, hopen]; decide), if_pos hst]

variable (hpos : s.hws.position ≠ 0) (hst : s.ina.st ≠ .passive)
include hpos hst

theorem State.hawserFrame_blocked (body : Body) (a : Arrival) (hwin : (s.advance t1).windowOf i h.sender t0 = none) : s.hawserFrame i h body a t0 t1 = (s.advance t1).guardAct i false := by
  unfold State.hawserFrame
  dsimp only
  rw [if_neg (by rw [hruns, hlink, hopen]; decide), if_neg hst, if_neg hpos, hwin]

theorem State.frameBlocked (body : Body) (a : Arrival) (hwin : (s.advance t1).windowOf i h.sender t0 = none) :
    ∃ t, exec (.hawserFrameReceive i h body a t0 t1) s = .next t ∧ t.now = max s.now t1 ∧ t.carSide = s.carSide ∧ t.ina = s.ina ∧ t.hws.ports[i].blocked = satInc 65535 s.hws.ports[i].blocked ∧ t.hws.ports[i].bad = true ∧
      t.hws.slotsA = s.hws.slotsA ∧ t.hws.slotsB = s.hws.slotsB ∧ t.hws.rx = s.hws.rx ∧ t.hws.wire = s.hws.wire := by
  have hview := State.guardAct_view i false (s.advance t1)
  obtain ⟨hbeside, hina⟩ := State.guardAct_beside i false (s.advance t1)
  obtain ⟨hbad, hblocked, -⟩ := State.guardAct_port i false (s.advance t1)
  exact ⟨_, congrArg State.complete (State.hawserFrame_blocked hruns hlink hopen hpos hst body a hwin), (State.now_of_view hview :), (State.carSide_of_view hview :), hina, hblocked, hbad,
    (congrArg Hawser.slotsA hbeside :), (congrArg Hawser.slotsB hbeside :), (congrArg Hawser.rx hbeside :), (congrArg Hawser.wire hbeside :)⟩

variable {p off len te : Nat} (hother : s.hws.position ≠ p) (hwin : (s.advance t1).windowOf i h.sender t0 = some (⟨.static, some p, off, len⟩, te)) (hsender : h.sender = p)
include hother hwin hsender

/-- A static frame in its owner's window goes on and is copied; one that ends late is cut and counted. -/
theorem State.hawserFrame_static (data : List Byte) (evs : List EventMsg) (a : Arrival) :
    s.hawserFrame i h (.static data evs) a t0 t1 =
      let late := decide (te + len + 100 < t1)
      let u := if late then (s.advance t1).guardAct i true else s.advance t1
      (u.passOn i late h (.static data evs)).copyStatic (portChannel i) p h data evs (!late && decide (a = .valid)) := by
  subst hsender
  have hposition (late : Bool) : (if late then (s.advance t1).guardAct i true else s.advance t1).hws.position = s.hws.position := by
    split
    · exact (congrArg Hawser.position (State.guardAct_beside i true (s.advance t1)).1 :)
    · rfl
  have hown : decide (h.sender = s.hws.position) = false := decide_eq_false hother.symm
  unfold State.hawserFrame
  dsimp only
  rw [if_neg (by rw [hruns, hlink, hopen]; decide), if_neg hst, if_neg hpos, hwin]
  simp only [ne_eq, not_true_eq_false, decide_false, Bool.or_false, Bool.not_false, Bool.and_true, hposition, hown, Bool.false_and, Bool.false_eq_true, if_false, Option.getD_some]
  rfl

variable (data : List Byte) (evs : List EventMsg) (hgot : (s.hws.slot (portChannel i) (pos128 p)).got = .nothing)
include hgot

theorem State.staticReceived (hintime : t1 ≤ te + len + 100) :
    ∃ t, exec (.hawserFrameReceive i h (.static data evs) .valid t0 t1) s = .next t ∧ t.now = max s.now t1 ∧ t.carSide = s.carSide ∧ t.ina = s.ina ∧
      (t.hws.slot (portChannel i) (pos128 p)).got = (if h.flags.testBit 1 then .repeated else .fresh) ∧ t.hws.rx[pos128 p].health = h.health ∧ t.hws.rx[pos128 p].auth = authOfBytes data ∧ t.hws.rx[pos128 p].now = true ∧
      t.hws.ports = s.hws.ports ∧ t.hws.wire = s.hws.wire ++ [⟨.ring (portChannel i).val (s.passPort i).val .passed, h.dest, h, .static data evs⟩] := by
  obtain ⟨u, hu⟩ : ∃ u, (s.advance t1).passOn i false h (.static data evs) = u := ⟨_, rfl⟩
  have heq := State.hawserFrame_static hruns hlink hopen hpos hst hother hwin hsender data evs .valid
  rw [decide_eq_false (Nat.not_lt.2 hintime)] at heq
  replace heq : s.hawserFrame i h (.static data evs) .valid t0 t1 = u.copyStatic (portChannel i) p h data evs true := heq.trans (by rw [← hu]; rfl)
  have hview : (u.copyStatic (portChannel i) p h data evs true).view = (s.advance t1).view := (State.copyStatic_view ..).trans (by rw [← hu]; exact State.passOn_view ..)
  have hslot : u.hws.slot (portChannel i) (pos128 p) = s.hws.slot (portChannel i) (pos128 p) := by rw [← hu]; rfl
  obtain ⟨hcopied, hina⟩ := State.copyStatic_valid (portChannel i) p h data evs u (by rw [hslot]; exact hgot)
  simp only [Hawser.copied, Prod.mk.injEq] at hcopied
  obtain ⟨htaken, hrx, hbeside⟩ := hcopied
  have hheard : (u.copyStatic (portChannel i) p h data evs true).hws.rx[pos128 p] = u.hws.rx[pos128 p].heard h data := by rw [hrx]; simp
  refine ⟨_, congrArg State.complete heq, (State.now_of_view hview :), (State.carSide_of_view hview :), hina.trans (by rw [← hu]; rfl), ?_, (congrArg NodeRx.health hheard :), (congrArg NodeRx.auth hheard :), (congrArg NodeRx.now hheard :),
    (congrArg Hawser.ports hbeside).trans (by rw [← hu]; rfl), (congrArg Hawser.wire hbeside).trans (by rw [← hu]; rfl)⟩
  exact (congrArg Slot.got htaken).trans (Slot.taken_got ..)

theorem State.staticCut (hlate : te + len + 100 < t1) :
    ∃ t, exec (.hawserFrameReceive i h (.static data evs) .valid t0 t1) s = .next t ∧ t.now = max s.now t1 ∧ t.carSide = s.carSide ∧ t.ina = s.ina ∧
      (t.hws.slot (portChannel i) (pos128 p)).got = .invalid ∧ t.hws.ports[i].truncated = satInc 65535 s.hws.ports[i].truncated ∧ t.hws.ports[i].bad = true ∧ t.hws.rx = s.hws.rx ∧
      t.hws.wire = s.hws.wire ++ [⟨.ring (portChannel i).val (s.passPort i).val .cut, h.dest, h, .static data evs⟩] := by
  obtain ⟨g, hg⟩ : ∃ g, (s.advance t1).guardAct i true = g := ⟨_, rfl⟩
  obtain ⟨hbeside, hina⟩ := State.guardAct_beside i true (s.advance t1)
  obtain ⟨hbad, -, htruncated⟩ := State.guardAct_port i true (s.advance t1)
  have hport := State.guardAct_passPort i true (s.advance t1)
  have hgview := State.guardAct_view i true (s.advance t1)
  rw [hg] at hbeside hina hbad htruncated hport hgview
  have hslot : g.hws.slot (portChannel i) (pos128 p) = s.hws.slot (portChannel i) (pos128 p) := (congrArg (Hawser.slot (portChannel i) (pos128 p)) hbeside :)
  have heq := State.hawserFrame_static hruns hlink hopen hpos hst hother hwin hsender data evs .valid
  rw [decide_eq_true hlate] at heq
  dsimp only at heq
  rw [if_pos rfl, hg] at heq
  obtain ⟨u, hu⟩ : ∃ u, g.passOn i true h (.static data evs) = u := ⟨_, rfl⟩
  obtain ⟨x, hx⟩ : ∃ x : Slot, { u.hws.slot (portChannel i) (pos128 p) with got := .invalid } = x := ⟨_, rfl⟩
  have hcopied := State.copyStatic_invalid (portChannel i) p h data evs u (by rw [← hgot, ← hslot, ← hu]; rfl)
  rw [hu] at heq
  rw [hx] at hcopied
  replace heq : s.hawserFrame i h (.static data evs) .valid t0 t1 = u.modHws fun w => w.setSlot (portChannel i) (pos128 p) x := heq.trans hcopied
  have hview : (u.modHws fun w => w.setSlot (portChannel i) (pos128 p) x).view = (s.advance t1).view := by
    rw [← hgview, ← State.passOn_view i true h (.static data evs) g, hu]
    simp
  have hrest := Hawser.setSlot_besideSlots (portChannel i) (pos128 p) x u.hws
  have hports : (u.hws.setSlot (portChannel i) (pos128 p) x).ports = g.hws.ports := (congrArg Hawser.ports hrest).trans (by rw [← hu]; rfl)
  have hrx : (u.hws.setSlot (portChannel i) (pos128 p) x).rx = s.hws.rx := (Hawser.setSlot_rx ..).trans (by rw [← hu]; exact (congrArg Hawser.rx hbeside :))
  have hbefore : g.hws.wire = s.hws.wire := (congrArg Hawser.wire hbeside :)
  have hwire : u.hws.wire = s.hws.wire ++ [⟨.ring (portChannel i).val (s.passPort i).val .cut, h.dest, h, .static data evs⟩] := by
    rw [← hu, State.passOn, State.send_hws, hport, hbefore]
    rfl
  refine ⟨_, congrArg State.complete heq, (State.now_of_view hview :), (State.carSide_of_view hview :), ?_, ?_, ?_, ?_, hrx, (congrArg Hawser.wire hrest).trans hwire⟩
  · rw [State.draw_ina, State.modHws_ina, ← hu]
    exact hina
  · rw [State.draw_hws, State.modHws_hws, Hawser.slot_setSlot, ← hx]
  · rw [State.draw_hws, State.modHws_hws, hports]
    exact htruncated
  · rw [State.draw_hws, State.modHws_hws, hports]
    exact hbad

theorem State.staticCorrupt (hintime : t1 ≤ te + len + 100) : exec (.hawserFrameReceive i h (.static data evs) .badFcs t0 t1) s =
    .next (((s.advance t1).send ⟨.ring (portChannel i).val (s.passPort i).val .passed, h.dest, h, .static data evs⟩).modHws fun w =>
      w.setSlot (portChannel i) (pos128 p) { s.hws.slot (portChannel i) (pos128 p) with got := .invalid }).draw := by
  have heq := State.hawserFrame_static hruns hlink hopen hpos hst hother hwin hsender data evs .badFcs
  rw [decide_eq_false (Nat.not_lt.2 hintime)] at heq
  exact congrArg State.complete (heq.trans (State.copyStatic_invalid (portChannel i) p h data evs ((s.advance t1).passOn i false h (.static data evs)) hgot))

end

/-! ### Own frames come back (R256, R264, R276) -/

theorem State.pollReceive_ok {s : State} (c : Fin 2) (l : List PollSlot) (hruns : s.hawserRuns = true) : s.pollReceive c l = s.modHws fun h => { h with listedNext := h.listedNext.set c l } := if_pos hruns

section
variable {c : Fin 2} {s : State} (r : Nat) (hin : s.inserts c = true)
include hin

theorem State.ownRemoval_beacon (hmaster : s.isMaster = true) (hquiet : s.quiet = false) :
    s.ownRemoval c .beacon true r = (s.modHws fun h => { h with beaconNow := h.beaconNow.set c true }).modPort (s.firstPort c) fun x => { x with beaconAt := some r } := by
  unfold State.ownRemoval
  dsimp only
  rw [if_neg (by rw [hin]; decide), if_pos (by rw [hmaster]; rfl), hquiet]
  rfl

/-- The own static frame of the cycle comes back: its return counts, and its data reach the own slot. -/
theorem State.ownRemoval_static (hsent : s.hws.sentNow[c] = true) :
    let u := s.modHws fun h => { h with backNow := h.backNow.set c true }
    (s.ownRemoval c .static true r).hws.besideSlots = u.hws.besideSlots ∧ (s.ownRemoval c .static true r).ina = s.ina := by
  intro u
  unfold State.ownRemoval
  dsimp only
  rw [if_neg (by rw [hin]; decide), if_pos (by rw [hsent]; rfl)]
  split
  · split
    · exact State.copyStatic_beside ..
    · exact ⟨rfl, rfl⟩
  · exact ⟨rfl, rfl⟩

theorem State.ownStaticReturned (hsent : s.hws.sentNow[c] = true) :
    ∃ t, exec (.ownFrameRemoval c .static true r) s = .next t ∧ t.now = s.now ∧ t.carSide = s.carSide ∧ t.ina = s.ina ∧ t.hws.backNow[c] = true ∧ t.hws.wire = s.hws.wire := by
  have hview := State.ownRemoval_view c .static true r s
  obtain ⟨hbeside, hina⟩ := State.ownRemoval_static r hin hsent
  have hback : (s.ownRemoval c .static true r).hws.backNow = s.hws.backNow.set c true := (congrArg Hawser.backNow hbeside :)
  refine ⟨_, rfl, (State.now_of_view hview :), (State.carSide_of_view hview :), hina, ?_, (congrArg Hawser.wire hbeside :)⟩
  rw [State.draw_hws, hback]
  simp

end

/-! ### What watches the ring (R267, R273, R278, R281) -/

/-- A channel has left the schedule (R281). -/
def State.channelLeft (c : Fin 2) (s : State) : State :=
  s.modHws fun h => { h with inSchedule := h.inSchedule.set c false, ownRun := h.ownRun.set c 0, leftRaised := h.leftRaised.set c true, beaconRun := 0 }

/-- With a channel cleared, one is left exactly if the other one was there. -/
theorem channels_left (c : Fin 2) (v : Vector Bool 2) : ((v.set c false)[0] || (v.set c false)[1]) = true ↔ ∃ d : Fin 2, d ≠ c ∧ v[d] = true := by
  fin_cases c <;> simp [Fin.exists_fin_two]

section
variable {s : State} (hruns : s.hawserRuns = true)
include hruns

theorem State.asyncBacklog_ok {c : Fin 2} {l : List AsyncFrame} (hmark : markBacklog s.hws.cycle s.hws.async[c] = some l) :
    ∃ t, exec (.asyncBacklog c) s = .next t ∧ t.now = s.now ∧ t.carSide = s.carSide ∧ t.ina = s.ina ∧ t.hws.async[c] = l ∧ t.hws.cntBacklog = satInc 255 s.hws.cntBacklog ∧ t.hws.faultEvent = 14 ∧ t.hws.faultChannel = c.val := by
  have heq : s.asyncBacklog c = (s.modHws fun h => { h with async := h.async.set c l, cntBacklog := satInc 255 h.cntBacklog }).hwsEvent 14 0 c.val 0 := by
    unfold State.asyncBacklog
    rw [if_pos hruns, hmark]
  have hview := State.asyncBacklog_view c s
  refine ⟨_, rfl, (State.now_of_view hview :), (State.carSide_of_view hview :), ?_⟩
  rw [State.draw_ina, State.draw_hws, heq, State.hwsEvent_ina, State.hwsEvent_hws]
  simp

theorem State.slotStale_ok {p : Fin 128} {c : Fin 2} (hp : p.val < s.hws.n) (hage : cfgHwsStaleLimit s.params ≤ (s.hws.slot c p).age) (hfirst : (s.hws.slot c p).raised = false) :
    ∃ t, exec (.slotStale p c) s = .next t ∧ t.now = s.now ∧ t.carSide = s.carSide ∧ t.ina = s.ina ∧ t.hws.slot c p = { s.hws.slot c p with raised := true } ∧ t.hws.faultEvent = 8 ∧ t.hws.faultPosition = p.val + 1 := by
  have heq : s.slotStale p c = (s.modHws fun h => h.setSlot c p { s.hws.slot c p with raised := true }).hwsEvent 8 0 c.val (p.val + 1) :=
    if_pos (by rw [hruns, decide_eq_true hp, decide_eq_true hage, hfirst]; rfl)
  have hview := State.slotStale_view p c s
  refine ⟨_, rfl, (State.now_of_view hview :), (State.carSide_of_view hview :), ?_⟩
  rw [State.draw_ina, State.draw_hws, heq, State.hwsEvent_ina, State.hwsEvent_hws]
  exact ⟨rfl, Hawser.slot_setSlot .., rfl, rfl⟩

theorem State.beaconLost_ok (hst : s.ina.st = .running ∨ s.ina.st = .reintegrating) (hmissed : 4 ≤ s.hws.beaconMissed) (hfirst : s.hws.lostRaised = false) :
    ∃ t, exec .beaconLost s = .next t ∧ t.now = s.now ∧ t.carSide = s.carSide ∧ t.ina.st = .reintegrating ∧ (∀ d : Fin 2, t.hws.inSchedule[d] = false) ∧ t.hws.lostRaised = true ∧ t.hws.faultEvent = 3 := by
  have hmember : (decide (s.ina.st = .running) || decide (s.ina.st = .reintegrating)) = true := by simpa using hst
  have heq : s.beaconLost = ((s.modHws fun h => { h with inSchedule := Vector.replicate 2 false, lostRaised := true, beaconRun := 0 }).modIna fun x => { x with st := .reintegrating }).hwsEvent 3 0 0 0 :=
    if_pos (by rw [hruns, hmember, decide_eq_true hmissed, hfirst]; rfl)
  have hview := State.beaconLost_view s
  refine ⟨_, rfl, (State.now_of_view hview :), (State.carSide_of_view hview :), ?_⟩
  rw [State.draw_ina, State.draw_hws, heq, State.hwsEvent_ina, State.hwsEvent_hws]
  exact ⟨rfl, fun d => by simp, rfl, rfl⟩

theorem State.leftSchedule_ok {c : Fin 2} (hsched : s.hws.inSchedule[c] = true) (hrun : 3 ≤ s.hws.ownRun[c]) :
    ∃ t, exec (.leftSchedule c) s = .next t ∧ t.now = s.now ∧ t.carSide = s.carSide ∧ t.hws.inSchedule[c] = false ∧ (∀ d : Fin 2, d ≠ c → t.hws.inSchedule[d] = s.hws.inSchedule[d]) ∧
      t.hws.faultEvent = 4 ∧ t.hws.faultChannel = c.val ∧ ((∀ d : Fin 2, d ≠ c → s.hws.inSchedule[d] = false) → t.ina.st = .reintegrating) ∧ ((∃ d : Fin 2, d ≠ c ∧ s.hws.inSchedule[d] = true) → t.ina = s.ina) := by
  have hview := State.leftSchedule_view c s
  obtain ⟨v, hv, heq⟩ : ∃ v, v = (if (s.channelLeft c).hws.inSchedule[0] || (s.channelLeft c).hws.inSchedule[1] then s.channelLeft c else (s.channelLeft c).modIna fun x => { x with st := .reintegrating }) ∧
      s.leftSchedule c = v.hwsEvent 4 0 c.val 0 := ⟨_, rfl, if_pos (by rw [hruns, hsched, decide_eq_true hrun]; rfl)⟩
  have hhws : v.hws = (s.channelLeft c).hws := by
    rw [hv]
    split <;> rfl
  have hsched : v.hws.inSchedule = s.hws.inSchedule.set c false := by rw [hhws]; rfl
  have hany : ((s.channelLeft c).hws.inSchedule[0] || (s.channelLeft c).hws.inSchedule[1]) = true ↔ ∃ d : Fin 2, d ≠ c ∧ s.hws.inSchedule[d] = true := channels_left c s.hws.inSchedule
  refine ⟨_, rfl, (State.now_of_view hview :), (State.carSide_of_view hview :), ?_⟩
  rw [State.draw_ina, State.draw_hws, heq, State.hwsEvent_ina, State.hwsEvent_hws]
  refine ⟨?_, fun d hd => ?_, rfl, rfl, fun hnone => ?_, fun hsome => ?_⟩
  · rw [hsched]
    simp
  · have hne : c.val ≠ d.val := fun e => hd (Fin.ext e.symm)
    rw [hsched]
    simp [hne]
  · rw [hv, if_neg fun h => ?_]
    · rfl
    · obtain ⟨d, hd, hin⟩ := hany.1 h
      rw [hnone d hd] at hin
      contradiction
  · rw [hv, if_pos (hany.2 hsome)]
    rfl

end

theorem State.slotStale_none {p : Fin 128} {c : Fin 2} {s : State} (h : (s.hws.slot c p).raised = true ∨ s.hws.n ≤ p.val) : s.slotStale p c = s := by
  refine if_neg ?_
  rcases h with hraised | hn
  · simp [hraised]
  · simp [Nat.not_lt.2 hn]

theorem State.beaconLost_none {s : State} (hrun : s.ina.st ≠ .running) (hre : s.ina.st ≠ .reintegrating) : s.beaconLost = s := if_neg (by simp [hrun, hre])

/-- The head of a queue that has waited for more than 16 cycles is the frame that E206 is raised for. -/
theorem markBacklog_head {n : Nat} {f : AsyncFrame} (l : List AsyncFrame) (hlong : 16 < n - f.since) (hfirst : f.raised = false) : markBacklog n (f :: l) = some ({ f with raised := true } :: l) :=
  if_pos (by rw [decide_eq_true hlong, hfirst]; rfl)

/-- Settles O36: what a received frame does follows the guardian's verdict, and each watch of the ring is one equation with its event. -/
theorem hawserFramesAreReceived : Obligations.HawserFramesAreReceived := by
  unfold Obligations.HawserFramesAreReceived
  refine ⟨fun i h body a t0 t1 s hruns hpos hst hlink hopen hwin => State.frameBlocked hruns hlink hopen hpos hst body a hwin,
    fun i h data evs t0 t1 p off len te s hruns hpos hst hother hlink hopen hwin hsender hgot => ?_,
    fun c l s hruns => congrArg State.complete (State.pollReceive_ok c l hruns),
    fun c r s hin hmaster hquiet => congrArg State.complete (State.ownRemoval_beacon r hin hmaster hquiet),
    fun c r s hin hsent => State.ownStaticReturned r hin hsent,
    fun c s hruns hsched hrun => State.leftSchedule_ok hruns hsched hrun,
    fun c l s hruns hmark => State.asyncBacklog_ok hruns hmark,
    fun c f l n hlong hfirst => markBacklog_head l hlong hfirst,
    fun p c s hruns hp hage hfirst => State.slotStale_ok hruns hp hage hfirst,
    fun p c s h => congrArg State.complete (State.slotStale_none h),
    fun s hrun hre => congrArg State.complete (State.beaconLost_none hrun hre),
    fun i h body a t0 t1 s hruns hst hlink hopen => congrArg State.complete (State.hawserFrame_passive hruns hlink hopen body a hst),
    fun s hruns hst hmissed hfirst => State.beaconLost_ok hruns hst hmissed hfirst⟩
  exact ⟨State.staticReceived hruns hlink hopen hpos hst hother hwin hsender data evs hgot, State.staticCut hruns hlink hopen hpos hst hother hwin hsender data evs hgot,
    State.staticCorrupt hruns hlink hopen hpos hst hother hwin hsender data evs hgot⟩

end Sys2Proof.Machine
end

section
/-! PROOFS. The Hawser clock, the schedule modes and the relays: O37. -/

namespace Sys2Proof.Machine

/-! ### The servo (R38, R275) -/

/-- What a valid beacon sets in the engine beside the servo. -/
def Hawser.beaconView (w : Hawser) := (w.d, w.beaconNow, w.ringTime, w.beaconMissed, w.holdover, w.ports, w.wire)

/-- What the servo works on. -/
def Hawser.servoView (w : Hawser) := (w.clock, w.offset, w.pendingStep, w.stepReady, w.servo)

section
variable (t tcyc : Nat) (off : Int) (rx : Nat) (h : Hawser)

/-- An offset beyond 1 µs waits as a step. -/
theorem Hawser.discipline_far (hfar : 65536000 < off.natAbs) : (h.discipline t tcyc off rx).servoView = (h.clock, off, some (-off), false, h.servo) := by
  unfold Hawser.discipline
  dsimp only
  rw [if_pos hfar]
  rfl

/-- A smaller one changes the pace, within the limit. -/
theorem Hawser.discipline_near (hnear : off.natAbs ≤ 65536000) : ∃ r : Int, (-200000 ≤ r ∧ r ≤ 200000) ∧ (h.discipline t tcyc off rx).servoView = (h.clock.slew t r, off, h.pendingStep, h.stepReady, h.servo) := by
  unfold Hawser.discipline
  dsimp only
  rw [if_neg (Nat.not_lt.2 hnear)]
  exact ⟨_, clampInt_within _, rfl⟩

theorem Hawser.discipline_beaconView : (h.discipline t tcyc off rx).beaconView = h.beaconView := by
  unfold Hawser.discipline
  dsimp only
  split <;> rfl

/-- The servo as the present beacon finds it: channel A's takes the place of channel B's, which has come first (R275). -/
def Hawser.readyFor (c : Fin 2) (t : Nat) (h : Hawser) : Hawser :=
  if c = 0 then
    match h.servo with
    | some v => { h with clock := h.clock.slew t v.rate, offsetPrev := v.offsetPrev, rxPrev := v.rxPrev, alarmRun := v.alarmRun, pendingStep := v.pendingStep, servo := none }
    | none => h
  else { h with servo := some ⟨h.clock.rate, h.offsetPrev, h.rxPrev, h.alarmRun, h.pendingStep⟩ }

variable (c : Fin 2)

theorem Hawser.serve_eq : h.serve c t tcyc off rx = (h.readyFor c t).discipline t tcyc off rx := by
  unfold Hawser.serve Hawser.readyFor
  split
  · cases h.servo <;> rfl
  · rfl

theorem Hawser.readyFor_beaconView : (h.readyFor c t).beaconView = h.beaconView := by
  unfold Hawser.readyFor
  repeat' split
  all_goals rfl

theorem Hawser.readyFor_read : (h.readyFor c t).clock.read t = h.clock.read t := by
  unfold Hawser.readyFor
  repeat' split
  · exact Counter.slew_read ..
  · rfl
  · rfl

/-- Where no beacon of channel B has served, and at one of channel B, clock and step stand as they were. -/
theorem Hawser.readyFor_same (hfirst : (c = 0 ∧ h.servo = none) ∨ c = 1) : (h.readyFor c t).clock = h.clock ∧ (h.readyFor c t).pendingStep = h.pendingStep := by
  unfold Hawser.readyFor
  rcases hfirst with ⟨hc, hservo⟩ | hc
  · rw [if_pos hc, hservo]
    exact ⟨rfl, rfl⟩
  · rw [if_neg (by rw [hc]; decide)]
    exact ⟨rfl, rfl⟩

theorem Hawser.readyFor_back {v : Servo} (hc : c = 0) (hservo : h.servo = some v) :
    (h.readyFor c t).clock.rate = v.rate ∧ (h.readyFor c t).pendingStep = v.pendingStep ∧ (h.readyFor c t).servo = none := by
  unfold Hawser.readyFor
  rw [if_pos hc, hservo]
  exact ⟨rfl, rfl, rfl⟩

theorem Hawser.serve_beaconView : (h.serve c t tcyc off rx).beaconView = h.beaconView := by
  rw [Hawser.serve_eq, Hawser.discipline_beaconView, Hawser.readyFor_beaconView]

theorem Hawser.serve_far (hfar : 65536000 < off.natAbs) : (h.serve c t tcyc off rx).servoView = ((h.readyFor c t).clock, off, some (-off), false, (h.readyFor c t).servo) := by
  rw [Hawser.serve_eq]
  exact Hawser.discipline_far t tcyc off rx _ hfar

theorem Hawser.serve_near (hnear : off.natAbs ≤ 65536000) :
    ∃ r : Int, (-200000 ≤ r ∧ r ≤ 200000) ∧ (h.serve c t tcyc off rx).servoView = ((h.readyFor c t).clock.slew t r, off, (h.readyFor c t).pendingStep, (h.readyFor c t).stepReady, (h.readyFor c t).servo) := by
  rw [Hawser.serve_eq]
  exact Hawser.discipline_near t tcyc off rx _ hnear

end

/-! ### A valid beacon arrives (R269, R275, R276, R278) -/

theorem State.mssEvent_blocks (e c d : Nat) (s : State) : (s.mssEvent e c d).hws = s.hws ∧ (s.mssEvent e c d).ina = s.ina := by simp [State.mssEvent]

/-- The calendar follows apart from the Hawser engine. -/
theorem State.calendarFollow_blocks (b : Beacon) (s : State) : (s.calendarFollow b).hws = s.hws ∧ (s.calendarFollow b).ina = s.ina := by
  unfold State.calendarFollow
  dsimp only
  repeat' split
  · exact State.mssEvent_blocks ..
  all_goals exact ⟨rfl, rfl⟩

theorem State.noteSwitch_beside (b : Beacon) (s : State) :
    (s.noteSwitch b).hws.beaconView = s.hws.beaconView ∧ (s.noteSwitch b).hws.servoView = s.hws.servoView ∧ (s.noteSwitch b).ina = s.ina := by
  unfold State.noteSwitch
  dsimp only
  repeat' split
  · rw [State.hwsEvent_hws, State.hwsEvent_ina]
    exact ⟨rfl, rfl, rfl⟩
  all_goals exact ⟨rfl, rfl, rfl⟩

theorem State.noteHealth_beside (p w : Nat) (s : State) :
    (s.noteHealth p w).hws.beaconView = s.hws.beaconView ∧ (s.noteHealth p w).hws.servoView = s.hws.servoView ∧ (s.noteHealth p w).ina = s.ina := by
  rw [State.noteHealth_hws, State.noteHealth_ina]
  exact ⟨rfl, rfl, rfl⟩

/-- The servo takes a beacon, an alarm that stands for the third time is told, and the calendar follows. -/
def State.serveBeacon (c : Fin 2) (off : Int) (rx : Nat) (b : Beacon) (s : State) : State :=
  let told := s.hws.servo.isSome && decide (s.hws.alarmRun = 3)
  let s := s.modHws fun w => w.serve c s.now s.tcyc off rx
  let s := if s.hws.alarmRun = 3 ∧ told = false then s.hwsEvent 10 0 c.val 0 else s
  s.calendarFollow b

theorem State.serveBeacon_blocks (c : Fin 2) (off : Int) (rx : Nat) (b : Beacon) (s : State) :
    (s.serveBeacon c off rx b).hws.beaconView = s.hws.beaconView ∧ (s.serveBeacon c off rx b).hws.servoView = (s.hws.serve c s.now s.tcyc off rx).servoView ∧ (s.serveBeacon c off rx b).ina = s.ina := by
  unfold State.serveBeacon
  extract_lets told served alarmed
  obtain ⟨hhws, hina⟩ := State.calendarFollow_blocks b alarmed
  have halarmed : alarmed.hws.beaconView = served.hws.beaconView ∧ alarmed.hws.servoView = served.hws.servoView ∧ alarmed.ina = served.ina := by
    unfold alarmed
    split
    · rw [State.hwsEvent_hws, State.hwsEvent_ina]
      exact ⟨rfl, rfl, rfl⟩
    · exact ⟨rfl, rfl, rfl⟩
  obtain ⟨hview, hservo, hkept⟩ := halarmed
  rw [hhws, hina, hview, hservo, hkept]
  exact ⟨Hawser.serve_beaconView .., rfl, rfl⟩

/-- The engine without what it has put on a wire. -/
def Hawser.besideWire (w : Hawser) : Hawser := { w with wire := [], octets := [] }

section
variable (i : Fin 4) (h : HwsHeader) (b : Beacon) (s : State)

/-- The port at which a beacon arrives keeps its delay (R276). -/
def State.beaconSeen : State := s.modPort i fun x => { x with beaconAt := some ((b.correction + s.hws.ports[i].delay) / 65536) }

/-- The beacon goes on from there unless the port is folded (R255). -/
def State.beaconPassed : State := if s.hws.ports[i].folded then s.beaconSeen i b else (s.beaconSeen i b).passBeacon i h b

theorem State.beaconPassed_beside : (s.beaconPassed i h b).hws.besideWire = (s.beaconSeen i b).hws.besideWire ∧ (s.beaconPassed i h b).ina = s.ina := by
  unfold State.beaconPassed
  split <;> exact ⟨rfl, rfl⟩

theorem State.beaconPassed_folded (hfold : s.hws.ports[i].folded = true) : (s.beaconPassed i h b).hws.wire = s.hws.wire := by
  rw [State.beaconPassed, if_pos hfold]
  rfl

theorem State.beaconPassed_open (hopen : s.hws.ports[i].folded = false) : (s.beaconPassed i h b).hws.wire =
    s.hws.wire ++ [⟨.ring (portChannel i).val (s.passPort i).val .passed, h.dest, h, .beacon { b with correction := b.correction + s.hws.ports[i].delay + Config.freeNat 71 s.freeCount }⟩] := by
  have hdelay : (s.beaconSeen i b).hws.ports[i].delay = s.hws.ports[i].delay := by rw [State.beaconSeen, State.modPort_port]
  have hport : (s.beaconSeen i b).passPort i = s.passPort i := by
    unfold State.passPort
    dsimp only
    rw [State.beaconSeen, State.modPort_port_other i s _ _ (portAt_other_ne i)]
  rw [State.beaconPassed, if_neg (by rw [hopen]; decide), State.passBeacon, hdelay, State.passOn, hport, State.send_hws]
  rfl

theorem State.beaconPassed_view : (s.beaconPassed i h b).view = s.view := by
  unfold State.beaconPassed State.beaconSeen
  split <;> simp

end

theorem State.firstPort_of (c : Fin 2) {u s : State} (hmaster : u.hws.master = s.hws.master) (hposition : u.hws.position = s.hws.position) (horient : u.ina.orientation = s.ina.orientation) :
    u.firstPort c = s.firstPort c := by
  simp only [State.firstPort, State.egress, hmaster, hposition, horient]

/-- What the first valid beacon of a channel in a cycle sets in the engine (R275 to R278). -/
def Hawser.beaconSet (i : Fin 4) (b : Beacon) (w v : Hawser) : Prop :=
  w.d[portChannel i] = b.correction + v.ports[i].delay ∧ w.beaconNow[portChannel i] = true ∧ w.ringTime[portChannel i] = b.ringTime ∧ w.beaconMissed = 0 ∧ w.holdover = false ∧
    w.ports[i].beaconAt = some ((b.correction + v.ports[i].delay) / 65536)

section
variable {i : Fin 4} (h : HwsHeader) {b : Beacon} (rx : Nat) {s : State} (hruns : s.hawserRuns = true) (hlink : s.hws.ports[i].linkUp = true) (hmaster : s.isMaster = false) (hgen : b.generation = s.ina.generation)
  (hlead : b.master = s.hws.master) (hnonce : s.ina.st = .running ∨ b.nonce = s.ina.nonce) (hport : i = s.firstPort (portChannel i)) (hfirst : s.hws.beaconNow[portChannel i] = false)
include hruns hlink hmaster hgen hlead hnonce hport hfirst

/-- The first valid beacon of the own segment in a cycle: what it sets, and the servo takes it where the channel serves. -/
theorem State.beaconReceive_first :
    ∃ v : State, v.view = s.view ∧ v.ina = { s.ina with nonce := b.nonce } ∧ v.hws.beaconSet i b s.hws ∧ v.hws.wire = (s.beaconPassed i h b).hws.wire ∧ v.hws.servoView = s.hws.servoView ∧
      s.beaconReceive i h b rx = if decide (portChannel i = 0) || !s.hws.beaconNow[0] then v.serveBeacon (portChannel i) ((rx : Int) - (b.txTime + (b.correction + s.hws.ports[i].delay : Nat))) rx b else v := by
  have hown : s.ownBeacon b = true := by
    simp only [State.ownBeacon, hgen, hlead, decide_true, Bool.true_and, Bool.or_eq_true, decide_eq_true_eq]
    exact .inl hnonce
  obtain ⟨t, hreceived⟩ : ∃ t, s.beaconReceive i h b rx = t := ⟨_, rfl⟩
  have ht := hreceived
  have hheard : ¬(!s.hawserRuns || !s.hws.ports[i].linkUp) = true := by rw [hruns, hlink]; decide
  unfold State.beaconReceive at ht
  extract_lets port channel d mine seen passed took nonced taken serve alone counted announced healthy told served alarmed at ht
  rw [if_neg hheard, if_neg (by rw [hown]; decide)] at ht
  have hmine : mine = false := by rw [show mine = (s.isMaster && _) from rfl, hmaster, Bool.false_and]
  have hpassed : passed = s.beaconPassed i h b := by
    unfold passed
    rw [hmine, Bool.false_and, Bool.or_false]
    rfl
  obtain ⟨hbeside, hina⟩ := State.beaconPassed_beside i h b s
  have hview := State.beaconPassed_view i h b s
  rw [← hpassed] at hbeside hina hview
  have hlead' : passed.hws.master = s.hws.master := (congrArg Hawser.master hbeside :)
  have hposition : passed.hws.position = s.hws.position := (congrArg Hawser.position hbeside :)
  have hbeacons : passed.hws.beaconNow = s.hws.beaconNow := (congrArg Hawser.beaconNow hbeside :)
  have hservo : passed.hws.servoView = s.hws.servoView := (congrArg Hawser.servoView hbeside :)
  have hports : passed.hws.ports = (s.beaconSeen i b).hws.ports := (congrArg Hawser.ports hbeside :)
  have htook : took = false := decide_eq_false (by rw [hlead', hlead]; exact fun hne => hne rfl)
  have htaken : taken = nonced := if_neg (by rw [htook]; decide)
  have hside : taken.firstPort channel = s.firstPort (portChannel i) := by
    rw [htaken]
    exact State.firstPort_of channel hlead' hposition (congrArg Inaug.orientation hina :)
  have hbefore : taken.hws.beaconNow = s.hws.beaconNow := by rw [htaken]; exact hbeacons
  rw [if_neg (by rw [hmine]; decide), if_neg (by rw [hside, hbefore, hfirst, ← hport]; simp)] at ht
  obtain ⟨hannounced, hannouncedServo, hannouncedIna⟩ := State.noteSwitch_beside b counted
  obtain ⟨hhealthy, hhealthyServo, hhealthyIna⟩ := State.noteHealth_beside b.master h.health announced
  have hset : healthy.hws.beaconView =
      (taken.hws.d.set channel d, taken.hws.beaconNow.set channel true, taken.hws.ringTime.set channel b.ringTime, 0, false, taken.hws.ports, taken.hws.wire) := hhealthy.trans hannounced
  have hkept : healthy.hws.servoView = taken.hws.servoView := hhealthyServo.trans hannouncedServo
  have hcounted : healthy.ina = taken.ina := hhealthyIna.trans hannouncedIna
  have hstill : healthy.view = passed.view := by
    rw [show healthy = (counted.noteSwitch b).noteHealth b.master h.health from rfl, State.noteHealth_view, State.noteSwitch_view, show counted.view = taken.view from State.modHws_view _ _ (fun _ => rfl) fun _ => rfl, htaken]
    rfl
  rw [htaken] at hset hkept hcounted
  simp only [Hawser.beaconView, Prod.mk.injEq] at hset
  obtain ⟨hd, hnow, hring, hmissed, hholdover, hportsAfter, hwire⟩ := hset
  refine ⟨healthy, hstill.trans hview, hcounted.trans ?_, ⟨?_, ?_, ?_, hmissed, hholdover, ?_⟩, hwire.trans ?_, hkept.trans hservo, ?_⟩
  · show ({ passed.ina with nonce := b.nonce } : Inaug) = _
    rw [hina]
  · rw [hd]
    simp [channel, d, port]
  · rw [hnow]
    simp [channel]
  · rw [hring]
    simp [channel]
  · rw [hportsAfter]
    show passed.hws.ports[i].beaconAt = _
    rw [hports, State.beaconSeen, State.modPort_port]
  · show passed.hws.wire = _
    rw [hpassed]
  · rw [hreceived, ← ht, show serve = (decide (channel = 0) || !taken.hws.beaconNow[0]) from rfl, hbefore]
    rfl

end

section
variable {c : Fin 2} {t tcyc : Nat} {off : Int} {rx : Nat} {w h : Hawser} (hw : w.servoView = (h.serve c t tcyc off rx).servoView)
include hw

/-- The servo has the offset, and the counter does not jump. -/
theorem Hawser.served_offset : w.offset = off ∧ w.servo = (h.readyFor c t).servo ∧ w.clock.read t = h.clock.read t := by
  by_cases hfar : 65536000 < off.natAbs
  · rw [Hawser.serve_far t tcyc off rx h c hfar] at hw
    simp only [Hawser.servoView, Prod.mk.injEq] at hw
    obtain ⟨hclock, hoff, -, -, hservo⟩ := hw
    exact ⟨hoff, hservo, by rw [hclock, Hawser.readyFor_read]⟩
  · obtain ⟨r, -, hr⟩ := Hawser.serve_near t tcyc off rx h c (Nat.not_lt.1 hfar)
    rw [hr] at hw
    simp only [Hawser.servoView, Prod.mk.injEq] at hw
    obtain ⟨hclock, hoff, -, -, hservo⟩ := hw
    exact ⟨hoff, hservo, by rw [hclock, Counter.slew_read, Hawser.readyFor_read]⟩

theorem Hawser.served_far (hfar : 65536000 < off.natAbs) : w.clock = (h.readyFor c t).clock ∧ w.pendingStep = some (-off) ∧ w.stepReady = false := by
  rw [Hawser.serve_far t tcyc off rx h c hfar] at hw
  simp only [Hawser.servoView, Prod.mk.injEq] at hw
  obtain ⟨hclock, -, hstep, hready, -⟩ := hw
  exact ⟨hclock, hstep, hready⟩

theorem Hawser.served_near (hnear : off.natAbs ≤ 65536000) : (-200000 ≤ w.clock.rate ∧ w.clock.rate ≤ 200000) ∧ w.pendingStep = (h.readyFor c t).pendingStep := by
  obtain ⟨r, hbound, hr⟩ := Hawser.serve_near t tcyc off rx h c hnear
  rw [hr] at hw
  simp only [Hawser.servoView, Prod.mk.injEq] at hw
  obtain ⟨hclock, -, hstep, -, -⟩ := hw
  exact ⟨by rw [hclock]; exact hbound, hstep⟩

end

theorem Hawser.beaconSet_of_view {i : Fin 4} {b : Beacon} {w w' v : Hawser} (h : w'.beaconView = w.beaconView) (hset : w.beaconSet i b v) : w'.beaconSet i b v := by
  simp only [Hawser.beaconView, Prod.mk.injEq] at h
  obtain ⟨hd, hnow, hring, hmissed, hholdover, hports, -⟩ := h
  unfold Hawser.beaconSet at *
  rwa [hd, hnow, hring, hmissed, hholdover, hports]

/-- The car side and the time from what the view says of them. -/
theorem State.carSide_of_ground {s t : State} (hground : t.view.core.ground = s.view.core.ground) (hcars : t.view.cars = s.view.cars) : t.now = s.now ∧ t.carSide = s.carSide := by
  have hmem := congrArg (fun g => (g.now, g.params, g.plug, g.small)) hground
  simp only [State.view, Prod.mk.injEq] at hmem hcars
  obtain ⟨hnow, hparams, hplug, hsmall⟩ := hmem
  obtain ⟨hslices, hgroups, hloop⟩ := hcars
  simp only [State.carSide, hnow, hparams, hplug, hsmall, hslices, hgroups, hloop, and_self]

section
variable {i : Fin 4} (h : HwsHeader) {b : Beacon} (rx : Nat) {s : State} (hruns : s.hawserRuns = true) (hlink : s.hws.ports[i].linkUp = true) (hmaster : s.isMaster = false) (hgen : b.generation = s.ina.generation)
  (hlead : b.master = s.hws.master) (hnonce : s.ina.st = .running ∨ b.nonce = s.ina.nonce) (hport : i = s.firstPort (portChannel i)) (hfirst : s.hws.beaconNow[portChannel i] = false)
include hruns hlink hmaster hgen hlead hnonce hport hfirst

/-- What the first valid beacon sets, whether its channel serves or not. -/
theorem State.beaconReceive_sets : (s.beaconReceive i h b rx).ina = { s.ina with nonce := b.nonce } ∧ (s.beaconReceive i h b rx).hws.beaconSet i b s.hws ∧ (s.beaconReceive i h b rx).hws.wire = (s.beaconPassed i h b).hws.wire := by
  obtain ⟨v, -, hina, hset, hwire, -, heq⟩ := State.beaconReceive_first h rx hruns hlink hmaster hgen hlead hnonce hport hfirst
  rw [heq]
  split
  · obtain ⟨hview, -, hkept⟩ := State.serveBeacon_blocks (portChannel i) ((rx : Int) - (b.txTime + (b.correction + s.hws.ports[i].delay : Nat))) rx b v
    exact ⟨hkept.trans hina, Hawser.beaconSet_of_view hview hset, (congrArg (fun x => x.2.2.2.2.2.2) hview :).trans hwire⟩
  · exact ⟨hina, hset, hwire⟩

/-- A channel that serves hands its offset to the servo. -/
theorem State.beaconReceive_serves (hserves : portChannel i = 0 ∨ s.hws.beaconNow[0] = false) :
    ∃ (w : Hawser) (tcyc : Nat), w.servoView = s.hws.servoView ∧
      (s.beaconReceive i h b rx).hws.servoView = (w.serve (portChannel i) s.now tcyc ((rx : Int) - (b.txTime + (b.correction + s.hws.ports[i].delay : Nat))) rx).servoView := by
  obtain ⟨v, hview, -, -, -, hservo, heq⟩ := State.beaconReceive_first h rx hruns hlink hmaster hgen hlead hnonce hport hfirst
  obtain ⟨-, hserved, -⟩ := State.serveBeacon_blocks (portChannel i) ((rx : Int) - (b.txTime + (b.correction + s.hws.ports[i].delay : Nat))) rx b v
  have hnow : v.now = s.now := State.now_of_view hview
  refine ⟨v.hws, v.tcyc, hservo, ?_⟩
  rw [heq, if_pos (by simpa using hserves), hserved, hnow]

/-- Channel B behind a beacon of channel A leaves the servo alone. -/
theorem State.beaconReceive_rests (hb : portChannel i = 1) (ha : s.hws.beaconNow[0] = true) : (s.beaconReceive i h b rx).hws.servoView = s.hws.servoView := by
  obtain ⟨v, -, -, -, -, hservo, heq⟩ := State.beaconReceive_first h rx hruns hlink hmaster hgen hlead hnonce hport hfirst
  rw [heq, if_neg (by rw [hb, ha]; decide)]
  exact hservo

end

section
variable {i : Fin 4} (h : HwsHeader) {b : Beacon} (rx : Nat) {s : State} (hruns : s.hawserRuns = true) (hlink : s.hws.ports[i].linkUp = true) (hmaster : s.isMaster = false) (hgen : b.generation = s.ina.generation)
  (hlead : b.master = s.hws.master) (hnonce : s.ina.st = .running ∨ b.nonce = s.ina.nonce) (hport : i = s.firstPort (portChannel i)) (hfirst : s.hws.beaconNow[portChannel i] = false)
include hruns hlink hmaster hgen hlead hnonce hport hfirst

/-- What the servo makes of the first valid beacon (R275, log entry 97). -/
theorem State.beaconReceive_servo {t : State} {off : Int} (ht : t.hws = (s.beaconReceive i h b rx).hws) (hoff : off = (rx : Int) - (b.txTime + (b.correction + s.hws.ports[i].delay : Nat))) :
    t.hws.clock.read s.now = s.hws.clock.read s.now ∧
      ((portChannel i = 0 ∨ s.hws.beaconNow[0] = false) → t.hws.offset = off ∧ (65536000 < off.natAbs → t.hws.pendingStep = some (-off) ∧ t.hws.stepReady = false) ∧
        (off.natAbs ≤ 65536000 → -200000 ≤ t.hws.clock.rate ∧ t.hws.clock.rate ≤ 200000)) ∧
      (((portChannel i = 0 ∧ s.hws.servo = none) ∨ (portChannel i = 1 ∧ s.hws.beaconNow[0] = false)) →
        (65536000 < off.natAbs → t.hws.clock = s.hws.clock) ∧ (off.natAbs ≤ 65536000 → t.hws.pendingStep = s.hws.pendingStep)) ∧
      (∀ v, portChannel i = 0 → s.hws.servo = some v →
        (65536000 < off.natAbs → t.hws.clock.rate = v.rate) ∧ (off.natAbs ≤ 65536000 → t.hws.pendingStep = v.pendingStep) ∧ t.hws.servo = none) ∧
      (portChannel i = 1 → s.hws.beaconNow[0] = true → t.hws.offset = s.hws.offset ∧ t.hws.clock = s.hws.clock) := by
  by_cases hserves : portChannel i = 0 ∨ s.hws.beaconNow[0] = false
  · obtain ⟨w, tcyc, hview, hw⟩ := State.beaconReceive_serves h rx hruns hlink hmaster hgen hlead hnonce hport hfirst hserves
    rw [← ht, ← hoff] at hw
    simp only [Hawser.servoView, Prod.mk.injEq] at hview
    obtain ⟨hclock, -, hstep, -, hservo⟩ := hview
    obtain ⟨hoffset, hleft, hread⟩ := Hawser.served_offset hw
    refine ⟨by rw [hread, hclock], fun _ => ⟨hoffset, fun hfar => (Hawser.served_far hw hfar).2, fun hnear => (Hawser.served_near hw hnear).1⟩, fun hone => ?_, fun v hc hv => ?_, fun hc ha => ?_⟩
    · have hsame : (w.readyFor (portChannel i) s.now).clock = w.clock ∧ (w.readyFor (portChannel i) s.now).pendingStep = w.pendingStep :=
        Hawser.readyFor_same _ _ _ (hone.imp (fun hh => ⟨hh.1, hservo.trans hh.2⟩) fun hh => hh.1)
      exact ⟨fun hfar => (Hawser.served_far hw hfar).1.trans (hsame.1.trans hclock), fun hnear => (Hawser.served_near hw hnear).2.trans (hsame.2.trans hstep)⟩
    · obtain ⟨hrate, hback, hnone⟩ := Hawser.readyFor_back s.now w (portChannel i) hc (hservo.trans hv)
      exact ⟨fun hfar => by rw [(Hawser.served_far hw hfar).1, hrate], fun hnear => (Hawser.served_near hw hnear).2.trans hback, hleft.trans hnone⟩
    · rcases hserves with hzero | hnone
      · exact absurd (hzero.symm.trans hc) (by decide)
      · exact absurd (hnone.symm.trans ha) (by decide)
  · obtain ⟨hzero, ha⟩ := not_or.1 hserves
    have hb : portChannel i = 1 := by
      generalize portChannel i = c at hzero
      omega
    have hrests := State.beaconReceive_rests h rx hruns hlink hmaster hgen hlead hnonce hport hfirst hb (Bool.not_eq_false _ ▸ ha)
    rw [← ht] at hrests
    simp only [Hawser.servoView, Prod.mk.injEq] at hrests
    obtain ⟨hclock, hoffset, -⟩ := hrests
    refine ⟨by rw [hclock], fun hs => absurd hs hserves, fun hone => absurd (hone.imp And.left And.right) hserves, fun v hc => absurd hc hzero, fun _ _ => ⟨hoffset, hclock⟩⟩

end

/-! ### The mode commands (R254, R270, R271) and the relays (R257) -/

theorem State.sendPort_ports (i : Fin 4) (body : Body) (s : State) : (s.sendPort i body).hws.ports = s.hws.ports := by
  unfold State.sendPort
  split <;> rfl

section
variable {s : State} (hruns : s.hawserRuns = true)
include hruns

theorem State.measureLink_ok {i : Fin 4} (t1 t2 t3 t4 : Int) (hlink : s.hws.ports[i].linkUp = true) (hdue : s.hws.measureIn = 0) :
    ∃ t, exec (.linkDelayMeasurement i t1 t2 t3 t4) s = .next t ∧ t.now = max s.now (s.nextSync - 2000) ∧ t.carSide = s.carSide ∧ t.ina = s.ina ∧ t.hws.ports[i].delay = (((t4 - t1) - (t3 - t2)) / 2).toNat ∧
      ∀ j : Fin 4, j ≠ i → t.hws.ports[j] = s.hws.ports[j] := by
  obtain ⟨u, hu⟩ : ∃ u, (s.advance (s.nextSync - 2000)).sendPort i .linkMeasure = u := ⟨_, rfl⟩
  have heq : s.measureLink i t1 t2 t3 t4 = u.modPort i fun x => { x with delay := (((t4 - t1) - (t3 - t2)) / 2).toNat } := by
    rw [← hu]
    exact if_pos (by rw [hruns, hlink, decide_eq_true hdue]; rfl)
  have hview : u.view = (s.advance (s.nextSync - 2000)).view := by rw [← hu, State.sendPort_view]
  have hports : u.hws.ports = s.hws.ports := by
    rw [← hu, State.sendPort_ports]
    rfl
  have hina : u.ina = s.ina := by
    rw [← hu, State.sendPort_ina]
    rfl
  refine ⟨_, congrArg State.complete heq, (State.now_of_view hview :), (State.carSide_of_view hview :), hina, ?_, fun j hj => ?_⟩
  · rw [State.draw_hws, State.modPort_port]
  · rw [State.draw_hws, State.modPort_port_other i _ _ j hj, hports]

theorem State.channelDegraded_eq {c : Fin 2} (hmaster : s.isMaster = true) (hbad : 3 ≤ s.badCycles c) (hfirst : s.hws.degraded[c] = false) :
    s.channelDegraded c = ((s.modHws fun h => { h with degraded := h.degraded.set c true, clearRun := 0 }).hwsEvent 7 0 c.val 0).fallBack c :=
  if_pos (by rw [hruns, hmaster, decide_eq_true hbad, hfirst]; rfl)

theorem State.autoReturn_eq {m : Nat} (hmaster : s.isMaster = true) (hleft : s.hws.leftMode = some m) (hflag : (cfgHwsHwsFlags s.params).testBit 0 = true) (hclear : cfgHwsAutoReturnCycles s.params ≤ s.hws.clearRun)
    (hquiet : s.hws.switchPending = false) (hina : s.inaugurating = false) :
    s.autoReturn = (s.modHws fun h => { h with leftMode := none, degraded := Vector.replicate 2 false }).announce s.announceFrom m := by
  unfold State.autoReturn
  rw [hleft]
  exact if_pos (by rw [hruns, hmaster, hflag, decide_eq_true hclear, hquiet, hina]; rfl)

theorem State.modeSwitch_eq (hpending : s.hws.switchPending = true) (hdue : s.hws.switchCycle ≤ s.hws.cycle) :
    s.modeSwitch = ((s.modHws fun h => { h with mode := h.pendingMode, switchPending := false, pollCursor := Vector.replicate 2 0 }).moveAsync.hwsEvent 6 0 0 0).dueFallback :=
  if_pos (by rw [hruns, hpending, decide_eq_true hdue]; rfl)

end

/-- An announcement leaves the mode in force, the degraded channels and the mode that was left. -/
theorem State.announce_kept (a m : Nat) (s : State) : (s.announce a m).hws.mode = s.hws.mode ∧ (s.announce a m).hws.degraded = s.hws.degraded ∧ (s.announce a m).hws.leftMode = s.hws.leftMode := by
  unfold State.announce
  dsimp only
  rw [State.hwsEvent_hws]
  exact ⟨rfl, rfl, rfl⟩

theorem State.asyncChannel_of {s t : State} (hparams : t.params = s.params) (hmode : t.hws.mode = s.hws.mode) : t.asyncChannel = s.asyncChannel := by
  have hchan (c : Fin 2) : t.chanMode c = s.chanMode c := by rw [State.chanMode, State.chanMode, hparams, hmode]
  unfold State.asyncChannel
  rw [hchan, hchan]

/-- What moves to one of the two channels stands there alone. -/
theorem replicate_set_getElem {α : Type} (d c : Fin 2) (l : List α) : ((Vector.replicate 2 []).set d l)[c] = if c = d then l else [] := by
  fin_cases c <;> fin_cases d <;> simp

theorem State.dueFallback_none {s : State} (h : ∀ c : Fin 2, s.hws.fallbackDue[c] = false) : s.dueFallback = s := by
  have hchannel (c : Fin 2) : s.dueChannel c = s := if_neg (by rw [h c, Bool.false_and, Bool.false_and]; decide)
  rw [State.dueFallback, hchannel, hchannel]

section
variable (c : Fin 2) {s : State}

/-- With a switch pending or an inauguration running the fallback waits (R271). -/
theorem State.fallBack_waits (hbusy : s.hws.switchPending = true ∨ s.inaugurating = true) : s.fallBack c = s.modHws fun h => { h with fallbackDue := h.fallbackDue.set c true } :=
  if_pos (by simpa using hbusy)

theorem State.fallBack_none (hnone : s.fallbackOf c = 0xFF) : (s.fallBack c).hws.switchPending = s.hws.switchPending ∧ (s.fallBack c).hws.faultEvent = s.hws.faultEvent := by
  unfold State.fallBack
  rw [if_pos hnone]
  split <;> exact ⟨rfl, rfl⟩

theorem State.fallBack_announces (hsome : s.fallbackOf c ≠ 0xFF) (hquiet : s.hws.switchPending = false) (hina : s.inaugurating = false) :
    s.fallBack c = (s.modHws fun h => { h with leftMode := some (h.leftMode.getD h.mode) }).announce s.announceFrom (s.fallbackOf c) :=
  (if_neg (by rw [hquiet, hina]; decide)).trans (if_neg hsome)

theorem State.fallBack_kept (s : State) : (s.fallBack c).ina = s.ina ∧ (s.fallBack c).hws.mode = s.hws.mode ∧ (s.fallBack c).hws.degraded = s.hws.degraded := by
  unfold State.fallBack
  split
  · exact ⟨rfl, rfl, rfl⟩
  split
  · exact ⟨rfl, rfl, rfl⟩
  · obtain ⟨hmode, hdegraded, -⟩ := State.announce_kept s.announceFrom (s.fallbackOf c) (s.modHws fun h => { h with leftMode := some (h.leftMode.getD h.mode) })
    exact ⟨State.announce_ina .., hmode, hdegraded⟩

end

section
variable {s : State} (hruns : s.hawserRuns = true)
include hruns

theorem State.channelDegraded_ok {c : Fin 2} (hmaster : s.isMaster = true) (hbad : 3 ≤ s.badCycles c) (hfirst : s.hws.degraded[c] = false) :
    ∃ t, exec (.channelDegraded c) s = .next t ∧ t.now = s.now ∧ t.carSide = s.carSide ∧ t.ina = s.ina ∧ t.hws.degraded[c] = true ∧ t.hws.mode = s.hws.mode ∧
      (s.fallbackOf c = 0xFF → t.hws.switchPending = s.hws.switchPending ∧ t.hws.faultEvent = 7) ∧
      (s.fallbackOf c ≠ 0xFF → s.hws.switchPending = false → s.inaugurating = false → t.hws.switchPending = true ∧ t.hws.pendingMode = s.fallbackOf c ∧ t.hws.leftMode.isSome = true) ∧
      ((s.hws.switchPending = true ∨ s.inaugurating = true) → t.hws.fallbackDue[c] = true ∧ t.hws.pendingMode = s.hws.pendingMode ∧ t.hws.switchPending = s.hws.switchPending) := by
  obtain ⟨v, hv⟩ : ∃ v, (s.modHws fun h => { h with degraded := h.degraded.set c true, clearRun := 0 }).hwsEvent 7 0 c.val 0 = v := ⟨_, rfl⟩
  have heq := State.channelDegraded_eq hruns hmaster hbad hfirst
  rw [hv] at heq
  have hview := State.channelDegraded_view c s
  have hhws : v.hws.degraded = s.hws.degraded.set c true ∧ v.hws.mode = s.hws.mode ∧ v.hws.switchPending = s.hws.switchPending ∧ v.hws.pendingMode = s.hws.pendingMode ∧ v.hws.faultEvent = 7 := by
    rw [← hv, State.hwsEvent_hws]
    exact ⟨rfl, rfl, rfl, rfl, rfl⟩
  obtain ⟨hdegraded, hmode, hpending, hnext, hfault⟩ := hhws
  have hina : v.ina = s.ina := by
    rw [← hv, State.hwsEvent_ina]
    rfl
  have hbusy : v.inaugurating = s.inaugurating := congrArg (fun x : Inaug => decide (x.phase ≠ .none) || x.pendingDir.isSome || x.collect.isSome) hina
  have hof : v.fallbackOf c = s.fallbackOf c := by
    have hparams : v.params = s.params := congrArg (fun w => w.core.ground.params) (show v.view = s.view by rw [← hv, State.hwsEvent_view]; rfl)
    unfold State.fallbackOf
    rw [hparams, hmode]
  obtain ⟨hkeptIna, hkeptMode, hkeptDegraded⟩ := State.fallBack_kept c v
  refine ⟨_, congrArg State.complete heq, (State.now_of_view (heq ▸ hview) :), (State.carSide_of_view (heq ▸ hview) :), hkeptIna.trans hina, ?_, hkeptMode.trans hmode, fun hnone => ?_, fun hsome hquiet hidle => ?_, fun hwait => ?_⟩
  · rw [State.draw_hws, hkeptDegraded, hdegraded]
    simp
  · obtain ⟨hswitch, hevent⟩ := State.fallBack_none c (hof.trans hnone)
    exact ⟨hswitch.trans hpending, hevent.trans hfault⟩
  · rw [State.draw_hws, State.fallBack_announces c (hof ▸ hsome) (hpending.trans hquiet) (hbusy.trans hidle)]
    obtain ⟨hswitch, hmodeNext⟩ := State.announce_hws v.announceFrom (v.fallbackOf c) (v.modHws fun h => { h with leftMode := some (h.leftMode.getD h.mode) })
    obtain ⟨-, -, hleft⟩ := State.announce_kept v.announceFrom (v.fallbackOf c) (v.modHws fun h => { h with leftMode := some (h.leftMode.getD h.mode) })
    exact ⟨hswitch, hmodeNext.trans hof, by rw [hleft]; rfl⟩
  · rw [State.draw_hws, State.fallBack_waits c (by rw [hpending, hbusy]; exact hwait)]
    exact ⟨by simp, hnext, hpending⟩

theorem State.autoReturn_ok {m : Nat} (hmaster : s.isMaster = true) (hleft : s.hws.leftMode = some m) (hflag : (cfgHwsHwsFlags s.params).testBit 0 = true) (hclear : cfgHwsAutoReturnCycles s.params ≤ s.hws.clearRun)
    (hquiet : s.hws.switchPending = false) (hidle : s.inaugurating = false) :
    ∃ t, exec .autoReturn s = .next t ∧ t.now = s.now ∧ t.carSide = s.carSide ∧ t.ina = s.ina ∧ t.hws.leftMode = none ∧ t.hws.switchPending = true ∧ t.hws.pendingMode = m ∧ t.hws.mode = s.hws.mode ∧
      ∀ d : Fin 2, t.hws.degraded[d] = false := by
  obtain ⟨v, hv⟩ : ∃ v, (s.modHws fun h => { h with leftMode := none, degraded := Vector.replicate 2 false }) = v := ⟨_, rfl⟩
  have heq := State.autoReturn_eq hruns hmaster hleft hflag hclear hquiet hidle
  rw [hv] at heq
  have hview : (v.announce s.announceFrom m).view = s.view := heq ▸ State.autoReturn_view s
  obtain ⟨hmode, hdegraded, hnone⟩ := State.announce_kept s.announceFrom m v
  obtain ⟨hswitch, hnext⟩ := State.announce_hws s.announceFrom m v
  have hina : v.ina = s.ina := by rw [← hv]; rfl
  refine ⟨_, congrArg State.complete heq, (State.now_of_view hview :), (State.carSide_of_view hview :), ((State.announce_ina s.announceFrom m v).trans hina :), (hnone.trans (by rw [← hv]) :), hswitch, hnext, (hmode.trans (by rw [← hv]) :), fun d => ?_⟩
  rw [State.draw_hws, hdegraded, ← hv]
  simp

theorem State.modeSwitch_ok (hpending : s.hws.switchPending = true) (hdue : s.hws.switchCycle ≤ s.hws.cycle) (hnone : ∀ c : Fin 2, s.hws.fallbackDue[c] = false) :
    ∃ t, exec .modeSwitch s = .next t ∧ t.now = s.now ∧ t.carSide = s.carSide ∧ t.ina = s.ina ∧ t.hws.mode = s.hws.pendingMode ∧ t.hws.switchPending = false ∧ t.hws.faultEvent = 6 ∧ t.hws.wire = s.hws.wire ∧
      ∀ c : Fin 2, t.hws.async[c] = if c = t.asyncChannel then s.hws.async[(0 : Fin 2)] ++ s.hws.async[(1 : Fin 2)] else [] := by
  obtain ⟨v, hv⟩ : ∃ v, (s.modHws fun h => { h with mode := h.pendingMode, switchPending := false, pollCursor := Vector.replicate 2 0 }) = v := ⟨_, rfl⟩
  have heq := State.modeSwitch_eq hruns hpending hdue
  rw [hv, State.dueFallback_none (by rw [State.hwsEvent_hws, ← hv]; exact hnone)] at heq
  have hview : (v.moveAsync.hwsEvent 6 0 0 0).view = s.view := heq ▸ State.modeSwitch_view s
  have hina : v.ina = s.ina := by rw [← hv]; rfl
  have hasync : v.hws.async = s.hws.async := by rw [← hv]; rfl
  have hchannel : (v.moveAsync.hwsEvent 6 0 0 0).draw.asyncChannel = v.asyncChannel := by
    obtain ⟨w, hw⟩ : ∃ w, v.moveAsync.hwsEvent 6 0 0 0 = w := ⟨_, rfl⟩
    have hmode : w.hws.mode = v.hws.mode := by
      rw [← hw, State.hwsEvent_hws]
      rfl
    have hparams : w.params = v.params := congrArg (fun x => x.core.ground.params) (show w.view = v.view by rw [← hw, State.hwsEvent_view]; rfl)
    rw [hw]
    exact State.asyncChannel_of hparams hmode
  refine ⟨_, congrArg State.complete heq, (State.now_of_view hview :), (State.carSide_of_view hview :), (State.hwsEvent_ina ..).trans hina, ?_, ?_, ?_, ?_, fun c => ?_⟩
  · rw [State.draw_hws, State.hwsEvent_hws, ← hv]; rfl
  · rw [State.draw_hws, State.hwsEvent_hws, ← hv]; rfl
  · rw [State.draw_hws, State.hwsEvent_hws]
  · rw [State.draw_hws, State.hwsEvent_hws, ← hv]; rfl
  · rw [hchannel, State.draw_hws, State.hwsEvent_hws]
    show ((Vector.replicate 2 []).set v.asyncChannel (v.hws.async[0] ++ v.hws.async[1]))[c] = _
    rw [hasync]
    exact replicate_set_getElem ..

end

/-! ### A register takes what is written to it (R270, R276) -/

theorem State.hwsModeRequest_ok (m : Nat) {s : State} (hup : s.hawserUp = true) : exec (.hwsModeRequest m) s = .next (s.modHws fun h => { h with modeRequest := m % 8, requestGo := true }).draw := by
  have hgo : (m % 8 + 8).testBit 3 = true := by
    have hm : m % 8 < 8 := Nat.mod_lt _ (by decide)
    generalize m % 8 = k at hm
    interval_cases k <;> rfl
  have hmode : (m % 8 + 8) % 8 = m % 8 := by omega
  refine congrArg State.complete ((if_pos hup).trans ((if_pos rfl).trans ?_))
  rw [hgo, hmode]

theorem State.hwsUnfoldPort_ok (p : Fin 4) {s : State} (hup : s.hawserUp = true) : exec (.hwsUnfoldPort p) s = .next (s.modHws fun h => { h with command := 1, commandPort := p.val }).draw := by
  have hcommand : (1 + 16 * p.val) % 16 = 1 := by omega
  have hport : (1 + 16 * p.val) / 16 % 4 = p.val := by omega
  refine congrArg State.complete ((if_pos hup).trans ((if_neg (by decide)).trans ((if_pos rfl).trans ?_)))
  rw [hcommand, hport]

theorem State.modeSwitch_none {s : State} (h : s.hws.switchPending = false ∨ s.hws.cycle < s.hws.switchCycle) : s.modeSwitch = s := by
  refine if_neg ?_
  rcases h with hquiet | hearly
  · simp [hquiet]
  · simp [Nat.not_le.2 hearly]

/-! ### A bypass relay (R257) -/

section
variable {c : Fin 2} {s : State}

theorem State.relayDriveStop_closes (hdrive : s.hws.relays[c].drive = false) (hopen : s.hws.relays[c].open_ = true) (hfirst : s.hws.relays[c].mismatchRaised = false) :
    s.relayDriveStop c = (s.advance (s.hws.relays[c].driveStopAt + 200000)).modRelay c fun r => { r with open_ := false } := if_pos ⟨hdrive, hopen, hfirst⟩

theorem State.relayDriveStop_none (h : s.hws.relays[c].drive = true ∨ s.hws.relays[c].open_ = false ∨ s.hws.relays[c].mismatchRaised = true) : s.relayDriveStop c = s := by
  refine if_neg ?_
  rintro ⟨hdrive, hopen, hfirst⟩
  rcases h with h | h | h
  · exact Bool.false_ne_true (hdrive.symm.trans h)
  · exact Bool.false_ne_true (h.symm.trans hopen)
  · exact Bool.false_ne_true (hfirst.symm.trans h)

variable {o : Bool} (hruns : s.hawserRuns = true)
include hruns

theorem State.relayMismatch_agrees (hsame : o = s.hws.relays[c].drive) : s.relayMismatch c o = s.modRelay c fun r => { r with open_ := o, mismatchAt := none, mismatchRaised := false } :=
  (if_neg (by rw [hruns]; decide)).trans (if_pos hsame)

/-- A readback against the drive is told the first time only. -/
theorem State.relayMismatch_differs (hdiff : o ≠ s.hws.relays[c].drive) :
    let u := s.modRelay c fun r => { r with open_ := o, mismatchAt := some (s.hws.relays[c].mismatchAt.getD s.now), mismatchRaised := true }
    s.relayMismatch c o = if s.hws.relays[c].mismatchRaised then u else u.hwsEvent 11 0 c.val 0 :=
  (if_neg (by rw [hruns]; decide)).trans (if_neg hdiff)

theorem State.relayMismatch_first (hdiff : o ≠ s.hws.relays[c].drive) (hfirst : s.hws.relays[c].mismatchRaised = false) :
    ∃ t, exec (.bypassRelayMismatch ⟨c, o⟩) s = .next t ∧ t.now = s.now ∧ t.carSide = s.carSide ∧ t.ina = s.ina ∧ t.hws.relays[c].open_ = o ∧ t.hws.relays[c].drive = s.hws.relays[c].drive ∧ t.hws.relays[c].mismatchRaised = true ∧ t.hws.faultEvent = 11 := by
  have heq := (State.relayMismatch_differs hruns hdiff).trans (if_neg (by rw [hfirst]; decide))
  have hview := heq ▸ State.relayMismatch_view c o s
  refine ⟨_, congrArg State.complete heq, (State.now_of_view hview :), (State.carSide_of_view hview :), (State.hwsEvent_ina .. :), ?_⟩
  rw [State.draw_hws, State.hwsEvent_hws]
  simp

end

/-- Settles O37: a first beacon is passed on and handed to the servo, each mode command is one announcement or switch, and a relay's readback is compared with its drive. -/
theorem hawserClockModesAndRelays : Obligations.HawserClockModesAndRelays := by
  unfold Obligations.HawserClockModesAndRelays
  refine ⟨fun i h b rx s hruns hlink hmaster hgen hlead hnonce hport hfirst => ?_,
    fun i t1 t2 t3 t4 s hruns hlink hdue => State.measureLink_ok hruns t1 t2 t3 t4 hlink hdue,
    fun m s hup => State.hwsModeRequest_ok m hup,
    fun p s hup => State.hwsUnfoldPort_ok p hup,
    fun s hruns hpending hdue hnone => State.modeSwitch_ok hruns hpending hdue hnone,
    fun s h => congrArg State.complete (State.modeSwitch_none h),
    fun c s hruns hmaster hbad hfirst => State.channelDegraded_ok hruns hmaster hbad hfirst,
    fun m s hruns hmaster hleft hflag hclear hquiet hidle => State.autoReturn_ok hruns hmaster hleft hflag hclear hquiet hidle,
    fun c s hdrive hopen hfirst => congrArg State.complete (State.relayDriveStop_closes hdrive hopen hfirst),
    fun c s h => congrArg State.complete (State.relayDriveStop_none h),
    fun c o s hruns hdiff hfirst => State.relayMismatch_first hruns hdiff hfirst,
    fun c o s hruns hdiff htold => congrArg State.complete ((State.relayMismatch_differs hruns hdiff).trans (if_pos htold)),
    fun c o s hruns hsame => congrArg State.complete (State.relayMismatch_agrees hruns hsame)⟩
  obtain ⟨hina, hset, hwire⟩ := State.beaconReceive_sets h rx hruns hlink hmaster hgen hlead hnonce hport hfirst
  obtain ⟨-, hground, hcars⟩ := State.beaconReceive_rest i h b rx s
  obtain ⟨hnow, hcar⟩ := State.carSide_of_ground hground hcars
  obtain ⟨hd, hbeacon, hring, hmissed, hholdover, hat⟩ := hset
  obtain ⟨hread, hservo⟩ := State.beaconReceive_servo h rx hruns hlink hmaster hgen hlead hnonce hport hfirst (t := (s.beaconReceive i h b rx).draw) rfl rfl
  exact ⟨_, rfl, hnow, hcar, hina, hd, hbeacon, hring, hmissed, hholdover, hat, hread, fun hfold => hwire.trans (State.beaconPassed_folded i h b s hfold), fun hopen => ⟨_, hwire.trans (State.beaconPassed_open i h b s hopen)⟩, hservo⟩

end Sys2Proof.Machine
end

section
/-! PROOFS. Links greet, cuts are seen, and nodes are admitted and listen: O38. -/

namespace Sys2Proof.Machine

/-! ### Hellos (R252, R313) -/

section
variable {i : Fin 4} {s : State}

theorem State.sendPort_eq (body : Body) (hlink : s.hws.ports[i].linkUp = true) : s.sendPort i body = s.send ⟨.port i.val, 0, (s.header (portChannel i) false false 0 0), body⟩ := if_pos hlink

theorem State.sendHello_eq (hlink : s.hws.ports[i].linkUp = true) :
    s.sendHello i = (s.send ⟨.port i.val, 0, (s.header (portChannel i) false false 0 0), .hello (s.ownHello i)⟩).modPort i fun x => { x with helloAt := s.now } := by
  rw [State.sendHello, State.sendPort_eq _ hlink]

/-- A hello says who the node is, where, and what time it is. -/
theorem State.ownHello_of {u : State} (hview : u.view = s.view) (hposition : u.hws.position = s.hws.position) (hclock : u.hws.clock = s.hws.clock) (hst : u.ina.st = s.ina.st) (hnonce : u.ina.nonce = s.ina.nonce)
    (hgen : u.ina.generation = s.ina.generation) : u.ownHello i = s.ownHello i := by
  have hnow : u.now = s.now := State.now_of_view hview
  have hparams : u.params = s.params := congrArg (fun v => v.core.ground.params) hview
  unfold State.ownHello State.couplerEnd State.word64
  rw [hnow, hparams, hposition, hclock, hst, hnonce, hgen]

/-- The port of a link that has come up (R252, R255). -/
def HPort.up (phyMaster : Bool) (now position : Nat) (x : HPort) : HPort :=
  { x with linkUp := true, linkLost := false, phyMaster := phyMaster, upAt := now, folded := decide (position ≠ 0) || x.guardFold }

/-- A link that comes up: its port, the event, a hello, and what the inauguration notes of it. -/
theorem State.linkUp_eq (pm : Bool) (hruns : s.hawserRuns = true) (hlink : s.hws.ports[i].linkUp = false) (hopen : s.hws.relays[portChannel i].open_ = true) :
    ∃ F : Inaug → Inaug, (∀ x, (F x).st = x.st ∧ (F x).nonce = x.nonce ∧ (F x).generation = x.generation ∧ (F x).mergeRefused = x.mergeRefused) ∧
      s.linkUp i pm = ((((s.modPort i (HPort.up pm s.now s.hws.position)).hwsEvent 0 i.val 0 0).modIna fun x => { x with mergeRefused := false }).modIna F).sendHello i := by
  refine ⟨_, fun x => ?_, if_pos (by rw [hruns, hlink, hopen]; rfl)⟩
  dsimp only
  split <;> exact ⟨rfl, rfl, rfl, rfl⟩

theorem State.linkUp_ok (pm : Bool) (hruns : s.hawserRuns = true) (hlink : s.hws.ports[i].linkUp = false) (hopen : s.hws.relays[portChannel i].open_ = true) :
    ∃ t hd, exec (.linkUp i pm) s = .next t ∧ t.now = s.now ∧ t.carSide = s.carSide ∧ t.hws.ports[i].linkUp = true ∧ t.hws.ports[i].phyMaster = pm ∧ t.hws.ports[i].upAt = s.now ∧
      t.hws.ports[i].folded = (decide (s.hws.position ≠ 0) || s.hws.ports[i].guardFold) ∧ t.hws.wire = s.hws.wire ++ [⟨.port i.val, 0, hd, .hello (s.ownHello i)⟩] ∧ t.hws.faultEvent = 0 ∧ t.hws.faultPort = i.val ∧
      t.ina.mergeRefused = false ∧ t.ina.st = s.ina.st ∧ ∀ j : Fin 4, j ≠ i → t.hws.ports[j] = s.hws.ports[j] := by
  obtain ⟨F, hF, heq⟩ := State.linkUp_eq pm hruns hlink hopen
  have hview := State.linkUp_view i pm s
  obtain ⟨u, hu⟩ : ∃ u, (((s.modPort i (HPort.up pm s.now s.hws.position)).hwsEvent 0 i.val 0 0).modIna fun x => { x with mergeRefused := false }).modIna F = u := ⟨_, rfl⟩
  rw [hu] at heq
  have hhws : u.hws = { (s.modPort i (HPort.up pm s.now s.hws.position)).hws with faultEvent := 0, faultPort := i.val, faultChannel := 0, faultPosition := 0 } := by
    rw [← hu]
    exact State.hwsEvent_hws ..
  have hina : u.ina = F { s.ina with mergeRefused := false } := by
    rw [← hu]
    exact congrArg (fun x : Inaug => F { x with mergeRefused := false }) (State.hwsEvent_ina ..)
  obtain ⟨hst, hnonce, hgen, hrefused⟩ := hF { s.ina with mergeRefused := false }
  have hport : u.hws.ports[i] = s.hws.ports[i].up pm s.now s.hws.position := by
    rw [hhws]
    exact State.modPort_port ..
  have hother (j : Fin 4) (hj : j ≠ i) : u.hws.ports[j] = s.hws.ports[j] := by
    rw [hhws]
    exact State.modPort_port_other i s _ j hj
  have huview : u.view = s.view := by
    rw [← hu, State.modIna_view, State.modIna_view, State.hwsEvent_view, State.modPort_view]
  have hhello : u.ownHello i = s.ownHello i := by
    refine State.ownHello_of huview ?_ ?_ ?_ ?_ ?_
    · rw [hhws]; rfl
    · rw [hhws]; rfl
    · rw [hina, hst]
    · rw [hina, hnonce]
    · rw [hina, hgen]
  have hsent := State.sendHello_eq (show u.hws.ports[i].linkUp = true by rw [hport]; rfl)
  rw [hhello] at hsent
  have hsentPort : (u.sendHello i).hws.ports[i] = { u.hws.ports[i] with helloAt := u.now } := by rw [hsent, State.modPort_port]; rfl
  rw [hport] at hsentPort
  refine ⟨_, u.header (portChannel i) false false 0 0, congrArg State.complete heq, (State.now_of_view (heq ▸ hview) :), (State.carSide_of_view (heq ▸ hview) :), ?_⟩
  rw [State.draw_hws, State.draw_ina, hsentPort, hsent]
  refine ⟨rfl, rfl, rfl, rfl, ?_, ?_, ?_, ?_, ?_, fun j hj => ?_⟩
  · show u.hws.wire ++ _ = _
    rw [hhws]
    rfl
  · show u.hws.faultEvent = _
    rw [hhws]
  · show u.hws.faultPort = _
    rw [hhws]
  · exact (congrArg Inaug.mergeRefused hina).trans hrefused
  · exact (congrArg Inaug.st hina).trans hst
  · rw [State.modPort_port_other i _ _ j hj]
    exact hother j hj

theorem State.helloRepeat_ok (hruns : s.hawserRuns = true) (hlink : s.hws.ports[i].linkUp = true) (hfold : s.hws.ports[i].folded = true) :
    ∃ t hd, exec (.helloRepeat i) s = .next t ∧ t.now = max s.now (s.hws.ports[i].helloAt + 100000000) ∧ t.carSide = s.carSide ∧ t.ina = s.ina ∧ t.hws.ports[i].helloAt = t.now ∧
      t.hws.wire = s.hws.wire ++ [⟨.port i.val, 0, hd, .hello ((s.advance (s.hws.ports[i].helloAt + 100000000)).ownHello i)⟩] := by
  obtain ⟨u, hu⟩ : ∃ u, s.advance (s.hws.ports[i].helloAt + 100000000) = u := ⟨_, rfl⟩
  have heq : s.helloRepeat i = u.sendHello i := by
    rw [← hu]
    exact if_pos (by rw [hruns, hlink, hfold]; rfl)
  have hsent := State.sendHello_eq (s := u) (i := i) (by rw [← hu]; exact hlink)
  have hview : (u.sendHello i).view = u.view := State.sendHello_view i u
  have hnow : (u.sendHello i).now = u.now := State.now_of_view hview
  have hcar : (u.sendHello i).carSide = u.carSide := State.carSide_of_view hview
  refine ⟨_, u.header (portChannel i) false false 0 0, congrArg State.complete heq, hnow.trans (by rw [← hu]; rfl), hcar.trans (by rw [← hu]; rfl), ?_, ?_, ?_⟩
  · rw [State.draw_ina, hsent, ← hu]; rfl
  · rw [State.draw_hws, State.draw_now, hnow, hsent, State.modPort_port]
  · rw [State.draw_hws, hsent, hu]
    show u.hws.wire ++ _ = _
    rw [← hu]; rfl

theorem State.helloRepeat_none (hopen : s.hws.ports[i].folded = false) : s.helloRepeat i = s := by
  refine if_neg ?_
  rw [hopen, Bool.and_false]
  decide

end

/-! ### A link goes down, a cut (R252, R317, R319) -/

/-- The engine without the frames that it sends. -/
def Hawser.besideSent (h : Hawser) : Hawser := { h with wire := [], octets := [], async := Vector.replicate 2 [] }

theorem State.sendPort_besideSent (i : Fin 4) (body : Body) (s : State) : (s.sendPort i body).hws.besideSent = s.hws.besideSent := by
  unfold State.sendPort
  split <;> rfl

theorem State.sendBothA_besideSent (body : Body) (s : State) : (s.sendBothA body).hws.besideSent = s.hws.besideSent :=
  (State.sendPort_besideSent _ body _).trans (State.sendPort_besideSent _ body s)

/-- A dropped inauguration is cancelled by its leader, and no numbering waits (R309). -/
theorem State.dropInauguration_blocks (s : State) : s.dropInauguration.hws.besideSent = s.hws.besideSent ∧ s.dropInauguration.ina.pendingDir = none ∧ s.dropInauguration.ina.cntCuts = s.ina.cntCuts := by
  unfold State.dropInauguration
  extract_lets u
  have hu : u.hws.besideSent = s.hws.besideSent ∧ u.ina = s.ina := by
    unfold u
    repeat' split
    · exact ⟨State.sendBothA_besideSent .., State.sendBothA_ina ..⟩
    all_goals exact ⟨rfl, rfl⟩
  exact ⟨hu.1, rfl, (congrArg Inaug.cntCuts hu.2 :)⟩

/-- Both ports of an end are lost. -/
def endLost (aft : Bool) (p : Vector HPort 4) : Bool := p[portAt 0 aft].linkLost && p[portAt 1 aft].linkLost

/-- The ports of an end are a port and the other one of its end. -/
theorem endLost_eq {i j : Fin 4} (hne : j ≠ i) (hend : portAft j = portAft i) (p : Vector HPort 4) : endLost (portAft i) p = (p[i].linkLost && p[j].linkLost) := by
  have hpair : (portAt 0 (portAft i) = i ∧ portAt 1 (portAft i) = j) ∨ (portAt 0 (portAft i) = j ∧ portAt 1 (portAft i) = i) := by
    revert i j
    decide
  unfold endLost
  rcases hpair with ⟨h0, h1⟩ | ⟨h0, h1⟩
  · simp only [h0, h1]
  · simp only [h0, h1]
    exact Bool.and_comm ..

section
variable {aft : Bool} {s : State}

theorem State.checkCut_cut (hpos : s.hws.position ≠ 0) (hlost : endLost aft s.hws.ports = true) (hon : s.goesOn aft = true) :
    (s.checkCut aft).hws.besideSent = s.hws.besideSent ∧ (s.checkCut aft).ina.splitAt = some s.now ∧ (s.checkCut aft).ina.faultEvent = 4 ∧ (s.checkCut aft).ina.cntCuts = satInc 255 s.ina.cntCuts ∧
      (s.checkCut aft).ina.pendingDir = none := by
  obtain ⟨hsent, hdir, hcuts⟩ := State.dropInauguration_blocks s
  have hnow : s.dropInauguration.now = s.now := State.now_of_view (State.dropInauguration_view s)
  unfold State.checkCut
  rw [if_pos (by rw [decide_eq_true hpos, Bool.true_and, show (_ && _) = true from hlost, hon]; rfl)]
  dsimp only
  rw [State.inaEvent_hws, State.inaEvent_ina]
  exact ⟨hsent, congrArg some hnow, rfl, congrArg (satInc 255) hcuts, hdir⟩

theorem State.checkCut_none (h : s.hws.position = 0 ∨ endLost aft s.hws.ports = false ∨ s.goesOn aft = false) : s.checkCut aft = s := by
  refine if_neg ?_
  rw [Bool.and_assoc (decide _), show (_ && _) = endLost aft s.hws.ports from rfl]
  rcases h with h | h | h
  · simp [h]
  · simp [h]
  · simp [h]

end

/-- The port of a link that has gone down; a grant may excuse it (R319). -/
def HPort.down (excused : Bool) (now : Nat) (x : HPort) : HPort :=
  { x with linkUp := false, folded := true, lost := x.lost || !excused, linkLost := !excused, downAt := now, partner := none }

/-- What a link that goes down leaves, before the cut is looked for. -/
def State.linkGone (i : Fin 4) (excused : Bool) (s : State) : State :=
  (((s.modPort i (HPort.down excused s.now)).hwsEvent 0 i.val 0 0).hwsEvent 1 i.val 0 0).modIna fun x => { x with mergeRefused := false }

section
variable (i : Fin 4) (excused : Bool) (s : State)

theorem State.linkGone_hws : (s.linkGone i excused).hws = { (s.modPort i (HPort.down excused s.now)).hws with faultEvent := 1, faultPort := i.val, faultChannel := 0, faultPosition := 0 } := by
  show (State.hwsEvent ..).hws = _
  rw [State.hwsEvent_hws, State.hwsEvent_hws]

theorem State.linkGone_ina : (s.linkGone i excused).ina = { s.ina with mergeRefused := false } := by
  show ({ (State.hwsEvent ..).ina with mergeRefused := false } : Inaug) = _
  rw [State.hwsEvent_ina, State.hwsEvent_ina]
  rfl

theorem State.linkGone_view : (s.linkGone i excused).view = s.view := by simp [State.linkGone]

theorem State.linkGone_port : (s.linkGone i excused).hws.ports[i] = s.hws.ports[i].down excused s.now := by
  rw [State.linkGone_hws]
  exact State.modPort_port ..

theorem State.linkGone_other {j : Fin 4} (hj : j ≠ i) : (s.linkGone i excused).hws.ports[j] = s.hws.ports[j] := by
  rw [State.linkGone_hws]
  exact State.modPort_port_other i s _ j hj

theorem State.linkGone_goesOn (aft : Bool) : (s.linkGone i excused).goesOn aft = s.goesOn aft := by
  have hina := State.linkGone_ina i excused s
  have hposition : (s.linkGone i excused).hws.position = s.hws.position := by rw [State.linkGone_hws]; rfl
  have hegress (c : Fin 2) : (s.linkGone i excused).egress c = s.egress c := by
    unfold State.egress
    rw [hina]
  have hpresent (q : Nat) : (s.linkGone i excused).present q = s.present q := by
    unfold State.present State.entryAt
    rw [hina]
  unfold State.goesOn
  simp only [hposition, hegress, hpresent, hina]

end

section
variable {i : Fin 4} {s : State} (hruns : s.hawserRuns = true) (hlink : s.hws.ports[i].linkUp = true)
include hruns hlink

theorem State.linkDown_eq : s.linkDown i = if s.facesGrant i then s.linkGone i (s.facesGrant i) else (s.linkGone i (s.facesGrant i)).checkCut (portAft i) := if_pos (by rw [hruns, hlink]; rfl)

/-- Next to a node that a grant names, a link that goes down is no loss (R319). -/
theorem State.linkDown_excused (hgrant : s.facesGrant i = true) :
    ∃ t, exec (.linkDown i) s = .next t ∧ t.now = s.now ∧ t.carSide = s.carSide ∧ t.hws.ports[i].linkUp = false ∧ t.hws.ports[i].folded = true ∧ t.hws.ports[i].lost = s.hws.ports[i].lost ∧ t.hws.ports[i].linkLost = false ∧
      t.ina = { s.ina with mergeRefused := false } := by
  have heq : s.linkDown i = s.linkGone i true := by rw [State.linkDown_eq hruns hlink, if_pos hgrant, hgrant]
  have hview := State.linkGone_view i true s
  refine ⟨_, congrArg State.complete heq, (State.now_of_view hview :), (State.carSide_of_view hview :), ?_⟩
  rw [State.draw_hws, State.draw_ina, State.linkGone_port]
  exact ⟨rfl, rfl, Bool.or_false _, rfl, State.linkGone_ina ..⟩

/-- A link that goes down is lost; the end is cut where its other port is lost too and the segment goes on beyond it (R317). -/
theorem State.linkDown_lost {j : Fin 4} (hgrant : s.facesGrant i = false) (hne : j ≠ i) (hend : portAft j = portAft i) :
    ∃ t, exec (.linkDown i) s = .next t ∧ t.now = s.now ∧ t.carSide = s.carSide ∧ t.hws.ports[i].linkUp = false ∧ t.hws.ports[i].folded = true ∧ t.hws.ports[i].lost = true ∧ t.hws.ports[i].linkLost = true ∧ t.hws.ports[i].downAt = s.now ∧
      t.hws.ports[i].partner = none ∧ (∀ k : Fin 4, k ≠ i → t.hws.ports[k] = s.hws.ports[k]) ∧ t.hws.faultEvent = 1 ∧ t.hws.faultPort = i.val ∧
      (s.hws.position ≠ 0 → s.hws.ports[j].linkLost = true → s.goesOn (portAft i) = true → t.ina.splitAt = some s.now ∧ t.ina.faultEvent = 4 ∧ t.ina.cntCuts = satInc 255 s.ina.cntCuts ∧ t.ina.pendingDir = none) ∧
      ((s.hws.position = 0 ∨ s.hws.ports[j].linkLost = false ∨ s.goesOn (portAft i) = false) → t.ina = { s.ina with mergeRefused := false }) := by
  have heq : s.linkDown i = (s.linkGone i false).checkCut (portAft i) := by rw [State.linkDown_eq hruns hlink, if_neg (by rw [hgrant]; decide), hgrant]
  have hview := (State.checkCut_view (portAft i) _).trans (State.linkGone_view i false s)
  obtain ⟨u, hu⟩ : ∃ u, s.linkGone i false = u := ⟨_, rfl⟩
  have hhws := State.linkGone_hws i false s
  have hina := State.linkGone_ina i false s
  have hport := State.linkGone_port i false s
  have hother {k : Fin 4} := State.linkGone_other i false s (j := k)
  have hon := State.linkGone_goesOn i false s (portAft i)
  have hnow := State.now_of_view (State.linkGone_view i false s)
  rw [hu] at heq hview hhws hina hport hother hon hnow
  have hposition : u.hws.position = s.hws.position := by rw [hhws]; rfl
  have hlost : endLost (portAft i) u.hws.ports = s.hws.ports[j].linkLost := by
    rw [endLost_eq hne hend, hport, hother hne]
    exact Bool.true_and _
  have hcut (hpos : s.hws.position ≠ 0) (hj : s.hws.ports[j].linkLost = true) (hgoes : s.goesOn (portAft i) = true) :=
    State.checkCut_cut (aft := portAft i) (s := u) (hposition ▸ hpos) (hlost.trans hj) (hon.trans hgoes)
  have hnone (h : s.hws.position = 0 ∨ s.hws.ports[j].linkLost = false ∨ s.goesOn (portAft i) = false) : u.checkCut (portAft i) = u :=
    State.checkCut_none (by rwa [hposition, hon, hlost])
  have hsent : (u.checkCut (portAft i)).hws.besideSent = u.hws.besideSent := by
    by_cases h : s.hws.position ≠ 0 ∧ s.hws.ports[j].linkLost = true ∧ s.goesOn (portAft i) = true
    · obtain ⟨hpos, hj, hgoes⟩ := h
      exact (hcut hpos hj hgoes).1
    · rw [hnone]
      simp only [← Bool.not_eq_true]
      tauto
  have hports : (u.checkCut (portAft i)).hws.ports = u.hws.ports := (congrArg Hawser.ports hsent :)
  refine ⟨_, congrArg State.complete heq, (State.now_of_view hview :), (State.carSide_of_view hview :), ?_⟩
  rw [State.draw_hws, State.draw_ina, hports, hport]
  refine ⟨rfl, rfl, Bool.or_true _, rfl, rfl, rfl, fun k hk => hother hk, ?_, ?_, fun hpos hj hgoes => ?_, fun h => ?_⟩
  · exact (congrArg Hawser.faultEvent hsent :).trans (by rw [hhws]; rfl)
  · exact (congrArg Hawser.faultPort hsent :).trans (by rw [hhws]; rfl)
  · obtain ⟨-, hsplit, hevent, hcuts, hdir⟩ := hcut hpos hj hgoes
    exact ⟨hsplit.trans (congrArg some hnow), hevent, hcuts.trans (by rw [hina]), hdir⟩
  · rw [hnone h, hina]

end

/-! ### A hello is heard (R313, R315, R318) -/

/-- The port at which a hello is heard keeps its sender. -/
def State.helloHeard (i : Fin 4) (h : Hello) (s : State) : State := s.modPort i fun x => { x with partner := some h, partnerDiff := (s.word64 : Int) - h.time - x.delay }

/-- A node that hears a running segment on channel A stops listening, to ask for insertion. -/
def State.asking (i : Fin 4) (cy : Nat) (h : Hello) (s : State) : State :=
  (((s.helloHeard i h).modIna fun x => { x with runningHello := true }).modHws fun w => { w with cycle := cy }).modIna fun x => { x with st := .inserting, stepA := .requested, announced := false, listenEnd := none }

theorem State.modIna_ownReport (f : Inaug → Inaug) (hop : Nat) (aft last : Bool) (s : State) : (s.modIna f).ownReport hop aft last = s.ownReport hop aft last := rfl

theorem State.modHws_ownReport (f : Hawser → Hawser) (hop : Nat) (aft last : Bool) (s : State) : (s.modHws f).ownReport hop aft last = s.ownReport hop aft last := rfl

theorem State.asking_ownReport (i : Fin 4) (cy : Nat) (h : Hello) (hop : Nat) (aft last : Bool) (s : State) : (s.asking i cy h).ownReport hop aft last = s.ownReport hop aft last := by
  rw [State.asking, State.modIna_ownReport, State.modHws_ownReport, State.modIna_ownReport]
  exact State.modHws_ownReport ..

section
variable {i : Fin 4} (cy : Nat) {h : Hello} {s : State} (hruns : s.hawserRuns = true) (hlink : s.hws.ports[i].linkUp = true)

include hruns hlink

/-- Every answer to a hello leaves the ports as it was heard. -/
theorem State.helloReceive_ports : (s.helloReceive i cy h).hws.ports = (s.helloHeard i h).hws.ports := by
  unfold State.helloReceive
  rw [if_neg (by rw [hruns, hlink]; decide)]
  dsimp only
  repeat' split
  · rfl
  · rfl
  · rfl
  · rfl
  · rw [State.inaEvent_hws]
    rfl
  · rfl
  · exact State.sendPort_ports ..
  · exact State.sendPort_ports ..
  · rfl
  · rfl

theorem State.helloReceive_ignores (hstate : h.state ≠ 4) : s.helloReceive i cy h = s.helloHeard i h :=
  (if_neg (by rw [hruns, hlink]; decide)).trans (if_neg hstate)

theorem State.helloReceive_merges (hstate : h.state = 4) (hst : s.ina.st = .running) (hother : h.nonce ≠ s.ina.nonce ∨ h.generation ≠ s.ina.generation) (hmerge : s.ina.merge = none) (hrefused : s.ina.mergeRefused = false) :
    s.helloReceive i cy h = ((s.helloHeard i h).modIna fun x => { x with merge := some ⟨portAft i, (s.helloHeard i h).hws.ports[i].upAt, false, h.nonce, h.generation⟩ }).inaEvent 3 0 s.hws.position := by
  refine (if_neg (by rw [hruns, hlink]; decide)).trans ((if_pos hstate).trans ((if_pos hst).trans ((if_neg ?_).trans (if_pos ?_))))
  · rintro ⟨hnonce, hgen⟩
    exact hother.elim (fun hne => hne hnonce) fun hne => hne hgen
  · show (s.ina.merge.isNone && !s.ina.mergeRefused) = true
    rw [hmerge, hrefused]
    rfl

theorem State.helloReceive_asks (hstate : h.state = 4) (hst : s.ina.st = .listen ∨ s.ina.st = .contest) (hchan : portChannel i = 0) :
    s.helloReceive i cy h = (s.asking i cy h).sendPort i (.request ⟨1, 0, (s.asking i cy h).ownReport 0 (portAft i) false⟩) := by
  refine (if_neg (by rw [hruns, hlink]; decide)).trans ((if_pos hstate).trans ((if_neg ?_).trans (if_pos ⟨hst, hchan⟩)))
  show s.ina.st ≠ .running
  rcases hst with h | h <;> rw [h] <;> decide

theorem State.helloReceive_ok :
    ∃ t, exec (.helloReceive i cy h) s = .next t ∧ t.now = s.now ∧ t.carSide = s.carSide ∧ t.hws.ports[i].partner = some h ∧ (∀ j : Fin 4, j ≠ i → t.hws.ports[j] = s.hws.ports[j]) ∧
      (h.state ≠ 4 → t.ina = s.ina ∧ t.hws.wire = s.hws.wire) ∧
      (h.state = 4 → s.ina.st = .running → (h.nonce ≠ s.ina.nonce ∨ h.generation ≠ s.ina.generation) → s.ina.merge = none → s.ina.mergeRefused = false →
        t.ina.merge = some ⟨portAft i, s.hws.ports[i].upAt, false, h.nonce, h.generation⟩ ∧ t.ina.faultEvent = 3) ∧
      (h.state = 4 → (s.ina.st = .listen ∨ s.ina.st = .contest) → portChannel i = 0 →
        t.ina.st = .inserting ∧ t.ina.stepA = .requested ∧ t.ina.runningHello = true ∧ t.hws.cycle = cy ∧ ∃ hd, t.hws.wire = s.hws.wire ++ [⟨.port i.val, 0, hd, .request ⟨1, 0, s.ownReport 0 (portAft i) false⟩⟩]) := by
  have hview := State.helloReceive_view i cy h s
  have hports := State.helloReceive_ports cy (h := h) hruns hlink
  have hheard : (s.helloHeard i h).hws.ports[i] = { s.hws.ports[i] with partner := some h, partnerDiff := (s.word64 : Int) - h.time - s.hws.ports[i].delay } := State.modPort_port ..
  have hasks : (s.asking i cy h).hws.ports[i].linkUp = true := by
    show (s.helloHeard i h).hws.ports[i].linkUp = true
    rw [hheard, hlink]
  refine ⟨_, rfl, (State.now_of_view hview :), (State.carSide_of_view hview :), ?_⟩
  rw [State.draw_hws, State.draw_ina, hports, hheard]
  refine ⟨rfl, fun j hj => State.modPort_port_other i s _ j hj, fun hstate => ?_, fun hstate hst hother hmerge hrefused => ?_, fun hstate hst hchan => ?_⟩
  · rw [State.helloReceive_ignores cy hruns hlink hstate]
    exact ⟨rfl, rfl⟩
  · rw [State.helloReceive_merges cy hruns hlink hstate hst hother hmerge hrefused, State.inaEvent_ina, hheard]
    exact ⟨rfl, rfl⟩
  · rw [State.helloReceive_asks cy hruns hlink hstate hst hchan, State.sendPort_eq _ hasks, State.asking_ownReport]
    exact ⟨rfl, rfl, rfl, rfl, _, rfl⟩

end

/-! ### Admission (R292) -/

section
variable (c : Fin 2) (s : State)

/-- A relay opens: it is driven, stands open, and no mismatch is left. -/
theorem State.openRelay_hws : (s.openRelay c).hws = (s.modRelay c fun r => { r with drive := true, open_ := true, openedAt := s.now, mismatchAt := none, mismatchRaised := false }).hws := by
  unfold State.openRelay
  dsimp only
  split <;> rfl

theorem State.openRelay_ina : (s.openRelay c).ina = s.ina := by
  unfold State.openRelay
  dsimp only
  split <;> rfl

theorem State.openRelay_relay : (s.openRelay c).hws.relays[c].drive = true ∧ (s.openRelay c).hws.relays[c].open_ = true ∧ (s.openRelay c).hws.relays[c].openedAt = s.now := by
  rw [State.openRelay_hws]
  simp

theorem State.openRelay_counts : (s.openRelay 0).mss.relayA = s.mss.relayA + 1 ∧ (s.openRelay 1).mss.relayB = s.mss.relayB + 1 := ⟨rfl, rfl⟩

end

/-- The wait for the twin's state: none is left when the twin has reported (R292). -/
def State.twinWaited (t0 : Nat) (s : State) : State := if s.twn.link && s.twn.beat.isSome then s else s.advance (t0 + ms 250)

theorem State.twinWaited_spec (t0 : Nat) (s : State) :
    (s.twinWaited t0).now = (if s.twn.link = true ∧ s.twn.beat ≠ none then s.now else max s.now (t0 + 250000000)) ∧ (s.twinWaited t0).carSide = s.carSide ∧ (s.twinWaited t0).ina = s.ina ∧
      (s.twinWaited t0).hws = s.hws ∧ (s.twinWaited t0).mss = s.mss := by
  unfold State.twinWaited
  by_cases h : s.twn.link = true ∧ s.twn.beat ≠ none
  · rw [if_pos (by simpa [Option.isSome_iff_ne_none] using h), if_pos h]
    exact ⟨rfl, rfl, rfl, rfl, rfl⟩
  · rw [if_neg (by simpa [Option.isSome_iff_ne_none] using h), if_neg h]
    exact ⟨rfl, rfl, rfl, rfl, rfl⟩

section
variable {s : State} (hruns : s.hawserRuns = true)
include hruns

/-- Behind a running twin a node asks it for insertion. -/
theorem State.twinWaitEnd_asks {t0 : Nat} (hat : s.ina.handoverAt = some t0) (htwin : s.twinRunning = true) :
    ∃ t hd, exec .twinStateWaitEnd s = .next t ∧ t.now = s.now ∧ t.carSide = s.carSide ∧ t.ina = { s.ina with handoverAt := none, st := .inserting, stepA := .requested, announced := true } ∧
      t.hws.wire = s.hws.wire ++ [⟨.twin, 0, hd, .relayed ⟨1, 0, s.ownReport 0 false false⟩⟩] := by
  obtain ⟨u, hu⟩ : ∃ u, (s.modIna fun x => { x with handoverAt := none, st := .inserting, stepA := .requested, announced := true }) = u := ⟨_, rfl⟩
  have heq : s.twinWaitEnd = u.send ⟨.twin, 0, (u.header 0 false false 0 0), .relayed ⟨1, 0, u.ownReport 0 false false⟩⟩ := by
    unfold State.twinWaitEnd
    rw [hat, ← hu]
    exact (if_neg (by rw [hruns]; decide)).trans (if_pos htwin)
  have hreport : u.ownReport 0 false false = s.ownReport 0 false false := by rw [← hu, State.modIna_ownReport]
  rw [hreport] at heq
  refine ⟨_, u.header 0 false false 0 0, congrArg State.complete heq, ?_⟩
  rw [← hu]
  exact ⟨rfl, rfl, rfl, rfl⟩

/-- Else it is admitted to channel A. -/
theorem State.twinWaitEnd_admits {t0 : Nat} (hat : s.ina.handoverAt = some t0) (htwin : s.twinRunning = false) :
    ∃ t, exec .twinStateWaitEnd s = .next t ∧ t.now = (if s.twn.link = true ∧ s.twn.beat ≠ none then s.now else max s.now (t0 + 250000000)) ∧ t.carSide = s.carSide ∧ t.ina.handoverAt = none ∧ t.ina.admitted[(0 : Fin 2)] = true ∧ t.ina.admittedAt = t.now ∧ t.ina.st = s.ina.st ∧
      t.hws.relays[(0 : Fin 2)].drive = true ∧ t.hws.relays[(0 : Fin 2)].open_ = true ∧ t.hws.relays[(0 : Fin 2)].openedAt = t.now ∧ t.mss.relayA = s.mss.relayA + 1 ∧ t.hws.wire = s.hws.wire := by
  obtain ⟨u, hu⟩ : ∃ u, s.twinWaited t0 = u := ⟨_, rfl⟩
  obtain ⟨v, hv⟩ : ∃ v, (u.modIna fun x => { x with handoverAt := none, admitted := x.admitted.set 0 true, admittedAt := u.now }) = v := ⟨_, rfl⟩
  obtain ⟨hnow, hcar, hina, hhws, hmss⟩ := State.twinWaited_spec t0 s
  have heq : s.twinWaitEnd = v.openRelay 0 := by
    unfold State.twinWaitEnd
    rw [hat, ← hv, ← hu]
    exact (if_neg (by rw [hruns]; decide)).trans (if_neg (by rw [htwin]; decide))
  rw [hu] at hnow hcar hina hhws hmss
  have hview : (v.openRelay 0).view = u.view := by rw [State.openRelay_view, ← hv, State.modIna_view]
  have hafter : (v.openRelay 0).now = u.now := State.now_of_view hview
  obtain ⟨hdrive, hopen, hopened⟩ := State.openRelay_relay 0 v
  have hvina : v.ina = { s.ina with handoverAt := none, admitted := s.ina.admitted.set 0 true, admittedAt := u.now } := by
    rw [← hv, ← hina]
    rfl
  have hvnow : v.now = u.now := by rw [← hv]; rfl
  refine ⟨_, congrArg State.complete heq, (hafter.trans hnow :), ((State.carSide_of_view hview).trans hcar :), ?_⟩
  rw [State.draw_ina, State.draw_hws, State.draw_now, State.openRelay_ina, hvina, hafter]
  refine ⟨rfl, by simp, rfl, rfl, hdrive, hopen, hopened.trans hvnow, ?_, ?_⟩
  · refine (State.openRelay_counts v).1.trans ?_
    rw [← hv, ← hmss]
    rfl
  · rw [State.openRelay_hws, ← hv, ← hhws]
    rfl

theorem State.admitB_ok (ha : s.ina.admitted[(0 : Fin 2)] = true) (hb : s.ina.admitted[(1 : Fin 2)] = false) (htold : s.ina.announced = false) (hhello : s.ina.runningHello = false) :
    ∃ t, exec .channelBAdmission s = .next t ∧ t.now = max s.now (s.ina.admittedAt + 200000000) ∧ t.carSide = s.carSide ∧ t.ina = { s.ina with admitted := s.ina.admitted.set 1 true } ∧ t.hws.relays[(1 : Fin 2)].open_ = true ∧
      t.mss.relayB = s.mss.relayB + 1 := by
  obtain ⟨v, hv⟩ : ∃ v, ((s.advance (s.ina.admittedAt + ms 200)).modIna fun x => { x with admitted := x.admitted.set 1 true }) = v := ⟨_, rfl⟩
  have heq : s.admitB = v.openRelay 1 := by
    rw [← hv]
    exact if_pos (by rw [hruns, show s.ina.admitted[0] = true from ha, show s.ina.admitted[1] = false from hb, htold, hhello]; rfl)
  have hview := State.openRelay_view 1 v
  refine ⟨_, congrArg State.complete heq, (State.now_of_view hview).trans ?_, (State.carSide_of_view hview).trans ?_, (State.openRelay_ina 1 v).trans ?_, (State.openRelay_relay 1 v).2.1, (State.openRelay_counts v).2.trans ?_⟩
  all_goals
    rw [← hv]
    rfl

/-! ### Listening (R293, R294) -/

theorem State.listenStart_offline (r : Nat) (hadmitted : s.ina.admitted[(0 : Fin 2)] = true) (hst : s.ina.st = .offline) (hfore : s.hws.ports[(0 : Fin 4)].linkUp = true) (haft : s.hws.ports[(1 : Fin 4)].linkUp = true) :
    s.listenStart r = s.modIna fun x => { x with st := .listen, phase := .none, heardAny := false, listenEnd := if s.coldCapable then some (s.now + 25000000 + min r 500 * 10000) else none } := by
  unfold State.listenStart
  extract_lets ready left u
  have hleft : left = false := by
    show (decide (s.ina.st = .inaugurating) && _ && _ && _) = false
    rw [hst]
    rfl
  have hready : ready 0 = true ∧ ready 1 = true := ⟨Bool.or_eq_true_iff.2 (.inl hfore), Bool.or_eq_true_iff.2 (.inl haft)⟩
  rw [if_pos (by rw [hruns, show s.ina.admitted[0] = true from hadmitted, hst, hready.1, hready.2]; rfl), show u = s from if_neg (by rw [hleft]; decide)]
  rfl

theorem State.listenStart_anew (r : Nat) (hadmitted : s.ina.admitted[(0 : Fin 2)] = true) (hst : s.ina.st = .inaugurating) (hleader : s.ina.leader = false) (hdir : s.ina.pendingDir = none) (hlate : s.ina.startAt + 33000000 ≤ s.now)
    (hfore : s.hws.ports[(0 : Fin 4)].linkUp = true) (haft : s.hws.ports[(1 : Fin 4)].linkUp = true) :
    s.listenStart r = (((s.modIna fun x => { x with generation := 0 }).modHws fun h => { h with position := 0 }).modIna fun x =>
      { x with st := .listen, phase := .none, heardAny := false, listenEnd := if s.coldCapable then some (s.now + 25000000 + min r 500 * 10000) else none }) := by
  unfold State.listenStart
  extract_lets ready left u
  have hleft : left = true := by
    show (decide (s.ina.st = .inaugurating) && _ && _ && decide (s.ina.startAt + 33000000 ≤ s.now)) = true
    rw [hst, hleader, hdir, decide_eq_true hlate]
    rfl
  have hready : ready 0 = true ∧ ready 1 = true := ⟨Bool.or_eq_true_iff.2 (.inl hfore), Bool.or_eq_true_iff.2 (.inl haft)⟩
  rw [if_pos (by rw [hruns, show s.ina.admitted[0] = true from hadmitted, hleft, hready.1, hready.2, Bool.or_true]; rfl), show u = _ from if_pos hleft]
  rfl

theorem State.listenEnd_contest (n : Nat) {t0 : Nat} (hst : s.ina.st = .listen) (hheard : s.ina.heardAny = false) (hend : s.ina.listenEnd = some t0) :
    s.listenEnd n = (s.advance t0).modIna fun x => { x with st := .contest, ownNonce := n % 2 ^ 64, contestAt := none, lastCold := none, listenEnd := none } := by
  unfold State.listenEnd
  rw [hend]
  exact if_pos (by rw [hruns, hst, hheard]; rfl)

end

/-- Settles O38: a link's port, its event and its hello are one equation each; what a hello or the wait for the twin leads to follows the state the node is in. -/
theorem linksGreetAndNodesAreAdmitted : Obligations.LinksGreetAndNodesAreAdmitted := by
  unfold Obligations.LinksGreetAndNodesAreAdmitted
  exact ⟨fun i pm s hruns hlink hopen => State.linkUp_ok pm hruns hlink hopen,
    fun i j s hruns hlink hgrant hne hend => State.linkDown_lost hruns hlink hgrant hne hend,
    fun i s hruns hlink hgrant => State.linkDown_excused hruns hlink hgrant,
    fun i cy h s hruns hlink => State.helloReceive_ok cy hruns hlink,
    fun i s hruns hlink hfold => State.helloRepeat_ok hruns hlink hfold,
    fun i s hopen => congrArg State.complete (State.helloRepeat_none hopen),
    fun t0 s hruns hat htwin => State.twinWaitEnd_asks hruns hat htwin,
    fun t0 s hruns hat htwin => State.twinWaitEnd_admits hruns hat htwin,
    fun s hruns ha hb htold hhello => State.admitB_ok hruns ha hb htold hhello,
    fun r s hruns hadmitted hst hfore haft => congrArg State.complete (State.listenStart_offline hruns r hadmitted hst hfore haft),
    fun r s hruns hadmitted hst hleader hdir hlate hfore haft => congrArg State.complete (State.listenStart_anew hruns r hadmitted hst hleader hdir hlate hfore haft),
    fun n t0 s hruns hst hheard hend => congrArg State.complete (State.listenEnd_contest hruns n hst hheard hend)⟩

end Sys2Proof.Machine
end
